-- ==== Sys2Proof/Word.lean ====
section
/-! DEFINITION. The word types of the NG316: the data byte of a CAN frame, the CAN identifier, and
the number sizes its frames carry. Everything that takes bytes apart or puts them together stands in
Machine/Operands.lean. -/

namespace Sys2Proof

/-- One data byte of a frame. -/
abbrev Byte := BitVec 8

/-- A CAN identifier. An EXTENDED identifier has 29 bits, a STANDARD one uses the lowest 11 (R123). -/
abbrev Ident := BitVec 29

/-- A two-byte number as frames carry it (R197, R198). -/
abbrev Word16 := BitVec 16

/-- A four-byte number as frames carry it (R197, R198). -/
abbrev Word32 := BitVec 32

/-- A slot of the function table, 0..15 (R1). -/
abbrev Slot := Fin 16

/-- The index of a match entry, 0..127 (R123). -/
abbrev EntryIndex := Fin 128

end Sys2Proof
end

