-- ==== Sys2Proof/Config.lean ====
section
/-! DEFINITION. The free values of the model: constants with no body, one for each value the spec
leaves unstated while the part goes on. Nothing in Lean can evaluate one, so a theorem that
holds of the model holds whatever the value is. Each has a row in notes/assumptions. -/

namespace Sys2Proof.Config

/-- Whether a GOTO channel that stands exactly at its target when its drive code is first worked out
is driven EXTEND (true) or RETRACT (false). R13 gives the code for a target above and for a target
below the position and states nothing for an equal one. Log entry 9. -/
opaque extendsAtTarget : (position : Nat) → Bool

/-- The key identifier that an EXTENDED identifier field above 536870911 writes. R123 bounds the
identifier, R135 and R139 neither refuse nor clamp a larger one. Log entry 10. -/
opaque identifierBeyond29Bits : Word32 → Ident

/-- What a flag byte above 1 means (a continue flag, an engine flag, a rewrite-present byte). R123
and R198 give 0 and 1 only, and R135 and R141 refuse nothing else. Log entry 11. -/
opaque flagAboveOne : Byte → Bool

/-- The four bytes a READ record carries for an absent four-byte field: a time, or the identifier of an
absent rewrite. R197 gives the absent value of one-byte, two-byte and signed fields and none for a
four-byte field. Log entry 12. -/
opaque absentTime : Word32

/-- The two bytes a READ record carries for the claimant of the pump's claim. R64 names the claimant
"the pump" and R197 gives it no value. Log entry 12. -/
opaque pumpClaimant : Word16

end Sys2Proof.Config
end

