-- ==== Sys2Proof/Syntax.lean ====
section
/-! DEFINITION. The commands of the NG316: one constructor of Instr for each row of
spec/opcode_table.json, with its operands. The part has no instruction words: a command is an event
on a line, a frame received, a step of the part that takes a frame from a receive buffer, the end of
a sending, a timer's expiry, or a management command. Log entry 1 says how the operands were chosen. -/

namespace Sys2Proof

/-- The two ports of the part (R143). -/
inductive Port where
  | coach
  | motion
  deriving DecidableEq, Repr

/-- The identifier form of a frame or of a match entry (R123). -/
inductive Form where
  | standard
  | extended
  deriving DecidableEq, Repr

/-- A CAN frame: identifier form and identifier, data or remote frame, data length code 0..15, and
the data bytes as they stand on the wire (none for a remote frame). -/
structure Frame where
  form   : Form
  ident  : Ident
  remote : Bool
  dlc    : Nat
  data   : List Byte
  deriving DecidableEq, Repr

/-- The two drive channels a function can have: end A is the first of its list, end B the second
(R1). A function with one drive channel has end A only. -/
inductive Side where
  | a
  | b
  deriving DecidableEq, Repr

/-- The seven coach signals, in the order of their numbers 0..6 (section 2.1). -/
inductive Signal where
  | ignition
  | parkBrake
  | roadSpeed
  | engineRun
  | supplyVoltage
  | windSpeed
  | serviceMode
  deriving DecidableEq, Repr

/-- The levels of the three strap pins when they are sampled; true is high (R194). -/
structure Straps where
  strap0 : Bool
  strap1 : Bool
  strap2 : Bool
  deriving DecidableEq, Repr

/-- One field of a field-wise command: the field code and its two-byte value (R198). -/
structure FieldWrite where
  code  : Byte
  value : Word16
  deriving DecidableEq, Repr

/-- The entry block of WRITE_ENTRY and APPEND_ENTRY, as its bytes give it (R198). The nine action
bytes are kept as written; an action reads those it uses. -/
structure EntryBlock where
  state     : Byte
  port      : Byte
  form      : Byte
  ident     : Word32
  byte0     : Byte
  byte1     : Byte
  mask      : Byte
  minLength : Byte
  continues : Byte
  action    : Byte
  actionBytes : Vector Byte 9
  deriving DecidableEq, Repr

/-- The commands, in the order of spec/opcode_table.json. -/
inductive Instr where
  -- power and lines
  | powerOn (straps : Straps)
  | resetLineAssert
  | resetLineRelease (straps : Straps)
  | stopAllActive
  | stopAllInactive
  -- frames received on the wire
  | cPortFrameReceived (f : Frame)
  | mPortFrameReceived (f : Frame)
  -- the part takes the frame at the head of a receive buffer
  | matchArrival (port : Port)
  | commandFrame
  | continueFrame
  | managementFrameDiscard
  | report
  | tilt
  | enrolAck
  | linkStray
  -- the ports
  | cPortTransmitDone
  | mPortTransmitDone
  | cPortBusOff
  | cPortRecovery
  | mPortBusOff
  | mPortRecovery
  -- timers
  | holdTimerExpiry (slot : Slot)
  | settleTimerExpiry (slot : Slot)
  | staleTimerExpiry (signal : Signal)
  | contactLossTimerExpiry (slot : Slot)
  | waitTimerExpiry (slot : Slot)
  | primeTimerExpiry
  | holdOnTimerExpiry
  | restTimerExpiry
  | pumpDutyLimitReached
  | coolDownTimerExpiry
  | lowSupplyTimerExpiry
  | levelSettleTimerExpiry
  | sampleTimerExpiry
  | stallTimerExpiry (slot : Slot) (side : Side)
  | gustTimerExpiry
  | calmTimerExpiry
  | enrolmentTimerExpiry
  | silenceTimerExpiry (node : Nat)
  | refreshTimerExpiry
  | statusTimerExpiry
  | dozeTimerExpiry
  | storeCompletion
  | restartTakesPlace
  -- management commands on the match table
  | writeEntry (tag index : Byte) (block : EntryBlock)
  | appendEntry (tag : Byte) (block : EntryBlock)
  | setEntryStateEntry (tag index state : Byte)
  | setEntryStatePort (tag port action : Byte)
  | mark (tag form : Byte) (ident : Word32) (byte0 byte1 mask port state : Byte)
  | probe (tag form : Byte) (ident : Word32) (byte0 byte1 length port : Byte)
  | clearHits (tag first last engine : Byte)
  | writeMask (tag index : Byte) (ident : Word32) (byte0 byte1 : Byte)
  -- management commands on the permission matrix
  | setWindow (tag firstRow lastRow firstColumn lastColumn order : Byte)
  | writeCells (tag : Byte) (cells : List Byte)
  | swapMatrix (tag : Byte) (crc : Word16)
  -- field-wise configuration commands
  | setFunction (tag slot : Byte) (fields : List FieldWrite)
  | setGeometry (tag slot : Byte) (fields : List FieldWrite)
  | setLevelling (tag : Byte) (fields : List FieldWrite)
  | setManifold (tag : Byte) (fields : List FieldWrite)
  | setSupply (tag : Byte) (fields : List FieldWrite)
  | setSignal (tag signal : Byte) (fields : List FieldWrite)
  | setTiming (tag : Byte) (fields : List FieldWrite)
  -- operational commands
  | read (tag kind index : Byte)
  | census (tag : Byte)
  | halt (tag : Byte)
  | jog (tag slot verb : Byte) (distance : Word16)
  | store (tag : Byte)
  | restart (tag : Byte)
  | powerOff
  deriving DecidableEq, Repr

end Sys2Proof
end

