-- ==== Sys2Proof/WellFormed.lean ====
section
/-! DEFINITION. Which commands can be given at all: a frame that CAN can carry, a node number of the
node table, a parameter list that the declared length of R180 can announce. Every other operand is
bounded by its type. exec does not ask for well-formedness: it is total on ill-formed commands too. -/

namespace Sys2Proof

/-- The number of data bytes a frame has: a remote frame has none, and a data length code above 8
stands for 8 bytes (R126). -/
def Frame.length (f : Frame) : Nat :=
  if f.remote then 0 else min f.dlc 8

/-- A frame as CAN can carry it: a STANDARD identifier below 2048, a data length code of four bits,
and exactly the data bytes that the code announces. -/
def Frame.wellFormed (f : Frame) : Bool :=
  (f.form == .extended || decide (f.ident.toNat < 2048))
    && decide (f.dlc < 16) && decide (f.data.length = f.length)

/-- A field list that fits the declared length of R180: `selector` bytes and three for each field,
up to 200. -/
def fieldsFit (selector : Nat) (fields : List FieldWrite) : Bool :=
  decide (selector + 3 * fields.length ≤ 200)

/-- The commands that can be given. -/
def Instr.wellFormed : Instr → Bool
  | .cPortFrameReceived f => f.wellFormed
  | .mPortFrameReceived f => f.wellFormed
  | .silenceTimerExpiry n => decide (1 ≤ n ∧ n ≤ 24)
  | .writeCells _ cells => decide (cells.length ≤ 200)
  | .setFunction _ _ fs => fieldsFit 1 fs
  | .setGeometry _ _ fs => fieldsFit 1 fs
  | .setLevelling _ fs => fieldsFit 0 fs
  | .setManifold _ fs => fieldsFit 0 fs
  | .setSupply _ fs => fieldsFit 0 fs
  | .setSignal _ _ fs => fieldsFit 1 fs
  | .setTiming _ fs => fieldsFit 0 fs
  | .powerOn _ | .resetLineAssert | .resetLineRelease _ | .stopAllActive | .stopAllInactive => true
  | .matchArrival _ | .commandFrame | .continueFrame | .managementFrameDiscard => true
  | .report | .tilt | .enrolAck | .linkStray => true
  | .cPortTransmitDone | .mPortTransmitDone | .cPortBusOff | .cPortRecovery => true
  | .mPortBusOff | .mPortRecovery => true
  | .holdTimerExpiry _ | .settleTimerExpiry _ | .staleTimerExpiry _ => true
  | .contactLossTimerExpiry _ | .waitTimerExpiry _ | .primeTimerExpiry => true
  | .holdOnTimerExpiry | .restTimerExpiry | .pumpDutyLimitReached | .coolDownTimerExpiry => true
  | .lowSupplyTimerExpiry | .levelSettleTimerExpiry | .sampleTimerExpiry => true
  | .stallTimerExpiry _ _ | .gustTimerExpiry | .calmTimerExpiry | .enrolmentTimerExpiry => true
  | .refreshTimerExpiry | .statusTimerExpiry | .dozeTimerExpiry => true
  | .storeCompletion | .restartTakesPlace => true
  | .writeEntry _ _ _ | .appendEntry _ _ | .setEntryStateEntry _ _ _ => true
  | .setEntryStatePort _ _ _ | .mark _ _ _ _ _ _ _ _ | .probe _ _ _ _ _ _ _ => true
  | .clearHits _ _ _ _ | .writeMask _ _ _ _ _ => true
  | .setWindow _ _ _ _ _ _ | .swapMatrix _ _ => true
  | .read _ _ _ | .census _ | .halt _ | .jog _ _ _ _ | .store _ | .restart _ | .powerOff => true

end Sys2Proof
end

