-- ==== Sys2Proof/Decode.lean ====
section
/-! DEFINITION. The commands that a numbered word spells. The rows of spec/opcode_table.json give no
bits: the NG316 is a block that takes events, not words, so no word spells a command. The frames it
takes are read in Machine/Operands.lean, Machine/Arrivals.lean and Machine/Management.lean. -/

namespace Sys2Proof

/-- The command a word of the opcode table spells. No row of the table gives bits, so none does. -/
def decodeTableWord (_nbits _w : Nat) : Option Instr := none

end Sys2Proof
end

