-- ==== Sys2Proof/Machine/State.lean ====
section
/-! DEFINITION. The state of the NG316, block by block as section "Block overview" of 00_scope.md lists
them, the reasons a step can stop, and the state right after a start. Everything is plain data.

Configuration (what the image holds, R192) stands together in Settings; the running part works on
State.settings and the nonvolatile copy is State.store.image. A timer is held as the moment of its
expiry in ms since the last start, or none when it is idle. What the spec defines as always computed
from other state is not held twice: claims held (sum of the claim set), an order record's queued field
(membership in the order queue), a node's channel count (length of its channel list), the class of
a wait list entry (the waiting function's wait reason), a port's bit rate (State.bitRate, from strap 0). -/

namespace Sys2Proof.Machine

/-- A timer: none when idle, else the moment of its expiry in ms since the last start. -/
abbrev Timer := Option Nat

/-! ### Names -/

/-- The kind of a function (R1). -/
inductive Kind where
  | unused | jack | slideHyd | slideTwin | awning
  deriving DecidableEq, Repr

/-- The operation mode of a function (R1). -/
inductive Mode where
  | hold | latch
  deriving DecidableEq, Repr

/-- The activity of a function (R4). -/
inductive Activity where
  | unavailable | idle | waiting | moving | settling | faulted
  deriving DecidableEq, Repr

/-- The position class of a function or channel (R6). -/
inductive PosClass where
  | unknown | stowed | midway | deployed
  deriving DecidableEq, Repr

/-- A direction of travel: the verbs EXTEND and RETRACT. -/
inductive Direction where
  | extend | retract
  deriving DecidableEq, Repr

/-- The verb of a move in progress (R4). -/
inductive MoveVerb where
  | extend | retract | goto
  deriving DecidableEq, Repr

/-- The verb of an operator request for a function set (R24, R123). -/
inductive RequestVerb where
  | extend | retract | stop | clear
  deriving DecidableEq, Repr

/-- The owner of a move (R7). -/
inductive Owner where
  | none | operator | service | level | travel | wind
  deriving DecidableEq, Repr

/-- Why a function waits (R4). -/
inductive WaitReason where
  | manifold | budget | prime
  deriving DecidableEq, Repr

/-- The fault codes, in the order of the table of R4. -/
inductive FaultCode where
  | nodeSilent | configMismatch | obstruction | overload | skew | positionMismatch
  | pumpNoPressure | noGround | driverFault | overTemp | stowFailed
  deriving DecidableEq, Repr

/-- The stop reasons, in the order of the table of R4. -/
inductive StopReason where
  | endReached | targetReached | stopped | holdReleased | preempted | postureChanged
  | halted | resourceTimeout | pumpDuty | lowSupply | clearance
  deriving DecidableEq, Repr

/-- The refusal reasons, in the order of R197. -/
inductive RefusalReason where
  | notReady | faulted | storing | swapPending | notPermitted | atEnd | clearance
  | windLockout | busy | holdRequired
  deriving DecidableEq, Repr

/-- How a move came to its end, for the verify of R17. -/
inductive Ending where
  | retractEnd | extendEnd | target
  deriving DecidableEq, Repr

/-- The state of a hold record (R22). -/
inductive HoldState where
  | none | active | refused
  deriving DecidableEq, Repr

/-- The seven postures, in the order of their row numbers (section 2.3). -/
inductive Posture where
  | travel | standing | parked | stabilised | levelled | service | fault
  deriving DecidableEq, Repr

/-- The stale policies (R25). -/
inductive StalePolicy where
  | hold | safe
  deriving DecidableEq, Repr

/-- The alarms (R41). -/
inductive Alarm where
  | notStowed | wind | lowSupply | pumpDuty | censusFault | unconfigured
  deriving DecidableEq, Repr

/-- The two permission banks (R42). -/
inductive Bank where
  | a | b
  deriving DecidableEq, Repr

/-- The order in which a window is walked (R44). -/
inductive WindowOrder where
  | rowWise | columnWise
  deriving DecidableEq, Repr

/-- The states of the pump (R52). -/
inductive PumpState where
  | stopped | priming | ready | holdOn | coolDown
  deriving DecidableEq, Repr

/-- The classes a manifold grant can have (R53). -/
inductive HydClass where
  | jacks | slides
  deriving DecidableEq, Repr

/-- The kinds of sequence (R72). -/
inductive SeqKind where
  | autoLevel | stowJacks
  deriving DecidableEq, Repr

/-- The phases of the sequence record (R72). -/
inductive Phase where
  | idle | ground | sample | lift | settle | stowing
  deriving DecidableEq, Repr

/-- The reasons of an aborted sequence (R72). -/
inductive AbortReason where
  | stopped | postureChanged | preempted | pumpDuty | halted | fault
  deriving DecidableEq, Repr

/-- The results of a sequence (R72). -/
inductive SeqResult where
  | levelOk | levelLimited | outOfTolerance | tooSteep | noGround | sensorTimeout
  | stowed | stowFailed | aborted (reason : AbortReason)
  deriving DecidableEq, Repr

/-- What a REQUEST entry can ask of the sequencer (R123). -/
inductive SeqRequest where
  | autoLevel | stowJacks | stopSequence
  deriving DecidableEq, Repr

/-- The node kinds, in the order of R197. -/
inductive NodeKind where
  | other | valveBank | pump | motorPair | levelSensor
  deriving DecidableEq, Repr

/-- The state of a node table entry (R155). -/
inductive NodeState where
  | absent | enrolled | live | silent
  deriving DecidableEq, Repr

/-- The census outcomes (R156). -/
inductive CensusOutcome where
  | notRun | running | complete | conflict | excess | empty
  deriving DecidableEq, Repr

/-- The drive codes of an order (section 10.1). -/
inductive DriveCode where
  | holdStill | extend | retract | pumpRun | pumpStop
  deriving DecidableEq, Repr

/-- The state of a port (R143). -/
inductive PortState where
  | active | busOff
  deriving DecidableEq, Repr

/-- The classes of the C-port transmit queue (R147). -/
inductive TxClass where
  | reply | change | periodic | forwarded
  deriving DecidableEq, Repr

/-- The subject of a status frame (R147). -/
inductive Subject where
  | posture | function (slot : Slot) | level | refusalSlot (slot : Slot)
  | refusalSequence (kind : SeqKind) | alarm
  deriving DecidableEq, Repr

/-- The enrolment frames the link manager offers (R150). -/
inductive EnrolFrame where
  | forget | assign (number : Nat) | pass (number : Nat)
  deriving DecidableEq, Repr

/-- What the control slot can hold (R150). -/
inductive ControlFrame where
  | halt | enrol (f : EnrolFrame) | beat (cycle period : Nat)
  deriving DecidableEq, Repr

/-- The states of a match entry (R124). -/
inductive EntryState where
  | empty | valid | skip
  deriving DecidableEq, Repr

/-- The port of a match entry (R123). -/
inductive EntryPort where
  | coach | motion | either
  deriving DecidableEq, Repr

/-- The default action of a port (R127). -/
inductive DefaultAction where
  | forward | drop
  deriving DecidableEq, Repr

/-- What a REQUEST entry names (R123). -/
inductive RequestTarget where
  | functions (slots : BitVec 16) (verb : RequestVerb)
  | sequence (which : SeqRequest)
  deriving DecidableEq, Repr

/-- The action of a match entry with its parameters (R123). -/
inductive Action where
  | forward (rewrite : Option (Form × Ident))
  | drop
  | capture (signal : Signal) (offset width multiplier divisor : Nat) (addend : Int)
  | hold (slots : BitVec 16) (verb : Direction)
  | request (target : RequestTarget)
  | count
  deriving DecidableEq, Repr

/-- The management commands by name (R198). -/
inductive CommandCode where
  | writeEntry | appendEntry | setEntryState | mark | probe | clearHits | writeMask
  | setWindow | writeCells | swapMatrix
  | setFunction | setGeometry | setLevelling | setManifold | setSupply | setSignal | setTiming
  | read | census | halt | jog | store | restart
  deriving DecidableEq, Repr

/-- The reply outcomes, in the order of the table of R183. -/
inductive ReplyOutcome where
  | done | doneClamped | pending | incomplete | busy | range | full | state | swapPending
  | crcMismatch | length | unknown
  deriving DecidableEq, Repr

/-! ### Configuration -/

/-- A drive channel: a node number and a channel of that node (R1). -/
structure DriveRef where
  node    : Nat
  channel : Nat
  deriving DecidableEq, Repr

/-- The configuration half of a function record (R1). The drive channel list is end A where present,
then end B where present (R198). -/
structure FunctionConfig where
  kind          : Kind
  nameTag       : Nat
  mode          : Mode
  endA          : Option DriveRef
  endB          : Option DriveRef
  stroke        : Nat
  stowWindow    : Nat
  endWindow     : Nat
  offsetA       : Nat
  senseA        : Int
  offsetB       : Nat
  senseB        : Int
  draw          : Nat
  rampCode      : Nat
  fullSpeed     : Nat
  creepSpeed    : Nat
  creepDistance : Nat
  settleTime    : Nat
  stallCurrent  : Nat
  stallTime     : Nat
  endPressure   : Nat
  overload      : Nat
  softSkew      : Nat
  hardSkew      : Nat
  partner       : Option Slot
  clearance     : Nat
  groupSet      : BitVec 8
  deriving DecidableEq, Repr

/-- The geometry record of a slot (R71). -/
structure Geometry where
  x       : Int
  y       : Int
  partner : Option Slot
  deriving DecidableEq, Repr

/-- The levelling parameters (R69). -/
structure LevelParams where
  sensorNode        : Option Nat
  contactPressure   : Nat
  contactHysteresis : Nat
  groundSpeed       : Nat
  liftSpeed         : Nat
  liftMargin        : Nat
  liftStep          : Nat
  tolerance         : Nat
  maxPasses         : Nat
  settleTime        : Nat
  sampleTimeout     : Nat
  maxStartGrade     : Nat
  twistLimit        : Nat
  travelStowJacks   : Bool
  travelStowAwnings : Bool
  deriving DecidableEq, Repr

/-- The configuration of the manifold record (R51). Duty limit and cool-down are in seconds. -/
structure ManifoldConfig where
  pump          : Option DriveRef
  pumpClaim     : Nat
  readyPressure : Nat
  primeLimit    : Nat
  holdOnTime    : Nat
  dutyLimit     : Nat
  coolDown      : Nat
  deriving DecidableEq, Repr

/-- The configuration of the supply budget (R64). -/
structure SupplyConfig where
  supplyLimit : Nat
  vLow        : Nat
  vCut        : Nat
  lowDuration : Nat
  deriving DecidableEq, Repr

/-- The configuration of a coach signal (R25). -/
structure SignalConfig where
  staleLimit : Nat
  policy     : StalePolicy
  safeValue  : Nat
  deriving DecidableEq, Repr

/-- The SET_TIMING values but for the wind configuration (R184). Wait limit and doze time are in
seconds. -/
structure Timing where
  holdTimeout   : Nat
  waitLimit     : Nat
  silenceLimit  : Nat
  refreshPeriod : Nat
  statusPeriod  : Nat
  dozeTime      : Nat
  deriving DecidableEq, Repr

/-- The configuration of the wind record (R115). The calm time is in seconds. -/
structure WindConfig where
  gustThreshold : Nat
  gustTime      : Nat
  calmTime      : Nat
  deriving DecidableEq, Repr

/-- The configuration fields of a match entry (R123). -/
structure EntryConfig where
  state     : EntryState
  port      : EntryPort
  form      : Form
  ident     : Ident
  byte0     : Byte
  byte1     : Byte
  mask      : Fin 8
  minLength : Nat
  continues : Bool
  action    : Action
  deriving DecidableEq, Repr

/-- A mask record: three sets of care bits (R125). -/
structure MaskRecord where
  ident : Ident
  byte0 : Byte
  byte1 : Byte
  deriving DecidableEq, Repr

/-- One permission bank: 7 rows of 16 cells; a cell is the sum of EXTEND 1, RETRACT 2 and AUTO 4
(R42), so bit 0 allows EXTEND, bit 1 RETRACT and bit 2 AUTO. -/
abbrev PermissionBank := Vector (Vector (BitVec 3) 16) 7

/-- Every configuration field of the part: what the image holds (R192). -/
structure Settings where
  functions     : Vector FunctionConfig 16
  geometry      : Vector Geometry 16
  levelling     : LevelParams
  manifold      : ManifoldConfig
  supply        : SupplyConfig
  signals       : Vector SignalConfig 7
  travelSpeed   : Nat
  timing        : Timing
  wind          : WindConfig
  entries       : Vector EntryConfig 128
  masks         : Vector MaskRecord 8
  coachDefault  : DefaultAction
  motionDefault : DefaultAction
  bankA         : PermissionBank
  bankB         : PermissionBank
  activeBank    : Bank
  deriving DecidableEq, Repr

end Sys2Proof.Machine

namespace Sys2Proof.Config

/-- The bytes of an image that holds these settings, in their stored order. R192 computes the CRC over them
and gives neither the layout nor the order. Log entry 33. -/
opaque imageBytes : Machine.Settings → List Byte

end Sys2Proof.Config

namespace Sys2Proof.Machine

/-! ### The factory image (R192) -/

/-- A function record of the factory image (R1): kind UNUSED, each field at its lowest value but for
the defaults of the table. The lowest stroke is that of the motor kinds, which R2 applies while the
kind is UNUSED, and the lowest sense is −1 (log entry 13, DEDUCED). -/
def FunctionConfig.factory : FunctionConfig where
  kind := .unused
  nameTag := 0
  mode := .hold
  endA := none
  endB := none
  stroke := 100
  stowWindow := 0
  endWindow := 0
  offsetA := 0
  senseA := -1
  offsetB := 0
  senseB := -1
  draw := 0
  rampCode := 0
  fullSpeed := 10
  creepSpeed := 10
  creepDistance := 0
  settleTime := 500
  stallCurrent := 0
  stallTime := 300
  endPressure := 0
  overload := 0
  softSkew := 40
  hardSkew := 120
  partner := none
  clearance := 0
  groupSet := 0

/-- The levelling parameters of the factory image (R69). -/
def LevelParams.factory : LevelParams where
  sensorNode := none
  contactPressure := 150
  contactHysteresis := 50
  groundSpeed := 60
  liftSpeed := 100
  liftMargin := 20
  liftStep := 40
  tolerance := 30
  maxPasses := 3
  settleTime := 3000
  sampleTimeout := 5000
  maxStartGrade := 800
  twistLimit := 50
  travelStowJacks := false
  travelStowAwnings := false

/-- The manifold record of the factory image (R51). -/
def ManifoldConfig.factory : ManifoldConfig where
  pump := none
  pumpClaim := 150
  readyPressure := 400
  primeLimit := 2000
  holdOnTime := 2000
  dutyLimit := 180
  coolDown := 90

/-- The supply budget of the factory image (R64). -/
def SupplyConfig.factory : SupplyConfig where
  supplyLimit := 0
  vLow := 1180
  vCut := 1080
  lowDuration := 5000

/-- The factory stale policies and safe values, in signal order (section 2.1); the factory stale limit
is 2000 (R25). -/
def factorySignals : Vector SignalConfig 7 :=
  #v[⟨2000, .hold, 0⟩, ⟨2000, .safe, 0⟩, ⟨2000, .safe, 2000⟩, ⟨2000, .hold, 0⟩,
     ⟨2000, .hold, 0⟩, ⟨2000, .safe, 600⟩, ⟨2000, .safe, 0⟩]

/-- The timing values of the factory image (R184). -/
def Timing.factory : Timing where
  holdTimeout := 300
  waitLimit := 10
  silenceLimit := 500
  refreshPeriod := 100
  statusPeriod := 1000
  dozeTime := 900

/-- The wind configuration of the factory image (R115). -/
def WindConfig.factory : WindConfig where
  gustThreshold := 110
  gustTime := 3000
  calmTime := 600

/-- A match entry of the factory image (R123). -/
def EntryConfig.factory : EntryConfig where
  state := .empty
  port := .coach
  form := .standard
  ident := 0
  byte0 := 0
  byte1 := 0
  mask := 0
  minLength := 0
  continues := false
  action := .drop

/-- A mask record with every care bit set: mask 0 always, masks 1..7 in the factory image (R125). -/
def MaskRecord.full : MaskRecord where
  ident := BitVec.allOnes 29
  byte0 := BitVec.allOnes 8
  byte1 := BitVec.allOnes 8

/-- A bank whose every cell is 0 (R42). -/
def PermissionBank.zero : PermissionBank := Vector.replicate 7 (Vector.replicate 16 0)

/-- The factory image (R192). -/
def Settings.factory : Settings where
  functions := Vector.replicate 16 FunctionConfig.factory
  geometry := Vector.replicate 16 ⟨0, 0, none⟩
  levelling := LevelParams.factory
  manifold := ManifoldConfig.factory
  supply := SupplyConfig.factory
  signals := factorySignals
  travelSpeed := 20
  timing := Timing.factory
  wind := WindConfig.factory
  entries := Vector.replicate 128 EntryConfig.factory
  masks := Vector.replicate 8 MaskRecord.full
  coachDefault := .drop
  motionDefault := .drop
  bankA := PermissionBank.zero
  bankB := PermissionBank.zero
  activeBank := .a

/-! ### Runtime state -/

/-- The runtime state of one drive channel: position and load (R4) and the move state (R97).
`direction` is the channel's present drive code, EXTEND or RETRACT, kept while a hold is ordered.
`awaited` says that the channel's node was SILENT when the slot passed its binding check and has not
reported since, so that the slot's passage to IDLE waits for it (R162; log entry 34). -/
structure Channel where
  position    : Option Nat
  load        : Option Nat
  startTime   : Option Nat
  stallTimer  : Timer
  endMark     : Bool
  arrivalMark : Bool
  noted       : Option Nat
  direction   : Option Direction
  awaited     : Bool
  deriving DecidableEq, Repr

/-- The runtime half of a function record (R4), with the time the move began (R13), how it ended and
whether it ended by stall (R15, R17), and the contact-loss timer of a jack (R30). -/
structure Function where
  activity     : Activity
  posClass     : PosClass
  chA          : Channel
  chB          : Channel
  verb         : Option MoveVerb
  moveSpeed    : Option Nat
  target       : Option Nat
  owner        : Owner
  waitReason   : Option WaitReason
  fault        : Option FaultCode
  lastStop     : Option StopReason
  drift        : Option Int
  contact      : Bool
  skewHold     : Option Side
  settleTimer  : Timer
  contactTimer : Timer
  moveBegan    : Option Nat
  ending       : Option Ending
  byStall      : Bool
  deriving DecidableEq, Repr

/-- A hold record (R22). -/
structure Hold where
  state     : HoldState
  verb      : Option Direction
  lastPress : Option Nat
  source    : Option EntryIndex
  timer     : Timer
  deriving DecidableEq, Repr

/-- The runtime fields of a signal record (R25). -/
structure SignalRecord where
  value  : Nat
  fresh  : Bool
  source : Option EntryIndex
  timer  : Timer
  deriving DecidableEq, Repr

/-- The alarm set (R41): each alarm is in the set or not. -/
structure AlarmSet where
  notStowed    : Bool
  wind         : Bool
  lowSupply    : Bool
  pumpDuty     : Bool
  censusFault  : Bool
  unconfigured : Bool
  deriving DecidableEq, Repr

/-- The matrix window (R44). -/
structure Window where
  firstRow    : Fin 7
  lastRow     : Fin 7
  firstColumn : Fin 16
  lastColumn  : Fin 16
  order       : WindowOrder
  deriving DecidableEq, Repr

/-- The cursor within the window (R42). -/
structure Cursor where
  row    : Fin 7
  column : Fin 16
  deriving DecidableEq, Repr

/-- The posture monitor: signal table, posture, levelled flag, alarm set, window, cursor and the
swap-pending flag. The banks and the active selector are configuration (R42). -/
structure PostureMonitor where
  signals     : Vector SignalRecord 7
  posture     : Posture
  levelled    : Bool
  alarms      : AlarmSet
  window      : Window
  cursor      : Cursor
  swapPending : Bool
  deriving DecidableEq, Repr

/-- A manifold grant (R52). -/
structure Grant where
  owner    : Owner
  cls      : HydClass
  sequence : Bool
  deriving DecidableEq, Repr

/-- A wait list entry (R55). Its wait reason is the waiting function's. -/
structure WaitEntry where
  slot    : Slot
  arrival : Nat
  timer   : Timer
  deriving DecidableEq, Repr

/-- The runtime state of the manifold record (R52) and the wait list (R55). The run time is in ms. -/
structure Manifold where
  pump        : PumpState
  holder      : Option Grant
  runTime     : Nat
  primeTimer  : Timer
  holdOnTimer : Timer
  coolTimer   : Timer
  restTimer   : Timer
  waitList    : List WaitEntry
  deriving DecidableEq, Repr

/-- Who holds a claim (R64). -/
inductive Claimant where
  | motor (slot : Slot)
  | pump
  deriving DecidableEq, Repr

/-- A claim of supply current (R64). -/
structure Claim where
  claimant : Claimant
  amps     : Nat
  deriving DecidableEq, Repr

/-- The low-supply timer (R64). -/
inductive LowTimer where
  | idle
  | running (expiry : Nat)
  | expired
  deriving DecidableEq, Repr

/-- The runtime state of the supply budget (R64). -/
structure Budget where
  claims         : List Claim
  effectiveLimit : Nat
  lowTimer       : LowTimer
  deriving DecidableEq, Repr

/-- The sequence record (R72). The finished and twist-hold marks are held as the list of the marked
jacks. -/
structure Sequence where
  kind         : Option SeqKind
  owner        : Option Owner
  phase        : Phase
  pass         : Nat
  limited      : Bool
  taken        : List Slot
  starts       : Option (List (Slot × Nat))
  finished     : List Slot
  twistHeld    : List Slot
  targets      : Option (List (Slot × Nat))
  stepTargets  : Option (List (Slot × Nat))
  reading      : Option (Int × Int × Bool)
  result       : Option SeqResult
  settleTimer  : Timer
  sampleTimer  : Timer
  deriving DecidableEq, Repr

/-- The runtime state of the wind record (R115). -/
structure WindRecord where
  gustTimer : Timer
  lockout   : Bool
  calmTimer : Timer
  retryUsed : Vector Bool 16
  owed      : Vector Bool 16
  deriving DecidableEq, Repr

/-- The runtime state of the match engine (R123, R124, R134). -/
structure MatchEngine where
  hits            : Vector Nat 128
  clamps          : Vector Nat 128
  nextFree        : Nat
  malformed       : Nat
  linkProtect     : Nat
  forwardOverflow : Nat
  deriving DecidableEq, Repr

/-- A frame of the C-port transmit queue: its class, its subject where it is a status frame, and the
frame (R147). -/
structure TxEntry where
  cls     : TxClass
  subject : Option Subject
  frame   : Frame
  deriving DecidableEq, Repr

/-- The frame path (R143 to R153). -/
structure FramePath where
  cState     : PortState
  mState     : PortState
  cReceive   : List Frame
  mReceive   : List Frame
  cTransmit  : Option TxEntry
  mTransmit  : Option Frame
  cQueue     : List TxEntry
  forward    : List Frame
  control    : Option ControlFrame
  cOverrun   : Nat
  mOverrun   : Nat
  cDiscard   : Nat
  cRecovery  : Nat
  mRecovery  : Nat
  deriving DecidableEq, Repr

/-- A channel record of a node (R155). A TILT's pitch and roll are signed, so both values are
integers. -/
structure ChannelRecord where
  raw      : Option Int
  load     : Option Int
  flags    : Option Byte
  sequence : Option Nat
  orderSeen : Option Nat
  deriving DecidableEq, Repr

/-- An entry of the node table (R155); the channel count is the length of `channels`. -/
structure Node where
  state         : NodeState
  kind          : NodeKind
  hardwareClass : Nat
  channels      : List ChannelRecord
  gaps          : Nat
  silenceTimer  : Timer
  deriving DecidableEq, Repr

/-- The link manager: node table (node n at index n − 1), census record, the enrolment frames handed
back for a new offer, and its two lines (R155, R156, R150, R167). -/
structure LinkManager where
  nodes       : Vector Node 24
  outcome     : CensusOutcome
  count       : Nat
  strays      : Nat
  outstanding : Option Nat
  enrolTimer  : Timer
  offers      : List EnrolFrame
  chainLine   : Bool
  powerLine   : Bool
  deriving DecidableEq, Repr

/-- A channel order record (R169). -/
structure OrderRecord where
  node     : Nat
  channel  : Nat
  drive    : DriveCode
  speed    : Nat
  sequence : Nat
  due      : Bool
  refresh  : Bool
  resend   : Option Nat
  deriving DecidableEq, Repr

/-- An entry of the order queue (R170). -/
structure OrderEntry where
  node     : Nat
  channel  : Nat
  drive    : DriveCode
  speed    : Nat
  sequence : Nat
  deriving DecidableEq, Repr

/-- The order scheduler (R169 to R174). `period` is the refresh period in force in ms: the one that the
refresh timer was last started with (R172, R173). -/
structure OrderScheduler where
  records      : List OrderRecord
  queue        : List OrderEntry
  refreshTimer : Timer
  period       : Nat
  cycle        : Nat
  evictions    : Nat
  deferrals    : Nat
  deriving DecidableEq, Repr

/-- An assembly in progress (R179); the received count is the length of `params`. -/
structure Assembly where
  code      : CommandCode
  tag       : Byte
  declared  : Nat
  nextIndex : Nat
  params    : List Byte
  deriving DecidableEq, Repr

/-- The nonvolatile image: the settings it holds, its bytes in their stored order, and the CRC stored with
them (R192). -/
structure Image where
  settings : Settings
  bytes    : List Byte
  crc      : Word16
  deriving DecidableEq, Repr

/-- A store in progress (R193): the tag of its command, the image being written, and the moment by
which the writing completes. -/
structure Storing where
  tag   : Byte
  image : Image
  timer : Timer
  deriving DecidableEq, Repr

/-- The configuration store: image, the note of R192, a store in progress, a restart taken (the moment
it takes place at the latest), straps, DOZE and its timer. -/
structure ConfigStore where
  image         : Image
  factoryLoaded : Bool
  storing       : Option Storing
  restart       : Timer
  straps        : Straps
  doze          : Bool
  dozeTimer     : Timer
  deriving DecidableEq, Repr

/-- The lines and the supply of the part as the outside drives them: power, the reset line and the
stop-all line (section "The part in its setting"). -/
structure Inputs where
  powered     : Bool
  resetActive : Bool
  stopAll     : Bool
  deriving DecidableEq, Repr

/-- The state of the NG316. `now` is the ms elapsed since the last start (R198). `overrun` and
`pending` are the model's own: `pending` is the queue of commands that wait, first in first out;
`overrun` is set if a command's cascade ever exceeded the model's bound (log entry 4). -/
structure State where
  inputs      : Inputs
  now         : Nat
  settings    : Settings
  functions   : Vector Function 16
  holds       : Vector Hold 16
  monitor     : PostureMonitor
  manifold    : Manifold
  budget      : Budget
  sequence    : Sequence
  wind        : WindRecord
  matching    : MatchEngine
  path        : FramePath
  link        : LinkManager
  orders      : OrderScheduler
  assembly    : Option Assembly
  statusTimer : Timer
  store       : ConfigStore
  overrun     : Bool
  pending     : List Instr
  deriving DecidableEq, Repr

/-! ### Why a step can stop -/

/-- The faults of the model. -/
inductive Fault where
  /-- Raised by every meaning that cascades, when an earlier command's cascade exceeded the bound of
  Machine/Cascade.lean and was cut short. The state is then not to be trusted and the machine stops.
  Safe: nothing is concluded from the cut state. -/
  | cascadeCut
  deriving DecidableEq, Repr

/-- The refusals of the model. -/
inductive Refusal where
  /-- Raised by exec alone, for a command that has no meaning yet. Safe: the machine stops. -/
  | notModelled (mnemonic : String)
  deriving DecidableEq, Repr

/-! ### Start values -/

/-- A drive channel at a start (R4, R97). -/
def Channel.start : Channel where
  position := none
  load := none
  startTime := none
  stallTimer := none
  endMark := false
  arrivalMark := false
  noted := none
  direction := none
  awaited := false

/-- The runtime half of a function record at a start (R4). The time the move began is absent here and kept after
a move, which R13 leaves open (log entry 41). -/
def Function.start : Function where
  activity := .unavailable
  posClass := .unknown
  chA := Channel.start
  chB := Channel.start
  verb := none
  moveSpeed := none
  target := none
  owner := .none
  waitReason := none
  fault := none
  lastStop := none
  drift := none
  contact := false
  skewHold := none
  settleTimer := none
  contactTimer := none
  moveBegan := none
  ending := none
  byStall := false

/-- A hold record at a start (R22). -/
def Hold.start : Hold where
  state := .none
  verb := none
  lastPress := none
  source := none
  timer := none

/-- The empty alarm set. -/
def AlarmSet.empty : AlarmSet := ⟨false, false, false, false, false, false⟩

/-- The window of a start: the whole standby bank, row-wise (R42). -/
def Window.start : Window := ⟨0, 6, 0, 15, .rowWise⟩

/-- The signal table at a start: every signal at its safe value and STALE (R25). -/
def startSignals (cfg : Settings) : Vector SignalRecord 7 :=
  cfg.signals.map fun c => ⟨c.safeValue, false, none, none⟩

/-- The posture monitor at a start (R25, R32, R33, R41, R42). -/
def PostureMonitor.start (cfg : Settings) (factoryLoaded : Bool) : PostureMonitor where
  signals := startSignals cfg
  posture := .fault
  levelled := false
  alarms := { AlarmSet.empty with unconfigured := factoryLoaded }
  window := Window.start
  cursor := ⟨0, 0⟩
  swapPending := false

/-- The manifold's runtime state at a start (R52, R55). -/
def Manifold.start : Manifold where
  pump := .stopped
  holder := none
  runTime := 0
  primeTimer := none
  holdOnTimer := none
  coolTimer := none
  restTimer := none
  waitList := []

/-- The sequence record at a start (R72). -/
def Sequence.start : Sequence where
  kind := none
  owner := none
  phase := .idle
  pass := 0
  limited := false
  taken := []
  starts := none
  finished := []
  twistHeld := []
  targets := none
  stepTargets := none
  reading := none
  result := none
  settleTimer := none
  sampleTimer := none

/-- The wind record's runtime fields at a start (R115), before WIND_SPEED is judged. -/
def WindRecord.start : WindRecord where
  gustTimer := none
  lockout := false
  calmTimer := none
  retryUsed := Vector.replicate 16 false
  owed := Vector.replicate 16 false

/-- An ABSENT entry of the node table (R155). R155 says that its kind, counts and channel list are cleared, and not
what a cleared kind or the hardware class reads as: OTHER and 0 are the model's choice (log entry 51). -/
def Node.absent : Node where
  state := .absent
  kind := .other
  hardwareClass := 0
  channels := []
  gaps := 0
  silenceTimer := none

/-- The link manager before the first census of a start (R155, R156, R167). -/
def LinkManager.start : LinkManager where
  nodes := Vector.replicate 24 Node.absent
  outcome := .notRun
  count := 0
  strays := 0
  outstanding := none
  enrolTimer := none
  offers := []
  chainLine := false
  powerLine := false

/-- The frame path at a start (R143, R144, R147, R149 to R153). -/
def FramePath.start : FramePath where
  cState := .active
  mState := .active
  cReceive := []
  mReceive := []
  cTransmit := none
  mTransmit := none
  cQueue := []
  forward := []
  control := none
  cOverrun := 0
  mOverrun := 0
  cDiscard := 0
  cRecovery := 0
  mRecovery := 0

/-- The order scheduler at a start, before its timer runs (R169, R171, R173). The period then is the
factory one; it is read only once the timer has started (log entry 35). -/
def OrderScheduler.start : OrderScheduler where
  records := []
  queue := []
  refreshTimer := none
  period := 100
  cycle := 0
  evictions := 0
  deferrals := 0

/-! ### The state after a start -/

/-- The ALARM frame carrying UNCONFIGURED that a start with the factory image queues (R194, R199). It
is in the C-port transmit buffer. -/
def resetAlarmFrame : TxEntry where
  cls := .change
  subject := some .alarm
  frame := ⟨.extended, 0x0C5E1A30, false, 1, [0x20]⟩

/-- The POSTURE frame asked for at the outcome RUNNING (R194, R199): posture FAULT, bank A, no swap
pending, outcome RUNNING, effective limit 0, claims held 0. -/
def resetPostureFrame : TxEntry where
  cls := .change
  subject := some .posture
  frame := ⟨.extended, 0x0C5E1A20, false, 8, [6, 0, 0, 1, 0, 0, 0, 0]⟩

/-- The FORGET frame of the first census (R200), in the M-port transmit buffer. -/
def resetForgetFrame : Frame := ⟨.extended, 0x01000000, false, 0, []⟩

/-- An image that no STORE has written: no bytes, and a CRC that is not that of no bytes, FFFF (R47, R192;
log entry 2). -/
def Image.blank : Image := ⟨Settings.factory, [], 0⟩

/-- The machine right after a start from power-on (R194), with no completed STORE before it, so that
the image is blank, its CRC does not agree and the factory image is loaded (R192), and with all straps low. The first
census has begun: FORGET has left the control slot for the transmit buffer, the chain line is asserted
and ASSIGN(1) stands in the slot (R157, R158). The gust timer runs, because the factory safe value of
WIND_SPEED is windy (R115); the refresh, status and doze timers run (R194). Which image and which
straps a reset finds is the model's choice (log entry 2). -/
def State.reset : State where
  inputs := ⟨true, false, false⟩
  now := 0
  settings := Settings.factory
  functions := Vector.replicate 16 Function.start
  holds := Vector.replicate 16 Hold.start
  monitor := PostureMonitor.start Settings.factory true
  manifold := Manifold.start
  budget := ⟨[], 0, .idle⟩
  sequence := Sequence.start
  wind := { WindRecord.start with gustTimer := some 3000 }
  matching := ⟨Vector.replicate 128 0, Vector.replicate 128 0, 0, 0, 0, 0⟩
  path := { FramePath.start with
    cTransmit := some resetAlarmFrame
    cQueue := [resetPostureFrame]
    mTransmit := some resetForgetFrame
    control := some (.enrol (.assign 1)) }
  link := { LinkManager.start with
    outcome := .running
    outstanding := some 1
    chainLine := true }
  orders := { OrderScheduler.start with refreshTimer := some 100 }
  assembly := none
  statusTimer := some 1000
  store :=
    { image := Image.blank
      factoryLoaded := true
      storing := none
      restart := none
      straps := ⟨false, false, false⟩
      doze := false
      dozeTimer := some 900000 }
  overrun := false
  pending := []

end Sys2Proof.Machine
end

