-- ==== Sys2Proof/Machine/Operands.lean ====
section
/-! DEFINITION. The operand forms of the NG316: bytes and multi-byte numbers (section "Byte order"),
the fields of an identifier (R145, R146, R190, R200), the values of the enumerations on the bus
(R197), and the same values read back from a command's bytes (R135, R182). -/

namespace Sys2Proof.Machine

/-! ### Bytes and numbers -/

/-- A number as one byte; the callers' ranges keep it below 256. -/
def byteOf (n : Nat) : Byte := BitVec.ofNat 8 n

/-- A two-byte number, most significant byte first. -/
def be16 (n : Nat) : List Byte := [BitVec.ofNat 8 (n / 256), BitVec.ofNat 8 n]

/-- A signed two-byte number in two's complement, most significant byte first. -/
def be16s (i : Int) : List Byte :=
  let w := BitVec.ofInt 16 i
  [w.extractLsb' 8 8, w.extractLsb' 0 8]

/-- A four-byte number, most significant byte first. -/
def be32 (n : Nat) : List Byte :=
  [BitVec.ofNat 8 (n / 16777216), BitVec.ofNat 8 (n / 65536), BitVec.ofNat 8 (n / 256), BitVec.ofNat 8 n]

/-- The two bytes of a 16-bit word, most significant first. -/
def bytesOf16 (w : Word16) : List Byte := [w.extractLsb' 8 8, w.extractLsb' 0 8]

/-- The four bytes of a 32-bit word, most significant first. -/
def bytesOf32 (w : Word32) : List Byte :=
  [w.extractLsb' 24 8, w.extractLsb' 16 8, w.extractLsb' 8 8, w.extractLsb' 0 8]

/-- The 16-bit word of two bytes, the first the more significant. -/
def word16Of (hi lo : Byte) : Word16 := hi ++ lo

/-- The 32-bit word of four bytes, the first the most significant. -/
def word32Of (b0 b1 b2 b3 : Byte) : Word32 := b0 ++ b1 ++ b2 ++ b3

/-- Byte k of a list of bytes, 0 where the list is shorter. -/
def byteAt (bs : List Byte) (k : Nat) : Byte := bs.getD k 0

/-- The word at bytes k and k + 1. -/
def word16At (bs : List Byte) (k : Nat) : Word16 := word16Of (byteAt bs k) (byteAt bs (k + 1))

/-- The word at bytes k to k + 3. -/
def word32At (bs : List Byte) (k : Nat) : Word32 :=
  word32Of (byteAt bs k) (byteAt bs (k + 1)) (byteAt bs (k + 2)) (byteAt bs (k + 3))

/-- A count that stops at 65535. -/
def saturate (n : Nat) : Nat := min n 65535

/-- One more on a saturating count. -/
def bump (n : Nat) : Nat := saturate (n + 1)

/-- The number clamped to a range (section "Arithmetic"). -/
def clampNat (lo hi n : Nat) : Nat := min hi (max lo n)

/-- The integer clamped to a range. -/
def clampInt (lo hi i : Int) : Int := min hi (max lo i)

/-- An optional one-byte field: 255 where absent (R197). -/
def opt8 : Option Nat → List Byte
  | none => [255]
  | some n => [byteOf n]

/-- An optional two-byte unsigned field: 65535 where absent (R197). -/
def opt16 : Option Nat → List Byte
  | none => be16 65535
  | some n => be16 n

/-- An optional signed field: −32768 where absent (R197). -/
def opt16s : Option Int → List Byte
  | none => be16s (-32768)
  | some i => be16s i

/-- An optional time: four bytes, counting on from 0 after 4294967295 (R198); an absent time carries
the free value Config.absentTime. -/
def opt32 : Option Nat → List Byte
  | none => bytesOf32 Config.absentTime
  | some n => be32 n

/-- A flag as one byte. -/
def flagByte (b : Bool) : Byte := if b then 1 else 0

/-- A timer state as one byte: 0 idle, 1 running (R198). -/
def timerByte (t : Timer) : Byte := flagByte t.isSome

/-- The timer that runs for `d` ms from `now`. -/
def startTimer (now d : Nat) : Timer := some (now + d)

/-! ### Frames and identifiers -/

/-- Byte k of a frame's data; a frame shorter than that is read as though the byte held 0 (R126). -/
def frameByte (f : Frame) (k : Nat) : Byte :=
  if k < f.length then byteAt f.data k else 0

/-- The data bytes a frame carries. -/
def frameBytes (f : Frame) : List Byte := f.data.take f.length

/-- The motion-link frame kind of an identifier: bits 28..23 (R200). -/
def linkKind (ident : Ident) : Nat := (ident.extractLsb' 23 6).toNat

/-- The node number of a motion-link identifier: bits 22..16 (R200). -/
def linkNode (ident : Ident) : Nat := (ident.extractLsb' 16 7).toNat

/-- The identifier of a motion-link frame: bits 15..0 are sent as 0 (R200). -/
def linkIdent (kind node : Nat) : Ident := BitVec.ofNat 29 (kind * 8388608 + node * 65536)

/-- A data frame of EXTENDED form carrying these bytes. -/
def dataFrame (ident : Ident) (bytes : List Byte) : Frame :=
  ⟨.extended, ident, false, bytes.length, bytes⟩

/-- A frame that the M-port would route to the link manager: EXTENDED, of frame kind below 24 (R146);
the same reading serves the link-protect rule of R130. -/
def isLinkFrame (form : Form) (ident : Ident) : Bool :=
  form == .extended && decide (linkKind ident < 24)

/-- The instance number 0..3: strap 1 counts 1 and strap 2 counts 2 when high (R194). -/
def partNumber (p : Straps) : Nat := (if p.strap1 then 1 else 0) + (if p.strap2 then 2 else 0)

/-- The management request identifier (R145). -/
def requestIdent (p : Straps) : Ident := BitVec.ofNat 29 (0x0C5E1A00 + partNumber p)

/-- The management reply identifier (chapter 11). -/
def replyIdent (p : Straps) : Ident := BitVec.ofNat 29 (0x0C5E1A10 + partNumber p)

/-- The identifier of a status frame of a kind 0..4 (R190). -/
def statusIdent (p : Straps) (kind : Nat) : Ident :=
  BitVec.ofNat 29 (0x0C5E1A20 + 4 * kind + partNumber p)

/-- The largest identifier of a form (R123). -/
def identifierField (w : Word32) : Ident :=
  if w.toNat < 536870912 then w.setWidth 29 else Config.identifierBeyond29Bits w

/-- A flag byte: 0 clear, 1 set; a byte above 1 is a free value. -/
def flagOf (b : Byte) : Bool :=
  if b = 0 then false else if b = 1 then true else Config.flagAboveOne b

/-! ### Values on the bus (R197) -/

def Kind.code : Kind → Nat
  | .unused => 0 | .jack => 1 | .slideHyd => 2 | .slideTwin => 3 | .awning => 4

def Kind.ofCode : Nat → Option Kind
  | 0 => some .unused | 1 => some .jack | 2 => some .slideHyd | 3 => some .slideTwin
  | 4 => some .awning | _ => none

def Mode.code : Mode → Nat
  | .hold => 0 | .latch => 1

def Mode.ofCode : Nat → Option Mode
  | 0 => some .hold | 1 => some .latch | _ => none

def Activity.code : Activity → Nat
  | .unavailable => 0 | .idle => 1 | .waiting => 2 | .moving => 3 | .settling => 4 | .faulted => 5

def PosClass.code : PosClass → Nat
  | .unknown => 0 | .stowed => 1 | .midway => 2 | .deployed => 3

def Owner.code : Owner → Nat
  | .none => 0 | .operator => 1 | .service => 2 | .level => 3 | .travel => 4 | .wind => 5

/-- The rank of an owner (R7); an absent owner ranks below all. -/
def Owner.rank : Owner → Nat
  | .none => 0 | .operator => 1 | .service => 1 | .level => 2 | .travel => 3 | .wind => 4

def WaitReason.code : WaitReason → Nat
  | .manifold => 0 | .budget => 1 | .prime => 2

def FaultCode.code : FaultCode → Nat
  | .nodeSilent => 0 | .configMismatch => 1 | .obstruction => 2 | .overload => 3 | .skew => 4
  | .positionMismatch => 5 | .pumpNoPressure => 6 | .noGround => 7 | .driverFault => 8
  | .overTemp => 9 | .stowFailed => 10

def StopReason.code : StopReason → Nat
  | .endReached => 0 | .targetReached => 1 | .stopped => 2 | .holdReleased => 3 | .preempted => 4
  | .postureChanged => 5 | .halted => 6 | .resourceTimeout => 7 | .pumpDuty => 8 | .lowSupply => 9
  | .clearance => 10

/-- The verb codes: EXTEND 0, RETRACT 1, STOP 2, CLEAR 3, GOTO 4, AUTO 5. -/
def Direction.code : Direction → Nat
  | .extend => 0 | .retract => 1

def Direction.ofCode : Nat → Option Direction
  | 0 => some .extend | 1 => some .retract | _ => none

def MoveVerb.code : MoveVerb → Nat
  | .extend => 0 | .retract => 1 | .goto => 4

def RequestVerb.code : RequestVerb → Nat
  | .extend => 0 | .retract => 1 | .stop => 2 | .clear => 3

def RequestVerb.ofCode : Nat → Option RequestVerb
  | 0 => some .extend | 1 => some .retract | 2 => some .stop | 3 => some .clear | _ => none

/-- The verb AUTO, carried in the REFUSAL frame of an AUTO_LEVEL request (section 4.3). -/
def verbAuto : Nat := 5

def RefusalReason.code : RefusalReason → Nat
  | .notReady => 0 | .faulted => 1 | .storing => 2 | .swapPending => 3 | .notPermitted => 4
  | .atEnd => 5 | .clearance => 6 | .windLockout => 7 | .busy => 8 | .holdRequired => 9

def ReplyOutcome.code : ReplyOutcome → Nat
  | .done => 0 | .doneClamped => 1 | .pending => 2 | .incomplete => 3 | .busy => 4 | .range => 5
  | .full => 6 | .state => 7 | .swapPending => 8 | .crcMismatch => 9 | .length => 10 | .unknown => 11

/-- The posture is sent as its row number (R33). -/
def Posture.row : Posture → Fin 7
  | .travel => 0 | .standing => 1 | .parked => 2 | .stabilised => 3 | .levelled => 4
  | .service => 5 | .fault => 6

def Phase.code : Phase → Nat
  | .idle => 0 | .ground => 1 | .sample => 2 | .lift => 3 | .settle => 4 | .stowing => 5

def AbortReason.code : AbortReason → Nat
  | .stopped => 0 | .postureChanged => 1 | .preempted => 2 | .pumpDuty => 3 | .halted => 4
  | .fault => 5

/-- ABORTED is 16 plus its reason. -/
def SeqResult.code : SeqResult → Nat
  | .levelOk => 0 | .levelLimited => 1 | .outOfTolerance => 2 | .tooSteep => 3 | .noGround => 4
  | .sensorTimeout => 5 | .stowed => 6 | .stowFailed => 7 | .aborted r => 16 + r.code

def CensusOutcome.code : CensusOutcome → Nat
  | .notRun => 0 | .running => 1 | .complete => 2 | .conflict => 3 | .excess => 4 | .empty => 5

def SeqKind.code : SeqKind → Nat
  | .autoLevel => 0 | .stowJacks => 1

def SeqRequest.code : SeqRequest → Nat
  | .autoLevel => 0 | .stowJacks => 1 | .stopSequence => 2

def SeqRequest.ofCode : Nat → Option SeqRequest
  | 0 => some .autoLevel | 1 => some .stowJacks | 2 => some .stopSequence | _ => none

def EntryState.code : EntryState → Nat
  | .empty => 0 | .valid => 1 | .skip => 2

def EntryState.ofCode : Nat → Option EntryState
  | 0 => some .empty | 1 => some .valid | 2 => some .skip | _ => none

def EntryPort.code : EntryPort → Nat
  | .coach => 0 | .motion => 1 | .either => 2

def EntryPort.ofCode : Nat → Option EntryPort
  | 0 => some .coach | 1 => some .motion | 2 => some .either | _ => none

def formCode : Form → Nat
  | .standard => 0 | .extended => 1

def formOfCode : Nat → Option Form
  | 0 => some .standard | 1 => some .extended | _ => none

def Action.code : Action → Nat
  | .forward _ => 0 | .drop => 1 | .capture .. => 2 | .hold .. => 3 | .request _ => 4 | .count => 5

def DefaultAction.ofCode : Nat → Option DefaultAction
  | 0 => some .forward | 1 => some .drop | _ => none

def StalePolicy.code : StalePolicy → Nat
  | .hold => 0 | .safe => 1

def StalePolicy.ofCode : Nat → Option StalePolicy
  | 0 => some .hold | 1 => some .safe | _ => none

def WindowOrder.code : WindowOrder → Nat
  | .rowWise => 0 | .columnWise => 1

def WindowOrder.ofCode : Nat → Option WindowOrder
  | 0 => some .rowWise | 1 => some .columnWise | _ => none

def Bank.code : Bank → Nat
  | .a => 0 | .b => 1

def DriveCode.code : DriveCode → Nat
  | .holdStill => 0 | .extend => 1 | .retract => 2 | .pumpRun => 3 | .pumpStop => 4

def NodeKind.code : NodeKind → Nat
  | .other => 0 | .valveBank => 1 | .pump => 2 | .motorPair => 3 | .levelSensor => 4

/-- Any code that names none of the four kinds is taken as OTHER (R154, R200). -/
def NodeKind.ofCode : Nat → NodeKind
  | 1 => .valveBank | 2 => .pump | 3 => .motorPair | 4 => .levelSensor | _ => .other

/-- A node state as READ sends it, numbered in the order of R155's list from 0, since the table of R197 does not
name it: the model's choice (log entry 14). -/
def NodeState.code : NodeState → Nat
  | .absent => 0 | .enrolled => 1 | .live => 2 | .silent => 3

/-- A hold record's state as READ sends it, numbered in the order of R22's list from 0, since the table of R197 does
not name it: the model's choice (log entry 14). -/
def HoldState.code : HoldState → Nat
  | .none => 0 | .active => 1 | .refused => 2

/-- A pump state as READ sends it, numbered in the order of R52's list from 0, since the table of R197 does not name
it: the model's choice (log entry 14). -/
def PumpState.code : PumpState → Nat
  | .stopped => 0 | .priming => 1 | .ready => 2 | .holdOn => 3 | .coolDown => 4

/-- A grant's class as READ sends it, numbered in the order of R52's list from 0, since the table of R197 does not
name it: the model's choice (log entry 14). -/
def HydClass.code : HydClass → Nat
  | .jacks => 0 | .slides => 1

/-- A port state as READ sends it, numbered in the order of R143's list from 0, since the table of R197 does not name
it: the model's choice (log entry 14). -/
def PortState.code : PortState → Nat
  | .active => 0 | .busOff => 1

/-- A low-supply timer state: 0 idle, 1 running, 2 expired (R198). -/
def LowTimer.code : LowTimer → Nat
  | .idle => 0 | .running _ => 1 | .expired => 2

/-- The number of a coach signal (section 2.1). -/
def signalIndex : Signal → Fin 7
  | .ignition => 0 | .parkBrake => 1 | .roadSpeed => 2 | .engineRun => 3
  | .supplyVoltage => 4 | .windSpeed => 5 | .serviceMode => 6

def signalOfCode : Nat → Option Signal
  | 0 => some .ignition | 1 => some .parkBrake | 2 => some .roadSpeed | 3 => some .engineRun
  | 4 => some .supplyVoltage | 5 => some .windSpeed | 6 => some .serviceMode | _ => none

/-- The largest value of a signal's range; every range starts at 0 (section 2.1). -/
def signalMax : Signal → Nat
  | .roadSpeed => 2000 | .supplyVoltage => 3200 | .windSpeed => 600 | _ => 1

/-- The alarm set as one byte (R197). -/
def alarmByte (a : AlarmSet) : Byte :=
  byteOf ((if a.notStowed then 1 else 0) + (if a.wind then 2 else 0) + (if a.lowSupply then 4 else 0)
    + (if a.pumpDuty then 8 else 0) + (if a.censusFault then 16 else 0)
    + (if a.unconfigured then 32 else 0))

/-- The management commands by code (R198). -/
def CommandCode.ofByte (b : Byte) : Option CommandCode :=
  match b.toNat with
  | 0x10 => some .writeEntry | 0x11 => some .appendEntry | 0x12 => some .setEntryState
  | 0x13 => some .mark | 0x14 => some .probe | 0x15 => some .clearHits | 0x16 => some .writeMask
  | 0x20 => some .setWindow | 0x21 => some .writeCells | 0x22 => some .swapMatrix
  | 0x30 => some .setFunction | 0x31 => some .setGeometry | 0x32 => some .setLevelling
  | 0x33 => some .setManifold | 0x34 => some .setSupply | 0x35 => some .setSignal
  | 0x36 => some .setTiming | 0x40 => some .read | 0x41 => some .census | 0x42 => some .halt
  | 0x43 => some .jog | 0x44 => some .store | 0x45 => some .restart
  | _ => none

def CommandCode.toByte : CommandCode → Byte
  | .writeEntry => 0x10 | .appendEntry => 0x11 | .setEntryState => 0x12 | .mark => 0x13
  | .probe => 0x14 | .clearHits => 0x15 | .writeMask => 0x16 | .setWindow => 0x20
  | .writeCells => 0x21 | .swapMatrix => 0x22 | .setFunction => 0x30 | .setGeometry => 0x31
  | .setLevelling => 0x32 | .setManifold => 0x33 | .setSupply => 0x34 | .setSignal => 0x35
  | .setTiming => 0x36 | .read => 0x40 | .census => 0x41 | .halt => 0x42 | .jog => 0x43
  | .store => 0x44 | .restart => 0x45

/-! ### The bytes of a command's parameters (R198) -/

/-- The entry block as its 22 bytes. -/
def entryBlockBytes (b : EntryBlock) : List Byte :=
  [b.state, b.port, b.form] ++ bytesOf32 b.ident
    ++ [b.byte0, b.byte1, b.mask, b.minLength, b.continues, b.action] ++ b.actionBytes.toList

/-- The entry block that stands at byte k of a parameter list. -/
def entryBlockAt (bs : List Byte) (k : Nat) : EntryBlock where
  state := byteAt bs k
  port := byteAt bs (k + 1)
  form := byteAt bs (k + 2)
  ident := word32At bs (k + 3)
  byte0 := byteAt bs (k + 7)
  byte1 := byteAt bs (k + 8)
  mask := byteAt bs (k + 9)
  minLength := byteAt bs (k + 10)
  continues := byteAt bs (k + 11)
  action := byteAt bs (k + 12)
  actionBytes := Vector.ofFn fun i => byteAt bs (k + 13 + i.val)

/-- The fields of a field-wise command as bytes: three each. -/
def fieldBytes (fs : List FieldWrite) : List Byte :=
  fs.flatMap fun f => f.code :: bytesOf16 f.value

/-- The complete fields of a byte list; bytes short of a whole field are left out (R182). -/
def fieldsOf : List Byte → List FieldWrite
  | c :: h :: l :: rest => ⟨c, word16Of h l⟩ :: fieldsOf rest
  | _ => []

end Sys2Proof.Machine
end

