-- ==== Sys2Proof/Machine/Ops.lean ====
section
/-! DEFINITION. The named operations every block works with: reading a slot, a signal, a node or a
claim; the C-port transmit queue with its merging and eviction (R147 to R149); the status frames
(R190, R199); and the one write of a function's runtime record, which clears the levelled flag and the
owed mark and queues the FUNCTION frame where the rules say so. -/

namespace Sys2Proof.Machine

/-! ### Reading the state -/

/-- The part has power and the reset line is not active. -/
def State.isRunning (s : State) : Bool := s.inputs.powered && !s.inputs.resetActive

/-- The sixteen slots in ascending order. -/
def slots : List Slot := [0, 1, 2, 3, 4, 5, 6, 7, 8, 9, 10, 11, 12, 13, 14, 15]

def State.fn (s : State) (i : Slot) : Function := s.functions[i]

def State.cfg (s : State) (i : Slot) : FunctionConfig := s.settings.functions[i]

def State.hold (s : State) (i : Slot) : Hold := s.holds[i]

def State.signal (s : State) (g : Signal) : SignalRecord := s.monitor.signals[signalIndex g]

/-- The value of a signal as it is held, fresh or stale. -/
def State.value (s : State) (g : Signal) : Nat := (s.signal g).value

def Kind.isHydraulic : Kind → Bool
  | .jack | .slideHyd => true
  | _ => false

def Kind.isMotor : Kind → Bool
  | .slideTwin | .awning => true
  | _ => false

def Kind.isSlide : Kind → Bool
  | .slideHyd | .slideTwin => true
  | _ => false

/-- The manifold class of a hydraulic kind (R11, R53). -/
def Kind.hydClass : Kind → HydClass
  | .jack => .jacks
  | _ => .slides

/-- WAITING, MOVING or SETTLING. -/
def Activity.isBusy : Activity → Bool
  | .waiting | .moving | .settling => true
  | _ => false

def State.anyBusy (s : State) : Bool := slots.any fun i => (s.fn i).activity.isBusy

/-- A slot of kind JACK. -/
def State.isJack (s : State) (i : Slot) : Bool := (s.cfg i).kind == .jack

/-- The drive channel list: end A where present, then end B where present (R198). -/
def FunctionConfig.drives (c : FunctionConfig) : List DriveRef := c.endA.toList ++ c.endB.toList

/-- The drive channel at a place of the list. -/
def FunctionConfig.drive (c : FunctionConfig) : Side → Option DriveRef
  | .a => c.drives[0]?
  | .b => c.drives[1]?

/-- The places of the drive channel list. -/
def FunctionConfig.sides (c : FunctionConfig) : List Side :=
  match c.drives.length with
  | 0 => []
  | 1 => [.a]
  | _ => [.a, .b]

def FunctionConfig.offset (c : FunctionConfig) : Side → Nat
  | .a => c.offsetA
  | .b => c.offsetB

def FunctionConfig.sense (c : FunctionConfig) : Side → Int
  | .a => c.senseA
  | .b => c.senseB

def Function.chan (f : Function) : Side → Channel
  | .a => f.chA
  | .b => f.chB

def Function.setChan (f : Function) (e : Side) (ch : Channel) : Function :=
  match e with
  | .a => { f with chA := ch }
  | .b => { f with chB := ch }

/-- The position of end A, the one that requests and clearance are judged by. -/
def Function.position (f : Function) : Option Nat := f.chA.position

/-- Every drive channel has its position present (R8). A function with no drive channel has none. -/
def State.allPositions (s : State) (i : Slot) : Bool :=
  !(s.cfg i).sides.isEmpty && (s.cfg i).sides.all fun e => ((s.fn i).chan e).position.isSome

/-- The node table index of a node number 1..24. -/
def nodeIndex (n : Nat) : Option (Fin 24) :=
  if h : 1 ≤ n ∧ n ≤ 24 then some ⟨n - 1, by omega⟩ else none

/-- The node table entry of a number; a number outside 1..24 has none and reads as ABSENT. -/
def State.node (s : State) (n : Nat) : Node :=
  match nodeIndex n with
  | some k => s.link.nodes[k]
  | none => Node.absent

def State.setNode (s : State) (n : Nat) (x : Node) : State :=
  match nodeIndex n with
  | some k => { s with link := { s.link with nodes := s.link.nodes.set k x } }
  | none => s

/-- The channel record of a drive channel, where its node has that channel. -/
def State.channelRecord (s : State) (d : DriveRef) : Option ChannelRecord :=
  (s.node d.node).channels[d.channel]?

/-- The nodes bound to a slot: those of its drive channels and, for the hydraulic kinds, the node the
pump reference names (R51, R166). -/
def State.boundNodes (s : State) (i : Slot) : List Nat :=
  (s.cfg i).drives.map (·.node)
    ++ (if (s.cfg i).kind.isHydraulic then (s.settings.manifold.pump.map (·.node)).toList else [])

/-- Claims held: the sum of the claim set (R64). -/
def claimSum (cs : List Claim) : Nat := (cs.map (·.amps)).sum

def State.claimsHeld (s : State) : Nat := claimSum s.budget.claims

/-- A sequence runs while its phase is other than IDLE (R72). -/
def State.seqRuns (s : State) : Bool := s.sequence.phase != .idle

/-- The slot is a taken jack of the running sequence (R73). -/
def State.isTaken (s : State) (i : Slot) : Bool := s.seqRuns && s.sequence.taken.contains i

/-- PRIMING, READY or HOLD_ON: the pump runs and holds its claim (R52). -/
def PumpState.isOn : PumpState → Bool
  | .priming | .ready | .holdOn => true
  | _ => false

/-- The active bank and the standby bank (R42). -/
def Settings.bank (c : Settings) : Bank → PermissionBank
  | .a => c.bankA
  | .b => c.bankB

def Bank.other : Bank → Bank
  | .a => .b
  | .b => .a

/-- The cell of the active bank for a posture and a slot (R43). -/
def State.cell (s : State) (p : Posture) (i : Slot) : BitVec 3 :=
  ((s.settings.bank s.settings.activeBank)[p.row])[i]

def cellAllows (c : BitVec 3) : Direction → Bool
  | .extend => c.getLsbD 0
  | .retract => c.getLsbD 1

def cellAuto (c : BitVec 3) : Bool := c.getLsbD 2

/-- The lowest index of an EMPTY match entry, or 128 (R124). -/
def lowestEmpty (es : Vector EntryConfig 128) : Nat :=
  (es.toList.findIdx? fun e => e.state == .empty).getD 128

/-- The value written for a key in an association list, 0 where there is none. -/
def lookupPos (l : List (Slot × Nat)) (i : Slot) : Nat :=
  ((l.find? fun p => p.1 == i).map (·.2)).getD 0

/-- The bit rate of a port in kbit/s: the M-port's is fixed, and strap 0 as last sampled selects the C-port's
(R143, R194). -/
def State.bitRate (s : State) : Port → Nat
  | .coach => if s.store.straps.strap0 then 500 else 250
  | .motion => 500

/-! ### The C-port transmit queue -/

/-- The head of the queue moves into an empty transmit buffer of an ACTIVE port (R143, R147). -/
def pumpC (s : State) : State :=
  match s.path.cTransmit, s.path.cState, s.path.cQueue with
  | none, .active, e :: rest => { s with path := { s.path with cTransmit := some e, cQueue := rest } }
  | _, _, _ => s

/-- The class of a merged frame: CHANGE if either was (R148). -/
def mergeClass (old new : TxClass) : TxClass :=
  if old = .change ∨ new = .change then .change else new

/-- Replace the queued status frame of the same subject in place, if there is one (R148). -/
def mergeInto (new : TxEntry) : List TxEntry → Option (List TxEntry)
  | [] => none
  | e :: rest =>
    if new.subject.isSome ∧ e.subject = new.subject then
      some ({ new with cls := mergeClass e.cls new.cls } :: rest)
    else (mergeInto new rest).map (e :: ·)

/-- The queue without its oldest frame of a class, if it has one (R149). -/
def evictClass (c : TxClass) : List TxEntry → Option (List TxEntry)
  | [] => none
  | e :: rest => if e.cls = c then some rest else (evictClass c rest).map (e :: ·)

/-- The capacity of the C-port transmit queue (R147). -/
def cQueueCapacity : Nat := 16

/-- Queue a frame: merge (R148), take the tail, or evict or discard where the queue is full (R149). -/
def placeC (new : TxEntry) (s : State) : State :=
  match mergeInto new s.path.cQueue with
  | some q => { s with path := { s.path with cQueue := q } }
  | none =>
    if s.path.cQueue.length < cQueueCapacity then
      { s with path := { s.path with cQueue := s.path.cQueue ++ [new] } }
    else
      match evictClass .forwarded s.path.cQueue with
      | some q => { s with
          path := { s.path with cQueue := q ++ [new] }
          matching := { s.matching with forwardOverflow := bump s.matching.forwardOverflow } }
      | none =>
        match evictClass .periodic s.path.cQueue with
        | some q => { s with
            path := { s.path with cQueue := q ++ [new], cDiscard := bump s.path.cDiscard } }
        | none =>
          if new.cls = .forwarded then
            { s with matching := { s.matching with forwardOverflow := bump s.matching.forwardOverflow } }
          else { s with path := { s.path with cDiscard := bump s.path.cDiscard } }

/-- A frame handed to the C-port: it is queued, and the head moves on where the buffer is free. -/
def queueC (new : TxEntry) (s : State) : State := pumpC (placeC new s)

/-! ### Status frames (R190, R199) -/

def postureBytes (s : State) : List Byte :=
  [byteOf s.monitor.posture.row, byteOf s.settings.activeBank.code, flagByte s.monitor.swapPending,
    byteOf s.link.outcome.code] ++ be16 s.budget.effectiveLimit ++ be16 s.claimsHeld

/-- The reason byte: the fault code, else 64 plus the last stop reason, else 255 (R199). -/
def reasonByte (f : Function) : Byte :=
  match f.fault, f.lastStop with
  | some c, _ => byteOf c.code
  | none, some r => byteOf (64 + r.code)
  | none, none => 255

def functionBytes (c : FunctionConfig) (f : Function) (i : Slot) : List Byte :=
  [byteOf i.val, byteOf c.nameTag, byteOf (f.activity.code * 16 + f.posClass.code), byteOf f.owner.code]
    ++ opt16 f.chA.position ++ [reasonByte f] ++ opt8 (f.waitReason.map WaitReason.code)

def levelBytes (q : Sequence) : List Byte :=
  opt8 (q.kind.map SeqKind.code) ++ [byteOf q.phase.code, byteOf q.pass]
    ++ opt8 (q.result.map SeqResult.code)
    ++ be16s ((q.reading.map (·.1)).getD 0) ++ be16s ((q.reading.map (·.2.1)).getD 0)

/-- Queue a status frame of a kind 0..4. -/
def queueStatus (kind : Nat) (cls : TxClass) (subject : Subject) (bytes : List Byte) (s : State) : State :=
  queueC ⟨cls, some subject, dataFrame (statusIdent s.store.straps kind) bytes⟩ s

def postureFrame (cls : TxClass) (s : State) : State :=
  queueStatus 0 cls .posture (postureBytes s) s

def functionFrame (cls : TxClass) (i : Slot) (s : State) : State :=
  queueStatus 1 cls (.function i) (functionBytes (s.cfg i) (s.fn i) i) s

def levelFrame (s : State) : State :=
  queueStatus 2 .change .level (levelBytes s.sequence) s

/-- A REFUSAL frame for a slot (R21). -/
def refusalFrame (i : Slot) (verb : Nat) (r : RefusalReason) (s : State) : State :=
  queueStatus 3 .change (.refusalSlot i) [0, byteOf i.val, byteOf verb, byteOf r.code] s

/-- A REFUSAL frame for a sequence (R75, R90). -/
def refusalSeqFrame (k : SeqKind) (verb : Nat) (r : RefusalReason) (s : State) : State :=
  queueStatus 3 .change (.refusalSequence k) [1, byteOf k.code, byteOf verb, byteOf r.code] s

def alarmFrame (s : State) : State :=
  queueStatus 4 .change .alarm [alarmByte s.monitor.alarms] s

/-! ### Writing a function's runtime record -/

/-- The fields whose change a FUNCTION frame reports (R191): activity, position class, owner, fault
code, wait reason. -/
def reported (f : Function) : Activity × PosClass × Owner × Option FaultCode × Option WaitReason :=
  (f.activity, f.posClass, f.owner, f.fault, f.waitReason)

/-- A JACK enters WAITING or MOVING, or its contact flag clears (R32). -/
def disturbsLevel (old new : Function) : Bool :=
  (old.activity != new.activity && (new.activity == .waiting || new.activity == .moving))
    || (old.contact && !new.contact)

/-- Store the runtime record of a slot, with nothing else. -/
def State.storeFn (s : State) (i : Slot) (f : Function) : State :=
  { s with functions := s.functions.set i f }

/-- The levelled flag clears where a JACK is disturbed (R32). -/
def judgeLevelled (i : Slot) (old new : Function) (s : State) : State :=
  if s.isJack i && disturbsLevel old new then
    { s with monitor := { s.monitor with levelled := false } }
  else s

/-- The retract owed mark clears where an awning's class becomes STOWED (R118). -/
def judgeOwedStowed (i : Slot) (old new : Function) (s : State) : State :=
  if (s.cfg i).kind == .awning && old.posClass != .stowed && new.posClass == .stowed then
    { s with wind := { s.wind with owed := s.wind.owed.set i false } }
  else s

/-- Write the runtime record of a slot: the one way a function's record changes. -/
def putFn (i : Slot) (f : Function) (s : State) : State :=
  let old := s.fn i
  let s := judgeOwedStowed i old f (judgeLevelled i old f (s.storeFn i f))
  if reported old = reported f then s else functionFrame .change i s

/-- Write a hold record. -/
def putHold (i : Slot) (h : Hold) (s : State) : State :=
  { s with holds := s.holds.set i h }

/-- An ACTIVE hold record becomes REFUSED; its timer runs on (R12, R16, R18, R19). -/
def refuseHold (i : Slot) (s : State) : State :=
  if (s.hold i).state = .active then putHold i { s.hold i with state := .refused } s else s

/-! ### Replies (R183, R198) -/

/-- Queue a reply: role 0x81, command code, tag, outcome, and four result bytes, 0 where unused. -/
def queueReply (code tag : Byte) (o : ReplyOutcome) (result : List Byte) (s : State) : State :=
  queueC ⟨.reply, none, dataFrame (replyIdent s.store.straps)
    ([0x81, code, tag, byteOf o.code] ++ (result ++ [0, 0, 0, 0]).take 4)⟩ s

/-- Queue one data frame of a READ: role 0x82, its index and six record bytes, padded with 0 (R185,
R198). -/
def queueData (k : Nat) (bytes : List Byte) (s : State) : State :=
  queueC ⟨.reply, none, dataFrame (replyIdent s.store.straps)
    ([0x82, byteOf k] ++ (bytes ++ [0, 0, 0, 0, 0, 0]).take 6)⟩ s

end Sys2Proof.Machine
end

