-- ==== Sys2Proof/Machine/Orders.lean ====
section
/-! DEFINITION. The control slot and the M-port's transmit order (R150, R151), the census's advance
at the slot's emptying (R158), the channel order records, the order queue and the refresh's placing
(R169 to R174), and the HALT broadcast (R175). -/

namespace Sys2Proof.Machine

/-! ### Link frames the part sends (R200) -/

def controlToFrame : ControlFrame → Frame
  | .halt => dataFrame (linkIdent 1 0) []
  | .enrol .forget => dataFrame (linkIdent 2 0) []
  | .enrol (.assign n) => dataFrame (linkIdent 6 0) [byteOf n]
  | .enrol (.pass n) => dataFrame (linkIdent 7 0) [byteOf n]
  | .beat c p => dataFrame (linkIdent 10 0) [byteOf c, byteOf p]

/-- Three refresh periods in units of 10 ms, clamped to 255 (R172). -/
def orderLifetime (period : Nat) : Nat := min 255 (period * 3 / 10)

/-- The ORDER frame of a queue entry, built as it moves into the transmit buffer (R172, R200). -/
def orderToFrame (e : OrderEntry) (period : Nat) : Frame :=
  dataFrame (linkIdent 4 e.node)
    [byteOf e.channel, byteOf e.drive.code, byteOf e.speed, byteOf e.sequence, byteOf (orderLifetime period)]

/-! ### The order queue (R169 to R171) -/

/-- HOLD_STILL and PUMP_STOP are stopping orders (section 10.1). -/
def DriveCode.isStopping : DriveCode → Bool
  | .holdStill | .pumpStop => true
  | _ => false

def OrderRecord.isFor (r : OrderRecord) (node channel : Nat) : Bool :=
  r.node == node && r.channel == channel

def OrderEntry.isFor (e : OrderEntry) (node channel : Nat) : Bool :=
  e.node == node && e.channel == channel

def State.orderRecord (s : State) (node channel : Nat) : Option OrderRecord :=
  s.orders.records.find? (·.isFor node channel)

/-- The order queue holds an entry for the channel: the record's queued field (R169). -/
def State.isQueued (s : State) (node channel : Nat) : Bool :=
  s.orders.queue.any (·.isFor node channel)

def State.mapOrder (s : State) (node channel : Nat) (g : OrderRecord → OrderRecord) : State :=
  { s with orders := { s.orders with
      records := s.orders.records.map fun r => if r.isFor node channel then g r else r } }

/-- The capacity of the order queue (R170). -/
def orderCapacity : Nat := 8

def entryOf (r : OrderRecord) : OrderEntry := ⟨r.node, r.channel, r.drive, r.speed, r.sequence⟩

/-- Clear a placed channel's due mark and refresh mark (R170). -/
def clearMarks (r : OrderRecord) (s : State) : State :=
  s.mapOrder r.node r.channel fun x => { x with due := false, refresh := false }

/-- The queue without its oldest driving order, with that order (R171). -/
def evictDriving : List OrderEntry → Option (OrderEntry × List OrderEntry)
  | [] => none
  | e :: rest =>
    if e.drive.isStopping then (evictDriving rest).map fun p => (p.1, e :: p.2) else some (e, rest)

/-- The scheduler with its refresh timer started: the period it starts with is in force from now (R172,
R173). -/
def OrderScheduler.restarted (o : OrderScheduler) (now period : Nat) : OrderScheduler :=
  { o with refreshTimer := startTimer now period, period := period }

def State.setQueue (s : State) (q : List OrderEntry) : State :=
  { s with orders := { s.orders with queue := q } }

/-- A placing that finds the queue full, with no entry for the channel (R171). The placing has cleared the
channel's marks (R170) before it sets one again. -/
def placeFull (r : OrderRecord) (s : State) : State :=
  if r.drive.isStopping then
    match evictDriving s.orders.queue with
    | some (e, q) =>
      let s := s.setQueue (q ++ [entryOf r])
      let s := s.mapOrder e.node e.channel fun x => { x with refresh := true }
      clearMarks r { s with orders := { s.orders with evictions := bump s.orders.evictions } }
    | none => (clearMarks r s).mapOrder r.node r.channel fun x => { x with due := true }
  else
    let s := (clearMarks r s).mapOrder r.node r.channel fun x => { x with refresh := true }
    { s with orders := { s.orders with deferrals := bump s.orders.deferrals } }

/-- Place a channel: copy its current order into the queue by merge or at the tail, or treat it by R171
where the queue is full (R170). -/
def placeOrder (r : OrderRecord) (s : State) : State :=
  if s.isQueued r.node r.channel then
    clearMarks r (s.setQueue (s.orders.queue.map fun e => if e.isFor r.node r.channel then entryOf r else e))
  else if s.orders.queue.length < orderCapacity then
    clearMarks r (s.setQueue (s.orders.queue ++ [entryOf r]))
  else placeFull r s

/-- Channel `a` is placed before channel `b` among the due: stopping orders first, then ascending node
number, then ascending channel (R170). -/
def placedBefore (a b : OrderRecord) : Bool :=
  if a.drive.isStopping != b.drive.isStopping then a.drive.isStopping
  else if a.node != b.node then decide (a.node < b.node)
  else decide (a.channel < b.channel)

/-- The due channel that is placed next. -/
def nextDue (rs : List OrderRecord) : Option OrderRecord :=
  rs.foldl (fun best r =>
    if r.due then
      match best with
      | none => some r
      | some b => if placedBefore r b then some r else some b
    else best) none

/-- Place due channels while the queue has room, at most `n` of them (R170). -/
def placeDueUpTo : Nat → State → State
  | 0, s => s
  | n + 1, s =>
    if s.orders.queue.length < orderCapacity then
      match nextDue s.orders.records with
      | none => s
      | some r => placeDueUpTo n (placeOrder r s)
    else s

/-- Place due channels while the queue has room (R170, R173); each channel is placed at most once. -/
def placeDue (s : State) : State := placeDueUpTo s.orders.records.length s

/-! ### The control slot (R150) and the census's advance (R158) -/

/-- Offer the first enrolment frame the link manager holds to the control slot: it is placed in an
empty slot or in place of an unsent BEAT, and stays held otherwise (R150). The spec gives no order to several frames
held: one that a HALT replaced stands first (`offerHalt`), the others follow first in, first out (`addOffer`), which
is the model's choice (log entry 50). -/
def offerHeld (s : State) : State :=
  match s.link.offers with
  | [] => s
  | f :: rest =>
    match s.path.control with
    | some .halt | some (.enrol _) => s
    | none | some (.beat _ _) => { s with
        path := { s.path with control := some (.enrol f) }
        link := { s.link with offers := rest } }

/-- A frame that the link manager offers joins the tail of those it holds (log entry 50). -/
def addOffer (f : EnrolFrame) (s : State) : State :=
  { s with link := { s.link with offers := s.link.offers ++ [f] } }

/-- The enrolment timer measures 50 ms from the moment an ASSIGN leaves the slot (R158). -/
def enrolTimeout : Nat := 50

/-- What the link manager does when an enrolment frame has left the control slot (R158). -/
def censusAdvance (f : EnrolFrame) (s : State) : State :=
  match f with
  | .forget =>
    addOffer (.assign 1) { s with link := { s.link with chainLine := true, outstanding := some 1 } }
  | .assign _ => { s with link := { s.link with enrolTimer := startTimer s.now enrolTimeout } }
  | .pass n =>
    let s := s.setNode n { s.node n with silenceTimer := startTimer s.now s.settings.timing.silenceLimit }
    if n < 24 then
      addOffer (.assign (n + 1)) { s with link := { s.link with outstanding := some (n + 1) } }
    else addOffer (.assign 0) { s with link := { s.link with outstanding := some 0 } }

/-- The slot has emptied by a frame's leaving it: the link manager acts on an enrolment frame and offers
again what was handed back (R150, R158). -/
def slotEmptied (c : ControlFrame) (s : State) : State :=
  match c with
  | .enrol f => offerHeld (censusAdvance f s)
  | .halt | .beat _ _ => offerHeld s

/-- One frame moves into an empty transmit buffer of an ACTIVE M-port, not in DOZE: the control slot
first, then the order queue, then the forward queue (R151). -/
def pumpM (s : State) : State :=
  if s.path.mTransmit.isSome || s.path.mState == .busOff || s.store.doze then s
  else
    match s.path.control with
    | some c => slotEmptied c
        { s with path := { s.path with mTransmit := some (controlToFrame c), control := none } }
    | none =>
      match s.orders.queue with
      | e :: rest =>
        placeDue { s with
          path := { s.path with mTransmit := some (orderToFrame e s.orders.period) }
          orders := { s.orders with queue := rest } }
      | [] =>
        match s.path.forward with
        | f :: rest => { s with path := { s.path with mTransmit := some f, forward := rest } }
        | [] => s

/-- The link manager offers an enrolment frame (R150, R158). -/
def offerEnrol (f : EnrolFrame) (s : State) : State := pumpM (offerHeld (addOffer f s))

/-- A HALT is offered to the control slot: it replaces an unsent BEAT, replaces an unsent enrolment
frame, which is handed back to stand first among those held (log entry 50), or is absorbed by an unsent HALT (R150,
R175). -/
def offerHalt (s : State) : State :=
  match s.path.control with
  | some .halt => s
  | some (.enrol f) => pumpM { s with
      path := { s.path with control := some .halt }
      link := { s.link with offers := f :: s.link.offers } }
  | none | some (.beat _ _) => pumpM { s with path := { s.path with control := some .halt } }

/-- A BEAT is offered to the control slot: it is placed, replaces an unsent BEAT, or is dropped behind a
HALT or an enrolment frame (R150, R173). -/
def offerBeat (s : State) : State :=
  match s.path.control with
  | some .halt | some (.enrol _) => s
  | none | some (.beat _ _) => pumpM { s with
      path := { s.path with control := some (.beat s.orders.cycle s.orders.period) } }

/-- The link manager withdraws every enrolment frame it still holds and an unsent one in the slot,
which empties without a frame reported as having left (R150, R161). -/
def withdrawEnrol (s : State) : State :=
  let control := match s.path.control with
    | some (.enrol _) => none
    | c => c
  { s with path := { s.path with control := control }, link := { s.link with offers := [] } }

/-! ### Handing orders (R169) -/

/-- The sequence number after `n`, 255 being followed by 0. -/
def nextSequence (n : Nat) : Nat := (n + 1) % 256

/-- Hand an order for a channel. `place` is false for the stopping orders of the halt effects, which
become current without being placed (R176). -/
def handOrder (place : Bool) (d : DriveRef) (code : DriveCode) (speed : Nat) (s : State) : State :=
  match s.orderRecord d.node d.channel with
  | none =>
    let r : OrderRecord := ⟨d.node, d.channel, code, speed, 0, false, false, none⟩
    let s := { s with orders := { s.orders with records := s.orders.records ++ [r] } }
    if place then pumpM (placeOrder r s) else s
  | some r =>
    if r.drive = code ∧ r.speed = speed then s
    else
      let r' := { r with drive := code, speed := speed, sequence := nextSequence r.sequence }
      let s := s.mapOrder d.node d.channel fun _ => r'
      if place then pumpM (placeOrder r' s) else s

/-- HOLD_STILL on every drive channel of a slot. -/
def holdAll (place : Bool) (i : Slot) (s : State) : State :=
  (s.cfg i).drives.foldl (fun s d => handOrder place d .holdStill 0 s) s

/-- An order for the pump reference, where there is one. -/
def pumpOrder (place : Bool) (code : DriveCode) (speed : Nat) (s : State) : State :=
  match s.settings.manifold.pump with
  | some d => handOrder place d code speed s
  | none => s

/-- The halt effects on the order queue: every entry is removed and every mark cleared; the records
are kept (R176). -/
def clearQueue (s : State) : State :=
  { s with orders := { s.orders with
      queue := []
      records := s.orders.records.map fun r => { r with due := false, refresh := false } } }

/-- A census start removes the queue and every channel order record (R178). -/
def discardOrders (s : State) : State :=
  { s with orders := { s.orders with queue := [], records := [] } }

/-- A report that shows a stopping order has not reached its node places the channel again, at most
once a refresh cycle (R174). -/
def resendStop (node channel seen : Nat) (s : State) : State :=
  match s.orderRecord node channel with
  | none => s
  | some r =>
    if r.drive.isStopping ∧ seen ≠ r.sequence ∧ ¬ s.isQueued node channel ∧ ¬ r.due
        ∧ r.resend ≠ some s.orders.cycle then
      let r' := { r with resend := some s.orders.cycle }
      pumpM (placeOrder r' (s.mapOrder node channel fun _ => r'))
    else s

end Sys2Proof.Machine
end

