-- ==== Sys2Proof/Machine/Flags.lean ====
section
/-! DEFINITION. The flags of the part and the conditions the rules derive from its state: the alarm
set (R41), the posture (R33), the NOT_STOWED condition (R40), the motion power enable line (R167), the
conditions of the doze timer (R195), clearance (section 5.7) and the contact thresholds (R30). -/

namespace Sys2Proof.Machine

/-! ### The alarm set (R41) -/

def AlarmSet.has (a : AlarmSet) : Alarm → Bool
  | .notStowed => a.notStowed
  | .wind => a.wind
  | .lowSupply => a.lowSupply
  | .pumpDuty => a.pumpDuty
  | .censusFault => a.censusFault
  | .unconfigured => a.unconfigured

def AlarmSet.put (a : AlarmSet) (k : Alarm) (v : Bool) : AlarmSet :=
  match k with
  | .notStowed => { a with notStowed := v }
  | .wind => { a with wind := v }
  | .lowSupply => { a with lowSupply := v }
  | .pumpDuty => { a with pumpDuty := v }
  | .censusFault => { a with censusFault := v }
  | .unconfigured => { a with unconfigured := v }

/-- Raise or remove an alarm. A change of the set asks for an ALARM frame carrying the whole set;
raising an alarm in the set, or removing one not in it, is no change (R41). -/
def setAlarm (k : Alarm) (v : Bool) (s : State) : State :=
  if s.monitor.alarms.has k = v then s
  else alarmFrame { s with monitor := { s.monitor with alarms := s.monitor.alarms.put k v } }

/-! ### The posture (R33) -/

/-- Order 1 of R33: FAULT. -/
def State.faultHolds (s : State) : Bool :=
  s.store.factoryLoaded || s.link.outcome != .complete || s.inputs.stopAll
    || s.path.mState == .busOff

/-- A slot of kind JACK that is not UNAVAILABLE. -/
def State.availableJack (s : State) (i : Slot) : Bool :=
  s.isJack i && (s.fn i).activity != .unavailable

/-- Order 5 of R33: at least one available JACK, and every one has its contact flag set. -/
def State.stabilisedHolds (s : State) : Bool :=
  slots.any s.availableJack && slots.all fun i => !s.availableJack i || (s.fn i).contact

/-- The posture that the present inputs give (R33). -/
def derivePosture (s : State) : Posture :=
  if s.faultHolds then .fault
  else if s.value .parkBrake = 0 ∨ s.value .roadSpeed > s.settings.travelSpeed then .travel
  else if s.value .serviceMode = 1 then .service
  else if s.monitor.levelled then .levelled
  else if s.stabilisedHolds then .stabilised
  else if s.value .engineRun = 1 then .standing
  else .parked

/-! ### Derived conditions -/

/-- R40: the posture is TRAVEL and a slot of a kind other than UNUSED is not STOWED. -/
def notStowedHolds (s : State) : Bool :=
  s.monitor.posture == .travel
    && slots.any fun i => (s.cfg i).kind != .unused && (s.fn i).posClass != .stowed

/-- R167: the level of the motion power enable line. -/
def powerLineHolds (s : State) : Bool :=
  s.link.outcome == .complete && s.monitor.posture != .fault && !s.inputs.stopAll && !s.store.doze

/-- R195: the four conditions of the doze timer. -/
def dozeHolds (s : State) : Bool :=
  s.value .ignition == 0 && !s.anyBusy && !s.seqRuns && !s.store.doze

/-- A plain grant whose owner and class have no function in WAITING, MOVING or SETTLING (R54). -/
def grantOrphaned (s : State) : Bool :=
  match s.manifold.holder with
  | none => false
  | some g => !g.sequence && !slots.any fun i =>
      (s.cfg i).kind.isHydraulic && (s.cfg i).kind.hydClass == g.cls && (s.fn i).owner == g.owner
        && (s.fn i).activity.isBusy

/-- READY with no hydraulic function MOVING and none waiting with reason PRIME (R61). -/
def pumpUnused (s : State) : Bool :=
  s.manifold.pump == .ready && !slots.any fun i =>
    (s.cfg i).kind.isHydraulic
      && ((s.fn i).activity == .moving
        || ((s.fn i).activity == .waiting && (s.fn i).waitReason == some .prime))

/-- The run time of a running pump has reached the duty limit (R62). -/
def dutyReached (s : State) : Bool :=
  s.manifold.pump.isOn && decide (s.settings.manifold.dutyLimit * 1000 ≤ s.manifold.runTime)

/-! ### Clearance (section 5.7) -/

/-- The partner slide is IDLE with class STOWED or DEPLOYED. -/
def State.slideAllows (s : State) (i : Slot) : Bool :=
  (s.fn i).activity == .idle && ((s.fn i).posClass == .stowed || (s.fn i).posClass == .deployed)

/-- The awning's position is absent or above its clearance position (R109, R111). -/
def State.awningBlocks (s : State) (i : Slot) : Bool :=
  match (s.fn i).position with
  | none => true
  | some p => decide ((s.cfg i).clearance < p)

/-- The awning's position is absent, or at or above its clearance position (R110). -/
def State.awningAtClearance (s : State) (i : Slot) : Bool :=
  match (s.fn i).position with
  | none => true
  | some p => decide ((s.cfg i).clearance ≤ p)

/-- Check 7 of R9 forbids the move (R109, R110). -/
def clearanceForbids (s : State) (i : Slot) (d : Direction) : Bool :=
  match (s.cfg i).partner with
  | none => false
  | some p =>
    if (s.cfg i).kind.isSlide then s.awningBlocks p
    else if (s.cfg i).kind = .awning then
      d == .extend && s.awningAtClearance i && !s.slideAllows p
    else false

/-! ### The contact flag (R30) -/

/-- The contact-loss timer runs for 1000 ms (R30). -/
def contactLossTime : Nat := 1000

/-- The lower contact threshold (R30); Nat subtraction gives 0 where the hysteresis is larger. -/
def LevelParams.lowerContact (p : LevelParams) : Nat := p.contactPressure - p.contactHysteresis

/-- The record of a jack after a report of its pressure (R30). -/
def judgeContact (p : LevelParams) (now pressure : Nat) (f : Function) : Function :=
  if f.contact then
    if p.lowerContact ≤ pressure then { f with contactTimer := none }
    else if f.contactTimer.isSome then f
    else { f with contactTimer := startTimer now contactLossTime }
  else if p.contactPressure ≤ pressure then { f with contact := true }
  else f

end Sys2Proof.Machine
end

