-- ==== Sys2Proof/Machine/Moves.lean ====
section
/-! DEFINITION. What a move needs at every report and refresh: the position and class of a channel (R5,
R6), the direction and the end of a move, the ramp and the order speed (R13, R98, R99), the holds of a
channel (R97, R80), the skew of a twin slide (R103), and the handing of the orders that follow. -/

namespace Sys2Proof.Machine

/-! ### Position and class (R5, R6) -/

/-- The position a raw report gives a channel, clamped to 0..stroke (R5). -/
def positionOf (c : FunctionConfig) (e : Side) (raw : Int) : Nat :=
  let i := if c.kind.isMotor then (raw - c.offset e) * c.sense e else raw
  (clampInt 0 c.stroke i).toNat

/-- The class of one position (R6): STOWED is tested first. -/
def classAt (c : FunctionConfig) (p : Nat) : PosClass :=
  if p ≤ c.stowWindow then .stowed
  else if c.stroke - c.endWindow ≤ p then .deployed
  else .midway

/-- The class of two ends (R6). -/
def joinClass (a b : PosClass) : PosClass :=
  if a = b then a else .midway

/-- The position class of a function (R6): UNKNOWN with any position absent. The number of channels decides, and
not the kind: two channels on a kind of one are joined as those of a twin, and an empty list is UNKNOWN, which is
the model's choice (log entry 39). -/
def classOf (c : FunctionConfig) (f : Function) : PosClass :=
  match c.drives.length, f.chA.position, f.chB.position with
  | 0, _, _ => .unknown
  | 1, some p, _ => classAt c p
  | 1, none, _ => .unknown
  | _, some p, some q => joinClass (classAt c p) (classAt c q)
  | _, _, _ => .unknown

/-- The position is inside the window of a direction of travel (R15, R102). -/
def inWindow (c : FunctionConfig) (d : Direction) (p : Nat) : Bool :=
  match d with
  | .retract => decide (p ≤ c.stowWindow)
  | .extend => decide (c.stroke - c.endWindow ≤ p)

/-! ### Direction and distance -/

def MoveVerb.ofDirection : Direction → MoveVerb
  | .extend => .extend
  | .retract => .retract

/-- The direction of a target from a position (R13): the free value of log entry 9 where they are equal. -/
def directionTo (target p : Nat) : Direction :=
  if p < target then .extend
  else if target < p then .retract
  else if Config.extendsAtTarget p then .extend else .retract

/-- The drive direction of a channel: the verb, or for a GOTO the direction of the target, the present
one being kept where the channel stands exactly at the target (R13, R14, R105). -/
def driveDirection (f : Function) (ch : Channel) : Option Direction :=
  match f.verb, f.target, ch.position with
  | some .extend, _, _ => some .extend
  | some .retract, _, _ => some .retract
  | some .goto, some t, some p =>
    if p = t ∧ ch.direction.isSome then ch.direction else some (directionTo t p)
  | _, _, _ => ch.direction

/-- The end of the move: the stroke for EXTEND, 0 for RETRACT, the target for GOTO (R13, R99). -/
def endOfMove (c : FunctionConfig) (f : Function) : Nat :=
  match f.verb with
  | some .extend => c.stroke
  | some .retract => 0
  | some .goto => f.target.getD 0
  | none => 0

/-- The magnitude of a difference. -/
def gap (a b : Nat) : Nat := (a - b) + (b - a)

/-- The distances of the channels that have a position from the end of the move. -/
def distances (c : FunctionConfig) (f : Function) : List Nat :=
  (c.sides.filterMap fun e => (f.chan e).position).map (gap (endOfMove c f))

/-- The function is within its creep distance: the distance of the nearer end counts (R99). -/
def inCreepZone (c : FunctionConfig) (f : Function) : Bool :=
  (distances c f).any fun d => decide (d ≤ c.creepDistance)

/-- Every channel is within a distance of the target (R9 check 6, R14, R17). -/
def allWithin (c : FunctionConfig) (f : Function) (target d : Nat) : Bool :=
  !c.sides.isEmpty && c.sides.all fun e =>
    match (f.chan e).position with
    | some p => decide (gap target p ≤ d)
    | none => false

/-- Near the target for the end of a GOTO: 2 mm or 20 counts (R14). -/
def arrivalWidth (k : Kind) : Nat := if k.isMotor then 20 else 2

/-- Near the target for the verify of a GOTO: 5 mm or 50 counts (R17). -/
def verifyWidth (k : Kind) : Nat := if k.isMotor then 50 else 5

/-! ### Speed (R13, R98, R99) -/

/-- The ramp time of a ramp code (R98). -/
def rampTime : Nat → Nat
  | 0 => 250
  | 1 => 500
  | 2 => 1000
  | _ => 2000

/-- The ramp value t ms after the move began (R98). -/
def rampValue (c : FunctionConfig) (speed t : Nat) : Nat :=
  if t < rampTime c.rampCode then c.creepSpeed + (speed - c.creepSpeed) * t / rampTime c.rampCode
  else speed

/-- The order speed of a moving function (R13, R99). -/
def orderSpeed (c : FunctionConfig) (f : Function) (now : Nat) : Nat :=
  let speed := f.moveSpeed.getD 0
  let out := if c.kind.isMotor then rampValue c speed (now - f.moveBegan.getD now) else speed
  if inCreepZone c f then min c.creepSpeed out else out

/-! ### Holds and orders -/

/-- A channel of a MOVING function that is ordered HOLD_STILL (R97, R80). -/
def State.channelHeld (s : State) (i : Slot) (e : Side) : Bool :=
  ((s.fn i).chan e).endMark || ((s.fn i).chan e).arrivalMark || (s.fn i).skewHold == some e
    || (s.isTaken i && s.sequence.twistHeld.contains i)

def Direction.drive : Direction → DriveCode
  | .extend => .extend
  | .retract => .retract

/-- Bring a channel's present drive code up to date; a held channel keeps its own. -/
def turnChannel (i : Slot) (e : Side) (s : State) : State :=
  if s.channelHeld i e then s
  else
    let f := s.fn i
    let ch := f.chan e
    s.storeFn i (f.setChan e { ch with direction := driveDirection f ch })

/-- Hand the present order of one channel of a MOVING function. -/
def orderChannel (i : Slot) (e : Side) (s : State) : State :=
  match (s.cfg i).drive e with
  | none => s
  | some d =>
    if s.channelHeld i e then handOrder true d .holdStill 0 s
    else
      match ((s.fn i).chan e).direction with
      | none => s
      | some dir => handOrder true d dir.drive (orderSpeed (s.cfg i) (s.fn i) s.now) s

/-- Work out the orders of a slot again from the present positions, and hand those that differ (R13, R14,
R99). A function that is not MOVING has none. -/
def reorder (i : Slot) (s : State) : State :=
  if (s.fn i).activity = .moving then
    (s.cfg i).sides.foldl (fun s e => orderChannel i e (turnChannel i e s)) s
  else s

/-! ### Skew (R103) -/

/-- The skew of a twin slide's ends, where both positions are present (R103). -/
def skewOf (f : Function) : Option Nat :=
  match f.chA.position, f.chB.position with
  | some p, some q => some (gap p q)
  | _, _ => none

/-- The skew of a SLIDE_TWIN is above its hard skew (R103). -/
def State.skewTooHard (s : State) (i : Slot) : Bool :=
  (s.cfg i).kind == .slideTwin &&
    match skewOf (s.fn i) with
    | some d => decide ((s.cfg i).hardSkew < d)
    | none => false

/-- The leader: the end nearer the end of the move, end A where they are level (R103). -/
def leaderOf (c : FunctionConfig) (f : Function) : Side :=
  match f.chA.position, f.chB.position with
  | some p, some q => if gap (endOfMove c f) q < gap (endOfMove c f) p then .b else .a
  | _, _ => .a

def Side.other : Side → Side
  | .a => .b
  | .b => .a

/-! ### Leaving a move -/

/-- A channel as the function leaves MOVING (R97). -/
def Channel.released (ch : Channel) : Channel :=
  { ch with stallTimer := none, endMark := false, arrivalMark := false }

/-- The record with the marks of a move cleared (R97). -/
def Function.unmarked (f : Function) : Function :=
  { f with chA := f.chA.released, chB := f.chB.released, skewHold := none }

/-- The record at rest: owner NONE, verb, move speed, target and wait reason absent, the settle timer
cancelled (R7, R16, R17, R18). -/
def Function.resting (f : Function) : Function :=
  { f.unmarked with
    owner := .none, verb := none, moveSpeed := none, target := none, waitReason := none
    settleTimer := none, ending := none, byStall := false }

/-- A channel as the function passes into MOVING (R97). -/
def Channel.atStart (ch : Channel) (now : Nat) : Channel :=
  { ch.released with startTime := some now, noted := none, direction := none }

end Sys2Proof.Machine
end

