-- ==== Sys2Proof/Machine/Tasks.lean ====
section
/-! DEFINITION. The work a command can set off: the requests of R9 with their sources, and the other
deliveries one block makes to another. A command's effect is the running of such tasks one at a time
(Machine/Cascade.lean), as section 1.3 says of requests: each is answered in full before the next. -/

namespace Sys2Proof.Machine

/-- A request with verb EXTEND or RETRACT (R9): a target makes it a GOTO; `latched` is a request from a
REQUEST match action (check 10); `own` is a request of a running sequence for one of its own jacks
(R10). -/
structure Request where
  slot    : Slot
  verb    : Direction
  owner   : Owner
  target  : Option Nat
  speed   : Option Nat
  latched : Bool
  own     : Bool
  deriving DecidableEq, Repr

/-- One piece of work. -/
inductive Task where
  /-- The search of the match table goes on from an index for an arrival (R127). -/
  | chain (port : Port) (f : Frame) (from_ : Nat)
  /-- A press of a HOLD entry (R22). -/
  | press (slot : Slot) (verb : Direction) (source : EntryIndex)
  /-- An OPERATOR request of a REQUEST entry for one slot (R24). -/
  | operator (slot : Slot) (verb : RequestVerb)
  /-- A sequence request of a REQUEST entry (R133). -/
  | sequence (which : SeqRequest)
  /-- STOW_JACKS of owner TRAVEL, asked by the ignition trigger (R39, R90). -/
  | travelStow
  /-- The sequencer's request for one taken jack in GROUND (R78, R79). -/
  | groundRequest (slot : Slot)
  /-- The sequencer's request for one taken jack in LIFT (R86). -/
  | liftRequest (slot : Slot)
  /-- The step of a lift may have ended (R87). -/
  | stepEnd
  /-- The sequencer's request for one taken jack in STOWING (R91). -/
  | stowRequest (slot : Slot)
  /-- A wind retract for one awning at a gust expiry (R117). -/
  | gustRetract (slot : Slot)
  /-- A travel retract for one awning (R122). -/
  | travelRetract (slot : Slot)
  /-- An awning whose retract is owed may be served (R118). -/
  | owedRetract (slot : Slot)
  /-- The arbiter makes a service pass (R56). -/
  | servicePass
  /-- The clearance test of an extending awning whose partner slide has changed (R112). -/
  | clearance (slot : Slot)
  /-- A move is judged again at a posture change (R35). -/
  | judgeMove (slot : Slot)
  /-- A LEVEL sequence is judged again at a posture change or bank swap (R36, R50). -/
  | judgeSequence
  /-- A report is handed to a slot whose drive channel it is (R163). -/
  | slotReport (slot : Slot) (drive : DriveRef)
  /-- A report of the pump reference's channel is handed to the arbiter (R60). -/
  | pumpReport (pressure : Nat)
  /-- A report is handed to the order scheduler (R174). -/
  | stopResend (drive : DriveRef) (seen : Nat)
  /-- A report by a bound slot that awaited it: UNAVAILABLE to IDLE (R8, R162). -/
  | becomeIdle (slot : Slot)
  /-- A COMMAND frame is judged, once a wake and a break are done (R180). -/
  | command (f : Frame)
  /-- A CONTINUE frame is judged, once a wake is done (R181). -/
  | continuation (f : Frame)
  /-- A whole management transaction is judged and carried out (R180, R182). -/
  | transact (code : CommandCode) (tag : Byte) (params : List Byte)
  deriving DecidableEq, Repr

/-- The task starts a TRAVEL stow, the first requests for its jacks among it, or a WIND or TRAVEL retract, which
delays a pending swap where it starts in the same event (R49). A stow of owner LEVEL cannot start while a swap is
pending (R90). -/
def Task.delaysSwap : Task → Bool
  | .travelStow | .stowRequest _ | .travelRetract _ | .gustRetract _ | .owedRetract _ => true
  | _ => false

end Sys2Proof.Machine
end

