-- ==== Sys2Proof/Machine/Manifold.lean ====
section
/-! DEFINITION. The manifold arbiter and the ends of a move: the claim set (R64, R66), the pump (R59 to
R63), the stop of a function (R18), the end of a sequence (R89, R93), a fault (R16, R94), the entry into
MOVING (R13), the wait list with its service pass (R55, R56), the preemption of the manifold (R58), the
halt effects (R176), and the requests' checks and acceptance (R9 to R12). -/

namespace Sys2Proof.Machine

/-! ### The claim set (R64, R66) -/

def addClaim (who : Claimant) (amps : Nat) (s : State) : State :=
  { s with budget := { s.budget with claims := s.budget.claims ++ [⟨who, amps⟩] } }

def dropClaim (who : Claimant) (s : State) : State :=
  { s with budget := { s.budget with claims := s.budget.claims.filter fun c => c.claimant != who } }

/-- A claim fits under the effective limit (R66). -/
def State.fits (s : State) (amps : Nat) : Bool := decide (s.claimsHeld + amps ≤ s.budget.effectiveLimit)

/-- A motor function's draw is admitted: a draw of 0 always is (R66). -/
def State.admits (s : State) (draw : Nat) : Bool := draw == 0 || s.fits draw

/-- A motor function that leaves MOVING releases its claim (R66). -/
def releaseDraw (i : Slot) (s : State) : State :=
  if (s.fn i).activity = .moving then dropClaim (.motor i) s else s

/-! ### The pump (R59 to R63) -/

def State.setManifold (s : State) (m : Manifold) : State := { s with manifold := m }

/-- The pump starts (R59). -/
def startPump (s : State) : State :=
  let s := pumpOrder true .pumpRun 100 (addClaim .pump s.settings.manifold.pumpClaim s)
  s.setManifold { s.manifold with
    pump := .priming
    primeTimer := startTimer s.now s.settings.manifold.primeLimit
    restTimer := none }

/-- A running pump is stopped: PUMP_STOP, claim released, STOPPED, rest timer started (R60, R61, R63,
R67). -/
def stopPump (place : Bool) (s : State) : State :=
  if s.manifold.pump.isOn then
    let s := dropClaim .pump (pumpOrder place .pumpStop 0 s)
    s.setManifold { s.manifold with
      pump := .stopped
      primeTimer := none
      holdOnTimer := none
      restTimer := startTimer s.now (s.settings.manifold.coolDown * 1000) }
  else s

/-- The pump enters COOLDOWN (R62 steps 4 and 5). -/
def coolPump (s : State) : State :=
  let s := dropClaim .pump (pumpOrder true .pumpStop 0 s)
  setAlarm .pumpDuty true (s.setManifold { s.manifold with
    pump := .coolDown
    primeTimer := none
    holdOnTimer := none
    coolTimer := startTimer s.now (s.settings.manifold.coolDown * 1000) })

/-- The pump goes to HOLD_ON (R60, R61). -/
def holdOnPump (s : State) : State :=
  s.setManifold { s.manifold with
    pump := .holdOn
    primeTimer := none
    holdOnTimer := startTimer s.now s.settings.manifold.holdOnTime }

/-- A hydraulic function goes MOVING under a pump in HOLD_ON (R61). -/
def readyPump (s : State) : State :=
  if s.manifold.pump = .holdOn then
    s.setManifold { s.manifold with pump := .ready, holdOnTimer := none }
  else s

/-! ### The wait list (R55) -/

/-- A function leaves the wait list; its wait timer goes with its entry. -/
def leaveList (i : Slot) (s : State) : State :=
  s.setManifold { s.manifold with waitList := s.manifold.waitList.filter fun e => e.slot != i }

/-- Where a new entry stands: behind every entry of equal or higher rank (R55). -/
def insertWait (rank : Slot → Nat) (e : WaitEntry) : List WaitEntry → List WaitEntry
  | [] => [e]
  | x :: rest => if rank x.slot < rank e.slot then e :: x :: rest else x :: insertWait rank e rest

/-- A function joins the list (R55). -/
def joinList (i : Slot) (s : State) : State :=
  let e : WaitEntry := ⟨i, s.now, startTimer s.now (s.settings.timing.waitLimit * 1000)⟩
  s.setManifold { s.manifold with
    waitList := insertWait (fun k => (s.fn k).owner.rank) e s.manifold.waitList }

/-! ### Stops (R18) -/

/-- The wind value held is windy (R116). -/
def State.isWindy (s : State) : Bool := decide (s.settings.wind.gustThreshold ≤ s.value .windSpeed)

def State.setOwed (s : State) (i : Slot) (v : Bool) : State :=
  { s with wind := { s.wind with owed := s.wind.owed.set i v } }

/-- What the awning controller does when a WIND retract is stopped: HALTED sets the owed mark (R118),
STOPPED clears it and re-arms the gust (R121). -/
def windStopped (i : Slot) (r : StopReason) (s : State) : State :=
  match r with
  | .halted => s.setOwed i true
  | .stopped =>
    let s := s.setOwed i false
    if s.isWindy then
      { s with wind := { s.wind with gustTimer := startTimer s.now s.settings.wind.gustTime } }
    else s
  | _ => s

/-- HOLD_STILL on a slot that was MOVING or SETTLING (R16, R18). -/
def holdMoved (place : Bool) (i : Slot) (s : State) : State :=
  if (s.fn i).activity = .moving ∨ (s.fn i).activity = .settling then holdAll place i s else s

/-- The record of a stopped function (R18). -/
def Function.stopped (f : Function) (r : StopReason) : Function :=
  { f.resting with activity := .idle, lastStop := some r }

/-- A stop of a function in WAITING, MOVING or SETTLING; any other function is left as it is (R18). An ACTIVE
hold record turns REFUSED at every reason but HOLD_RELEASED; STOP_SEQUENCE, which R95 has leave the records as they
are, puts them back (log entry 47). `place` is false for the stops of the halt effects (R176). -/
def stopFn (place : Bool) (i : Slot) (r : StopReason) (s : State) : State :=
  let f := s.fn i
  if f.activity.isBusy then
    let s := releaseDraw i (holdMoved place i (leaveList i s))
    let s := putFn i (f.stopped r) s
    let s := if r = .holdReleased then s else refuseHold i s
    if f.owner = .wind then windStopped i r s else s
  else s

/-- Stop each slot of a list, in its order. -/
def stopAll (place : Bool) (r : StopReason) (is : List Slot) (s : State) : State :=
  is.foldl (fun s i => stopFn place i r s) s

/-! ### The end of a sequence (R89, R93, R94) -/

/-- The sequence record after an end: result written, timers cancelled, lists absent, phase IDLE (R89). -/
def Sequence.ended (q : Sequence) (r : SeqResult) : Sequence :=
  { q with
    result := some r, settleTimer := none, sampleTimer := none, targets := none, stepTargets := none
    starts := none, finished := [], twistHeld := [], taken := [], phase := .idle }

/-- A sequence grant is released (R54). -/
def releaseSequenceGrant (s : State) : State :=
  match s.manifold.holder with
  | some g => if g.sequence then s.setManifold { s.manifold with holder := none } else s
  | none => s

/-- The sequence is over: its record, its grant and one LEVEL frame (R89, R93). -/
def closeSequence (r : SeqResult) (s : State) : State :=
  levelFrame (releaseSequenceGrant { s with sequence := s.sequence.ended r })

/-- The stop reason of the taken jacks at an abort (R93). -/
def AbortReason.stopReason : AbortReason → StopReason
  | .stopped => .stopped
  | .postureChanged => .postureChanged
  | .preempted => .preempted
  | .pumpDuty => .pumpDuty
  | .halted => .halted
  | .fault => .stopped

/-- End a running sequence with a result, stopping its taken jacks where they stand (R93). A sequence ends
once: with none running, nothing happens (R92). -/
def endSequence (place : Bool) (result : SeqResult) (r : StopReason) (s : State) : State :=
  if s.seqRuns then closeSequence result (stopAll place r s.sequence.taken s) else s

/-- Abort a running sequence (R92, R93). -/
def abortSequence (place : Bool) (r : AbortReason) (s : State) : State :=
  endSequence place (.aborted r) r.stopReason s

/-! ### Faults (R16, R94) -/

/-- The activities in which a fault can be raised (R16). -/
def Activity.canFault : Activity → Bool
  | .idle | .waiting | .moving | .settling => true
  | _ => false

/-- The record of a faulted function (R16). -/
def Function.failed (f : Function) (c : FaultCode) : Function :=
  { f.resting with activity := .faulted, fault := some c }

/-- The result a fault of a taken jack gives (R94). -/
def faultResult (c : FaultCode) (p : Phase) : SeqResult :=
  match c, p with
  | .noGround, .ground => .noGround
  | .stowFailed, .stowing => .stowFailed
  | _, _ => .aborted .fault

/-- A fault is raised on a function in IDLE, WAITING, MOVING or SETTLING: steps 1 to 5 of R16. -/
def failFn (i : Slot) (c : FaultCode) (s : State) : State :=
  let f := s.fn i
  if f.activity.canFault then
    refuseHold i (putFn i (f.failed c) (releaseDraw i (leaveList i (holdMoved true i s))))
  else s

/-- One cause faults each slot of a list, in its order (R16, R60, R166), and then a running sequence that
took one of them ends (step 6 of R16, R94): a jack that the cause has faulted keeps its code and its last
stop reason (R16, R93). -/
def faultFns (is : List Slot) (c : FaultCode) (s : State) : State :=
  let taken := is.any fun i => (s.fn i).activity.canFault && s.isTaken i
  let t := is.foldl (fun s i => failFn i c s) s
  if taken then endSequence true (faultResult c s.sequence.phase) .stopped t else t

/-- A fault of one function (R16, R94). -/
def faultFn (i : Slot) (c : FaultCode) (s : State) : State := faultFns [i] c s

/-! ### The entry into MOVING (R13, R97, R103) -/

/-- The record of a function that passes into MOVING (R13, R97). -/
def Function.started (f : Function) (now : Nat) : Function :=
  { f with
    activity := .moving, waitReason := none, moveBegan := some now, skewHold := none
    chA := f.chA.atStart now, chB := f.chB.atStart now }

/-- A function with its resources goes MOVING; a twin slide beyond its hard skew faults instead of
being driven (R13, R103). -/
def startMove (i : Slot) (s : State) : State :=
  let s := putFn i ((s.fn i).started s.now) s
  if s.skewTooHard i then faultFn i .skew s else reorder i s

/-- A hydraulic function goes MOVING under a pump at pressure. -/
def startHydraulic (i : Slot) (s : State) : State := readyPump (startMove i s)

/-! ### The service pass (R56) -/

/-- The manifold class and owner of a slot. -/
def State.grantOf (s : State) (i : Slot) : Grant :=
  let cls := (s.cfg i).kind.hydClass
  let owner := (s.fn i).owner
  ⟨owner, cls, cls == .jacks && (owner == .level || owner == .travel)⟩

/-- The slot is hydraulic and of a grant's owner and class. -/
def State.underGrant (s : State) (g : Grant) (i : Slot) : Bool :=
  (s.cfg i).kind.isHydraulic && (s.cfg i).kind.hydClass == g.cls && (s.fn i).owner == g.owner

/-- A holder of another owner or class exists. -/
def State.foreignHolder (s : State) (i : Slot) : Bool :=
  match s.manifold.holder with
  | none => false
  | some g => !s.underGrant g i

/-- A waiting hydraulic function is freed: MOVING where the pump is at pressure, PRIME where it primes. -/
def freeHydraulic (i : Slot) (s : State) : State :=
  let s := leaveList i s
  if s.manifold.pump = .priming then putFn i { s.fn i with waitReason := some .prime } s
  else startHydraulic i s

/-- Free every listed function of a grant, in the order of the list. -/
def freeGranted (g : Grant) (s : State) : State :=
  ((s.manifold.waitList.map (·.slot)).filter (s.underGrant g)).foldl (fun s i => freeHydraulic i s) s

/-- The manifold is granted to a slot's owner and class, and all of its entries leave (R56). -/
def grantTo (i : Slot) (s : State) : State :=
  let g := s.grantOf i
  freeGranted g (s.setManifold { s.manifold with holder := some g })

/-- Step 1 of a pass: the holder's own entries under a running pump. -/
def serveHolder (s : State) : State :=
  match s.manifold.holder with
  | some g => if s.manifold.pump.isOn then freeGranted g s else s
  | none => s

/-- Admit a motor function's draw: it leaves the list and goes MOVING (R56, R66). -/
def admitMotor (i : Slot) (s : State) : State :=
  startMove i (addClaim (.motor i) (s.cfg i).draw (leaveList i s))

/-- Step 2 of a pass: the walk from the head, over the slots listed as it began. -/
def walkList : List Slot → State → State
  | [], s => s
  | i :: rest, s =>
    if !s.manifold.waitList.any fun e => e.slot == i then walkList rest s
    else if (s.cfg i).kind.isHydraulic then
      if s.foreignHolder i || s.manifold.pump == .coolDown then walkList rest s
      else if s.manifold.pump.isOn then walkList rest (grantTo i s)
      else if s.fits s.settings.manifold.pumpClaim then walkList rest (grantTo i (startPump s))
      else s
    else if s.admits (s.cfg i).draw then walkList rest (admitMotor i s)
    else s

/-- The wait reason of an entry that stays (R56). -/
def waitReasonOf (i : Slot) (s : State) : WaitReason :=
  if (s.cfg i).kind.isHydraulic && (s.foreignHolder i || s.manifold.pump == .coolDown) then .manifold
  else .budget

/-- Every entry left carries its reason (R56). -/
def writeReasons (s : State) : State :=
  (s.manifold.waitList.map (·.slot)).foldl
    (fun s i => putFn i { s.fn i with waitReason := some (waitReasonOf i s) } s) s

/-- A service pass (R56). -/
def servicePass (s : State) : State :=
  let s := serveHolder s
  writeReasons (walkList (s.manifold.waitList.map (·.slot)) s)

/-! ### Preemption of the manifold (R58) -/

/-- The busy hydraulic functions of a grant. -/
def State.grantSlots (s : State) (g : Grant) : List Slot :=
  slots.filter fun k => s.underGrant g k && (s.fn k).activity.isBusy

/-- A TRAVEL jack that joins takes the manifold from a holder of rank 2 or lower (R58). -/
def preemptManifold (i : Slot) (s : State) : State :=
  match s.manifold.holder with
  | none => s
  | some g =>
    if (s.fn i).owner = .travel ∧ (s.cfg i).kind = .jack ∧ g.owner.rank ≤ 2 then
      let s := stopAll true .preempted (s.grantSlots g) s
      let s := if g.sequence ∧ s.sequence.owner = some .level then abortSequence true .preempted s else s
      s.setManifold { s.manifold with holder := none }
    else s

/-! ### The halt effects (R175, R176) -/

/-- The wait list is emptied and the grant released (R63). -/
def clearArbiter (s : State) : State :=
  s.setManifold { s.manifold with waitList := [], holder := none }

/-- The halt effects: HALT is offered, the order queue emptied, every move stopped HALTED, the arbiter
cleared, the pump stopped and a running sequence aborted. The stops' orders are not placed (R176). -/
def haltEffects (s : State) : State :=
  let s := stopAll false .halted slots (clearQueue (offerHalt s))
  abortSequence false .halted (stopPump false (clearArbiter s))

/-! ### Requests (R9 to R12) -/

/-- The current owner of a slot as check 9 reads it (R10). -/
def currentOwner (s : State) (r : Request) : Owner :=
  let f := s.fn r.slot
  if !r.own && s.isTaken r.slot && (f.activity == .idle || f.activity == .settling) then
    s.sequence.owner.getD .none
  else f.owner

/-- Check 4 and check 5 look at the owners that need a permission. -/
def Owner.needsPermission : Owner → Bool
  | .operator | .service | .level => true
  | _ => false

/-- Check 5: the active cell holds the verb, or AUTO for LEVEL; TRAVEL and WIND skip it (R9, R43). -/
def permitted (s : State) (i : Slot) (o : Owner) (d : Direction) : Bool :=
  match o with
  | .level => cellAuto (s.cell s.monitor.posture i)
  | .operator | .service => cellAllows (s.cell s.monitor.posture i) d
  | _ => true

/-- Check 6: already at the end (R9). -/
def atEnd (s : State) (r : Request) : Bool :=
  match r.target, r.verb with
  | some t, _ => allWithin (s.cfg r.slot) (s.fn r.slot) t (arrivalWidth (s.cfg r.slot).kind)
  | none, .extend => (s.fn r.slot).posClass == .deployed
  | none, .retract => (s.fn r.slot).posClass == .stowed

/-- The ten checks of R9, in order: none where the request is accepted. -/
def verdict (s : State) (r : Request) : Option RefusalReason :=
  let f := s.fn r.slot
  if f.activity = .unavailable then some .notReady
  else if f.activity = .faulted then some .faulted
  else if s.store.storing.isSome then some .storing
  else if s.monitor.swapPending ∧ r.owner.needsPermission then some .swapPending
  else if !permitted s r.slot r.owner r.verb then some .notPermitted
  else if atEnd s r then some .atEnd
  else if clearanceForbids s r.slot r.verb then some .clearance
  else if (s.cfg r.slot).kind = .awning ∧ r.verb = .extend ∧ s.wind.lockout then some .windLockout
  else if currentOwner s r ≠ .none ∧ r.owner.rank ≤ (currentOwner s r).rank then some .busy
  else if r.latched ∧ (s.cfg r.slot).mode = .hold then some .holdRequired
  else none

/-- Preempt a function of a lower owner: its move stops PREEMPTED, and a sequence that owned or reserved
it aborts (R12). A sequence's own request does not preempt its reservation. -/
def preempt (r : Request) (s : State) : State :=
  let taken := s.isTaken r.slot
  let s := stopFn true r.slot .preempted s
  if taken && !r.own then abortSequence true .preempted s else s

/-- The record of a function that takes a request (R11). -/
def Function.taking (f : Function) (c : FunctionConfig) (r : Request) : Function :=
  { f with
    activity := .waiting
    owner := r.owner
    verb := some (if r.target.isSome then .goto else MoveVerb.ofDirection r.verb)
    target := r.target.map (clampNat 0 c.stroke)
    moveSpeed := some (r.speed.getD c.fullSpeed)
    lastStop := none
    drift := none
    waitReason := some (if c.kind.isHydraulic then .manifold else .budget) }

/-- The awning controller clears an owed mark when a WIND retract is accepted (R118). -/
def windTaken (r : Request) (s : State) : State :=
  if r.owner = .wind then s.setOwed r.slot false else s

/-- An accepted request is carried out: preemption, the function's record, the wait list, and the
manifold's preemption (R11, R12, R55, R58). The service pass that follows is a task of its own. -/
def accept (r : Request) (s : State) : State :=
  let s := preempt r s
  let s := putFn r.slot ((s.fn r.slot).taking (s.cfg r.slot) r) s
  preemptManifold r.slot (joinList r.slot (windTaken r s))

end Sys2Proof.Machine
end

