-- ==== Sys2Proof/Machine/Slides.lean ====
section
/-! DEFINITION. Slide rooms and the motor kinds: the judgement of a hydraulic slide's report (R100), the
stall timer (R101, R102), arrival (R105), hard and soft skew (R103, R104), clearance (R111, R112), the
end of a move into SETTLING (R14, R15) and the verify at rest (R17, R107, R108). -/

namespace Sys2Proof.Machine

/-! ### The end of a move (R14, R15) -/

/-- The record of a function whose move has ended (R14, R15). -/
def Function.settlingAs (f : Function) (r : StopReason) (e : Ending) (byStall : Bool) (expiry : Timer) :
    Function :=
  { f.unmarked with
    activity := .settling, lastStop := some r, settleTimer := expiry
    ending := some e, byStall := byStall }

/-- A move ends: HOLD_STILL on every channel, the claim released, SETTLING (R14, R15). -/
def settleFn (i : Slot) (r : StopReason) (e : Ending) (byStall : Bool) (s : State) : State :=
  let s := releaseDraw i (holdAll true i s)
  putFn i ((s.fn i).settlingAs r e byStall (startTimer s.now (s.cfg i).settleTime)) s

def Ending.ofDirection : Direction → Ending
  | .retract => .retractEnd
  | .extend => .extendEnd

/-- END_REACHED at the end of a direction. -/
def endReached (i : Slot) (d : Direction) (byStall : Bool) (s : State) : State :=
  settleFn i .endReached (Ending.ofDirection d) byStall s

def targetReached (i : Slot) (s : State) : State := settleFn i .targetReached .target false s

/-! ### Marks on a channel -/

/-- Write one channel of a slot's record, with nothing reported. -/
def setChannel (i : Slot) (e : Side) (ch : Channel) (s : State) : State :=
  s.storeFn i ((s.fn i).setChan e ch)

/-- A channel that the last of its holds has left is driven again from now (R97). -/
def resumeChannel (i : Slot) (e : Side) (s : State) : State :=
  if s.channelHeld i e then s
  else setChannel i e { (s.fn i).chan e with startTime := some s.now } s

/-- Write the skew-hold marker, with nothing reported. -/
def setMarker (i : Slot) (m : Option Side) (s : State) : State :=
  s.storeFn i { s.fn i with skewHold := m }

/-- The skew-hold marker becomes none, and the end it held resumes unless another mark holds it (R104). -/
def clearMarker (i : Slot) (s : State) : State :=
  match (s.fn i).skewHold with
  | none => s
  | some e => resumeChannel i e (setMarker i none s)

/-- A channel takes its end mark (R102): its stall timer is cancelled and the marker becomes none. -/
def takeEndMark (i : Slot) (e : Side) (s : State) : State :=
  clearMarker i (setChannel i e { (s.fn i).chan e with endMark := true, stallTimer := none } s)

/-- A channel takes its arrival mark (R105). -/
def takeArrivalMark (i : Slot) (e : Side) (s : State) : State :=
  clearMarker i (setChannel i e { (s.fn i).chan e with arrivalMark := true, stallTimer := none } s)

/-! ### The end of a motor move (R102, R105) -/

/-- Every drive channel carries an end mark or an arrival mark. -/
def State.allMarked (s : State) (i : Slot) : Bool :=
  (s.cfg i).sides.all fun e => ((s.fn i).chan e).endMark || ((s.fn i).chan e).arrivalMark

/-- A channel with an end mark that was driven in a direction. -/
def State.endMarkedAs (s : State) (i : Slot) (d : Direction) : Bool :=
  (s.cfg i).sides.any fun e =>
    ((s.fn i).chan e).endMark && ((s.fn i).chan e).direction == some d

/-- A motor move whose channels are all marked ends: by its end marks END_REACHED, RETRACT before EXTEND,
else TARGET_REACHED (R102, R105). -/
def finishMotor (i : Slot) (s : State) : State :=
  if s.allMarked i then
    if s.endMarkedAs i .retract then endReached i .retract true s
    else if s.endMarkedAs i .extend then endReached i .extend true s
    else targetReached i s
  else s

/-- A completed stall is judged (R102). -/
def judgeStall (i : Slot) (e : Side) (s : State) : State :=
  let ch := (s.fn i).chan e
  match ch.position, ch.direction with
  | some p, some d =>
    if inWindow (s.cfg i) d p then finishMotor i (takeEndMark i e s) else faultFn i .obstruction s
  | _, _ => s

/-! ### Reports of a motor channel (R101 to R106) -/

/-- The flags of a REPORT (R200). -/
def reportDriverFault (flags : Byte) : Bool := flags.getLsbD 0
def reportOverTemp (flags : Byte) : Bool := flags.getLsbD 1
def reportStall (flags : Byte) : Bool := flags.getLsbD 2
def reportEnd (flags : Byte) : Bool := flags.getLsbD 3

/-- No end, pressure or stall is timed in the first 250 ms of a channel's driving (R100, R101). -/
def startInterval : Nat := 250

/-- The report comes at least 250 ms after the channel's start time. -/
def pastStart (now : Nat) (ch : Channel) : Bool :=
  match ch.startTime with
  | some t => decide (t + startInterval ≤ now)
  | none => true

/-- The stall timer as a report leaves it, without the end flag (R101). -/
def stallTimerAfter (c : FunctionConfig) (held : Bool) (now current : Nat) (flags : Byte) (ch : Channel) :
    Timer :=
  let high := decide (c.stallCurrent ≤ current) || reportStall flags
  if ch.stallTimer.isSome then
    if high then ch.stallTimer else none
  else if high && !held && pastStart now ch then startTimer now c.stallTime
  else none

/-- The stall timer and end flag of a report (R101, test 4 of R106). -/
def stallTest (i : Slot) (e : Side) (current : Nat) (flags : Byte) (s : State) : State :=
  let ch := (s.fn i).chan e
  let held := s.channelHeld i e
  if reportEnd flags && !held then judgeStall i e (setChannel i e { ch with stallTimer := none } s)
  else setChannel i e { ch with stallTimer := stallTimerAfter (s.cfg i) held s.now current flags ch } s

/-- The arrival test of a GOTO (R105, test 5 of R106). -/
def arrivalTest (i : Slot) (e : Side) (s : State) : State :=
  let ch := (s.fn i).chan e
  match (s.fn i).target, ch.position with
  | some t, some p =>
    if gap t p ≤ arrivalWidth (s.cfg i).kind then
      if ch.arrivalMark then s else finishMotor i (takeArrivalMark i e s)
    else if ch.arrivalMark then
      resumeChannel i e (setChannel i e { ch with arrivalMark := false } s)
    else s
  | _, _ => s

/-- Either end carries an end mark or an arrival mark. -/
def Function.anyMark (f : Function) : Bool :=
  f.chA.endMark || f.chA.arrivalMark || f.chB.endMark || f.chB.arrivalMark

/-- The marker names an end: its stall timer is cancelled, as the end is ordered HOLD_STILL (R104). -/
def holdEnd (i : Slot) (e : Side) (s : State) : State :=
  setChannel i e { (s.fn i).chan e with stallTimer := none } (setMarker i (some e) s)

/-- The soft-skew test (R104, test 6 of R106). It is made whenever neither end carries a mark, also after the only
arrival mark of a GOTO has been lost again, where R104's "from then on only the hard skew applies" would have it made
no more: the model's choice (log entry 48). -/
def softSkewTest (i : Slot) (s : State) : State :=
  let f := s.fn i
  let c := s.cfg i
  match skewOf f with
  | none => s
  | some d =>
    if f.anyMark then s
    else
      match f.skewHold with
      | none => if c.softSkew < d then holdEnd i (leaderOf c f) s else s
      | some e =>
        if d ≤ c.softSkew / 2 then clearMarker i s
        else if e ≠ leaderOf c f ∧ c.softSkew < d then
          resumeChannel i e (holdEnd i (leaderOf c f) s)
        else s

/-- The function is MOVING still. -/
def State.moves (s : State) (i : Slot) : Bool := (s.fn i).activity == .moving

/-- One test of a report, made only while the function is MOVING still: a test that ends the move ends the
judgement. -/
def whileMoving (i : Slot) (test : State → State) (s : State) : State :=
  if s.moves i then test s else s

/-- Test 2 of R106: the hard skew (R103). -/
def hardSkewTest (i : Slot) (s : State) : State :=
  if s.skewTooHard i then faultFn i .skew s else s

/-- An AWNING that is MOVING out at or above its clearance position, its slide not in its allowed state,
stops (R112, test 3 of R106). -/
def clearanceStop (i : Slot) (s : State) : State :=
  match (s.cfg i).partner with
  | none => s
  | some p =>
    if (s.cfg i).kind = .awning ∧ s.moves i ∧ (s.fn i).chA.direction = some .extend
        ∧ s.awningAtClearance i ∧ ¬ s.slideAllows p then
      stopFn true i .clearance s
    else s

/-- The report of one channel of a MOVING SLIDE_TWIN or AWNING, after the flags (R106). -/
def motorReport (i : Slot) (e : Side) (current : Nat) (flags : Byte) (s : State) : State :=
  let s := clearanceStop i (hardSkewTest i s)
  let s := whileMoving i (stallTest i e current flags) s
  let s := whileMoving i (fun s => if (s.fn i).verb = some .goto then arrivalTest i e s else s) s
  whileMoving i (fun s => if (s.cfg i).kind = .slideTwin then softSkewTest i s else s) s

/-- The report of a MOVING SLIDE_HYD, after the flags and the overload pressure (R100). -/
def slideHydReport (i : Slot) (pressure : Nat) (s : State) : State :=
  let c := s.cfg i
  let f := s.fn i
  match f.chA.position, f.chA.direction with
  | some p, some d =>
    if pastStart s.now f.chA ∧ c.endPressure ≤ pressure then
      if inWindow c d p then endReached i d false s else faultFn i .obstruction s
    else if f.verb = some .goto ∧ gap (f.target.getD 0) p ≤ arrivalWidth c.kind then targetReached i s
    else s
  | _, _ => s

/-! ### The verify at rest (R17, R107, R108) -/

/-- The last raw value reported for a drive channel. -/
def State.lastRaw (s : State) (i : Slot) (e : Side) : Option Int :=
  match (s.cfg i).drive e with
  | none => none
  | some d => (s.channelRecord d).bind (·.raw)

def FunctionConfig.setOffset (c : FunctionConfig) (e : Side) (n : Nat) : FunctionConfig :=
  match e with
  | .a => { c with offsetA := n }
  | .b => { c with offsetB := n }

def State.setCfg (s : State) (i : Slot) (c : FunctionConfig) : State :=
  { s with settings := { s.settings with functions := s.settings.functions.set i c } }

/-- Re-zero one channel: the position is noted, the offset becomes the last raw count, and with it the position
reads 0 (R107). -/
def rezeroChannel (i : Slot) (s : State) (e : Side) : State :=
  match s.lastRaw i e with
  | none => s
  | some raw =>
    let ch := (s.fn i).chan e
    let s := s.setCfg i ((s.cfg i).setOffset e raw.toNat)
    setChannel i e { ch with noted := ch.position, position := some 0 } s

/-- Re-zero every channel, end A first; the class is computed again (R107). -/
def rezero (i : Slot) (s : State) : State :=
  let s := (s.cfg i).sides.foldl (rezeroChannel i) s
  putFn i { s.fn i with posClass := classOf (s.cfg i) (s.fn i) } s

/-- The re-zero skew of a SLIDE_TWIN is above its soft skew (R107). -/
def State.rezeroSkewed (s : State) (i : Slot) : Bool :=
  (s.cfg i).kind == .slideTwin &&
    match (s.fn i).chA.noted, (s.fn i).chB.noted with
    | some p, some q => decide ((s.cfg i).softSkew < gap p q)
    | _, _ => false

/-- Every channel is within the stow window (R17). -/
def State.allStowed (s : State) (i : Slot) : Bool :=
  (s.cfg i).sides.all fun e =>
    match ((s.fn i).chan e).position with
    | some p => inWindow (s.cfg i) .retract p
    | none => false

/-- The drift of a function: that of the channel whose drift is the larger in magnitude, end A where they
are level (R17, R108). -/
def driftOf (c : FunctionConfig) (f : Function) : Option Int :=
  let drift (p : Nat) : Int := (p : Int) - (c.stroke : Int)
  match c.sides, f.chA.position, f.chB.position with
  | [], _, _ => none
  | [_], some p, _ => some (drift p)
  | _, some p, some q => some (if (drift p).natAbs < (drift q).natAbs then drift q else drift p)
  | _, _, _ => none

/-- The drift as the verify records it: present where its magnitude exceeds the end window (R17). -/
def recordedDrift (c : FunctionConfig) (f : Function) : Option Int :=
  (driftOf c f).filter fun d => decide (c.endWindow < d.natAbs)

/-- A verify is passed: IDLE, with the last stop reason kept (R17). -/
def passVerify (i : Slot) (s : State) : State :=
  putFn i { (s.fn i).resting with activity := .idle } s

/-- The verify at the retract end (R17). -/
def verifyRetract (i : Slot) (s : State) : State :=
  let s := if (s.cfg i).kind.isMotor && (s.fn i).byStall then rezero i s else s
  if (s.cfg i).kind.isMotor && (s.fn i).byStall && s.rezeroSkewed i then faultFn i .skew s
  else if s.allStowed i then passVerify i s
  else faultFn i .stowFailed s

/-- The verify at the extend end (R17, R108). -/
def verifyExtend (i : Slot) (s : State) : State :=
  passVerify i (s.storeFn i { s.fn i with drift := recordedDrift (s.cfg i) (s.fn i) })

/-- The verify of a GOTO (R17). -/
def verifyTarget (i : Slot) (s : State) : State :=
  if allWithin (s.cfg i) (s.fn i) ((s.fn i).target.getD 0) (verifyWidth (s.cfg i).kind) then
    passVerify i s
  else faultFn i .positionMismatch s

/-- The verify of a function whose settle timer has expired (R17). -/
def verify (i : Slot) (s : State) : State :=
  match (s.fn i).ending with
  | some .retractEnd => verifyRetract i s
  | some .extendEnd => verifyExtend i s
  | some .target => verifyTarget i s
  | none => s

/-! ### Clearance of a slide (R111) -/

/-- The partner slide of an awning is stopped where it is WAITING or MOVING and the awning stands above its
clearance position, or its position is absent (R111). -/
def slideTest (awning : Slot) (s : State) : State :=
  match (s.cfg awning).partner with
  | none => s
  | some p =>
    if (s.cfg awning).kind = .awning ∧ (s.cfg p).kind.isSlide
        ∧ ((s.fn p).activity = .waiting ∨ (s.fn p).activity = .moving) ∧ s.awningBlocks awning then
      stopFn true p .clearance s
    else s

end Sys2Proof.Machine
end

