-- ==== Sys2Proof/Machine/Levelling.lean ====
section
/-! DEFINITION. The levelling sequencer: starting AUTO_LEVEL and STOW_JACKS (R75, R76, R90, R91), the
requests for the taken jacks and their refusals (R77), GROUND with its contact stops and twist rule (R78
to R81), the reading and its evaluation (R74, R82, R83), the plane solve (R84, R85), the lift steps (R86,
R87) and the ends (R89). -/

namespace Sys2Proof.Machine

def State.setSeq (s : State) (q : Sequence) : State := { s with sequence := q }

/-! ### The requests for taken jacks (R73, R77) -/

/-- What a refusal of the sequencer's request does (R77). -/
def seqRefused (r : RefusalReason) (s : State) : State :=
  match r, s.sequence.phase with
  | .atEnd, .ground => endSequence true .noGround .stopped s
  | .notPermitted, _ => abortSequence true .postureChanged s
  | .notReady, _ | .faulted, _ => abortSequence true .fault s
  | _, _ => abortSequence true .stopped s

/-- A taken jack is finished (R78, R91). -/
def State.isFinished (s : State) (i : Slot) : Bool := s.sequence.finished.contains i

/-- The twist-hold mark of a jack is lost, and it is driven again at its present order (R80). -/
def releaseTwist (i : Slot) (s : State) : State :=
  if s.sequence.twistHeld.contains i then
    reorder i (s.setSeq { s.sequence with twistHeld := s.sequence.twistHeld.filter (· != i) })
  else s

/-- The taken jack's pair partner, where it is a taken jack too (R80). -/
def State.takenPartner (s : State) (i : Slot) : Option Slot :=
  (s.settings.geometry[i].partner).filter fun p => s.isTaken p

/-- A jack is marked finished; a twist-held partner resumes (R79, R80, R91). -/
def markFinished (i : Slot) (s : State) : State :=
  let s := if s.isFinished i then s
    else s.setSeq { s.sequence with
      finished := s.sequence.finished ++ [i]
      twistHeld := s.sequence.twistHeld.filter (· != i) }
  match s.takenPartner i with
  | some p => releaseTwist p s
  | none => s

/-- A request of the running sequence for one of its jacks. -/
def seqRequest (s : State) (i : Slot) (d : Direction) (target : Option Nat) (speed : Nat) : Request :=
  ⟨i, d, s.sequence.owner.getD .none, target, some speed, false, true⟩

/-- Judge and carry out a request of the sequence; `onEnd` is what AT_END does. -/
def sendSeqRequest (r : Request) (onEnd : State → State) (s : State) : State × List Task :=
  match verdict s r with
  | none => (accept r s, [.servicePass])
  | some .atEnd => (onEnd s, [])
  | some x => (seqRefused x s, [])

/-- The EXTEND request of GROUND (R78). -/
def groundRequest (i : Slot) (s : State) : State × List Task :=
  if s.sequence.phase = .ground ∧ s.isTaken i ∧ ¬ s.isFinished i then
    sendSeqRequest (seqRequest s i .extend none s.settings.levelling.groundSpeed) (seqRefused .atEnd) s
  else (s, [])

/-- The GOTO request of LIFT (R86). -/
def liftRequest (i : Slot) (s : State) : State × List Task :=
  match s.sequence.stepTargets with
  | some ts =>
    if s.sequence.phase = .lift ∧ s.isTaken i ∧ ts.any (fun p => p.1 == i) then
      sendSeqRequest (seqRequest s i .extend (some (lookupPos ts i)) s.settings.levelling.liftSpeed)
        (seqRefused .atEnd) s
    else (s, [])
  | none => (s, [])

/-- The RETRACT request of STOWING at the jack's own full speed (R91). -/
def stowRequest (i : Slot) (s : State) : State × List Task :=
  if s.sequence.phase = .stowing ∧ s.isTaken i ∧ ¬ s.isFinished i then
    sendSeqRequest (seqRequest s i .retract none (s.cfg i).fullSpeed) (markFinished i) s
  else (s, [])

/-! ### Starting a sequence -/

/-- The present position of each listed jack. -/
def positionsOf (s : State) (is : List Slot) : List (Slot × Nat) :=
  is.map fun i => (i, (s.fn i).position.getD 0)

/-- The record at an acceptance (R76, R91). -/
def Sequence.begun (k : SeqKind) (o : Owner) (p : Phase) (taken finished : List Slot)
    (starts : List (Slot × Nat)) : Sequence :=
  { Sequence.start with
    kind := some k, owner := some o, phase := p, taken := taken, finished := finished
    starts := some starts }

/-- The available jacks: every JACK slot that is not UNAVAILABLE, ascending (R75). -/
def State.jacks (s : State) : List Slot := slots.filter s.availableJack

/-- The checks of an AUTO_LEVEL request (R75). -/
def levelVerdict (s : State) : Option RefusalReason :=
  if s.seqRuns then some .busy
  else if s.jacks.length < 2 ∨ 6 < s.jacks.length then some .notReady
  else if (s.settings.levelling.sensorNode.map fun n => (s.node n).state) ≠ some .live then some .notReady
  else if s.jacks.any fun i => (s.fn i).activity == .faulted then some .faulted
  else if s.store.storing.isSome then some .storing
  else if s.monitor.swapPending then some .swapPending
  else if s.jacks.any fun i => !cellAuto (s.cell s.monitor.posture i) then some .notPermitted
  else none

/-- Preempt each listed jack that moves under an owner of lower rank (R76, R91). -/
def preemptJacks (o : Owner) (is : List Slot) (s : State) : State :=
  is.foldl (fun s i => if (s.fn i).owner.rank < o.rank then stopFn true i .preempted s else s) s

/-- The first requests of a sequence, in ascending slot order. Where the acceptance has preempted a jack, they
are sent at once, so that nothing comes between its stop and its new request, with one service pass after the
last (R12); no jack's request can change the posture then, since a jack at work has cleared the levelled flag
(R32). Otherwise each request is a task of its own, answered in full before the next (section 1.3). -/
def firstRequests (atOnce : Bool) (request : Slot → State → State × List Task) (task : Slot → Task)
    (is : List Slot) (s : State) : State × List Task :=
  if atOnce then
    let t := is.foldl (fun s i => (request i s).1) s
    (t, if is.any fun i => (t.fn i).activity == .waiting then [.servicePass] else [])
  else (s, is.map task)

/-- An AUTO_LEVEL is accepted and GROUND is entered (R76, R78). -/
def startLevel (s : State) : State × List Task :=
  let taken := s.jacks
  let preempted := taken.any fun i => (s.fn i).activity.isBusy
  let s := preemptJacks .level taken s
  let done := taken.filter fun i => (s.fn i).contact
  let s := levelFrame (s.setSeq (.begun .autoLevel .level .ground taken done (positionsOf s taken)))
  firstRequests preempted groundRequest .groundRequest (taken.filter fun i => !done.contains i) s

/-- The jacks a STOW_JACKS takes: neither UNAVAILABLE nor FAULTED (R90, R91). -/
def State.stowable (s : State) : List Slot :=
  s.jacks.filter fun i => (s.fn i).activity != .faulted

/-- The checks of a STOW_JACKS request (R90). -/
def stowVerdict (o : Owner) (s : State) : Option RefusalReason :=
  if s.seqRuns ∧ (s.sequence.owner = some .travel ∨ o = .level) then some .busy
  else if s.stowable.isEmpty then some .notReady
  else if s.store.storing.isSome then some .storing
  else if o = .level ∧ s.monitor.swapPending then some .swapPending
  else if o = .level ∧ s.stowable.any (fun i => !cellAuto (s.cell s.monitor.posture i)) then
    some .notPermitted
  else none

/-- A STOW_JACKS is accepted and STOWING is entered (R91). -/
def startStow (o : Owner) (s : State) : State × List Task :=
  let taken := s.stowable
  let preempted := taken.any fun i => (s.fn i).activity.isBusy
  let s := preemptJacks o taken s
  let done := taken.filter fun i => (s.fn i).posClass == .stowed
  let s := levelFrame (s.setSeq (.begun .stowJacks o .stowing taken done (positionsOf s taken)))
  firstRequests preempted stowRequest .stowRequest (taken.filter fun i => !done.contains i) s

/-- STOP_SEQUENCE aborts a running sequence with reason STOPPED, and leaves the hold records of its jacks as they
are (R95). R18 and R93 would turn the ACTIVE record of a jack that the abort stops REFUSED; R95's own sentence
governs here (log entry 47). -/
def stopSequence (s : State) : State := { abortSequence true .stopped s with holds := s.holds }

/-- A sequence request of an operator (R75, R90, R95). -/
def operatorSequence (which : SeqRequest) (s : State) : State × List Task :=
  match which with
  | .autoLevel =>
    match levelVerdict s with
    | none => startLevel s
    | some r => (refusalSeqFrame .autoLevel verbAuto r s, [])
  | .stowJacks =>
    match stowVerdict .level s with
    | none => startStow .level s
    | some r => (refusalSeqFrame .stowJacks Direction.retract.code r s, [])
  | .stopSequence => (stopSequence s, [])

/-- STOW_JACKS of owner TRAVEL: a LEVEL sequence is aborted PREEMPTED first; the service pass of its
release comes before the new sequence's requests (R90). -/
def travelStow (s : State) : State × List Task :=
  match stowVerdict .travel s with
  | some _ => (s, [])
  | none =>
    if s.seqRuns then (abortSequence true .preempted s, [.servicePass, .travelStow])
    else startStow .travel s

/-! ### GROUND (R79 to R81) -/

/-- The jack is on its ground request. -/
def State.onGround (s : State) (i : Slot) : Bool :=
  s.sequence.phase == .ground && s.isTaken i && !s.isFinished i

/-- A report of a jack on a ground move: contact stops and finishes it, WAITING or MOVING; an extend end
without contact faults it NO_GROUND (R79). -/
def groundReport (i : Slot) (s : State) : State :=
  let f := s.fn i
  if f.contact ∧ (f.activity = .waiting ∨ f.activity = .moving) then
    markFinished i (stopFn true i .endReached s)
  else if f.activity = .moving ∧ f.chA.position.any (inWindow (s.cfg i) .extend) then
    faultFn i .noGround s
  else s

/-- A jack's travel in GROUND or STOWING (R80). -/
def travelOf (s : State) (i : Slot) : Int :=
  let start : Int := lookupPos (s.sequence.starts.getD []) i
  let p : Int := (s.fn i).position.getD 0
  if s.sequence.phase = .stowing then start - p else p - start

/-- A jack that the twist rule compares: unfinished and MOVING. -/
def State.isCompared (s : State) (i : Slot) : Bool := s.isTaken i && !s.isFinished i && s.moves i

/-- The twist rule for one member against the other (R80). -/
def twistMember (limit : Nat) (i other : Slot) (s : State) : State :=
  let lead := travelOf s i - travelOf s other
  if s.sequence.twistHeld.contains i then
    if lead ≤ (limit / 2 : Nat) then releaseTwist i s else s
  else if (limit : Int) < lead then
    reorder i (s.setSeq { s.sequence with twistHeld := s.sequence.twistHeld ++ [i] })
  else s

/-- The twist rule at a report of a jack (R80). -/
def twistRule (i : Slot) (s : State) : State :=
  if s.sequence.phase = .ground ∨ s.sequence.phase = .stowing then
    match s.takenPartner i with
    | none => s
    | some p =>
      if s.isCompared i && s.isCompared p then
        let limit := s.settings.levelling.twistLimit
        twistMember limit p i (twistMember limit i p s)
      else s
  else s

/-- GROUND has every taken jack finished (R81). -/
def groundDone (s : State) : Bool :=
  s.sequence.phase == .ground && s.sequence.taken.all s.isFinished

/-- GROUND ends and SAMPLE begins (R81). -/
def endGround (s : State) : State :=
  levelFrame (s.setSeq { s.sequence with
    phase := .sample, twistHeld := [], starts := none, finished := []
    settleTimer := startTimer s.now s.settings.levelling.settleTime
    sampleTimer := startTimer s.now s.settings.levelling.sampleTimeout })

/-! ### The reading and the solve (R74, R82 to R85) -/

/-- S ÷ 10000, rounded half away from zero (R84). -/
def heightOf (x y gp gr : Int) : Int :=
  let n := x * gp + y * gr
  n.sign * ((n.natAbs + 5000) / 10000 : Nat)

/-- The heights of the taken jacks (R84). -/
def heights (s : State) (gp gr : Int) : List (Slot × Int) :=
  s.sequence.taken.map fun i =>
    (i, heightOf (s.settings.geometry[i]).x (s.settings.geometry[i]).y gp gr)

/-- The highest of a list of heights; 0 for an empty list. -/
def highest : List (Slot × Int) → Int
  | [] => 0
  | [p] => p.2
  | p :: rest => max p.2 (highest rest)

/-- The upper bound of a jack's target (R85). -/
def targetBound (c : FunctionConfig) : Nat := c.stroke - c.endWindow

/-- The target before its clamp: the present position, the lift, and on pass 1 the margin (R85). -/
def rawTarget (s : State) (pass : Nat) (h : Int) (p : Slot × Int) : Nat :=
  (s.fn p.1).position.getD 0 + (h - p.2).toNat
    + (if pass = 1 then s.settings.levelling.liftMargin else 0)

/-- The solve of a pass: the targets, and whether one was clamped (R84, R85). -/
def solve (s : State) (pass : Nat) (gp gr : Int) : List (Slot × Nat) × Bool :=
  let hs := heights s gp gr
  let h := highest hs
  (hs.map fun p => (p.1, min (targetBound (s.cfg p.1)) (rawTarget s pass h p)),
    hs.any fun p => decide (targetBound (s.cfg p.1) < rawTarget s pass h p))

/-! ### Lift steps (R86, R87) -/

/-- The jacks of the next step with their step targets (R86). -/
def nextStep (s : State) : List (Slot × Nat) :=
  (s.sequence.targets.getD []).filterMap fun p =>
    let pos := (s.fn p.1).position.getD 0
    if pos + 2 < p.2 then some (p.1, pos + min (p.2 - pos) s.settings.levelling.liftStep) else none

/-- Write a phase; a change of phase asks for a LEVEL frame (R74). -/
def setPhase (p : Phase) (s : State) : State :=
  if s.sequence.phase = p then s else levelFrame (s.setSeq { s.sequence with phase := p })

/-- Form the next lift step, or end LIFT where no jack is short of its target, which the first step of a pass
may find at once: the phase is LIFT then too before it is SETTLE (R83, R86, R87). -/
def formStep (s : State) : State × List Task :=
  let s := setPhase .lift s
  match nextStep s with
  | [] =>
    (setPhase .settle (s.setSeq { s.sequence with
      stepTargets := none
      settleTimer := startTimer s.now s.settings.levelling.settleTime }), [])
  | ts =>
    (s.setSeq { s.sequence with stepTargets := some ts }, ts.map fun p => .liftRequest p.1)

/-- Every jack of the step has come to rest (R87). -/
def stepDone (s : State) : Bool :=
  s.sequence.phase == .lift &&
    match s.sequence.stepTargets with
    | some ts => ts.all fun p => (s.fn p.1).activity == .idle
    | none => false

/-- The step ends where every jack of it has completed (R87). -/
def stepEnd (s : State) : State × List Task :=
  if stepDone s then formStep (s.setSeq { s.sequence with stepTargets := none }) else (s, [])

/-! ### Evaluating a reading (R83) -/

/-- The levelled flag is set (R32). -/
def setLevelled (s : State) : State := { s with monitor := { s.monitor with levelled := true } }

/-- A sequence ends by itself while its jacks rest (R89). -/
def endSequenceAs (r : SeqResult) (s : State) : State :=
  let s := endSequence true r .stopped s
  if r = .levelOk then setLevelled s else s

/-- A usable reading is evaluated (R83). -/
def evaluate (gp gr : Int) (s : State) : State × List Task :=
  let p := s.settings.levelling
  let q := s.sequence
  if q.pass = 0 ∧ (p.maxStartGrade < gp.natAbs ∨ p.maxStartGrade < gr.natAbs) then
    (endSequenceAs .tooSteep s, [])
  else if gp.natAbs ≤ p.tolerance ∧ gr.natAbs ≤ p.tolerance then (endSequenceAs .levelOk s, [])
  else if q.pass = p.maxPasses then
    (endSequenceAs (if q.limited then .levelLimited else .outOfTolerance) s, [])
  else
    let solved := solve s (q.pass + 1) gp gr
    formStep (s.setSeq { s.sequence with
      pass := q.pass + 1, targets := some solved.1, limited := q.limited || solved.2 })

/-- A TILT reading of the level sensor node is handed to the sequencer (R74, R82). -/
def takeReading (pitch roll : Int) (stable : Bool) (s : State) : State × List Task :=
  if s.seqRuns ∧ s.sequence.kind = some .autoLevel then
    let gp := clampInt (-2000) 2000 pitch
    let gr := clampInt (-2000) 2000 roll
    let s := s.setSeq { s.sequence with reading := some (gp, gr, stable) }
    if s.sequence.phase = .sample ∧ s.sequence.settleTimer.isNone ∧ stable then
      evaluate gp gr (s.setSeq { s.sequence with sampleTimer := none })
    else (s, [])
  else (s, [])

/-! ### The end of STOWING (R91) -/

/-- STOWING has every taken jack finished. -/
def stowDone (s : State) : Bool :=
  s.sequence.phase == .stowing && s.sequence.taken.all s.isFinished

/-- STOWING ends: STOWED where every available jack is, else STOW_FAILED (R91). -/
def endStow (s : State) : State :=
  endSequenceAs
    (if s.jacks.all fun i => (s.fn i).posClass == .stowed then .stowed else .stowFailed) s

/-! ### A jack comes to rest -/

/-- What the sequencer does when a taken jack has passed its verify (R87, R91). -/
def jackRested (i : Slot) (s : State) : State × List Task :=
  if s.isTaken i ∧ (s.fn i).activity = .idle then
    match s.sequence.phase with
    | .stowing => (markFinished i s, [])
    | .lift => (s, [.stepEnd])
    | _ => (s, [])
  else (s, [])

end Sys2Proof.Machine
end

