-- ==== Sys2Proof/Machine/Supply.lean ====
section
/-! DEFINITION. The supply budget's limit and low-supply timer (R65, R67), the duty expiry (R62), the prime
and hold-on of the pump (R60, R61), and the pump's silence (R63). -/

namespace Sys2Proof.Machine

/-! ### The effective limit (R65) -/

/-- The effective limit that a supply voltage gives (R65). -/
def limitAt (c : SupplyConfig) (v : Nat) : Nat :=
  if c.vLow ≤ v then c.supplyLimit
  else if v ≤ c.vCut then 0
  else c.supplyLimit * (v - c.vCut) / (c.vLow - c.vCut)

/-- Write the effective limit as the voltage held gives it (R65). -/
def computeLimit (s : State) : State :=
  { s with budget := { s.budget with
      effectiveLimit := limitAt s.settings.supply (s.value .supplyVoltage) } }

/-- Act on the low-supply timer at a computation other than the start's (R67). -/
def judgeLowSupply (s : State) : State :=
  if s.value .supplyVoltage ≤ s.settings.supply.vCut then
    match s.budget.lowTimer with
    | .idle => { s with budget := { s.budget with
        lowTimer := .running (s.now + s.settings.supply.lowDuration) } }
    | .running _ | .expired => s
  else
    match s.budget.lowTimer with
    | .idle => s
    | .running _ => { s with budget := { s.budget with lowTimer := .idle } }
    | .expired => setAlarm .lowSupply false { s with budget := { s.budget with lowTimer := .idle } }

/-- A change of the supply voltage or of the budget's configuration (R65, R67). -/
def supplyChanged (s : State) : State := judgeLowSupply (computeLimit s)

/-- The slots in an activity. -/
def State.slotsIn (s : State) (a : Activity) : List Slot := slots.filter fun i => (s.fn i).activity == a

/-- The slots that wait with reason PRIME. -/
def State.primeSlots (s : State) : List Slot :=
  slots.filter fun i => (s.fn i).activity == .waiting && (s.fn i).waitReason == some .prime

/-- The low-supply expiry (R67). -/
def lowSupplyExpired (s : State) : State :=
  let s := setAlarm .lowSupply true { s with budget := { s.budget with lowTimer := .expired } }
  let s := stopAll true .lowSupply (s.primeSlots) (stopAll true .lowSupply (s.slotsIn .moving) s)
  stopPump true (abortSequence true .stopped s)

/-! ### The duty limit (R62) -/

/-- The MOVING hydraulic functions. -/
def State.movingHydraulics (s : State) : List Slot :=
  (s.slotsIn .moving).filter fun i => (s.cfg i).kind.isHydraulic

/-- A running sequence that holds the grant aborts PUMP_DUTY (R62 step 2). -/
def abortHolder (s : State) : State :=
  match s.manifold.holder with
  | some g => if g.sequence then abortSequence true .pumpDuty s else s
  | none => s

/-- The run time has reached the duty limit (R62). -/
def dutyExpired (s : State) : State :=
  let waiting := s.primeSlots
  let s := stopAll true .pumpDuty waiting (stopAll true .pumpDuty s.movingHydraulics s)
  let s := abortHolder s
  coolPump (s.setManifold { s.manifold with holder := none })

/-! ### The pump's timers and its pressure (R60, R61, R62) -/

/-- A report of the pump's channel (R60): at the first pressure at or above the ready pressure the prime
ends, and the functions waiting PRIME go MOVING in ascending slot order. -/
def pumpPressure (pressure : Nat) (s : State) : State :=
  if s.manifold.pump = .priming ∧ s.settings.manifold.readyPressure ≤ pressure then
    match s.primeSlots with
    | [] => holdOnPump s
    | is => is.foldl (fun s i => startMove i s)
        (s.setManifold { s.manifold with pump := .ready, primeTimer := none })
  else s

/-- The prime timer's expiry: every function waiting PRIME faults, a sequence that took one of them ends, and
the pump stops (R60). -/
def primeExpired (s : State) : State :=
  stopPump true (faultFns s.primeSlots .pumpNoPressure s)

/-- The cool-down timer's expiry (R62). -/
def coolDownOver (s : State) : State :=
  setAlarm .pumpDuty false (s.setManifold { s.manifold with
    pump := .stopped, runTime := 0, coolTimer := none })

end Sys2Proof.Machine
end

