-- ==== Sys2Proof/Machine/Awnings.lean ====
section
/-! DEFINITION. The awning controller: the judgement of the wind (R116), the wind, travel and owed
retracts (R117, R118, R122), the retry of an obstructed awning (R119), the calm expiry (R120), and the
CLEAR of a fault that the retry shares with an operator's (R20). -/

namespace Sys2Proof.Machine

def State.setWind (s : State) (w : WindRecord) : State := { s with wind := w }

/-- A value of WIND_SPEED is judged against the gust threshold (R116). -/
def windJudged (s : State) : State :=
  let w := s.wind
  if s.isWindy then
    s.setWind { w with
      gustTimer := if w.gustTimer.isSome then w.gustTimer else startTimer s.now s.settings.wind.gustTime
      calmTimer := none }
  else
    s.setWind { w with
      gustTimer := none
      calmTimer :=
        if w.calmTimer.isSome then w.calmTimer
        else if w.lockout then startTimer s.now (s.settings.wind.calmTime * 1000)
        else none }

/-! ### CLEAR (R20) -/

/-- The flags last reported for every drive channel of a slot. -/
def State.lastFlags (s : State) (i : Slot) : List Byte :=
  (s.cfg i).drives.filterMap fun d => (s.channelRecord d).bind (·.flags)

/-- The last reported pressure is below the overload pressure. -/
def State.belowOverload (s : State) (i : Slot) : Bool :=
  match (s.cfg i).drive .a with
  | none => false
  | some d =>
    match (s.channelRecord d).bind (·.load) with
    | none => false
    | some p => decide (p < (s.cfg i).overload)

/-- The cause of a fault is gone (R20). -/
def causeGone (s : State) (i : Slot) : Bool :=
  (s.boundNodes i).all (fun n => (s.node n).state == .live) &&
    match (s.fn i).fault with
    | some .driverFault => (s.lastFlags i).all fun b => !reportDriverFault b
    | some .overTemp => (s.lastFlags i).all fun b => !reportOverTemp b
    | some .overload => s.belowOverload i
    | _ => true

/-- The fault of a slot is cleared: IDLE, with the class computed again (R20). -/
def clearFault (i : Slot) (s : State) : State :=
  let f := { s.fn i with fault := none, activity := .idle }
  putFn i { f with posClass := classOf (s.cfg i) f } s

/-! ### Retracts (R117 to R119, R122) -/

/-- A RETRACT request for an awning. -/
def retractRequest (i : Slot) (o : Owner) : Request := ⟨i, .retract, o, none, none, false, false⟩

/-- A WIND retract and what its refusal does (R117, R118). -/
def windRetract (i : Slot) (s : State) : State × List Task :=
  match verdict s (retractRequest i .wind) with
  | none => (accept (retractRequest i .wind) s, [.servicePass])
  | some .notReady | some .storing => (s.setOwed i true, [])
  | some _ => (s, [])

/-- A TRAVEL retract; its refusal has no effect (R122). -/
def travelRetract (i : Slot) (s : State) : State × List Task :=
  match verdict s (retractRequest i .travel) with
  | none => (accept (retractRequest i .travel) s, [.servicePass])
  | some _ => (s, [])

/-- An obstructed awning is taken back once during a lockout (R119). Its WIND request is sent at once, in DOZE and
in posture FAULT too, where R117 marks an awning owed instead: the model's choice (log entry 45). -/
def retryObstructed (i : Slot) (s : State) : State × List Task :=
  if s.wind.retryUsed[i] || !causeGone s i then (s, [])
  else windRetract i (clearFault i (s.setWind { s.wind with retryUsed := s.wind.retryUsed.set i true }))

/-- What a gust expiry does with one awning (R117). -/
def gustRetract (i : Slot) (s : State) : State × List Task :=
  let f := s.fn i
  if f.posClass = .stowed then (s, [])
  else if f.activity = .faulted then
    if f.fault = some .obstruction then retryObstructed i s else (s, [])
  else if s.store.doze ∨ s.monitor.posture = .fault then (s.setOwed i true, [])
  else windRetract i s

/-- The awnings, ascending. -/
def State.awnings (s : State) : List Slot := slots.filter fun i => (s.cfg i).kind == .awning

/-- The gust expiry: the lockout is set and the wind retracts follow (R117). -/
def gustExpired (s : State) : State × List Task :=
  let s := setAlarm .wind true (s.setWind { s.wind with gustTimer := none, lockout := true })
  (s, s.awnings.map .gustRetract)

/-- The calm expiry (R120). -/
def calmExpired (s : State) : State :=
  setAlarm .wind false (s.setWind { s.wind with
    calmTimer := none, lockout := false
    retryUsed := Vector.replicate 16 false, owed := Vector.replicate 16 false })

/-- An owed retract is sent where it can be (R118). -/
def owedRetract (i : Slot) (s : State) : State × List Task :=
  if (s.cfg i).kind = .awning ∧ s.wind.owed[i] ∧ (s.fn i).posClass ≠ .stowed
      ∧ (s.fn i).activity = .idle ∧ ¬ s.store.doze ∧ s.monitor.posture ≠ .fault then
    windRetract i s
  else (s, [])

/-- Every awning whose retract may be owed, ascending (R118). -/
def serveOwed (s : State) : List Task := s.awnings.map .owedRetract

/-- The travel retracts of the ignition trigger (R122). -/
def travelRetracts (s : State) : List Task :=
  (s.awnings.filter fun i => (s.fn i).posClass != .stowed).map .travelRetract

end Sys2Proof.Machine
end

