-- ==== Sys2Proof/Machine/Link.lean ====
section
/-! DEFINITION. The link manager: census start, end and abandonment (R156 to R161), the binding check
(R162), report intake and strays (R163 to R165, R200), node silence (R166), the motion power enable line
(R167), and with them the entry into UNAVAILABLE (R8), the posture's change into FAULT (R37), and the
entry into DOZE and the wake (R196). -/

namespace Sys2Proof.Machine

def State.setLink (s : State) (l : LinkManager) : State := { s with link := l }

/-! ### The posture and the outcome -/

/-- Write the posture; a change asks for a POSTURE frame (R38). -/
def setPosture (p : Posture) (s : State) : State :=
  if s.monitor.posture = p then s
  else postureFrame .change { s with monitor := { s.monitor with posture := p } }

/-- A posture change into FAULT calls for the halt effects (R37). -/
def enterFault (s : State) : State :=
  if s.monitor.posture = .fault then s else haltEffects (setPosture .fault s)

/-- Write the census outcome; a change asks for a POSTURE frame (R156). -/
def setOutcome (o : CensusOutcome) (s : State) : State :=
  if s.link.outcome = o then s else postureFrame .change (s.setLink { s.link with outcome := o })

/-- The motion power enable line is judged (R167). -/
def judgePowerLine (s : State) : State := s.setLink { s.link with powerLine := powerLineHolds s }

/-! ### UNAVAILABLE (R8) -/

/-- The record of a slot at a census start (R5, R8, R31, R97). -/
def Function.uncounted (f : Function) : Function :=
  { f with
    activity := .unavailable, fault := none, posClass := .unknown
    chA := Channel.start, chB := Channel.start
    contact := false, contactTimer := none, skewHold := none }

/-- A channel with its position and load absent, whose node is not awaited. -/
def Channel.unread (ch : Channel) : Channel := { ch with position := none, load := none, awaited := false }

/-- The record of a slot whose kind or channels change (R8, R31). -/
def Function.unbound (f : Function) : Function :=
  { f.resting.uncounted with
    drift := none, chA := f.chA.released.unread, chB := f.chB.released.unread }

/-- Every slot becomes UNAVAILABLE and every hold record NONE (R8, R22). -/
def clearFunctions (s : State) : State :=
  slots.foldl (fun s i => putHold i Hold.start (putFn i (s.fn i).uncounted s)) s

/-! ### The census (R156 to R161) -/

/-- What every end and abandonment does first: the chain line, the timer, the outstanding number and the
enrolment frames held (R161 step 1). -/
def closeCensus (s : State) : State :=
  let s := withdrawEnrol s
  s.setLink { s.link with chainLine := false, enrolTimer := none, outstanding := none }

/-- Every entry of the node table becomes ABSENT (R155). -/
def clearNodes (s : State) : State :=
  s.setLink { s.link with nodes := Vector.replicate 24 Node.absent }

/-- A running census is abandoned (R161). -/
def abandonCensus (s : State) : State :=
  if s.link.outcome = .running then
    let s := clearNodes (setOutcome .notRun (closeCensus s))
    s.setLink { s.link with count := 0 }
  else s

/-- A census starts (R157). -/
def startCensus (s : State) : State :=
  let s := setOutcome .running s
  let s := setAlarm .censusFault false (s.setLink { s.link with count := 0, strays := 0 })
  let s := judgePowerLine (enterFault s)
  let s := abortSequence false .halted (stopAll false .halted slots s)
  let s := clearFunctions (stopPump false (clearArbiter s))
  let s := discardOrders (clearNodes s)
  offerEnrol .forget
    (s.setLink { s.link with enrolTimer := none, outstanding := none, chainLine := false })

/-! ### The binding check (R162) -/

/-- The node and channel exist, on a node of a kind. -/
def State.onKind (s : State) (k : NodeKind) (d : DriveRef) : Bool :=
  let n := s.node d.node
  n.state != .absent && n.kind == k && decide (d.channel < n.channels.length)

/-- A drive channel is not named by another slot of a kind other than UNUSED, nor by the pump
reference. -/
def State.ownChannel (s : State) (i : Slot) (d : DriveRef) : Bool :=
  s.settings.manifold.pump != some d &&
    !slots.any fun j => j != i && (s.cfg j).kind != .unused && (s.cfg j).drives.contains d

/-- The pump reference is present and on a PUMP node. -/
def State.pumpBound (s : State) : Bool :=
  match s.settings.manifold.pump with
  | some d => s.onKind .pump d
  | none => false

/-- The level sensor node is present and of kind LEVEL_SENSOR. -/
def State.sensorBound (s : State) : Bool :=
  match s.settings.levelling.sensorNode with
  | some n => (s.node n).state != .absent && (s.node n).kind == .levelSensor
  | none => false

/-- The node kind that a function kind's drive channels lie on. -/
def Kind.nodeKind (k : Kind) : NodeKind := if k.isMotor then .motorPair else .valveBank

/-- How many drive channels a kind needs (R1). -/
def Kind.driveCount : Kind → Nat
  | .slideTwin => 2
  | _ => 1

/-- A slot of a kind other than UNUSED passes the binding check (R162). -/
def bindingHolds (s : State) (i : Slot) : Bool :=
  let c := s.cfg i
  decide (c.drives.length = c.kind.driveCount)
    && decide c.drives.Nodup
    && c.drives.all (fun d => s.onKind c.kind.nodeKind d && s.ownChannel i d)
    && (!c.kind.isHydraulic || s.pumpBound)
    && (c.kind != .jack || s.sensorBound)

/-- A drive channel of the slot lies on a node that was SILENT at the binding check and has not reported
since (R162). -/
def State.awaitsNode (s : State) (i : Slot) : Bool :=
  (s.cfg i).sides.any fun e => ((s.fn i).chan e).awaited

/-- A slot that has passed its binding check becomes IDLE with every position present, once no node that
was SILENT at the check is awaited (R8, R162). The awning that leaves UNAVAILABLE for IDLE may be owed its
retract (R118). -/
def becomeIdle (i : Slot) (s : State) : State × List Task :=
  let f := s.fn i
  if f.activity = .unavailable ∧ f.fault = none ∧ (s.cfg i).kind ≠ .unused
      ∧ s.link.outcome = .complete ∧ s.allPositions i ∧ ¬ s.awaitsNode i then
    (putFn i { f with activity := .idle } s, [.owedRetract i])
  else (s, [])

/-- The node of a drive channel of the slot is SILENT. -/
def State.silentDrive (s : State) (i : Slot) (e : Side) : Bool :=
  ((s.cfg i).drive e).any fun d => (s.node d.node).state == .silent

/-- A slot is judged by the binding check while the outcome is COMPLETE: one that fails is faulted
CONFIG_MISMATCH, and one that passes awaits each of its nodes that is SILENT (R162). -/
def checkBinding (i : Slot) (s : State) : State :=
  if s.link.outcome = .complete ∧ (s.cfg i).kind ≠ .unused ∧ (s.fn i).activity = .unavailable then
    let f := s.fn i
    if bindingHolds s i then
      putFn i { f with
        fault := none
        chA := { f.chA with awaited := s.silentDrive i .a }
        chB := { f.chB with awaited := s.silentDrive i .b } } s
    else putFn i { f with fault := some .configMismatch } s
  else s

/-- Slots become IDLE in the order of the list where R8 and R162 let them, with the owed retracts that follow. -/
def becomeIdleAll (is : List Slot) (s : State) : State × List Task :=
  is.foldl (fun r i => let t := becomeIdle i r.1; (t.1, r.2 ++ t.2)) (s, [])

/-- The bindings of some slots are checked again (R8). The slots that pass with every position present
become IDLE. -/
def recheck (is : List Slot) (s : State) : State × List Task :=
  (is.foldl (fun s i => checkBinding i s) s, is.map .becomeIdle)

/-- A slot becomes UNAVAILABLE as its kind, channels or bindings change (R8, R68, R70). Its positions are
absent then, and the re-check that follows finds them so until the next report, although R162 says of a
channel that reported since the census start that its position is present at the check: the model's choice
(log entry 36). A running sequence that took it aborts with reason FAULT (R92, R94). -/
def unbindFn (i : Slot) (s : State) : State :=
  let taken := s.isTaken i
  let s := putFn i (s.fn i).unbound (leaveList i s)
  if taken then abortSequence true .fault s else s

/-! ### The end of a census (R159 to R161) -/

/-- A census ends with an outcome and a count (R161). At a COMPLETE end every slot is judged, and the slots that
pass with every position present become IDLE at the check itself (R162), before the posture is derived again. -/
def endCensus (o : CensusOutcome) (count : Nat) (s : State) : State × List Task :=
  let s := closeCensus s
  let s := setOutcome o (s.setLink { s.link with count := count })
  if o = .complete then becomeIdleAll slots (slots.foldl (fun s i => checkBinding i s) s)
  else (setAlarm .censusFault true s, [])

/-- The enrolment timer's expiry (R159). -/
def enrolmentExpired (s : State) : State × List Task :=
  match s.link.outstanding with
  | some 0 => endCensus .complete 24 s
  | some 1 => endCensus .empty 0 s
  | some n => endCensus .complete (n - 1) s
  | none => (s, [])

/-- A frame is set aside as a stray (R160, R165, R200). -/
def stray (s : State) : State := s.setLink { s.link with strays := bump s.link.strays }

/-- A channel record before its first report (R155). -/
def ChannelRecord.blank : ChannelRecord := ⟨none, none, none, none, none⟩

/-- The entry of a node that has answered (R158). -/
def Node.enrolled (kindCode channels hardware : Nat) : Node where
  state := .enrolled
  kind := NodeKind.ofCode kindCode
  hardwareClass := hardware
  channels := List.replicate (clampNat 1 8 channels) ChannelRecord.blank
  gaps := 0
  silenceTimer := none

/-- The number is enrolled in this census. -/
def State.isEnrolled (s : State) (n : Nat) : Bool := (s.node n).state != .absent

/-- The number of nodes enrolled. -/
def State.enrolledCount (s : State) : Nat := (s.link.nodes.toList.filter fun n => n.state != .absent).length

/-- An ENROL_ACK carrying a number (R158 to R160). -/
def enrolAnswer (n kindCode channels hardware : Nat) (s : State) : State × List Task :=
  if s.link.outcome ≠ .running then (stray s, [])
  else if s.isEnrolled n then endCensus .conflict s.enrolledCount s
  else if s.link.outstanding = some n then
    if n = 0 then endCensus .excess 24 s
    else
      let s := s.setNode n (Node.enrolled kindCode channels hardware)
      (offerEnrol (.pass n) (s.setLink { s.link with enrolTimer := none, count := n }), [])
  else (stray s, [])

/-! ### Reports (R163 to R165) -/

/-- The sequence after another of a report, 255 being followed by 0. -/
def isNextReport (last : Option Nat) (seq : Nat) : Bool :=
  match last with
  | none => true
  | some k => seq == (k + 1) % 256

/-- A node's entry after a report of one channel: LIVE, the gap counted, the silence timer restarted but
for DOZE (R163, R164, R168). -/
def Node.reported (x : Node) (ch : Nat) (r : ChannelRecord) (gap doze : Bool) (expiry : Timer) : Node :=
  { x with
    state := .live
    channels := x.channels.set ch r
    gaps := if gap then bump x.gaps else x.gaps
    silenceTimer := if doze then x.silenceTimer else expiry }

/-- The node has reported: no channel of the slot on it is awaited any more (R162). -/
def Function.heard (f : Function) (c : FunctionConfig) (n : Nat) : Function :=
  let on (e : Side) : Bool := (c.drive e).any fun d => d.node == n
  { f with
    chA := { f.chA with awaited := f.chA.awaited && !on .a }
    chB := { f.chB with awaited := f.chB.awaited && !on .b } }

/-- The slots that await a node, ascending. -/
def State.awaiting (s : State) (n : Nat) : List Slot :=
  slots.filter fun i => (s.fn i).heard (s.cfg i) n != s.fn i

/-- A node that was awaited has reported (R162). -/
def hearNode (n : Nat) (s : State) : State :=
  (s.awaiting n).foldl (fun s i => s.storeFn i ((s.fn i).heard (s.cfg i) n)) s

/-- Write a report into the channel record of a node (R163 steps 1 to 3). -/
def recordReport (n ch : Nat) (r : ChannelRecord) (s : State) : State :=
  let x := s.node n
  let last := (x.channels[ch]?).bind (·.sequence)
  let gap := !isNextReport last (r.sequence.getD 0)
  s.setNode n (x.reported ch r gap s.store.doze (startTimer s.now s.settings.timing.silenceLimit))

/-- The node kinds that send REPORT (R163). -/
def NodeKind.reports : NodeKind → Bool
  | .valveBank | .pump | .motorPair => true
  | _ => false

/-- A REPORT of full length that the link manager cannot place (R165). -/
def reportIsStray (f : Frame) (s : State) : Bool :=
  let x := s.node (linkNode f.ident)
  x.state == .absent || decide (x.channels.length ≤ (frameByte f 0).toNat) || !x.kind.reports

/-- A TILT of full length that the link manager cannot place (R165). -/
def tiltIsStray (f : Frame) (s : State) : Bool :=
  let x := s.node (linkNode f.ident)
  x.state == .absent || x.kind != .levelSensor

/-- An ENROL_ACK of full length that is a stray (R160). -/
def ackIsStray (f : Frame) (s : State) : Bool :=
  let n := (frameByte f 0).toNat
  s.link.outcome != .running || (!s.isEnrolled n && s.link.outstanding != some n)

/-- A REPORT frame of full length from a node (R163): recorded, and handed to the slots whose drive channel
it is, to the arbiter and to the order scheduler. A slot that awaited the node may become IDLE (R162). -/
def takeReport (f : Frame) (s : State) : State × List Task :=
  let n := linkNode f.ident
  let ch := (frameByte f 0).toNat
  if reportIsStray f s then (stray s, [])
  else
    let load := (word16Of (frameByte f 3) (frameByte f 4)).toNat
    let seen := (frameByte f 7).toNat
    let r : ChannelRecord :=
      ⟨some (word16Of (frameByte f 1) (frameByte f 2)).toNat, some load, some (frameByte f 5),
        some (frameByte f 6).toNat, some seen⟩
    let d : DriveRef := ⟨n, ch⟩
    let users := slots.filter fun i => (s.cfg i).kind != .unused && (s.cfg i).drives.contains d
    (hearNode n (recordReport n ch r s),
      users.map (Task.slotReport · d) ++ (s.awaiting n).map .becomeIdle
        ++ (if s.settings.manifold.pump = some d then [.pumpReport load] else [])
        ++ [.stopResend d seen])

/-- A TILT frame of full length from a node (R164). -/
def takeTilt (f : Frame) (s : State) : State × List Task :=
  let n := linkNode f.ident
  let x := s.node n
  if tiltIsStray f s then (stray s, [])
  else
    let pitch := (word16Of (frameByte f 0) (frameByte f 1)).toInt
    let roll := (word16Of (frameByte f 2) (frameByte f 3)).toInt
    let stable := (frameByte f 4).getLsbD 0
    let old := (x.channels[0]?).bind (·.orderSeen)
    let s' := recordReport n 0
      ⟨some pitch, some roll, some (flagByte stable), some (frameByte f 5).toNat, old⟩ s
    if s.settings.levelling.sensorNode = some n then takeReading pitch roll stable s'
    else (s', [])

/-! ### Silence (R63, R166) -/

/-- Every slot bound to a silent node faults, and a running pump on it stops (R63, R166). -/
def silentNode (n : Nat) (s : State) : State :=
  let s := s.setNode n { s.node n with state := .silent, silenceTimer := none }
  let s := faultFns (slots.filter fun i => (s.boundNodes i).contains n) .nodeSilent s
  if s.settings.manifold.pump.any fun d => d.node == n then stopPump true s else s

/-! ### DOZE (R168, R196) -/

/-- Every running silence timer is cancelled (R168). -/
def cancelSilence (s : State) : State :=
  s.setLink { s.link with nodes := s.link.nodes.map fun x => { x with silenceTimer := none } }

/-- The part enters DOZE (R196). -/
def enterDoze (s : State) : State :=
  let s := { s with
    store := { s.store with doze := true, dozeTimer := none }
    orders := { s.orders with refreshTimer := none }
    statusTimer := none }
  judgePowerLine (abandonCensus (cancelSilence s))

/-- The part wakes: the timers start and a census starts (R196). Enrolment frames of a census that an M-port
recovery started in DOZE, unsent still, are not withdrawn: FORGET and ASSIGN(1) go out again behind them, which the
spec leaves open and is the model's choice (log entry 52). -/
def wake (s : State) : State :=
  startCensus { s with
    store := { s.store with doze := false }
    orders := s.orders.restarted s.now s.settings.timing.refreshPeriod
    statusTimer := startTimer s.now s.settings.timing.statusPeriod }

/-- The doze timer's start value (R195). -/
def dozeExpiry (s : State) : Timer := startTimer s.now (s.settings.timing.dozeTime * 1000)

/-- An execution of a HOLD or REQUEST entry, or a frame handed to the management decoder: a part in DOZE
wakes, and a running doze timer restarts (R195, R196). -/
def touchDoze (s : State) : State :=
  if s.store.doze then wake s
  else if s.store.dozeTimer.isSome then { s with store := { s.store with dozeTimer := dozeExpiry s } }
  else s

end Sys2Proof.Machine
end

