-- ==== Sys2Proof/Machine/Posture.lean ====
section
/-! DEFINITION. The posture monitor: the delivery of a captured value (R26), the stale expiry (R27), the
hand-over of a change (R28), the ignition trigger (R39), the judgement of moves and sequences at a posture
change or bank swap (R35, R36, R50), and the bank exchange with the matrix CRC, window and cursor (R44 to
R50). -/

namespace Sys2Proof.Machine

/-! ### Signals (R26 to R28) -/

def State.setSignal (s : State) (g : Signal) (r : SignalRecord) : State :=
  { s with monitor := { s.monitor with signals := s.monitor.signals.set (signalIndex g) r } }

def State.sigCfg (s : State) (g : Signal) : SignalConfig := s.settings.signals[signalIndex g]

/-- A changed value is handed to the block that depends on it (R28). The posture's own re-derivation, and
the doze timer's conditions, follow at once by the machine's judgements (Machine/Cascade.lean). -/
def handOver (g : Signal) (s : State) : State :=
  match g with
  | .supplyVoltage => supplyChanged s
  | .windSpeed => windJudged s
  | .ignition | .parkBrake | .roadSpeed | .engineRun | .serviceMode => s

/-- Some jack is not STOWED (R39). -/
def State.jackOut (s : State) : Bool :=
  slots.any fun i => s.isJack i && (s.fn i).posClass != .stowed

/-- The two requests of the ignition trigger (R39). -/
def ignitionTasks (s : State) : List Task :=
  (if s.settings.levelling.travelStowJacks && s.jackOut then [Task.travelStow] else [])
    ++ (if s.settings.levelling.travelStowAwnings then travelRetracts s else [])

/-- IGNITION has gone from off to on at a capture: a part in DOZE wakes (R196), and otherwise the trigger
fires unless the posture is FAULT (R39). -/
def ignitionOn (s : State) : State × List Task :=
  if s.store.doze then (wake s, [])
  else if s.monitor.posture = .fault then (s, [])
  else (s, ignitionTasks s)

/-- A captured value is delivered (R26). -/
def deliver (g : Signal) (value : Nat) (source : EntryIndex) (s : State) : State × List Task :=
  let old := s.value g
  let s := s.setSignal g ⟨value, true, some source, startTimer s.now (s.sigCfg g).staleLimit⟩
  if value = old then (s, [])
  else
    let s := handOver g s
    if g = .ignition ∧ value = 1 then ignitionOn s else (s, [])

/-- A signal turns STALE (R27). -/
def staleExpired (g : Signal) (s : State) : State :=
  let r := s.signal g
  let v := match (s.sigCfg g).policy with
    | .hold => r.value
    | .safe => (s.sigCfg g).safeValue
  let s := s.setSignal g { r with value := v, fresh := false, timer := none }
  if v = r.value then s else handOver g s

/-! ### Judging moves and sequences again (R35, R36, R50) -/

/-- The direction of a running move for the matrix: the verb, or for a GOTO the direction of the target
from the present position of end A (R9, R35). -/
def matrixDirection (f : Function) : Direction :=
  match f.verb, f.target, f.position with
  | some .extend, _, _ => .extend
  | some .goto, some t, some p => directionTo t p
  | _, _, _ => .retract

/-- The new row allows the move of a function (R35). -/
def moveAllowed (s : State) (i : Slot) : Bool :=
  let f := s.fn i
  match f.owner with
  | .operator => cellAllows (s.cell s.monitor.posture i) (matrixDirection f)
  | .service => s.monitor.posture == .service && cellAllows (s.cell s.monitor.posture i) (matrixDirection f)
  | .level => cellAuto (s.cell s.monitor.posture i)
  | _ => true

/-- A function is judged again at a posture change: one that fails stops POSTURE_CHANGED, and a sequence
that took it aborts (R35, R36). -/
def judgeMove (i : Slot) (s : State) : State :=
  if (s.fn i).activity.isBusy && !moveAllowed s i then
    let taken := s.isTaken i
    let s := stopFn true i .postureChanged s
    if taken then abortSequence true .postureChanged s else s
  else s

/-- A running LEVEL sequence is judged as a whole (R36, R50). -/
def judgeSequence (s : State) : State :=
  if s.seqRuns ∧ s.sequence.owner = some .level
      ∧ s.sequence.taken.any (fun i => !cellAuto (s.cell s.monitor.posture i)) then
    abortSequence true .postureChanged s
  else s

/-- A derivation gives a different posture (R35 to R37, R118). -/
def changePosture (p : Posture) (s : State) : State × List Task :=
  if p = .fault then (enterFault s, [])
  else
    let owed := if s.monitor.posture = .fault then serveOwed s else []
    (setPosture p s, slots.map .judgeMove ++ [.judgeSequence] ++ owed)

/-! ### The matrix (R44 to R50) -/

/-- The CRC register combined with one byte (R47). -/
def crcByte (r : Word16) (v : Byte) : Word16 :=
  (List.range 8).foldl
    (fun r _ => if r.msb then (r <<< 1) ^^^ 0x1021 else r <<< 1)
    (r ^^^ (v.setWidth 16 <<< 8))

/-- The 16-bit check of R47 over a list of bytes. -/
def crc16 (bs : List Byte) : Word16 := bs.foldl crcByte 0xFFFF

/-- The 112 cell bytes of a bank in row-major order (R47). -/
def bankBytes (m : PermissionBank) : List Byte :=
  m.toList.flatMap fun row => row.toList.map fun c => c.setWidth 8

def Settings.setBank (c : Settings) (which : Bank) (x : PermissionBank) : Settings :=
  match which with
  | .a => { c with bankA := x }
  | .b => { c with bankB := x }

/-- The standby bank. -/
def State.standby (s : State) : PermissionBank := s.settings.bank s.settings.activeBank.other

/-- The banks exchange roles; a POSTURE frame shows the new active bank (R50). -/
def exchangeBanks (s : State) : State :=
  postureFrame .change { s with
    settings := { s.settings with activeBank := s.settings.activeBank.other }
    monitor := { s.monitor with swapPending := false } }

/-- The cell after a cell of the window (R45). -/
def Window.next (w : Window) (c : Cursor) : Cursor :=
  match w.order with
  | .rowWise =>
    if c.column = w.lastColumn then
      ⟨if c.row = w.lastRow then w.firstRow else c.row + 1, w.firstColumn⟩
    else ⟨c.row, c.column + 1⟩
  | .columnWise =>
    if c.row = w.lastRow then
      ⟨w.firstRow, if c.column = w.lastColumn then w.firstColumn else c.column + 1⟩
    else ⟨c.row + 1, c.column⟩

/-- The value a cell byte writes: above 7 it is 7 (R46). -/
def cellOf (v : Byte) : BitVec 3 := if v.toNat < 8 then v.setWidth 3 else 7

/-- Write one cell of the standby bank at the cursor, which advances (R45). -/
def writeCell (v : Byte) (s : State) : State :=
  let c := s.monitor.cursor
  let bank := s.standby
  let bank := bank.set c.row (bank[c.row].set c.column (cellOf v))
  { s with
    settings := s.settings.setBank s.settings.activeBank.other bank
    monitor := { s.monitor with cursor := s.monitor.window.next c } }

/-- Write a list of cells (R45). -/
def writeCellList (bs : List Byte) (s : State) : State := bs.foldl (fun s v => writeCell v s) s

end Sys2Proof.Machine
end

