-- ==== Sys2Proof/Machine/Matching.lean ====
section
/-! DEFINITION. The match engine: which entries an arrival matches (R126), the actions (R129 to R133),
the press of a HOLD entry on a hold record (R22), the operator requests of a REQUEST entry (R19, R20,
R24), and the reversal stop of an awning (R114). -/

namespace Sys2Proof.Machine

/-! ### Matching (R126) -/

/-- An entry's port fits an arrival at a port. -/
def EntryPort.fits : EntryPort → Port → Bool
  | .coach, .coach | .motion, .motion | .either, _ => true
  | _, _ => false

/-- The identifiers agree in every care bit; of a STANDARD entry only the lowest 11 apply (R125). -/
def identAgrees (form : Form) (care key ident : Ident) : Bool :=
  let care := if form = .standard then care &&& 0x7FF else care
  (key ^^^ ident) &&& care == 0

/-- The bytes agree in every care bit. -/
def byteAgrees (care key v : Byte) : Bool := (key ^^^ v) &&& care == 0

/-- An entry matches a frame of a form, identifier, length and first two bytes at a port (R126). -/
def entryMatches (masks : Vector MaskRecord 8) (e : EntryConfig) (port : Port) (form : Form)
    (ident : Ident) (length : Nat) (b0 b1 : Byte) : Bool :=
  let m := masks[e.mask]
  e.state == .valid && e.port.fits port && e.form == form && decide (e.minLength ≤ length)
    && identAgrees e.form m.ident e.ident ident && byteAgrees m.byte0 e.byte0 b0
    && byteAgrees m.byte1 e.byte1 b1

/-- An entry matches an arrival. -/
def State.matchesFrame (s : State) (port : Port) (f : Frame) (e : EntryConfig) : Bool :=
  entryMatches s.settings.masks e port f.form f.ident f.length (frameByte f 0) (frameByte f 1)

/-- The indices of the match table in ascending order. -/
def entryIndices : List EntryIndex := List.finRange 128

/-- The first entry at or above an index that matches an arrival (R127). -/
def firstMatch (s : State) (port : Port) (f : Frame) (k : Nat) : Option EntryIndex :=
  entryIndices.find? fun i => decide (k ≤ i.val) && s.matchesFrame port f s.settings.entries[i]

/-! ### CAPTURE (R131, R132) -/

/-- The k-th bit of a field at a bit offset: up within a byte, then bit 0 of the byte before (R131). -/
def fieldBit (f : Frame) (offset k : Nat) : Bool :=
  let up := offset % 8 + k
  (frameByte f (offset / 8 - up / 8)).getLsbD (up % 8)

/-- The unsigned value of a field (R131). -/
def fieldValue (f : Frame) (offset width : Nat) : Nat :=
  ((List.range width).map fun k => if fieldBit f offset k then 2 ^ k else 0).sum

/-- The captured value before its clamp (R132). -/
def scaled (raw multiplier divisor : Nat) (addend : Int) : Int :=
  ((raw * multiplier / divisor : Nat) : Int) + addend

def State.setMatching (s : State) (m : MatchEngine) : State := { s with matching := m }

/-- A CAPTURE entry (R131, R132). -/
def capture (i : EntryIndex) (f : Frame) (g : Signal) (offset width multiplier divisor : Nat)
    (addend : Int) (s : State) : State × List Task :=
  if f.length ≤ offset / 8 then
    (s.setMatching { s.matching with malformed := bump s.matching.malformed }, [])
  else
    let v := scaled (fieldValue f offset width) multiplier divisor addend
    let w := clampInt 0 (signalMax g) v
    let s := if v = w then s
      else s.setMatching { s.matching with
        clamps := s.matching.clamps.set i (bump s.matching.clamps[i]) }
    deliver g w.toNat i s

/-! ### FORWARD (R130) -/

/-- The capacity of the forward queue (R151). -/
def forwardCapacity : Nat := 8

/-- Send a copy toward the other port (R130). -/
def forward (port : Port) (f : Frame) (rewrite : Option (Form × Ident)) (s : State) : State :=
  let copy := match rewrite with
    | none => f
    | some (form, ident) => { f with form := form, ident := ident }
  match port with
  | .motion => queueC ⟨.forwarded, none, copy⟩ s
  | .coach =>
    if isLinkFrame copy.form copy.ident then
      s.setMatching { s.matching with linkProtect := bump s.matching.linkProtect }
    else if s.path.forward.length < forwardCapacity then
      pumpM { s with path := { s.path with forward := s.path.forward ++ [copy] } }
    else s.setMatching { s.matching with forwardOverflow := bump s.matching.forwardOverflow }

/-! ### The chain (R127 to R129, R133) -/

/-- The slots of a function set whose kind is not UNUSED, ascending (R133). -/
def State.members (s : State) (set : BitVec 16) : List Slot :=
  slots.filter fun i => set.getLsbD i.val && (s.cfg i).kind != .unused

/-- Carry out the action of a matched entry (R129 to R133). HOLD and REQUEST are made known to the
configuration store before their presses and requests are handed on (R196). -/
def act (i : EntryIndex) (port : Port) (f : Frame) (a : Action) (s : State) : State × List Task :=
  match a with
  | .forward rewrite => (forward port f rewrite s, [])
  | .drop | .count => (s, [])
  | .capture g o w m d k => capture i f g o w m d k s
  | .hold set verb => (touchDoze s, (s.members set).map fun j => .press j verb i)
  | .request (.functions set verb) => (touchDoze s, (s.members set).map fun j => .operator j verb)
  | .request (.sequence which) => (touchDoze s, [.sequence which])

/-- An entry's hit count (R127). -/
def countHit (i : EntryIndex) (s : State) : State :=
  s.setMatching { s.matching with hits := s.matching.hits.set i (bump s.matching.hits[i]) }

/-- The default action of a port (R127). -/
def Settings.defaultOf (c : Settings) : Port → DefaultAction
  | .coach => c.coachDefault
  | .motion => c.motionDefault

/-- The search goes on from an index: the next entry that matches is counted and carried out before the
search continues; an arrival that no entry matches takes its port's default (R127, R128). -/
def chain (port : Port) (f : Frame) (k : Nat) (s : State) : State × List Task :=
  match firstMatch s port f k with
  | some i =>
    let e := s.settings.entries[i]
    let r := act i port f e.action (countHit i s)
    (r.1, r.2 ++ if e.continues then [.chain port f (i.val + 1)] else [])
  | none =>
    if k = 0 ∧ s.settings.defaultOf port = .forward then (forward port f none s, []) else (s, [])

/-! ### Operator requests (R19, R20, R24, R114) -/

/-- An OPERATOR request for a slot (R22, R24). -/
def operatorRequest (i : Slot) (d : Direction) (latched : Bool) : Request :=
  ⟨i, d, .operator, none, none, latched, false⟩

/-- A request that would reverse a moving awning (R114). -/
def reverses (s : State) (i : Slot) (d : Direction) : Bool :=
  (s.cfg i).kind == .awning && s.moves i && (s.fn i).chA.direction.any fun x => x != d

/-- A STOP request (R19). -/
def stopRequest (i : Slot) (s : State) : State :=
  let taken := s.isTaken i
  let s := stopFn true i .stopped s
  let s := if taken then abortSequence true .stopped s else s
  refuseHold i s

/-- A CLEAR request of an operator (R20). -/
def clearRequest (i : Slot) (s : State) : State :=
  match (s.fn i).activity with
  | .unavailable => refusalFrame i RequestVerb.clear.code .notReady s
  | .faulted =>
    if causeGone s i then clearFault i s else refusalFrame i RequestVerb.clear.code .faulted s
  | _ => s

/-- An EXTEND or RETRACT request of a REQUEST entry (R24). -/
def moveRequest (i : Slot) (d : Direction) (s : State) : State × List Task :=
  if reverses s i d then (stopRequest i s, [])
  else
    match verdict s (operatorRequest i d true) with
    | none => (accept (operatorRequest i d true) s, [.servicePass])
    | some r => (refusalFrame i d.code r s, [])

/-- One OPERATOR request of a REQUEST entry (R24). -/
def operatorTask (i : Slot) (v : RequestVerb) (s : State) : State × List Task :=
  match v with
  | .extend => moveRequest i .extend s
  | .retract => moveRequest i .retract s
  | .stop => (stopRequest i s, [])
  | .clear => (clearRequest i s, [])

/-! ### Presses (R22) -/

/-- The hold record that a press under the NONE row leaves (R22). -/
def Hold.pressed (st : HoldState) (d : Direction) (source : EntryIndex) (s : State) : Hold where
  state := st
  verb := some d
  lastPress := some s.now
  source := some source
  timer := startTimer s.now s.settings.timing.holdTimeout

/-- A press that keeps a stream alive: the time is written and the hold timer restarts (R22). -/
def renewHold (i : Slot) (s : State) : State :=
  putHold i { s.hold i with
    lastPress := some s.now
    timer := startTimer s.now s.settings.timing.holdTimeout } s

/-- A press under the NONE row (R22, R114). -/
def newPress (i : Slot) (d : Direction) (source : EntryIndex) (s : State) : State × List Task :=
  if reverses s i d then
    let s := stopRequest i s
    (putHold i (Hold.pressed .refused d source s) s, [])
  else
    match verdict s (operatorRequest i d false) with
    | none =>
      let s := accept (operatorRequest i d false) s
      (putHold i (Hold.pressed .active d source s) s, [.servicePass])
    | some r =>
      (refusalFrame i d.code r (putHold i (Hold.pressed .refused d source s) s), [])

/-- A press delivered to a slot (R22). -/
def press (i : Slot) (d : Direction) (source : EntryIndex) (s : State) : State × List Task :=
  match (s.hold i).state with
  | .none => newPress i d source s
  | .active => (if (s.hold i).verb = some d then renewHold i s else s, [])
  | .refused => (renewHold i s, [])

end Sys2Proof.Machine
end

