-- ==== Sys2Proof/Machine/Reports.lean ====
section
/-! DEFINITION. What a report does to a slot whose drive channel it is: position, load and class (R5, R6),
the contact flag (R30), and the judgement of R15, R16, R79, R100 and R106 by the slot's kind and
activity. -/

namespace Sys2Proof.Machine

/-- A channel as a report leaves it (R5). -/
def Channel.reported (c : FunctionConfig) (e : Side) (r : ChannelRecord) (ch : Channel) : Channel :=
  { ch with position := r.raw.map (positionOf c e), load := r.load.map Int.toNat }

/-- The report read into one end of the record, where that end is the reported drive channel. -/
def Function.readEnd (c : FunctionConfig) (d : DriveRef) (r : ChannelRecord) (f : Function) (e : Side) :
    Function :=
  if c.drive e = some d then f.setChan e ((f.chan e).reported c e r) else f

/-- The record after a report of a drive channel: positions, loads and class, and for a JACK the contact
flag (R5, R6, R30). -/
def Function.readReport (s : State) (c : FunctionConfig) (d : DriveRef) (r : ChannelRecord)
    (f : Function) : Function :=
  let f := c.sides.foldl (Function.readEnd c d r) f
  let f := { f with posClass := classOf c f }
  if c.kind = .jack then
    judgeContact s.settings.levelling s.now ((r.load.map Int.toNat).getD 0) f
  else f

/-- The report of a JACK after the flags (R15, R79, R80). -/
def jackReport (i : Slot) (pressure : Nat) (s : State) : State :=
  let c := s.cfg i
  let f := s.fn i
  if f.activity = .moving ∧ c.overload ≤ pressure then faultFn i .overload s
  else if s.onGround i then groundReport i s
  else if f.activity = .moving then
    match f.verb with
    | some .goto =>
      if allWithin c f (f.target.getD 0) (arrivalWidth c.kind) then targetReached i s else s
    | some .extend =>
      if f.chA.position.any (inWindow c .extend) then endReached i .extend false s else s
    | some .retract =>
      if f.chA.position.any (inWindow c .retract) then endReached i .retract false s else s
    | none => s
  else s

/-- The report of a SLIDE_HYD after the flags (R100). -/
def hydReport (i : Slot) (pressure : Nat) (s : State) : State :=
  if s.moves i then
    if (s.cfg i).overload ≤ pressure then faultFn i .overload s else slideHydReport i pressure s
  else s

/-- The report of one channel of a SLIDE_TWIN or AWNING after the flags (R103, R106). -/
def twinReport (i : Slot) (e : Side) (current : Nat) (flags : Byte) (s : State) : State :=
  if s.moves i then motorReport i e current flags s
  else if (s.fn i).activity = .settling then hardSkewTest i s
  else s

/-- The judgement of a report by the slot's kind (R15, R100, R106), and the orders that follow. -/
def kindReport (i : Slot) (d : DriveRef) (load : Nat) (flags : Byte) (s : State) : State :=
  match (s.cfg i).kind with
  | .jack => reorder i (twistRule i (jackReport i load s))
  | .slideHyd => reorder i (hydReport i load s)
  | .slideTwin | .awning =>
    let ends := (s.cfg i).sides.filter fun e => (s.cfg i).drive e == some d
    reorder i (ends.foldl (fun s e => twinReport i e load flags s) s)
  | .unused => s

/-- A report judged in an activity (R8, R16): UNAVAILABLE ignores the flags, FAULTED keeps its code. -/
def activityReport (i : Slot) (d : DriveRef) (load : Nat) (flags : Byte) (s : State) :
    State × List Task :=
  if (s.fn i).activity.canFault then
    (if reportDriverFault flags then faultFn i .driverFault s
      else if reportOverTemp flags then faultFn i .overTemp s
      else kindReport i d load flags s, [])
  else if (s.fn i).activity = .unavailable then (s, [.becomeIdle i])
  else (s, [])

/-- A report is handed to a slot whose drive channel it is (R5, R163); a report of an awning tests its
partner slide in the same step, before any service pass (R111). -/
def slotReport (i : Slot) (d : DriveRef) (s : State) : State × List Task :=
  match s.channelRecord d with
  | none => (s, [])
  | some r =>
    let s := putFn i ((s.fn i).readReport s (s.cfg i) d r) s
    let t := activityReport i d ((r.load.map Int.toNat).getD 0) (r.flags.getD 0) s
    (slideTest i t.1, t.2)

end Sys2Proof.Machine
end

