-- ==== Sys2Proof/Machine/Records.lean ====
section
/-! DEFINITION. The records that READ returns, byte for byte (R185, R198): the fields of each owner's table
in its order, a number in two bytes or four, an enumeration, flag or timer state in one, a list as a count
byte and its items. What R197 and R198 leave open of a layout is log entry 14. -/

namespace Sys2Proof.Machine

/-- A list as its count byte and its items. -/
def listBytes {α : Type} (item : α → List Byte) (xs : List α) : List Byte :=
  byteOf xs.length :: xs.flatMap item

/-- A list that can be absent: the count byte is 255 then. -/
def optListBytes {α : Type} (item : α → List Byte) : Option (List α) → List Byte
  | none => [255]
  | some xs => listBytes item xs

def slotBytes (i : Slot) : List Byte := be16 i.val

def optSlotBytes (i : Option Slot) : List Byte := opt16 (i.map (·.val))

def driveBytes (d : DriveRef) : List Byte := be16 d.node ++ be16 d.channel

def optDriveBytes : Option DriveRef → List Byte
  | none => be16 65535 ++ be16 65535
  | some d => driveBytes d

/-- A skew-hold marker: none 0, end A 1, end B 2. -/
def markerByte : Option Side → Byte
  | none => 0
  | some .a => 1
  | some .b => 2

/-- A mark per slot, as a two-byte set: the model's choice, since R197 gives bits for sets and R198 a byte for
a flag (log entry 14). -/
def slotSetBytes (v : Vector Bool 16) : List Byte :=
  be16 ((slots.map fun i => if v[i] then 2 ^ i.val else 0).sum)

/-- The configuration half of a function record (R1). -/
def functionConfigBytes (c : FunctionConfig) : List Byte :=
  [byteOf c.kind.code] ++ be16 c.nameTag ++ [byteOf c.mode.code]
    ++ listBytes driveBytes c.drives
    ++ be16 c.stroke ++ be16 c.stowWindow ++ be16 c.endWindow
    ++ listBytes (fun e => be16 (c.offset e) ++ be16s (c.sense e)) c.sides
    ++ be16 c.draw ++ be16 c.rampCode ++ be16 c.fullSpeed ++ be16 c.creepSpeed ++ be16 c.creepDistance
    ++ be16 c.settleTime ++ be16 c.stallCurrent ++ be16 c.stallTime ++ be16 c.endPressure
    ++ be16 c.overload ++ be16 c.softSkew ++ be16 c.hardSkew
    ++ optSlotBytes c.partner ++ be16 c.clearance ++ [c.groupSet]

/-- The runtime half (R4), with the time the move began (R13) and the move state of each channel (R97). The whole
move state is sent for every kind, also for a SLIDE_HYD, of which R97 keeps the start time alone, and a JACK, of which
it keeps none: the model's choice (log entry 14). -/
def functionRuntimeBytes (c : FunctionConfig) (f : Function) : List Byte :=
  [byteOf f.activity.code, byteOf f.posClass.code]
    ++ listBytes (fun e => opt16 (f.chan e).position) c.sides
    ++ listBytes (fun e => opt16 (f.chan e).load) c.sides
    ++ opt8 (f.verb.map MoveVerb.code) ++ opt16 f.moveSpeed ++ opt16 f.target
    ++ [byteOf f.owner.code] ++ opt8 (f.waitReason.map WaitReason.code)
    ++ opt8 (f.fault.map FaultCode.code) ++ opt8 (f.lastStop.map StopReason.code)
    ++ opt16s f.drift ++ [flagByte f.contact, markerByte f.skewHold, timerByte f.settleTimer]
    ++ opt32 f.moveBegan
    ++ listBytes (fun e => opt32 (f.chan e).startTime ++ [timerByte (f.chan e).stallTimer,
        flagByte (f.chan e).endMark, flagByte (f.chan e).arrivalMark] ++ opt16 (f.chan e).noted) c.sides

/-- A hold record (R22). -/
def holdBytes (h : Hold) : List Byte :=
  [timerByte h.timer, byteOf h.state.code] ++ opt8 (h.verb.map Direction.code) ++ opt32 h.lastPress
    ++ opt16 (h.source.map (·.val))

def functionRecord (s : State) (i : Slot) : List Byte :=
  functionConfigBytes (s.cfg i) ++ functionRuntimeBytes (s.cfg i) (s.fn i) ++ holdBytes (s.hold i)

/-- A raw value or load: signed where a TILT wrote it. -/
def rawBytes (signed : Bool) (v : Option Int) : List Byte :=
  if signed then opt16s v else opt16 (v.map Int.toNat)

/-- A node with its channel records (R155). -/
def nodeRecord (s : State) (n : Nat) : List Byte :=
  let x := s.node n
  let signed := x.kind == .levelSensor
  [byteOf x.state.code, byteOf x.kind.code] ++ be16 x.channels.length ++ be16 x.hardwareClass
    ++ listBytes (fun r : ChannelRecord => rawBytes signed r.raw ++ rawBytes signed r.load
        ++ (match r.flags with | none => [255] | some b => [b])
        ++ opt16 r.sequence ++ opt16 r.orderSeen) x.channels
    ++ be16 x.gaps ++ [timerByte x.silenceTimer]

/-- The parameters of an action (R123), as READ sends them: a rewrite is its form and then its identifier, and a
REQUEST is preceded by its target type, as in the entry block of R198, while R123's list gives neither: the model's
choice (log entry 14). -/
def actionBytes : Action → List Byte
  | .forward none => [255] ++ bytesOf32 Config.absentTime
  | .forward (some (form, ident)) => [byteOf (formCode form)] ++ be32 ident.toNat
  | .drop | .count => []
  | .capture g o w m d k =>
    be16 (signalIndex g).val ++ be16 o ++ be16 w ++ be16 m ++ be16 d ++ be16s k
  | .hold set v => bytesOf16 set ++ [byteOf v.code]
  | .request (.functions set v) => [0] ++ bytesOf16 set ++ [byteOf v.code]
  | .request (.sequence q) => [1, byteOf q.code]

/-- A match entry with its counts (R123). -/
def entryRecord (s : State) (i : EntryIndex) : List Byte :=
  let e := s.settings.entries[i]
  [byteOf e.state.code, byteOf e.port.code, byteOf (formCode e.form)] ++ be32 e.ident.toNat
    ++ be16 e.byte0.toNat ++ be16 e.byte1.toNat ++ be16 e.mask.val ++ be16 e.minLength
    ++ [flagByte e.continues, byteOf e.action.code] ++ actionBytes e.action
    ++ be16 s.matching.hits[i] ++ be16 s.matching.clamps[i]

/-- A mask record (R125). -/
def maskRecord (s : State) (k : Fin 8) : List Byte :=
  let m := s.settings.masks[k]
  be32 m.ident.toNat ++ [m.byte0, m.byte1]

/-- A signal record (R25). -/
def signalRecord (s : State) (g : Signal) : List Byte :=
  let r := s.signal g
  let c := s.sigCfg g
  be16 r.value ++ [flagByte (!r.fresh)] ++ be16 c.staleLimit ++ [byteOf c.policy.code] ++ be16 c.safeValue
    ++ opt16 (r.source.map (·.val)) ++ [timerByte r.timer]

/-- The posture and census records (R42, R156). No table lists the fields of the posture record: the posture, the
levelled flag and the alarm set come first, then the fields of R42 in its order, which is the model's choice (log
entry 14). -/
def postureRecord (s : State) : List Byte :=
  let m := s.monitor
  [byteOf m.posture.row, flagByte m.levelled, alarmByte m.alarms, byteOf s.settings.activeBank.code]
    ++ be16 m.window.firstRow ++ be16 m.window.lastRow ++ be16 m.window.firstColumn
    ++ be16 m.window.lastColumn ++ [byteOf m.window.order.code]
    ++ be16 m.cursor.row ++ be16 m.cursor.column ++ [flagByte m.swapPending]
    ++ [byteOf s.link.outcome.code] ++ be16 s.link.count ++ be16 s.link.strays
    ++ opt16 s.link.outstanding ++ [timerByte s.link.enrolTimer]

def pairBytes (p : Slot × Nat) : List Byte := slotBytes p.1 ++ be16 p.2

/-- The marks of a list of slots, one flag for each. -/
def markBytes (taken marked : List Slot) : List Byte :=
  listBytes (fun i => [flagByte (marked.contains i)]) taken

/-- The sequence record (R72). -/
def sequenceBytes (q : Sequence) : List Byte :=
  opt8 (q.kind.map SeqKind.code) ++ opt8 (q.owner.map Owner.code) ++ [byteOf q.phase.code]
    ++ be16 q.pass ++ [flagByte q.limited] ++ listBytes slotBytes q.taken
    ++ optListBytes (fun p : Slot × Nat => be16 p.2) q.starts
    ++ (if q.starts.isSome then markBytes q.taken q.finished else [255])
    ++ markBytes q.taken q.twistHeld
    ++ optListBytes pairBytes q.targets ++ optListBytes pairBytes q.stepTargets
    ++ opt16s (q.reading.map (·.1)) ++ opt16s (q.reading.map (·.2.1))
    ++ opt8 (q.reading.map fun r => if r.2.2 then 1 else 0)
    ++ opt8 (q.result.map SeqResult.code) ++ [timerByte q.settleTimer, timerByte q.sampleTimer]

/-- The wind record (R115). -/
def windBytes (c : WindConfig) (w : WindRecord) : List Byte :=
  be16 c.gustThreshold ++ be16 c.gustTime ++ be16 c.calmTime
    ++ [timerByte w.gustTimer, flagByte w.lockout, timerByte w.calmTimer]
    ++ slotSetBytes w.retryUsed ++ slotSetBytes w.owed

/-- The sequence and wind records. -/
def sequenceRecord (s : State) : List Byte :=
  sequenceBytes s.sequence ++ windBytes s.settings.wind s.wind

def claimBytes (c : Claim) : List Byte :=
  (match c.claimant with
    | .motor i => slotBytes i
    | .pump => bytesOf16 Config.pumpClaimant) ++ be16 c.amps

/-- A grant holder: owner, class and sequence grant, each 255 where absent. -/
def grantBytes : Option Grant → List Byte
  | none => [255, 255, 255]
  | some g => [byteOf g.owner.code, byteOf g.cls.code, flagByte g.sequence]

def waitBytes (s : State) (e : WaitEntry) : List Byte :=
  slotBytes e.slot ++ opt8 ((s.fn e.slot).waitReason.map WaitReason.code) ++ be32 e.arrival
    ++ [timerByte e.timer]

/-- The manifold and budget record, with the wait list (R51, R52, R55, R64). -/
def manifoldRecord (s : State) : List Byte :=
  let c := s.settings.manifold
  let m := s.manifold
  optDriveBytes c.pump ++ be16 c.pumpClaim ++ be16 c.readyPressure ++ be16 c.primeLimit
    ++ be16 c.holdOnTime ++ be16 c.dutyLimit ++ be16 c.coolDown
    ++ [byteOf m.pump.code] ++ grantBytes m.holder ++ be32 m.runTime
    ++ [timerByte m.primeTimer, timerByte m.holdOnTimer, timerByte m.coolTimer, timerByte m.restTimer]
    ++ listBytes (waitBytes s) m.waitList
    ++ be16 s.settings.supply.supplyLimit ++ be16 s.settings.supply.vLow ++ be16 s.settings.supply.vCut
    ++ be16 s.settings.supply.lowDuration
    ++ listBytes claimBytes s.budget.claims ++ be16 s.claimsHeld ++ be16 s.budget.effectiveLimit
    ++ [byteOf s.budget.lowTimer.code]

/-- The counters (R134, R144, R149, R152, R153, R124, R169, R171). -/
def counterRecord (s : State) : List Byte :=
  be16 s.path.cOverrun ++ be16 s.path.mOverrun ++ be16 s.path.cDiscard ++ be16 s.path.cRecovery
    ++ be16 s.path.mRecovery ++ be16 s.matching.malformed ++ be16 s.matching.linkProtect
    ++ be16 s.matching.forwardOverflow ++ be16 s.matching.nextFree
    ++ [byteOf s.path.cState.code, byteOf s.path.mState.code]
    ++ be16 s.orders.records.length ++ be16 s.orders.evictions ++ be16 s.orders.deferrals

/-- A row of a permission bank (R43): the row number for bank A, 8 plus it for bank B (R198). -/
def matrixRecord (s : State) (k : Nat) : Option (List Byte) :=
  let row (m : PermissionBank) (r : Nat) : Option (List Byte) :=
    if h : r < 7 then some (m[r].toList.map fun c => c.setWidth 8) else none
  if k < 8 then row s.settings.bankA k else row s.settings.bankB (k - 8)

/-- An index below a bound. -/
def finOf (n k : Nat) : Option (Fin n) := if h : k < n then some ⟨k, h⟩ else none

/-- The record that a READ names (R185): none where the kind or index names none. -/
def recordOf (s : State) (kind index : Nat) : Option (List Byte) :=
  match kind with
  | 0 => (finOf 16 index).map (functionRecord s)
  | 1 => if 1 ≤ index ∧ index ≤ 24 then some (nodeRecord s index) else none
  | 2 => (finOf 128 index).map (entryRecord s)
  | 3 => (finOf 8 index).map (maskRecord s)
  | 4 => (signalOfCode index).map (signalRecord s)
  | 5 => some (postureRecord s)
  | 6 => some (sequenceRecord s)
  | 7 => some (manifoldRecord s)
  | 8 => some (counterRecord s)
  | 9 => matrixRecord s index
  | _ => none

/-- The record bytes six at a time (R185, R198), with fuel for the length of the list. -/
def chunks : Nat → List Byte → List (List Byte)
  | 0, _ => []
  | n + 1, bs => if bs.isEmpty then [] else bs.take 6 :: chunks n (bs.drop 6)

/-- The data frames of a record, in order of their index. -/
def dataFrames (bs : List Byte) : List (List Byte) := chunks bs.length bs

/-- Queue the data frames of a READ (R185). -/
def queueRecord (bs : List Byte) (s : State) : State :=
  (dataFrames bs).zipIdx.foldl (fun s p => queueData p.2 p.1 s) s

end Sys2Proof.Machine
end

