-- ==== Sys2Proof/Machine/Tables.lean ====
section
/-! DEFINITION. The commands on the match table (R135 to R142) and on the permission matrix (R44 to R48):
how each is judged, what it writes and what it answers. -/

namespace Sys2Proof.Machine

/-- What a command comes to: the state, the outcome with its result bytes (R183), and the tasks it
leaves. -/
structure Answer where
  state   : State
  outcome : ReplyOutcome
  result  : List Byte
  tasks   : List Task

/-- A refused command changes nothing. -/
def refuse (o : ReplyOutcome) (s : State) : Answer := ⟨s, o, [], []⟩

/-- DONE, or DONE_CLAMPED where a value was clamped. -/
def doneOutcome (clamped : Bool) : ReplyOutcome := if clamped then .doneClamped else .done

/-! ### Reading an entry block (R135) -/

/-- The largest STANDARD identifier (R123). -/
def standardMax : Nat := 2047

/-- An identifier field that a form admits: a STANDARD one is at most 2047 (R135). -/
def formIdent (form : Form) (w : Word32) : Option Ident :=
  if form = .standard ∧ standardMax < w.toNat then none else some (identifierField w)

/-- A clamped number, and whether the clamp changed it. -/
def clampNote (lo hi n : Nat) : Nat × Bool := (clampNat lo hi n, clampNat lo hi n != n)

/-- The bits available to a field at an offset (R135). -/
def availableBits (offset : Nat) : Nat := (8 - offset % 8) + 8 * (offset / 8)

/-- The parameters of a CAPTURE (R135). -/
def captureOf (bs : List Byte) : Option (Action × Bool) :=
  (signalOfCode (byteAt bs 0).toNat).map fun g =>
    let o := clampNote 0 63 (byteAt bs 1).toNat
    let w := clampNote 1 16 (byteAt bs 2).toNat
    let v := clampNote 0 (availableBits o.1) w.1
    let m := clampNote 1 1000 (word16At bs 3).toNat
    let d := clampNote 1 1000 (word16At bs 5).toNat
    (.capture g o.1 v.1 m.1 d.1 (word16At bs 7).toInt, o.2 || w.2 || v.2 || m.2 || d.2)

/-- The parameters of a FORWARD: the rewrite is judged where it is present. -/
def forwardOf (bs : List Byte) : Option (Action × Bool) :=
  if flagOf (byteAt bs 0) then do
    let form ← formOfCode (byteAt bs 1).toNat
    let ident ← formIdent form (word32At bs 2)
    pure (.forward (some (form, ident)), false)
  else some (.forward none, false)

/-- The target of a REQUEST. -/
def requestOf (bs : List Byte) : Option (Action × Bool) :=
  match (byteAt bs 0).toNat with
  | 0 => (RequestVerb.ofCode (byteAt bs 3).toNat).map fun v =>
      (.request (.functions (word16At bs 1) v), false)
  | 1 => (SeqRequest.ofCode (byteAt bs 3).toNat).map fun q => (.request (.sequence q), false)
  | _ => none

/-- The action of a block with its parameters, and whether one was clamped: none for RANGE. -/
def actionOf (code : Nat) (bs : List Byte) : Option (Action × Bool) :=
  match code with
  | 0 => forwardOf bs
  | 1 => some (.drop, false)
  | 2 => captureOf bs
  | 3 => (Direction.ofCode (byteAt bs 2).toNat).map fun v => (.hold (word16At bs 0) v, false)
  | 4 => requestOf bs
  | 5 => some (.count, false)
  | _ => none

/-- The entry that a block writes, and whether a field was clamped: none for RANGE (R135). -/
def entryOfBlock (b : EntryBlock) : Option (EntryConfig × Bool) := do
  let state ← EntryState.ofCode b.state.toNat
  let port ← EntryPort.ofCode b.port.toNat
  let form ← formOfCode b.form.toNat
  let ident ← formIdent form b.ident
  let mask ← finOf 8 b.mask.toNat
  let act ← actionOf b.action.toNat b.actionBytes.toList
  let len := clampNote 0 8 b.minLength.toNat
  pure (⟨state, port, form, ident, b.byte0, b.byte1, mask, len.1, flagOf b.continues, act.1⟩,
    len.2 || act.2)

/-! ### The table commands -/

/-- The entries of the table, with the next-free index computed again (R124). -/
def setEntries (es : Vector EntryConfig 128) (s : State) : State :=
  { s with
    settings := { s.settings with entries := es }
    matching := { s.matching with nextFree := lowestEmpty es } }

/-- Write a whole entry; its counts become 0 (R135). -/
def putEntry (i : EntryIndex) (e : EntryConfig) (s : State) : State :=
  let s := setEntries (s.settings.entries.set i e) s
  s.setMatching { s.matching with hits := s.matching.hits.set i 0, clamps := s.matching.clamps.set i 0 }

/-- WRITE_ENTRY (R135). -/
def writeEntry (index : Byte) (b : EntryBlock) (s : State) : Answer :=
  match finOf 128 index.toNat, entryOfBlock b with
  | some i, some (e, clamped) => ⟨putEntry i e s, doneOutcome clamped, [], []⟩
  | _, _ => refuse .range s

/-- APPEND_ENTRY (R136). -/
def appendEntry (b : EntryBlock) (s : State) : Answer :=
  match finOf 128 s.matching.nextFree with
  | none => refuse .full s
  | some i =>
    match entryOfBlock b with
    | none => refuse .range s
    | some (e, clamped) =>
      if e.state = .empty then refuse .range s
      else ⟨putEntry i e s, doneOutcome clamped, [byteOf i.val], []⟩

/-- SET_ENTRY_STATE in its entry form (R137). -/
def setEntryState (index state : Byte) (s : State) : Answer :=
  match finOf 128 index.toNat, EntryState.ofCode state.toNat with
  | some i, some st =>
    let s := setEntries (s.settings.entries.set i { s.settings.entries[i] with state := st }) s
    ⟨s, .done, [0, byteOf s.matching.nextFree], []⟩
  | _, _ => refuse .range s

/-- SET_ENTRY_STATE in its port form (R138). -/
def setPortDefault (port action : Byte) (s : State) : Answer :=
  match port.toNat, DefaultAction.ofCode action.toNat with
  | 0, some a => ⟨{ s with settings := { s.settings with coachDefault := a } }, .done, [], []⟩
  | 1, some a => ⟨{ s with settings := { s.settings with motionDefault := a } }, .done, [], []⟩
  | _, _ => refuse .range s

/-- An entry's port fits the port given to MARK (R139). -/
def EntryPort.fitsMark : EntryPort → EntryPort → Bool
  | _, .either => true
  | .either, _ => true
  | a, b => a == b

/-- MARK selects an entry (R139). -/
def isMarked (m : MaskRecord) (form : Form) (ident : Ident) (v0 v1 : Byte) (port : EntryPort)
    (e : EntryConfig) : Bool :=
  e.state != .empty && e.form == form && identAgrees form m.ident ident e.ident
    && byteAgrees m.byte0 v0 e.byte0 && byteAgrees m.byte1 v1 e.byte1 && e.port.fitsMark port

/-- MARK (R139). -/
def markEntries (form : Byte) (ident : Word32) (v0 v1 mask port state : Byte) (s : State) : Answer :=
  match formOfCode form.toNat, finOf 8 mask.toNat, EntryPort.ofCode port.toNat,
      EntryState.ofCode state.toNat with
  | some f, some k, some p, some st =>
    let sel := isMarked s.settings.masks[k] f (identifierField ident) v0 v1 p
    let changed := s.settings.entries.toList.countP fun e => sel e && e.state != st
    let s := setEntries (s.settings.entries.map fun e => if sel e then { e with state := st } else e) s
    ⟨s, .done, [byteOf changed, byteOf s.matching.nextFree], []⟩
  | _, _, _, _ => refuse .range s

/-- The port of a PROBE: COACH or MOTION (R140). -/
def portOfCode : Nat → Option Port
  | 0 => some .coach
  | 1 => some .motion
  | _ => none

/-- PROBE (R140). -/
def probe (form : Byte) (ident : Word32) (v0 v1 length port : Byte) (s : State) : Answer :=
  match (formOfCode form.toNat).bind fun f => (formIdent f ident).map fun k => (f, k),
      portOfCode port.toNat with
  | some (f, k), some p =>
    if 8 < length.toNat then refuse .range s
    else
      let b0 := if length.toNat = 0 then 0 else v0
      let b1 := if length.toNat ≤ 1 then 0 else v1
      let hit := fun e => entryMatches s.settings.masks e p f k length.toNat b0 b1
      let lowest := (s.settings.entries.toList.findIdx? hit).getD 255
      ⟨s, .done, [byteOf lowest, byteOf (s.settings.entries.toList.countP hit)], []⟩
  | _, _ => refuse .range s

/-- The counts of a range of entries become 0 (R141). -/
def clearRange (first last : Nat) (v : Vector Nat 128) : Vector Nat 128 :=
  Vector.ofFn fun i => if first ≤ i.val ∧ i.val ≤ last then 0 else v[i]

/-- CLEAR_HITS (R141). -/
def clearHits (first last engine : Byte) (s : State) : Answer :=
  if last.toNat < first.toNat ∨ 127 < last.toNat then refuse .range s
  else
    let m := { s.matching with
      hits := clearRange first.toNat last.toNat s.matching.hits
      clamps := clearRange first.toNat last.toNat s.matching.clamps }
    let m := if flagOf engine then { m with malformed := 0, linkProtect := 0, forwardOverflow := 0 } else m
    ⟨s.setMatching m, .done, [], []⟩

/-- WRITE_MASK (R142): the lowest 29 bits of the care word are the identifier care bits. -/
def writeMask (index : Byte) (ident : Word32) (v0 v1 : Byte) (s : State) : Answer :=
  match finOf 8 index.toNat with
  | some k =>
    if k = 0 then refuse .range s
    else
      ⟨{ s with settings := { s.settings with
          masks := s.settings.masks.set k ⟨ident.setWidth 29, v0, v1⟩ } }, .done, [], []⟩
  | none => refuse .range s

/-! ### The matrix commands -/

/-- The window that SET_WINDOW names: none for RANGE (R44). An order byte that names neither order is RANGE too,
the model's choice (log entry 43). -/
def windowOf (r0 r1 c0 c1 order : Byte) : Option Window := do
  let a ← finOf 7 r0.toNat
  let z ← finOf 7 r1.toNat
  let b ← finOf 16 c0.toNat
  let y ← finOf 16 c1.toNat
  let o ← WindowOrder.ofCode order.toNat
  if a ≤ z ∧ b ≤ y then pure ⟨a, z, b, y, o⟩ else none

/-- SET_WINDOW (R44). -/
def setWindow (r0 r1 c0 c1 order : Byte) (s : State) : Answer :=
  if s.monitor.swapPending then refuse .swapPending s
  else
    match windowOf r0 r1 c0 c1 order with
    | none => refuse .range s
    | some w =>
      ⟨{ s with monitor := { s.monitor with window := w, cursor := ⟨w.firstRow, w.firstColumn⟩ } },
        .done, [], []⟩

/-- The result bytes of WRITE_CELLS: the count, and the cursor after the last cell (R46). -/
def cellResult (count : Nat) (s : State) : List Byte :=
  [byteOf count, byteOf s.monitor.cursor.row, byteOf s.monitor.cursor.column]

/-- SWAP_MATRIX (R48). -/
def swapMatrix (crc : Word16) (s : State) : Answer :=
  let have_ := crc16 (bankBytes s.standby)
  if s.monitor.swapPending then refuse .swapPending s
  else if have_ ≠ crc then ⟨s, .crcMismatch, bytesOf16 have_, []⟩
  else if s.anyBusy then
    ⟨postureFrame .change { s with monitor := { s.monitor with swapPending := true } }, .pending, [], []⟩
  else ⟨exchangeBanks s, .done, [], [.judgeSequence]⟩

end Sys2Proof.Machine
end

