-- ==== Sys2Proof/Machine/Fields.lean ====
section
/-! DEFINITION. The seven field-wise configuration commands (R182, R184): the fields of each with their
ranges (R1, R51, R64, R69, R71, R115, R184, R25), their clamps, the settling of dependent fields (R2, R3,
R68), and what the writing brings about (R5, R8, R29, R68, R70, R111, R115). -/

namespace Sys2Proof

/-- The value of a field as an unsigned number. -/
def FieldWrite.nat (f : FieldWrite) : Nat := f.value.toNat

/-- The value of a field as a signed number. -/
def FieldWrite.int (f : FieldWrite) : Int := f.value.toInt

/-- The high and the low byte of a field's value. -/
def FieldWrite.high (f : FieldWrite) : Nat := f.nat / 256
def FieldWrite.low (f : FieldWrite) : Nat := f.nat % 256

end Sys2Proof

namespace Sys2Proof.Machine

/-- A clamped integer, and whether the clamp changed it. -/
def clampIntNote (lo hi i : Int) : Int × Bool := (clampInt lo hi i, clampInt lo hi i != i)

/-- Write a record field by field: the fields are applied in the order received, and the flag says whether
one was clamped (R182). Of a field code written twice the later value stands, and a clamp of the earlier one still
makes the outcome DONE_CLAMPED: the model's choice (log entry 53). -/
def applyAll {α : Type} (put : α → FieldWrite → α × Bool) (fs : List FieldWrite) (x : α) : α × Bool :=
  fs.foldl (fun p f => let q := put p.1 f; (q.1, p.2 || q.2)) (x, false)

/-- Set a clamped number into a record. -/
def into {α : Type} (set : Nat → α) (p : Nat × Bool) : α × Bool := (set p.1, p.2)

/-- The last value written for a code. -/
def lastWrite (fs : List FieldWrite) (code : Nat) : Option FieldWrite :=
  fs.reverse.find? fun f => f.code.toNat == code

/-- A field code is written. -/
def writes (fs : List FieldWrite) (code : Nat) : Bool := (lastWrite fs code).isSome

/-! ### SET_FUNCTION (R1 to R3, R5, R8) -/

/-- The stroke range of a kind (R2). -/
def strokeRange (k : Kind) : Nat × Nat := if k.isHydraulic then (50, 600) else (100, 60000)

/-- The upper end of the window ranges of a kind (R2). -/
def windowMax (k : Kind) : Nat := if k.isHydraulic then 50 else 2000

/-- A drive channel as its field writes it: node 0 means absent (R198). -/
def driveField (f : FieldWrite) : Option DriveRef × Bool :=
  if f.high = 0 then (none, false)
  else
    let n := clampNote 1 24 f.high
    let ch := clampNote 0 7 f.low
    (some ⟨n.1, ch.1⟩, n.2 || ch.2)

/-- A sense: +1 for 0 or more, −1 below (R2). -/
def senseField (f : FieldWrite) : Int × Bool :=
  let v : Int := if 0 ≤ f.int then 1 else -1
  (v, v != f.int)

/-- The field codes and enumerated values of SET_FUNCTION that name something (R182 step 1). -/
def functionFieldNamed (f : FieldWrite) : Bool :=
  match f.code.toNat with
  | 1 => (Kind.ofCode f.nat).isSome
  | 3 => (Mode.ofCode f.nat).isSome
  | n => decide (1 ≤ n ∧ n ≤ 27)

/-- Write one field of a function record, clamped to its own range (R2); the stroke and windows to those of
the kind `k` the slot has after the command. The partner is written apart (R3). -/
def putFunctionField (k : Kind) (c : FunctionConfig) (f : FieldWrite) : FunctionConfig × Bool :=
  match f.code.toNat with
  | 1 => ({ c with kind := (Kind.ofCode f.nat).getD c.kind }, false)
  | 2 => into (fun n => { c with nameTag := n }) (clampNote 0 255 f.nat)
  | 3 => ({ c with mode := (Mode.ofCode f.nat).getD c.mode }, false)
  | 4 => ({ c with endA := (driveField f).1 }, (driveField f).2)
  | 5 => ({ c with endB := (driveField f).1 }, (driveField f).2)
  | 6 => into (fun n => { c with stroke := n }) (clampNote (strokeRange k).1 (strokeRange k).2 f.nat)
  | 7 => into (fun n => { c with stowWindow := n }) (clampNote 0 (windowMax k) f.nat)
  | 8 => into (fun n => { c with endWindow := n }) (clampNote 0 (windowMax k) f.nat)
  | 9 => ({ c with offsetA := f.nat }, false)
  | 10 => ({ c with senseA := (senseField f).1 }, (senseField f).2)
  | 11 => ({ c with offsetB := f.nat }, false)
  | 12 => ({ c with senseB := (senseField f).1 }, (senseField f).2)
  | 13 => into (fun n => { c with draw := n }) (clampNote 0 150 f.nat)
  | 14 => into (fun n => { c with rampCode := n }) (clampNote 0 3 f.nat)
  | 15 => into (fun n => { c with fullSpeed := n }) (clampNote 10 100 f.nat)
  | 16 => into (fun n => { c with creepSpeed := n }) (clampNote 10 100 f.nat)
  | 17 => ({ c with creepDistance := f.nat }, false)
  | 18 => into (fun n => { c with settleTime := n }) (clampNote 0 5000 f.nat)
  | 19 => into (fun n => { c with stallCurrent := n }) (clampNote 0 2000 f.nat)
  | 20 => into (fun n => { c with stallTime := n }) (clampNote 100 2000 f.nat)
  | 21 => into (fun n => { c with endPressure := n }) (clampNote 0 2500 f.nat)
  | 22 => into (fun n => { c with overload := n }) (clampNote 0 2500 f.nat)
  | 23 => into (fun n => { c with softSkew := n }) (clampNote 10 500 f.nat)
  | 24 => into (fun n => { c with hardSkew := n }) (clampNote 20 1500 f.nat)
  | 26 => ({ c with clearance := f.nat }, false)
  | 27 => into (fun n => { c with groupSet := byteOf n }) (clampNote 0 255 f.nat)
  | _ => (c, false)

/-- The default mode of a kind (R1). -/
def Kind.defaultMode : Kind → Mode
  | .awning => .latch
  | _ => .hold

/-- The defaults of R1 that a slot's first kind brings for the fields the command does not write. -/
def firstKind (fs : List FieldWrite) (k : Kind) (c : FunctionConfig) : FunctionConfig :=
  { c with
    mode := if writes fs 3 then c.mode else k.defaultMode
    settleTime := if writes fs 18 then c.settleTime else 500
    stallTime := if writes fs 20 then c.stallTime else 300
    softSkew := if writes fs 23 then c.softSkew else 40
    hardSkew := if writes fs 24 then c.hardSkew else 120 }

/-- The ranges of the kind, applied again to the fields that depend on it (R2). -/
def rangeAgain (c : FunctionConfig) : FunctionConfig :=
  { c with
    stroke := clampNat (strokeRange c.kind).1 (strokeRange c.kind).2 c.stroke
    stowWindow := clampNat 0 (windowMax c.kind) c.stowWindow
    endWindow := clampNat 0 (windowMax c.kind) c.endWindow }

/-- The settling of dependent fields, steps 1 to 4 of R2. -/
def settleFields (c : FunctionConfig) : FunctionConfig :=
  { c with
    creepSpeed := min c.creepSpeed c.fullSpeed
    creepDistance := min c.creepDistance c.stroke
    clearance := min c.clearance c.stroke
    hardSkew := max c.hardSkew (2 * c.softSkew) }

/-- Step 5 of R2: a change of kind without a written mode takes the new kind's default mode. -/
def settleMode (fs : List FieldWrite) (old : Kind) (c : FunctionConfig) : FunctionConfig :=
  if c.kind ≠ old ∧ ¬ writes fs 3 then { c with mode := c.kind.defaultMode } else c

/-- The configuration a SET_FUNCTION leaves but for the partner, and whether a value was clamped or
settled. -/
def functionAfter (fs : List FieldWrite) (old : FunctionConfig) : FunctionConfig × Bool :=
  let k := (((lastWrite fs 1).bind fun f => Kind.ofCode f.nat)).getD old.kind
  let p := applyAll (putFunctionField k) fs old
  let c := if old.kind = .unused ∧ k ≠ .unused then firstKind fs k p.1 else p.1
  let d := settleMode fs old.kind (settleFields (rangeAgain c))
  (d, p.2 || d != c)

/-- A slide and an awning fit as clearance partners (R3). -/
def partnersFit (a b : Kind) : Bool :=
  (a.isSlide && b == .awning) || (a == .awning && b.isSlide)

/-- The partner relation after a write on slot `s` naming `p`, or absent (R3, R71): both sides agree, and
every other slot that named either loses its partner. -/
def partnerAfter (s : Slot) (p : Option Slot) (k : Slot) (old : Option Slot) : Option Slot :=
  if k = s then p
  else if p = some k then some s
  else if old = some s ∨ (old.isSome ∧ old = p) then none
  else old

/-- Write the clearance partner of a slot, on both sides (R3). -/
def setPartner (i : Slot) (p : Option Slot) (s : State) : State :=
  { s with settings := { s.settings with
      functions := Vector.ofFn fun k => { s.settings.functions[k] with
        partner := partnerAfter i p k s.settings.functions[k].partner } } }

/-- The slot a partner field names: absent, or a slot, or what is stored as absent (R3). -/
def partnerField (f : FieldWrite) : Option Slot := finOf 16 f.nat

/-- Apply the partner field of a SET_FUNCTION, or drop a partner that no longer fits (R3). Of a field code written
twice only the last value is judged and has effects on other slots (log entry 53). -/
def applyPartner (i : Slot) (fs : List FieldWrite) (s : State) : State × Bool :=
  match lastWrite fs 25 with
  | some f =>
    match partnerField f with
    | some p =>
      if p ≠ i ∧ partnersFit (s.cfg i).kind (s.cfg p).kind then (setPartner i (some p) s, false)
      else (setPartner i none s, true)
    | none => (setPartner i none s, f.nat != 255)
  | none =>
    match (s.cfg i).partner with
    | some p => (if partnersFit (s.cfg i).kind (s.cfg p).kind then s else setPartner i none s, false)
    | none => (s, false)

/-- Write the pair partner of a slot, on both sides (R71). -/
def setPair (i : Slot) (p : Option Slot) (s : State) : State :=
  { s with settings := { s.settings with
      geometry := Vector.ofFn fun k => { s.settings.geometry[k] with
        partner := partnerAfter i p k s.settings.geometry[k].partner } } }

/-- What a change of kind takes from other records: the pair partner of a slot that is no longer a JACK
(R71), and the wind marks of one that is no longer an AWNING (R115). -/
def kindChanged (i : Slot) (old : Kind) (s : State) : State :=
  let k := (s.cfg i).kind
  let s := if old = .jack ∧ k ≠ .jack then setPair i none s else s
  if old = .awning ∧ k ≠ .awning then
    s.setWind { s.wind with retryUsed := s.wind.retryUsed.set i false, owed := s.wind.owed.set i false }
  else s

/-- One channel's position after a SET_FUNCTION: computed again from the last raw count of a motor channel
whose offset or sense is written, where one has been received, present or absent before (R5); else within the
stroke. -/
def positionAgain (s : State) (i : Slot) (written : Bool) (e : Side) (ch : Channel) : Channel :=
  { ch with position :=
      match s.lastRaw i e with
      | some raw =>
        if written ∧ (s.cfg i).kind.isMotor then some (positionOf (s.cfg i) e raw)
        else ch.position.map (min (s.cfg i).stroke)
      | none => ch.position.map (min (s.cfg i).stroke) }

/-- Positions and class after a SET_FUNCTION (R5, R6). -/
def placeAgain (i : Slot) (fs : List FieldWrite) (s : State) : State :=
  let f := s.fn i
  let f := { f with
    chA := positionAgain s i (writes fs 9 || writes fs 10) .a f.chA
    chB := positionAgain s i (writes fs 11 || writes fs 12) .b f.chB }
  putFn i { f with posClass := classOf (s.cfg i) f } s

/-- The levelled flag clears with the contact flag of a slot that was a JACK (R32). -/
def clearContact (i : Slot) (old : Kind) (s : State) : State :=
  if old = .jack ∧ (s.fn i).contact then
    { s with monitor := { s.monitor with levelled := false } }
  else s

/-- The slides that a SET_FUNCTION of a slot tests: the partner of the slot and the slot itself (R111). The partner
is read once the relations are settled, so a slide that loses its awning in the same command is not tested (log
entry 49). -/
def testSlides (i : Slot) (s : State) : State :=
  (i :: ((s.cfg i).partner).toList).foldl (fun s k => slideTest k s) s

/-- SET_FUNCTION's fields are applied together (R2, R3, R5, R8, R111). Writing again the kind and the drive
channels that the slot holds is no change of them and calls for no re-check (R8): the model's choice (log entry
38). A change of kind ends the partner relation (R3) before the slides are tested (R111), so the slide that was the
partner of an AWNING is neither tested nor stopped: the model's choice too (log entry 49). Where kind or channels
change, the positions are reset by R8 and then computed again by R5, before the check; an UNAVAILABLE slot that R5
completes becomes IDLE at once (log entry 36). -/
def applyFunction (i : Slot) (fs : List FieldWrite) (s : State) : State × Bool × List Task :=
  let old := s.cfg i
  let c := functionAfter fs old
  let p := applyPartner i fs (s.setCfg i c.1)
  let s := kindChanged i old.kind p.1
  if c.1.kind ≠ old.kind ∨ c.1.drives ≠ old.drives then
    let r := recheck [i] (placeAgain i fs (unbindFn i (clearContact i old.kind s)))
    (testSlides i r.1, c.2 || p.2, r.2)
  else
    (testSlides i (placeAgain i fs s), c.2 || p.2,
      if (s.fn i).activity = .unavailable then [.becomeIdle i] else [])

/-! ### SET_GEOMETRY (R71) -/

def geometryFieldNamed (f : FieldWrite) : Bool := decide (1 ≤ f.code.toNat ∧ f.code.toNat ≤ 3)

def putGeometryField (g : Geometry) (f : FieldWrite) : Geometry × Bool :=
  match f.code.toNat with
  | 1 => let p := clampIntNote (-9000) 9000 f.int; ({ g with x := p.1 }, p.2)
  | 2 => let p := clampIntNote (-1600) 1600 f.int; ({ g with y := p.1 }, p.2)
  | _ => (g, false)

/-- The pair partner field of a SET_GEOMETRY (R71). Of a field code written twice only the last value is judged and
has effects on other slots (log entry 53). -/
def applyPair (i : Slot) (fs : List FieldWrite) (s : State) : State × Bool :=
  match lastWrite fs 3 with
  | none => (s, false)
  | some f =>
    match partnerField f with
    | some p =>
      if p ≠ i ∧ s.isJack i ∧ s.isJack p then (setPair i (some p) s, false)
      else (setPair i none s, true)
    | none => (setPair i none s, f.nat != 255)

def applyGeometry (i : Slot) (fs : List FieldWrite) (s : State) : State × Bool × List Task :=
  let g := applyAll putGeometryField fs s.settings.geometry[i]
  let s := { s with settings := { s.settings with geometry := s.settings.geometry.set i g.1 } }
  let p := applyPair i fs s
  (p.1, g.2 || p.2, [])

/-! ### SET_LEVELLING (R69, R70) -/

/-- The two flags take 0 or 1. -/
def levellingFieldNamed (f : FieldWrite) : Bool :=
  match f.code.toNat with
  | 14 | 15 => decide (f.nat ≤ 1)
  | n => decide (1 ≤ n ∧ n ≤ 13)

/-- The level sensor node: 0 is absent (R70). -/
def sensorField (f : FieldWrite) : Option Nat × Bool :=
  if f.nat = 0 then (none, false) else (some (min 24 f.nat), decide (24 < f.nat))

def putLevellingField (p : LevelParams) (f : FieldWrite) : LevelParams × Bool :=
  match f.code.toNat with
  | 1 => ({ p with sensorNode := (sensorField f).1 }, (sensorField f).2)
  | 2 => into (fun n => { p with contactPressure := n }) (clampNote 20 1000 f.nat)
  | 3 => into (fun n => { p with contactHysteresis := n }) (clampNote 0 500 f.nat)
  | 4 => into (fun n => { p with groundSpeed := n }) (clampNote 10 100 f.nat)
  | 5 => into (fun n => { p with liftSpeed := n }) (clampNote 10 100 f.nat)
  | 6 => into (fun n => { p with liftMargin := n }) (clampNote 0 100 f.nat)
  | 7 => into (fun n => { p with liftStep := n }) (clampNote 10 100 f.nat)
  | 8 => into (fun n => { p with tolerance := n }) (clampNote 5 200 f.nat)
  | 9 => into (fun n => { p with maxPasses := n }) (clampNote 1 6 f.nat)
  | 10 => into (fun n => { p with settleTime := n }) (clampNote 500 10000 f.nat)
  | 11 => into (fun n => { p with sampleTimeout := n }) (clampNote 1000 30000 f.nat)
  | 12 => into (fun n => { p with maxStartGrade := n }) (clampNote 100 2000 f.nat)
  | 13 => into (fun n => { p with twistLimit := n }) (clampNote 10 200 f.nat)
  | 14 => ({ p with travelStowJacks := f.nat == 1 }, false)
  | 15 => ({ p with travelStowAwnings := f.nat == 1 }, false)
  | _ => (p, false)

/-- The JACK slots. -/
def State.jackSlots (s : State) : List Slot := slots.filter s.isJack

/-- Make slots UNAVAILABLE and check their bindings again (R8). -/
def rebind (is : List Slot) (s : State) : State × List Task :=
  recheck is (is.foldl (fun s i => unbindFn i s) s)

def applyLevelling (fs : List FieldWrite) (s : State) : State × Bool × List Task :=
  let p := applyAll putLevellingField fs s.settings.levelling
  let moved := decide (p.1.sensorNode ≠ s.settings.levelling.sensorNode)
  let s := { s with settings := { s.settings with levelling := p.1 } }
  if moved then
    let r := rebind s.jackSlots s
    (r.1, p.2, r.2)
  else (s, p.2, [])

/-- SET_LEVELLING's own refusal (R70, R184). -/
def levellingBusy (fs : List FieldWrite) (s : State) : Bool :=
  s.seqRuns ||
    (decide ((applyAll putLevellingField fs s.settings.levelling).1.sensorNode
        ≠ s.settings.levelling.sensorNode)
      && s.jackSlots.any fun i => (s.fn i).activity.isBusy)

/-! ### SET_MANIFOLD (R51, R68) -/

def manifoldFieldNamed (f : FieldWrite) : Bool := decide (1 ≤ f.code.toNat ∧ f.code.toNat ≤ 7)

/-- The pump reference is stored as written; node 0 means absent (R51, R198). -/
def pumpField (f : FieldWrite) : Option DriveRef :=
  if f.high = 0 then none else some ⟨f.high, f.low⟩

def putManifoldField (m : ManifoldConfig) (f : FieldWrite) : ManifoldConfig × Bool :=
  match f.code.toNat with
  | 1 => ({ m with pump := pumpField f }, false)
  | 2 => into (fun n => { m with pumpClaim := n }) (clampNote 0 250 f.nat)
  | 3 => into (fun n => { m with readyPressure := n }) (clampNote 10 2500 f.nat)
  | 4 => into (fun n => { m with primeLimit := n }) (clampNote 500 5000 f.nat)
  | 5 => into (fun n => { m with holdOnTime := n }) (clampNote 0 10000 f.nat)
  | 6 => into (fun n => { m with dutyLimit := n }) (clampNote 30 600 f.nat)
  | 7 => into (fun n => { m with coolDown := n }) (clampNote 10 600 f.nat)
  | _ => (m, false)

/-- The hydraulic slots. -/
def State.hydraulicSlots (s : State) : List Slot := slots.filter fun i => (s.cfg i).kind.isHydraulic

/-- A command writes a pump reference other than the one held. -/
def newPump (fs : List FieldWrite) (s : State) : Bool :=
  (applyAll putManifoldField fs s.settings.manifold).1.pump != s.settings.manifold.pump

/-- SET_MANIFOLD's own refusals (R68). -/
def manifoldBusy (fs : List FieldWrite) (s : State) : Bool :=
  s.manifold.pump != .stopped ||
    (newPump fs s && s.hydraulicSlots.any fun i =>
      (s.fn i).activity == .waiting || (s.fn i).activity == .settling)

def applyManifold (fs : List FieldWrite) (s : State) : State × Bool × List Task :=
  let p := applyAll putManifoldField fs s.settings.manifold
  let moved := newPump fs s
  let s := { s with settings := { s.settings with manifold := p.1 } }
  let s := s.setManifold { s.manifold with runTime := min s.manifold.runTime (p.1.dutyLimit * 1000) }
  if moved then
    let r := rebind s.hydraulicSlots s
    (r.1, p.2, r.2)
  else (s, p.2, [])

/-! ### SET_SUPPLY (R64, R68) -/

def supplyFieldNamed (f : FieldWrite) : Bool := decide (1 ≤ f.code.toNat ∧ f.code.toNat ≤ 4)

def putSupplyField (c : SupplyConfig) (f : FieldWrite) : SupplyConfig × Bool :=
  match f.code.toNat with
  | 1 => into (fun n => { c with supplyLimit := n }) (clampNote 0 400 f.nat)
  | 2 => into (fun n => { c with vLow := n }) (clampNote 800 3000 f.nat)
  | 3 => into (fun n => { c with vCut := n }) (clampNote 800 3000 f.nat)
  | 4 => into (fun n => { c with lowDuration := n }) (clampNote 1000 30000 f.nat)
  | _ => (c, false)

/-- The fields settled against each other (R68). A gap of 1..9 between the thresholds is kept as written,
although R65 says that it is at least 10: R68 settles only a cut threshold at or above the low one (log entry
44). -/
def settleSupply (held : Nat) (c : SupplyConfig) : SupplyConfig :=
  let c := { c with supplyLimit := max c.supplyLimit held }
  if c.vCut < c.vLow then c
  else if c.vLow < 810 then { c with vCut := 800, vLow := 810 }
  else { c with vCut := c.vLow - 10 }

def applySupply (fs : List FieldWrite) (s : State) : State × Bool × List Task :=
  let p := applyAll putSupplyField fs s.settings.supply
  let c := settleSupply s.claimsHeld p.1
  (supplyChanged { s with settings := { s.settings with supply := c } }, p.2 || c != p.1, [])

/-! ### SET_SIGNAL (R25, R29) -/

def signalFieldNamed (f : FieldWrite) : Bool :=
  match f.code.toNat with
  | 2 => (StalePolicy.ofCode f.nat).isSome
  | n => decide (1 ≤ n ∧ n ≤ 4)

def putSignalField (g : Signal) (c : SignalConfig) (f : FieldWrite) : SignalConfig × Bool :=
  match f.code.toNat with
  | 1 => into (fun n => { c with staleLimit := n }) (clampNote 100 10000 f.nat)
  | 2 => ({ c with policy := (StalePolicy.ofCode f.nat).getD c.policy }, false)
  | 3 => into (fun n => { c with safeValue := n }) (clampNote 0 (signalMax g) f.nat)
  | 4 => (c, (clampNote 0 100 f.nat).2)
  | _ => (c, false)

/-- A STALE signal takes a new safe value, or its safe value at a change of policy to SAFE (R29). Writing again
the safe value held is no new one: the model's choice (log entry 42). -/
def applySafeValue (g : Signal) (old new : SignalConfig) (s : State) : State :=
  let r := s.signal g
  if ¬ r.fresh ∧ (new.safeValue ≠ old.safeValue ∨ (old.policy = .hold ∧ new.policy = .safe)) then
    let t := s.setSignal g { r with value := new.safeValue }
    if new.safeValue = r.value then t else handOver g t
  else s

def applySignal (g : Signal) (fs : List FieldWrite) (s : State) : State × Bool × List Task :=
  let old := s.sigCfg g
  let p := applyAll (putSignalField g) fs old
  let speed := match lastWrite fs 4 with
    | some f => clampNat 0 100 f.nat
    | none => s.settings.travelSpeed
  let s := { s with settings := { s.settings with
    signals := s.settings.signals.set (signalIndex g) p.1, travelSpeed := speed } }
  (applySafeValue g old p.1 s, p.2, [])

/-! ### SET_TIMING (R115, R184) -/

def timingFieldNamed (f : FieldWrite) : Bool := decide (1 ≤ f.code.toNat ∧ f.code.toNat ≤ 9)

def putTimingField (p : Timing × WindConfig) (f : FieldWrite) : (Timing × WindConfig) × Bool :=
  match f.code.toNat with
  | 1 => into (fun n => ({ p.1 with holdTimeout := n }, p.2)) (clampNote 150 1000 f.nat)
  | 2 => into (fun n => ({ p.1 with waitLimit := n }, p.2)) (clampNote 1 30 f.nat)
  | 3 => into (fun n => ({ p.1 with silenceLimit := n }, p.2)) (clampNote 200 2000 f.nat)
  | 4 => into (fun n => ({ p.1 with refreshPeriod := n }, p.2)) (clampNote 50 250 f.nat)
  | 5 => into (fun n => ({ p.1 with statusPeriod := n }, p.2)) (clampNote 250 5000 f.nat)
  | 6 => into (fun n => ({ p.1 with dozeTime := n }, p.2)) (clampNote 60 3600 f.nat)
  | 7 => into (fun n => (p.1, { p.2 with gustThreshold := n })) (clampNote 0 600 f.nat)
  | 8 => into (fun n => (p.1, { p.2 with gustTime := n })) (clampNote 0 10000 f.nat)
  | 9 => into (fun n => (p.1, { p.2 with calmTime := n })) (clampNote 60 1800 f.nat)
  | _ => (p, false)

/-- SET_TIMING's fields are applied together (R115, R184). Writing again the gust threshold held is no new one
and judges nothing again: the model's choice (log entry 46). -/
def applyTiming (fs : List FieldWrite) (s : State) : State × Bool × List Task :=
  let p := applyAll putTimingField fs (s.settings.timing, s.settings.wind)
  let moved := decide (p.1.2.gustThreshold ≠ s.settings.wind.gustThreshold)
  let s := { s with settings := { s.settings with timing := p.1.1, wind := p.1.2 } }
  (if moved then windJudged s else s, p.2, [])

/-! ### The three steps of R182 -/

/-- A field-wise command: its named fields, its own refusal and its application. -/
structure FieldCommand where
  named : FieldWrite → Bool
  busy  : List FieldWrite → State → Bool
  apply : List FieldWrite → State → State × Bool × List Task

/-- A slot that is WAITING, MOVING or SETTLING. -/
def State.slotBusy (s : State) (i : Slot) : Bool := (s.fn i).activity.isBusy

/-- The field-wise command of a code for its selector: none for a code that is not one, or a selector out
of its range (R184). -/
def fieldCommand (code : CommandCode) (selector : Byte) : Option FieldCommand :=
  match code with
  | .setFunction => (finOf 16 selector.toNat).map fun i =>
      ⟨functionFieldNamed, fun _ s => s.slotBusy i, applyFunction i⟩
  | .setGeometry => (finOf 16 selector.toNat).map fun i =>
      ⟨geometryFieldNamed, fun _ s => s.slotBusy i || s.seqRuns, applyGeometry i⟩
  | .setLevelling => some ⟨levellingFieldNamed, levellingBusy, applyLevelling⟩
  | .setManifold => some ⟨manifoldFieldNamed, manifoldBusy, applyManifold⟩
  | .setSupply => some ⟨supplyFieldNamed, fun _ _ => false, applySupply⟩
  | .setSignal => (signalOfCode selector.toNat).map fun g =>
      ⟨signalFieldNamed, fun _ _ => false, applySignal g⟩
  | .setTiming => some ⟨timingFieldNamed, fun _ _ => false, applyTiming⟩
  | _ => none

/-- Judge and apply the fields of a field-wise command (R182). -/
def applyFields (code : CommandCode) (selector : Byte) (fs : List FieldWrite) (s : State) : Answer :=
  match fieldCommand code selector with
  | none => refuse .range s
  | some c =>
    if !fs.all c.named then refuse .range s
    else if c.busy fs s then refuse .busy s
    else
      let r := c.apply fs s
      ⟨r.1, doneOutcome r.2.1, [byteOf fs.length], r.2.2⟩

end Sys2Proof.Machine
end

