-- ==== Sys2Proof/Machine/Management.lean ====
section
/-! DEFINITION. The management decoder: the shape and length of each command (R180, R198), the judging and
carrying out of a whole command (R182, R185 to R189), the start, the gathering and the break of an assembly
(R179 to R182), and the replies (R183). -/

namespace Sys2Proof.Machine

/-! ### Shapes and lengths (R180, R198) -/

/-- The three kinds of command (R182): whole with its own length, field-wise with its selector bytes, per
cell. -/
inductive Shape where
  | whole (length : Nat)
  | fieldWise (selector : Nat)
  | perCell
  deriving DecidableEq, Repr

/-- The shape of a command (R180, R184, R198). -/
def CommandCode.shape : CommandCode → Shape
  | .writeEntry => .whole 23
  | .appendEntry => .whole 22
  | .setEntryState => .whole 3
  | .mark => .whole 10
  | .probe => .whole 9
  | .clearHits => .whole 3
  | .writeMask => .whole 7
  | .setWindow => .whole 5
  | .writeCells => .perCell
  | .swapMatrix => .whole 2
  | .setFunction | .setGeometry | .setSignal => .fieldWise 1
  | .setLevelling | .setManifold | .setSupply | .setTiming => .fieldWise 0
  | .read => .whole 2
  | .census | .halt | .store | .restart => .whole 0
  | .jog => .whole 4

/-- The largest declared length (R179). -/
def lengthMax : Nat := 200

/-- A declared length fits a command (R180 step 4). -/
def lengthFits (code : CommandCode) (n : Nat) : Bool :=
  decide (n ≤ lengthMax) &&
    match code.shape with
    | .whole k => n == k
    | .fieldWise k => decide (k ≤ n) && (n - k) % 3 == 0
    | .perCell => true

/-- The selector and the complete fields of a field-wise command's bytes (R182, R198). -/
def selectorOf (k : Nat) (ps : List Byte) : Byte := if k = 0 then 0 else byteAt ps 0

/-! ### The operational commands (R185 to R189) -/

/-- READ (R185). -/
def readRecord (kind index : Byte) (s : State) : Answer :=
  match recordOf s kind.toNat index.toNat with
  | none => refuse .range s
  | some bs => ⟨queueRecord bs s, .done, [byteOf (dataFrames bs).length], []⟩

/-- CENSUS (R186): a census in progress is abandoned first. -/
def censusCommand (s : State) : Answer :=
  if s.anyBusy then refuse .busy s else ⟨startCensus (abandonCensus s), .done, [], []⟩

/-- HALT (R186). -/
def haltCommand (s : State) : Answer := ⟨haltEffects s, .done, [], []⟩

/-- JOG is turned away with a refusal reason (R187). -/
def jogRefused (r : RefusalReason) (s : State) : Answer := ⟨s, .state, [byteOf r.code], []⟩

/-- The target of a JOG (R187 step 3). -/
def jogTarget (stroke position distance : Nat) : Direction → Nat
  | .extend => min stroke (position + distance)
  | .retract => position - distance

/-- The request of a JOG (R187 step 4): a GOTO at full speed under SERVICE. Checks 5, 7 and 8 read the JOG's own
verb, also where the target equals the present position and R9 gives no direction: the model's choice (log
entry 40). -/
def jogRequest (i : Slot) (d : Direction) (target : Nat) : Request :=
  ⟨i, d, .service, some target, none, false, false⟩

/-- JOG (R187). The distance, 0..60000, clamps as every value does that has no rule of its own. -/
def jog (slot verb : Byte) (distance : Word16) (s : State) : Answer :=
  match finOf 16 slot.toNat, Direction.ofCode verb.toNat with
  | some i, some d =>
    if s.monitor.posture ≠ .service then jogRefused .notPermitted s
    else
      match (s.fn i).position with
      | none => jogRefused .notReady s
      | some p =>
        let target := jogTarget (s.cfg i).stroke p (min 60000 distance.toNat) d
        match verdict s (jogRequest i d target) with
        | some r => jogRefused r s
        | none =>
          ⟨accept (jogRequest i d target) s, doneOutcome (decide (60000 < distance.toNat)), be16 target,
            [.servicePass]⟩
  | _, _ => refuse .range s

/-- The image of a configuration: its bytes, and the CRC computed over them (R47, R192, R193). -/
def Settings.image (c : Settings) : Image := ⟨c, Config.imageBytes c, crc16 (Config.imageBytes c)⟩

/-- A STORE is taken: the image is built from the configuration as it stands, its CRC computed, and its writing
begins, to complete within 400 ms (R188, R193). -/
def beginStore (tag : Byte) (s : State) : State :=
  { s with store := { s.store with storing := some ⟨tag, s.settings.image, startTimer s.now 400⟩ } }

/-- A RESTART is taken: it takes place at the latest 200 ms after its reply is queued (R189). -/
def beginRestart (s : State) : State :=
  { s with store := { s.store with restart := startTimer s.now 200 } }

/-! ### Carrying a command out (R182, R183) -/

/-- Queue the reply an answer gives (R183). -/
def reply (code : Byte) (tag : Byte) (a : Answer) : State × List Task :=
  (queueReply code tag a.outcome a.result a.state, a.tasks)

/-- SET_ENTRY_STATE by its form byte (R137, R138, R198). -/
def entryStateCommand (ps : List Byte) (s : State) : Answer :=
  match (byteAt ps 0).toNat with
  | 0 => setEntryState (byteAt ps 1) (byteAt ps 2) s
  | 1 => setPortDefault (byteAt ps 1) (byteAt ps 2) s
  | _ => refuse .range s

/-- WRITE_CELLS is answered: its cells are written already (R46). -/
def cellsAnswer (ps : List Byte) (s : State) : Answer :=
  ⟨s, doneOutcome (ps.any fun v => decide (7 < v.toNat)), cellResult ps.length s, []⟩

/-- What a command with all its parameter bytes comes to. -/
def answerTo (code : CommandCode) (ps : List Byte) (s : State) : Answer :=
  match code with
  | .writeEntry => writeEntry (byteAt ps 0) (entryBlockAt ps 1) s
  | .appendEntry => appendEntry (entryBlockAt ps 0) s
  | .setEntryState => entryStateCommand ps s
  | .mark => markEntries (byteAt ps 0) (word32At ps 1) (byteAt ps 5) (byteAt ps 6) (byteAt ps 7)
      (byteAt ps 8) (byteAt ps 9) s
  | .probe => probe (byteAt ps 0) (word32At ps 1) (byteAt ps 5) (byteAt ps 6) (byteAt ps 7) (byteAt ps 8) s
  | .clearHits => clearHits (byteAt ps 0) (byteAt ps 1) (byteAt ps 2) s
  | .writeMask => writeMask (byteAt ps 0) (word32At ps 1) (byteAt ps 5) (byteAt ps 6) s
  | .setWindow => setWindow (byteAt ps 0) (byteAt ps 1) (byteAt ps 2) (byteAt ps 3) (byteAt ps 4) s
  | .writeCells => cellsAnswer ps s
  | .swapMatrix => swapMatrix (word16At ps 0) s
  | .setFunction => applyFields .setFunction (byteAt ps 0) (fieldsOf (ps.drop 1)) s
  | .setGeometry => applyFields .setGeometry (byteAt ps 0) (fieldsOf (ps.drop 1)) s
  | .setSignal => applyFields .setSignal (byteAt ps 0) (fieldsOf (ps.drop 1)) s
  | .setLevelling => applyFields .setLevelling 0 (fieldsOf ps) s
  | .setManifold => applyFields .setManifold 0 (fieldsOf ps) s
  | .setSupply => applyFields .setSupply 0 (fieldsOf ps) s
  | .setTiming => applyFields .setTiming 0 (fieldsOf ps) s
  | .read => readRecord (byteAt ps 0) (byteAt ps 1) s
  | .census => censusCommand s
  | .halt => haltCommand s
  | .jog => jog (byteAt ps 0) (byteAt ps 1) (word16At ps 2) s
  | .store => refuse .state s
  | .restart => ⟨beginRestart s, .done, [], []⟩

/-- A command is carried out: its reply is queued, but for a STORE that is taken, whose reply waits for the
store to complete (R183, R188). -/
def carryOut (code : CommandCode) (tag : Byte) (ps : List Byte) (s : State) : State × List Task :=
  if code = .store ∧ ¬ s.anyBusy then (beginStore tag s, [])
  else reply code.toByte tag (answerTo code ps s)

/-! ### The start of a command (R180) -/

/-- Through a STORE, and from the taking of a RESTART to the restart, no command is taken (R188, R189). -/
def takesNoCommand (s : State) : Bool := s.store.storing.isSome || s.store.restart.isSome

/-- The result bytes of a LENGTH refusal at the COMMAND frame: a count of 0, with the cursor for
WRITE_CELLS (R183). -/
def lengthResult (code : CommandCode) (s : State) : List Byte :=
  if code = .writeCells then cellResult 0 s else [0]

/-- How a COMMAND frame of a known code is refused (R180 steps 2, 4 and 5; R198 for a short one): `carried`
parameter bytes of the `declared` came with it. -/
def startRefusal (code : CommandCode) (declared carried : Nat) (s : State) :
    Option (ReplyOutcome × List Byte) :=
  if takesNoCommand s then some (.busy, [])
  else if !lengthFits code declared ∨ carried < min 4 declared then
    some (.length, lengthResult code s)
  else if code = .writeCells ∧ s.monitor.swapPending then some (.swapPending, [])
  else none

/-- Gather parameter bytes: WRITE_CELLS writes each cell as its byte arrives (R45). -/
def gather (code : CommandCode) (bs : List Byte) (s : State) : State :=
  if code = .writeCells then writeCellList bs s else s

/-- A record that has reached its declared length is carried out and returns to NONE (R182). -/
def advance (a : Assembly) (s : State) : State × List Task :=
  if a.declared ≤ a.params.length then carryOut a.code a.tag a.params { s with assembly := none }
  else ({ s with assembly := some a }, [])

/-- A COMMAND frame after its break (R180 steps 2 to 5). -/
def startCommand (f : Frame) (s : State) : State × List Task :=
  let tag := frameByte f 2
  let declared := (frameByte f 3).toNat
  match CommandCode.ofByte (frameByte f 1) with
  | none =>
    reply (frameByte f 1) tag (refuse (if takesNoCommand s then .busy else .unknown) s)
  | some code =>
    match startRefusal code declared (f.length - 4) s with
    | some r => reply code.toByte tag ⟨s, r.1, r.2, []⟩
    | none =>
      let bs := ((frameBytes f).drop 4).take declared
      advance ⟨code, tag, declared, 1, bs⟩ (gather code bs s)

/-- A whole transaction, from its COMMAND frame to its last byte (R180, R182). -/
def transact (code : CommandCode) (tag : Byte) (ps : List Byte) (s : State) : State × List Task :=
  match startRefusal code ps.length (min 4 ps.length) s with
  | some r => reply code.toByte tag ⟨s, r.1, r.2, []⟩
  | none => carryOut code tag ps (gather code ps s)

/-! ### The end of an assembly by a break or by LENGTH (R181, R182) -/

/-- The fields of a broken field-wise command are judged and applied (R182): a refusal gives its own outcome
with count 0. -/
def endFields (a : Assembly) (k : Nat) (why : ReplyOutcome) (s : State) : Answer :=
  if a.params.length < k then ⟨s, why, [0], []⟩
  else
    let r := applyFields a.code (selectorOf k a.params) (fieldsOf (a.params.drop k)) s
    if r.outcome = .done ∨ r.outcome = .doneClamped then ⟨r.state, why, r.result, r.tasks⟩ else r

/-- An assembly ends unfinished (R182): `why` is INCOMPLETE or LENGTH. -/
def endAssembly (a : Assembly) (why : ReplyOutcome) (s : State) : State × List Task :=
  let s := { s with assembly := none }
  reply a.code.toByte a.tag
    (match a.code.shape with
      | .whole _ => ⟨s, why, [0], []⟩
      | .fieldWise k => endFields a k why s
      | .perCell => ⟨s, why, cellResult a.params.length s, []⟩)

/-- A COMMAND frame breaks the assembly in progress (R180 step 1). -/
def breakAssembly (s : State) : State × List Task :=
  match s.assembly with
  | none => (s, [])
  | some a => endAssembly a .incomplete s

/-- A CONTINUE frame (R181, and R198 for a short one). -/
def continueCommand (f : Frame) (s : State) : State × List Task :=
  match s.assembly with
  | none => (s, [])
  | some a =>
    if (frameByte f 1).toNat ≠ a.nextIndex then endAssembly a .length s
    else
      let due := a.declared - a.params.length
      let bs := ((frameBytes f).drop 2).take due
      let a' := { a with params := a.params ++ bs, nextIndex := a.nextIndex + 1 }
      let s := gather a.code bs s
      if f.length - 2 < min 6 due then endAssembly a' .length s else advance a' s

/-- A COMMAND frame reaches the decoder: a wake or the doze timer's restart, the break of an assembly, then
its judging (R180, R195, R196). -/
def takeCommand (f : Frame) (s : State) : State × List Task :=
  let r := breakAssembly (touchDoze s)
  (r.1, r.2 ++ [.command f])

/-- A CONTINUE frame reaches the decoder. -/
def takeContinue (f : Frame) (s : State) : State × List Task := (touchDoze s, [.continuation f])

/-- A whole management command reaches the decoder. -/
def takeTransaction (code : CommandCode) (tag : Byte) (ps : List Byte) (s : State) :
    State × List Task :=
  let r := breakAssembly (touchDoze s)
  (r.1, r.2 ++ [.transact code tag ps])

end Sys2Proof.Machine
end

