-- ==== Sys2Proof/Machine/Cascade.lean ====
section
/-! DEFINITION. How a command runs to its end. A command makes a first change and leaves tasks. Between
tasks the machine's judgements hold: the posture is the derived one (R34), the power line follows its four
conditions (R167), the NOT_STOWED alarm its condition (R40), the pump and the grant their functions (R54,
R61, R62), a pending swap takes place once nothing is busy (R49), GROUND and STOWING end with their last
jack (R81, R91), and the doze timer runs while its conditions hold (R195). Every change is followed by the
clearance tests (R112) and the service pass (R56) that it calls for. The tasks a change leaves are done
before those that waited already. -/

namespace Sys2Proof.Machine

/-- Carry out one task. -/
def handle (t : Task) (s : State) : State × List Task :=
  match t with
  | .chain port f k => chain port f k s
  | .press i d src => press i d src s
  | .operator i v => operatorTask i v s
  | .sequence which => operatorSequence which s
  | .travelStow => travelStow s
  | .groundRequest i => groundRequest i s
  | .liftRequest i => liftRequest i s
  | .stowRequest i => stowRequest i s
  | .stepEnd => stepEnd s
  | .gustRetract i => gustRetract i s
  | .travelRetract i => travelRetract i s
  | .owedRetract i => owedRetract i s
  | .servicePass => (servicePass s, [])
  | .clearance i => (clearanceStop i s, [])
  | .judgeMove i => (judgeMove i s, [])
  | .judgeSequence => (judgeSequence s, [])
  | .slotReport i d => slotReport i d s
  | .pumpReport p => (pumpPressure p s, [])
  | .stopResend d seen => (resendStop d.node d.channel seen s, [])
  | .becomeIdle i => becomeIdle i s
  | .command f => startCommand f s
  | .continuation f => continueCommand f s
  | .transact code tag ps => transact code tag ps s

/-- The doze timer starts or is cancelled as its conditions begin or cease to hold (R195). -/
def judgeDozeTimer (s : State) : State :=
  { s with store := { s.store with dozeTimer := if dozeHolds s then dozeExpiry s else none } }

/-- The first of the machine's judgements that does not hold, made: none where all hold. A pending swap is
delayed while a start that delays it is among the tasks that wait (R49). -/
def react (waiting : List Task) (s : State) : Option (State × List Task) :=
  if derivePosture s ≠ s.monitor.posture then some (changePosture (derivePosture s) s)
  else if s.link.powerLine ≠ powerLineHolds s then some (judgePowerLine s, [])
  else if s.monitor.alarms.notStowed ≠ notStowedHolds s then
    some (setAlarm .notStowed (notStowedHolds s) s, [])
  else if dutyReached s then some (dutyExpired s, [])
  else if pumpUnused s then some (holdOnPump s, [])
  else if grantOrphaned s then some (s.setManifold { s.manifold with holder := none }, [])
  else if s.monitor.swapPending ∧ ¬ s.anyBusy ∧ ¬ waiting.any Task.delaysSwap then
    some (exchangeBanks s, [.judgeSequence])
  else if groundDone s then some (endGround s, [])
  else if stowDone s then some (endStow s, [])
  else if s.store.dozeTimer.isSome ≠ dozeHolds s then some (judgeDozeTimer s, [])
  else none

/-- The clearance tests that a change calls for: of each extending awning whose partner slide's activity
or class has changed (R112). -/
def clearanceTasks (old new : State) : List Task :=
  (slots.filter fun i =>
    match (new.cfg i).partner with
    | none => false
    | some p => (new.cfg i).kind == .awning && new.moves i
        && ((old.fn p).activity != (new.fn p).activity || (old.fn p).posClass != (new.fn p).posClass)).map
    .clearance

/-- A change calls for a service pass: a function left the list, a claim or the grant was released, the
effective limit changed, or the pump left COOLDOWN (R56). -/
def passDue (old new : State) : Bool :=
  (old.manifold.waitList.any fun e => !new.manifold.waitList.any fun x => x.slot == e.slot)
    || (old.budget.claims.any fun c => !new.budget.claims.contains c)
    || (old.manifold.holder.isSome && new.manifold.holder.isNone)
    || old.budget.effectiveLimit != new.budget.effectiveLimit
    || (old.manifold.pump == .coolDown && new.manifold.pump != .coolDown)

/-- The tasks that follow a change: the clearance tests, the service pass, then its own. -/
def follow (old : State) (r : State × List Task) : List Task :=
  clearanceTasks old r.1
    ++ (if passDue old r.1 && !r.2.contains .servicePass then [.servicePass] else []) ++ r.2

/-- A service pass that let a function fault at its entry into MOVING has released its claim again
(R103). -/
def passAgain (old new : State) : List Task :=
  clearanceTasks old new
    ++ if old.manifold.waitList.any fun e => (new.fn e.slot).activity == .faulted then [.servicePass]
      else []

/-- The tasks that follow a task. -/
def followTask (t : Task) (old : State) (r : State × List Task) : List Task :=
  match t with
  | .servicePass => passAgain old r.1
  | _ => follow old r

/-- Run judgements and tasks until none is left. A cascade that is not done within the bound is cut, and
`overrun` says so (log entry 4). -/
def run : Nat → List Task → State → State
  | 0, ts, s => if ts.isEmpty && (react ts s).isNone then s else { s with overrun := true }
  | n + 1, ts, s =>
    match react ts s with
    | some r => run n (follow s r ++ ts) r.1
    | none =>
      match ts with
      | [] => s
      | t :: rest => run n (followTask t s (handle t s) ++ rest) (handle t s).1

/-- The bound on the judgements and tasks of one command. -/
def cascadeBound : Nat := 1048576

/-- The end of a command whose first change is made. -/
def complete (old : State) (r : State × List Task) : State := run cascadeBound (follow old r) r.1

/-- A command of the running part: its first change, then everything that follows from it. A part without
power or in reset takes no command (R194). -/
def perform (first : State → State × List Task) (s : State) : Host.Outcome State Fault Refusal :=
  if !s.isRunning then .next s
  else if s.overrun then .fault .cascadeCut
  else .next (complete s (first s))

/-- A first change that leaves no tasks. -/
def change (f : State → State) (s : State) : State × List Task := (f s, [])

end Sys2Proof.Machine
end

