-- ==== Sys2Proof/Machine/Storage.lean ====
section
/-! DEFINITION. The configuration store: the load of the image (R192), the start (R194), the writing of the
image (R193), and what power-off and the reset line do to both. -/

namespace Sys2Proof.Machine

/-- The stored CRC agrees with the one computed over the image's bytes (R47, R192). -/
def Image.agrees (m : Image) : Bool := crc16 m.bytes == m.crc

/-- The image as a start, a power-off or the reset line finds it: a writing in progress is cut, and its CRC
does not agree (R193). Which bytes are left is not said; that they disagree is all that is read of them
(log entry 33). -/
def ConfigStore.cutImage (c : ConfigStore) : Image :=
  if c.storing.isSome then { c.image with crc := ~~~ crc16 c.image.bytes } else c.image

/-- The settings a start loads: the image's, or the factory image's where the CRC differs (R192). -/
def Image.load (m : Image) : Settings := if m.agrees then m.settings else Settings.factory

/-- Every runtime state at its start value with every timer idle, over the loaded settings: the part
without power or in reset, and the ground a start builds on (R194 steps 2 and 3). -/
def blank (inputs : Inputs) (image : Image) (straps : Straps) (pending : List Instr) : State where
  inputs := inputs
  now := 0
  settings := image.load
  functions := Vector.replicate 16 Function.start
  holds := Vector.replicate 16 Hold.start
  monitor := PostureMonitor.start image.load (!image.agrees)
  manifold := Manifold.start
  budget := ⟨[], limitAt image.load.supply image.load.signals[4].safeValue, .idle⟩
  sequence := Sequence.start
  wind := WindRecord.start
  matching := ⟨Vector.replicate 128 0, Vector.replicate 128 0, lowestEmpty image.load.entries, 0, 0, 0⟩
  path := FramePath.start
  link := LinkManager.start
  orders := OrderScheduler.start
  assembly := none
  statusTimer := none
  store :=
    { image := image
      factoryLoaded := !image.agrees
      storing := none
      restart := none
      straps := straps
      doze := false
      dozeTimer := none }
  overrun := false
  pending := pending

/-- The timers that a start starts (R191, R194). -/
def startTimers (s : State) : State :=
  { s with
    orders := s.orders.restarted s.now s.settings.timing.refreshPeriod
    statusTimer := startTimer s.now s.settings.timing.statusPeriod }

/-- UNCONFIGURED at a start asks for an ALARM frame (R194). -/
def startAlarm (s : State) : State := if s.store.factoryLoaded then alarmFrame s else s

/-- A start of the part (R194): the image is loaded, every runtime state takes its start value, the timers
start, WIND_SPEED is judged, and the first census starts. -/
def boot (inputs : Inputs) (image : Image) (straps : Straps) (pending : List Instr) : State :=
  startCensus (judgeDozeTimer (windJudged (startAlarm (startTimers (blank inputs image straps pending)))))

/-- A start, run to its end. -/
def bootDone (inputs : Inputs) (image : Image) (straps : Straps) (pending : List Instr) : State :=
  run cascadeBound [] (boot inputs image straps pending)

/-- RESTART: a start that keeps the straps (R189, R194). -/
def restartNow (s : State) : State := bootDone s.inputs s.store.cutImage s.store.straps s.pending

/-- The writing of the image completes (R193). -/
def endStore (s : State) : State × List Task :=
  match s.store.storing with
  | none => (s, [])
  | some w =>
    let s := { s with store := { s.store with storing := none, image := w.image } }
    (queueReply CommandCode.store.toByte w.tag .done [] s, serveOwed s)

end Sys2Proof.Machine
end

