-- ==== Sys2Proof/Machine/Arrivals.lean ====
section
/-! DEFINITION. The arrivals: a frame joins a receive buffer (R144), and the part takes the frame at the
head of a buffer and routes it to the management decoder, the match engine or the link manager (R145, R146,
R198, R200). -/

namespace Sys2Proof.Machine

/-! ### The receive buffers (R144) -/

/-- The capacities of the receive buffers (R144). -/
def cReceiveCapacity : Nat := 16
def mReceiveCapacity : Nat := 32

/-- A frame joins the C-port receive buffer, or is discarded and counted; a BUS_OFF port does not receive
(R144, R152). -/
def receiveC (f : Frame) (s : State) : State :=
  if s.path.cState = .busOff then s
  else if s.path.cReceive.length < cReceiveCapacity then
    { s with path := { s.path with cReceive := s.path.cReceive ++ [f] } }
  else { s with path := { s.path with cOverrun := bump s.path.cOverrun } }

/-- A frame joins the M-port receive buffer, or is discarded and counted (R144, R153). -/
def receiveM (f : Frame) (s : State) : State :=
  if s.path.mState = .busOff then s
  else if s.path.mReceive.length < mReceiveCapacity then
    { s with path := { s.path with mReceive := s.path.mReceive ++ [f] } }
  else { s with path := { s.path with mOverrun := bump s.path.mOverrun } }

/-- C_PORT_FRAME_RECEIVED (R144). -/
def execCPortFrameReceived (f : Frame) (s : State) : Host.Outcome State Fault Refusal :=
  perform (change (receiveC f)) s

/-- M_PORT_FRAME_RECEIVED (R144). -/
def execMPortFrameReceived (f : Frame) (s : State) : Host.Outcome State Fault Refusal :=
  perform (change (receiveM f)) s

/-! ### The routes (R145, R146, R198, R200) -/

/-- A frame on the management request identifier (R145). -/
def isRequestFrame (s : State) (f : Frame) : Bool :=
  f.form == .extended && f.ident == requestIdent s.store.straps

/-- A request frame that fits the layouts, with its role byte (R198). -/
def isRoleFrame (s : State) (role : Byte) (f : Frame) : Bool :=
  isRequestFrame s f && !f.remote && decide (4 ≤ f.length) && frameByte f 0 == role

def isCommandFrame (s : State) (f : Frame) : Bool := isRoleFrame s 0x01 f

def isContinueFrame (s : State) (f : Frame) : Bool := isRoleFrame s 0x02 f

/-- A request frame that the decoder discards (R198). -/
def isDiscardedFrame (s : State) (f : Frame) : Bool :=
  isRequestFrame s f && !isCommandFrame s f && !isContinueFrame s f

/-- A link frame of a kind that nodes send, with its data length (R200). -/
def isNodeFrame (kind length : Nat) (f : Frame) : Bool :=
  isLinkFrame f.form f.ident && !f.remote && linkKind f.ident == kind && decide (length ≤ f.length)

def isReportFrame (f : Frame) : Bool := isNodeFrame 12 8 f

def isTiltFrame (f : Frame) : Bool := isNodeFrame 13 6 f

def isEnrolAckFrame (f : Frame) : Bool := isNodeFrame 8 4 f

/-- A link frame that the link manager sets aside (R160, R165, R200). -/
def isStrayFrame (s : State) (f : Frame) : Bool :=
  isLinkFrame f.form f.ident &&
    if isReportFrame f then reportIsStray f s
    else if isTiltFrame f then tiltIsStray f s
    else if isEnrolAckFrame f then ackIsStray f s
    else true

/-- A frame that a port hands to the match engine (R145, R146). -/
def isMatched (s : State) (port : Port) (f : Frame) : Bool :=
  match port with
  | .coach => !isRequestFrame s f
  | .motion => !isLinkFrame f.form f.ident

/-! ### Taking the head of a buffer -/

/-- The receive buffer of a port. -/
def State.received (s : State) : Port → List Frame
  | .coach => s.path.cReceive
  | .motion => s.path.mReceive

/-- The head of a port's buffer leaves it. -/
def dropHead (port : Port) (s : State) : State :=
  match port with
  | .coach => { s with path := { s.path with cReceive := s.path.cReceive.tail } }
  | .motion => { s with path := { s.path with mReceive := s.path.mReceive.tail } }

/-- Take the head of a port's buffer where it is of a class, and act on it; with no such head nothing
happens (log entry 15). -/
def takeHead (port : Port) (fits : State → Frame → Bool)
    (act : Frame → State → State × List Task) (s : State) : State × List Task :=
  match s.received port with
  | f :: _ => if fits s f then act f (dropHead port s) else (s, [])
  | [] => (s, [])

/-- MATCH_ARRIVAL (R127): the search of the table starts at entry 0. -/
def execMatchArrival (port : Port) (s : State) : Host.Outcome State Fault Refusal :=
  perform (takeHead port (isMatched · port) (chain port · 0)) s

/-- COMMAND_FRAME (R180). -/
def execCommandFrame (s : State) : Host.Outcome State Fault Refusal :=
  perform (takeHead .coach isCommandFrame takeCommand) s

/-- CONTINUE_FRAME (R181). -/
def execContinueFrame (s : State) : Host.Outcome State Fault Refusal :=
  perform (takeHead .coach isContinueFrame takeContinue) s

/-- A discarded frame still restarts the doze timer and wakes the part (R198). -/
def takeDiscarded (_ : Frame) (s : State) : State × List Task := (touchDoze s, [])

/-- MANAGEMENT_FRAME_DISCARD (R198). -/
def execManagementFrameDiscard (s : State) : Host.Outcome State Fault Refusal :=
  perform (takeHead .coach isDiscardedFrame takeDiscarded) s

/-- REPORT (R163). -/
def execReport (s : State) : Host.Outcome State Fault Refusal :=
  perform (takeHead .motion (fun _ f => isReportFrame f) takeReport) s

/-- TILT (R164). -/
def execTilt (s : State) : Host.Outcome State Fault Refusal :=
  perform (takeHead .motion (fun _ f => isTiltFrame f) takeTilt) s

/-- An ENROL_ACK read into its number, kind code, channel count and hardware class (R158, R200). -/
def takeEnrolAck (f : Frame) (s : State) : State × List Task :=
  enrolAnswer (frameByte f 0).toNat (frameByte f 1).toNat (frameByte f 2).toNat (frameByte f 3).toNat s

/-- ENROL_ACK (R158). -/
def execEnrolAck (s : State) : Host.Outcome State Fault Refusal :=
  perform (takeHead .motion (fun _ f => isEnrolAckFrame f) takeEnrolAck) s

/-- A stray is counted and changes nothing else (R165). -/
def takeStray (_ : Frame) (s : State) : State × List Task := (stray s, [])

/-- LINK_STRAY (R165). -/
def execLinkStray (s : State) : Host.Outcome State Fault Refusal :=
  perform (takeHead .motion isStrayFrame takeStray) s

end Sys2Proof.Machine
end

