-- ==== Sys2Proof/Machine/ConfigCommands.lean ====
section
/-! DEFINITION. The seven field-wise configuration commands (R184) and the operational commands (R185 to
R189), each as one whole transaction. -/

namespace Sys2Proof.Machine

/-- SET_FUNCTION (R2). -/
def execSetFunction (tag slot : Byte) (fields : List FieldWrite) (s : State) :
    Host.Outcome State Fault Refusal :=
  perform (takeTransaction .setFunction tag (slot :: fieldBytes fields)) s

/-- SET_GEOMETRY (R71). -/
def execSetGeometry (tag slot : Byte) (fields : List FieldWrite) (s : State) :
    Host.Outcome State Fault Refusal :=
  perform (takeTransaction .setGeometry tag (slot :: fieldBytes fields)) s

/-- SET_LEVELLING (R70). -/
def execSetLevelling (tag : Byte) (fields : List FieldWrite) (s : State) :
    Host.Outcome State Fault Refusal :=
  perform (takeTransaction .setLevelling tag (fieldBytes fields)) s

/-- SET_MANIFOLD (R68). -/
def execSetManifold (tag : Byte) (fields : List FieldWrite) (s : State) :
    Host.Outcome State Fault Refusal :=
  perform (takeTransaction .setManifold tag (fieldBytes fields)) s

/-- SET_SUPPLY (R68). -/
def execSetSupply (tag : Byte) (fields : List FieldWrite) (s : State) :
    Host.Outcome State Fault Refusal :=
  perform (takeTransaction .setSupply tag (fieldBytes fields)) s

/-- SET_SIGNAL (R29). -/
def execSetSignal (tag signal : Byte) (fields : List FieldWrite) (s : State) :
    Host.Outcome State Fault Refusal :=
  perform (takeTransaction .setSignal tag (signal :: fieldBytes fields)) s

/-- SET_TIMING (R184). -/
def execSetTiming (tag : Byte) (fields : List FieldWrite) (s : State) :
    Host.Outcome State Fault Refusal :=
  perform (takeTransaction .setTiming tag (fieldBytes fields)) s

/-- READ (R185). -/
def execRead (tag kind index : Byte) (s : State) : Host.Outcome State Fault Refusal :=
  perform (takeTransaction .read tag [kind, index]) s

/-- CENSUS (R186). -/
def execCensus (tag : Byte) (s : State) : Host.Outcome State Fault Refusal :=
  perform (takeTransaction .census tag []) s

/-- HALT (R186). -/
def execHalt (tag : Byte) (s : State) : Host.Outcome State Fault Refusal :=
  perform (takeTransaction .halt tag []) s

/-- JOG (R187). -/
def execJog (tag slot verb : Byte) (distance : Word16) (s : State) : Host.Outcome State Fault Refusal :=
  perform (takeTransaction .jog tag ([slot, verb] ++ bytesOf16 distance)) s

/-- STORE (R188). -/
def execStore (tag : Byte) (s : State) : Host.Outcome State Fault Refusal :=
  perform (takeTransaction .store tag []) s

/-- RESTART (R189). -/
def execRestart (tag : Byte) (s : State) : Host.Outcome State Fault Refusal :=
  perform (takeTransaction .restart tag []) s

end Sys2Proof.Machine
end

