-- ==== Sys2Proof/Machine/Lines.lean ====
section
/-! DEFINITION. The commands of the supply and the lines: power (R192 to R194), the reset line (R194) and the
stop-all line (R34, R175). The levels of the lines are the outside's and stand in State.inputs. -/

namespace Sys2Proof.Machine

/-- A start of the part with sampled straps, over what it finds (R194). -/
def startWith (inputs : Inputs) (straps : Straps) (s : State) : State :=
  bootDone inputs s.store.cutImage straps s.pending

/-- The part without power or in reset (R194). -/
def quench (inputs : Inputs) (s : State) : State := blank inputs s.store.cutImage s.store.straps s.pending

/-- POWER_ON (R194): the straps are sampled; with the reset line active the start waits for its release. -/
def execPowerOn (straps : Straps) (s : State) : Host.Outcome State Fault Refusal :=
  if s.inputs.resetActive then
    .next { s with inputs := { s.inputs with powered := true }, store := { s.store with straps := straps } }
  else .next (startWith { s.inputs with powered := true } straps s)

/-- RESET_LINE_ASSERT (R194). -/
def execResetLineAssert (s : State) : Host.Outcome State Fault Refusal :=
  .next (quench { s.inputs with resetActive := true } s)

/-- RESET_LINE_RELEASE (R194): the straps are sampled and the part starts. -/
def execResetLineRelease (straps : Straps) (s : State) : Host.Outcome State Fault Refusal :=
  if !s.inputs.resetActive then .next s
  else if s.inputs.powered then .next (startWith { s.inputs with resetActive := false } straps s)
  else .next { s with inputs := { s.inputs with resetActive := false } }

/-- The level of the stop-all line. -/
def setStopAll (v : Bool) (s : State) : State := { s with inputs := { s.inputs with stopAll := v } }

/-- The stop-all line becomes active: the halt effects (R175). The posture follows by R33 and R34. -/
def stopAllRises (s : State) : State := haltEffects (setStopAll true s)

/-- STOP_ALL_ACTIVE (R175): a line that is active already does not change. -/
def execStopAllActive (s : State) : Host.Outcome State Fault Refusal :=
  if s.inputs.stopAll then .next s
  else if !s.isRunning then .next (setStopAll true s)
  else perform (change stopAllRises) s

/-- STOP_ALL_INACTIVE (R34): the posture and the motion power enable line are judged again. -/
def execStopAllInactive (s : State) : Host.Outcome State Fault Refusal :=
  if !s.inputs.stopAll then .next s
  else if !s.isRunning then .next (setStopAll false s)
  else perform (change (setStopAll false)) s

/-- POWER_OFF (R193): all runtime state ends, and a store in progress is cut short. -/
def execPowerOff (s : State) : Host.Outcome State Fault Refusal :=
  .next (quench { s.inputs with powered := false } s)

end Sys2Proof.Machine
end

