-- ==== Sys2Proof/Machine/PortEvents.lean ====
section
/-! DEFINITION. The events of the two ports: the end of a sending (R143, R151), bus-off and recovery
(R152, R153). -/

namespace Sys2Proof.Machine

/-- The frame is the reply DONE to a RESTART (R189, R198). -/
def isRestartReply (e : TxEntry) : Bool :=
  e.cls == .reply && byteAt e.frame.data 0 == 0x81 && byteAt e.frame.data 1 == CommandCode.restart.toByte
    && byteAt e.frame.data 3 == byteOf ReplyOutcome.done.code

/-- The sending that completes is that of the reply to the RESTART taken (R189). -/
def restartSent (s : State) : Bool :=
  s.store.restart.isSome && s.path.cState == .active && s.path.cTransmit.any isRestartReply

/-- The C-port completes a sending: the buffer empties, and the head of the queue moves into it (R143). -/
def sentC (s : State) : State :=
  if s.path.cState = .active then pumpC { s with path := { s.path with cTransmit := none } } else s

/-- C_PORT_TRANSMIT_DONE (R143); the end of a RESTART's reply is the restart (R189). -/
def execCPortTransmitDone (s : State) : Host.Outcome State Fault Refusal :=
  if s.isRunning && !s.overrun && restartSent s then .next (restartNow s) else perform (change sentC) s

/-- The M-port completes a sending, and the next frame moves into the buffer (R151). -/
def sentM (s : State) : State :=
  if s.path.mState = .active then pumpM { s with path := { s.path with mTransmit := none } } else s

/-- M_PORT_TRANSMIT_DONE (R151). -/
def execMPortTransmitDone (s : State) : Host.Outcome State Fault Refusal :=
  perform (change sentM) s

/-- The C-port goes BUS_OFF: buffers and queue are kept (R152). -/
def offC (s : State) : State := { s with path := { s.path with cState := .busOff } }

/-- C_PORT_BUS_OFF (R152). -/
def execCPortBusOff (s : State) : Host.Outcome State Fault Refusal :=
  perform (change offC) s

/-- The C-port recovers: the count, and sending resumes (R152). -/
def onC (s : State) : State :=
  if s.path.cState = .busOff then
    pumpC { s with path := { s.path with cState := .active, cRecovery := bump s.path.cRecovery } }
  else s

/-- C_PORT_RECOVERY (R152). -/
def execCPortRecovery (s : State) : Host.Outcome State Fault Refusal :=
  perform (change onC) s

/-- The M-port goes BUS_OFF: its transmit buffer is discarded, the forward queue emptied and counted, and a
running census abandoned; the posture follows by R33 and R34 (R153, R161). -/
def offM (s : State) : State :=
  if s.path.mState = .busOff then s
  else
    abandonCensus { s with
      path := { s.path with mState := .busOff, mTransmit := none, forward := [] }
      matching := { s.matching with
        forwardOverflow := saturate (s.matching.forwardOverflow + s.path.forward.length) } }

/-- M_PORT_BUS_OFF (R153). -/
def execMPortBusOff (s : State) : Host.Outcome State Fault Refusal :=
  perform (change offM) s

/-- The M-port recovers: the count, and a census starts; sending resumes (R153). Enrolment frames that a
census run in BUS_OFF still held are withdrawn (log entry 16, DEDUCED). -/
def onM (s : State) : State :=
  if s.path.mState = .busOff then
    pumpM (startCensus (withdrawEnrol { s with
      path := { s.path with mState := .active, mRecovery := bump s.path.mRecovery } }))
  else s

/-- M_PORT_RECOVERY (R153). -/
def execMPortRecovery (s : State) : Host.Outcome State Fault Refusal :=
  perform (change onM) s

end Sys2Proof.Machine
end

