-- ==== Sys2Proof/Machine/TableCommands.lean ====
section
/-! DEFINITION. The management commands on the match table and the permission matrix, each as one whole
transaction: its operands are the parameter bytes of R198. -/

namespace Sys2Proof.Machine

/-- WRITE_ENTRY (R135). -/
def execWriteEntry (tag index : Byte) (block : EntryBlock) (s : State) : Host.Outcome State Fault Refusal :=
  perform (takeTransaction .writeEntry tag (index :: entryBlockBytes block)) s

/-- APPEND_ENTRY (R136). -/
def execAppendEntry (tag : Byte) (block : EntryBlock) (s : State) : Host.Outcome State Fault Refusal :=
  perform (takeTransaction .appendEntry tag (entryBlockBytes block)) s

/-- SET_ENTRY_STATE, entry form (R137). -/
def execSetEntryStateEntry (tag index state : Byte) (s : State) : Host.Outcome State Fault Refusal :=
  perform (takeTransaction .setEntryState tag [0, index, state]) s

/-- SET_ENTRY_STATE, port form (R138). -/
def execSetEntryStatePort (tag port action : Byte) (s : State) : Host.Outcome State Fault Refusal :=
  perform (takeTransaction .setEntryState tag [1, port, action]) s

/-- MARK (R139). -/
def execMark (tag form : Byte) (ident : Word32) (byte0 byte1 mask port state : Byte) (s : State) :
    Host.Outcome State Fault Refusal :=
  perform (takeTransaction .mark tag ([form] ++ bytesOf32 ident ++ [byte0, byte1, mask, port, state])) s

/-- PROBE (R140). -/
def execProbe (tag form : Byte) (ident : Word32) (byte0 byte1 length port : Byte) (s : State) :
    Host.Outcome State Fault Refusal :=
  perform (takeTransaction .probe tag ([form] ++ bytesOf32 ident ++ [byte0, byte1, length, port])) s

/-- CLEAR_HITS (R141). -/
def execClearHits (tag first last engine : Byte) (s : State) : Host.Outcome State Fault Refusal :=
  perform (takeTransaction .clearHits tag [first, last, engine]) s

/-- WRITE_MASK (R142). -/
def execWriteMask (tag index : Byte) (ident : Word32) (byte0 byte1 : Byte) (s : State) :
    Host.Outcome State Fault Refusal :=
  perform (takeTransaction .writeMask tag ([index] ++ bytesOf32 ident ++ [byte0, byte1])) s

/-- SET_WINDOW (R44). -/
def execSetWindow (tag firstRow lastRow firstColumn lastColumn order : Byte) (s : State) :
    Host.Outcome State Fault Refusal :=
  perform (takeTransaction .setWindow tag [firstRow, lastRow, firstColumn, lastColumn, order]) s

/-- WRITE_CELLS (R45). -/
def execWriteCells (tag : Byte) (cells : List Byte) (s : State) : Host.Outcome State Fault Refusal :=
  perform (takeTransaction .writeCells tag cells) s

/-- SWAP_MATRIX (R48). -/
def execSwapMatrix (tag : Byte) (crc : Word16) (s : State) : Host.Outcome State Fault Refusal :=
  perform (takeTransaction .swapMatrix tag (bytesOf16 crc)) s

end Sys2Proof.Machine
end

