-- ==== Sys2Proof/Machine/Timers.lean ====
section
/-! DEFINITION. The expiries of the part's timers. An expiry acts on a timer that runs, and a timer that is
idle has no expiry: the command then changes nothing (log entry 15). -/

namespace Sys2Proof.Machine

/-- An expiry acts where its timer runs. -/
def whenRuns (t : Timer) (act : State → State × List Task) (s : State) : State × List Task :=
  if t.isSome then act s else (s, [])

/-! ### Functions and signals -/

/-- The hold record after its timer's expiry (R23). The time of the last press and the source entry are kept,
which R22 leaves open for a record of state NONE (log entry 37). -/
def Hold.released (h : Hold) : Hold := { h with state := .none, verb := none, timer := none }

/-- The hold timer's expiry (R23). -/
def holdExpired (i : Slot) (s : State) : State :=
  let h := s.hold i
  let f := s.fn i
  let s := putHold i h.released s
  if h.state = .active ∧ (s.cfg i).mode = .hold ∧ f.owner = .operator
      ∧ (f.activity = .waiting ∨ f.activity = .moving) then
    stopFn true i .holdReleased s
  else s

/-- HOLD_TIMER_EXPIRY (R23). -/
def execHoldTimerExpiry (slot : Slot) (s : State) : Host.Outcome State Fault Refusal :=
  perform (fun s => whenRuns (s.hold slot).timer (change (holdExpired slot)) s) s

/-- The settle timer's expiry: the verify (R17), and what the sequencer does with a jack at rest (R87,
R91). -/
def settleExpired (i : Slot) (s : State) : State × List Task := jackRested i (verify i s)

/-- SETTLE_TIMER_EXPIRY (R17). -/
def execSettleTimerExpiry (slot : Slot) (s : State) : Host.Outcome State Fault Refusal :=
  perform (fun s => whenRuns (s.fn slot).settleTimer (settleExpired slot) s) s

/-- STALE_TIMER_EXPIRY (R27). -/
def execStaleTimerExpiry (signal : Signal) (s : State) : Host.Outcome State Fault Refusal :=
  perform (fun s => whenRuns (s.signal signal).timer (change (staleExpired signal)) s) s

/-- The contact-loss timer's expiry: the flag clears (R30), and a finished jack in GROUND is unfinished and
requested again (R79). -/
def contactLost (i : Slot) (s : State) : State × List Task :=
  let s := putFn i { s.fn i with contact := false, contactTimer := none } s
  if s.sequence.phase = .ground ∧ s.isTaken i ∧ s.isFinished i then
    (s.setSeq { s.sequence with finished := s.sequence.finished.filter (· != i) }, [.groundRequest i])
  else (s, [])

/-- CONTACT_LOSS_TIMER_EXPIRY (R30). -/
def execContactLossTimerExpiry (slot : Slot) (s : State) : Host.Outcome State Fault Refusal :=
  perform (fun s => whenRuns (s.fn slot).contactTimer (contactLost slot) s) s

/-! ### The arbiter and the supply -/

/-- The wait timer of a slot: that of its wait list entry, where it has one (R55). -/
def State.waitTimer (s : State) (i : Slot) : Timer :=
  (s.manifold.waitList.find? fun e => e.slot == i).bind (·.timer)

/-- The wait timer's expiry: the function stops RESOURCE_TIMEOUT (R57), and a sequence that took it aborts
(R92). -/
def waitExpired (i : Slot) (s : State) : State :=
  let taken := s.isTaken i
  let s := stopFn true i .resourceTimeout s
  if taken then abortSequence true .stopped s else s

/-- WAIT_TIMER_EXPIRY (R57). -/
def execWaitTimerExpiry (slot : Slot) (s : State) : Host.Outcome State Fault Refusal :=
  perform (fun s => whenRuns (s.waitTimer slot) (change (waitExpired slot)) s) s

/-- PRIME_TIMER_EXPIRY (R60). -/
def execPrimeTimerExpiry (s : State) : Host.Outcome State Fault Refusal :=
  perform (fun s => whenRuns s.manifold.primeTimer (change primeExpired) s) s

/-- HOLD_ON_TIMER_EXPIRY (R61): the pump stops; the service pass follows its claim's release. -/
def execHoldOnTimerExpiry (s : State) : Host.Outcome State Fault Refusal :=
  perform (fun s => whenRuns s.manifold.holdOnTimer (change (stopPump true)) s) s

/-- The rest timer's expiry: the run time becomes 0 (R62). -/
def restExpired (s : State) : State :=
  s.setManifold { s.manifold with runTime := 0, restTimer := none }

/-- REST_TIMER_EXPIRY (R62). -/
def execRestTimerExpiry (s : State) : Host.Outcome State Fault Refusal :=
  perform (fun s => whenRuns s.manifold.restTimer (change restExpired) s) s

/-- The run time of a running pump reaches the duty limit (R62). -/
def dutyReachedNow (s : State) : State :=
  if s.manifold.pump.isOn then
    dutyExpired (s.setManifold { s.manifold with runTime := s.settings.manifold.dutyLimit * 1000 })
  else s

/-- PUMP_DUTY_LIMIT_REACHED (R62). -/
def execPumpDutyLimitReached (s : State) : Host.Outcome State Fault Refusal :=
  perform (change dutyReachedNow) s

/-- COOL_DOWN_TIMER_EXPIRY (R62). -/
def execCoolDownTimerExpiry (s : State) : Host.Outcome State Fault Refusal :=
  perform (fun s => whenRuns s.manifold.coolTimer (change coolDownOver) s) s

/-- The moment the low-supply timer expires, while it runs (R67). -/
def LowTimer.expiry : LowTimer → Timer
  | .running t => some t
  | _ => none

/-- LOW_SUPPLY_TIMER_EXPIRY (R67). -/
def execLowSupplyTimerExpiry (s : State) : Host.Outcome State Fault Refusal :=
  perform (fun s => whenRuns s.budget.lowTimer.expiry (change lowSupplyExpired) s) s

/-! ### The sequencer -/

/-- The level settle timer's expiry (R82, R88). -/
def levelSettled (s : State) : State :=
  let s := s.setSeq { s.sequence with settleTimer := none }
  if s.sequence.phase = .settle then
    setPhase .sample (s.setSeq { s.sequence with
      sampleTimer := startTimer s.now s.settings.levelling.sampleTimeout })
  else s

/-- LEVEL_SETTLE_TIMER_EXPIRY (R88). -/
def execLevelSettleTimerExpiry (s : State) : Host.Outcome State Fault Refusal :=
  perform (fun s => whenRuns s.sequence.settleTimer (change levelSettled) s) s

/-- SAMPLE_TIMER_EXPIRY (R82). -/
def execSampleTimerExpiry (s : State) : Host.Outcome State Fault Refusal :=
  perform (fun s => whenRuns s.sequence.sampleTimer (change (endSequenceAs .sensorTimeout)) s) s

/-! ### Slides and awnings -/

/-- A stall timer's expiry: the stall of the channel is complete (R101, R102). -/
def stallExpired (i : Slot) (e : Side) (s : State) : State :=
  reorder i (judgeStall i e (setChannel i e { (s.fn i).chan e with stallTimer := none } s))

/-- STALL_TIMER_EXPIRY (R101). -/
def execStallTimerExpiry (slot : Slot) (side : Side) (s : State) : Host.Outcome State Fault Refusal :=
  perform (fun s => whenRuns ((s.fn slot).chan side).stallTimer (change (stallExpired slot side)) s) s

/-- GUST_TIMER_EXPIRY (R117). -/
def execGustTimerExpiry (s : State) : Host.Outcome State Fault Refusal :=
  perform (fun s => whenRuns s.wind.gustTimer gustExpired s) s

/-- CALM_TIMER_EXPIRY (R120). -/
def execCalmTimerExpiry (s : State) : Host.Outcome State Fault Refusal :=
  perform (fun s => whenRuns s.wind.calmTimer (change calmExpired) s) s

/-! ### The link -/

/-- ENROLMENT_TIMER_EXPIRY (R159). -/
def execEnrolmentTimerExpiry (s : State) : Host.Outcome State Fault Refusal :=
  perform (fun s => whenRuns s.link.enrolTimer enrolmentExpired s) s

/-- SILENCE_TIMER_EXPIRY (R166). -/
def execSilenceTimerExpiry (node : Nat) (s : State) : Host.Outcome State Fault Refusal :=
  perform (fun s => whenRuns (s.node node).silenceTimer (change (silentNode node)) s) s

/-! ### Refresh, status and doze -/

/-- The MOVING slots, ascending. -/
def State.movingSlots (s : State) : List Slot := slots.filter s.moves

/-- A channel that the refresh sets due (R173 step 4). -/
def refreshes (s : State) (r : OrderRecord) : Bool :=
  r.refresh
    || (s.movingSlots.any fun i => (s.cfg i).drives.contains ⟨r.node, r.channel⟩)
    || (s.manifold.pump.isOn && s.settings.manifold.pump == some ⟨r.node, r.channel⟩)

/-- Set due what the refresh repeats (R173 step 4). -/
def setDue (s : State) : State :=
  { s with orders := { s.orders with
      records := s.orders.records.map fun r => if refreshes s r then { r with due := true } else r } }

/-- The refresh timer's expiry (R173), with the order speeds worked out again (R13, R99) before the placing. -/
def refreshExpired (s : State) : State :=
  let s := { s with orders := { s.orders.restarted s.now s.settings.timing.refreshPeriod with
    cycle := nextSequence s.orders.cycle } }
  let s := s.movingSlots.foldl (fun s i => reorder i s) (offerBeat s)
  pumpM (placeDue (setDue s))

/-- REFRESH_TIMER_EXPIRY (R173). -/
def execRefreshTimerExpiry (s : State) : Host.Outcome State Fault Refusal :=
  perform (fun s => whenRuns s.orders.refreshTimer (change refreshExpired) s) s

/-- The status timer's expiry: the periodic frames (R191). -/
def statusExpired (s : State) : State :=
  let s := { s with statusTimer := startTimer s.now s.settings.timing.statusPeriod }
  s.movingSlots.foldl (fun s i => functionFrame .periodic i s) (postureFrame .periodic s)

/-- STATUS_TIMER_EXPIRY (R191). -/
def execStatusTimerExpiry (s : State) : Host.Outcome State Fault Refusal :=
  perform (fun s => whenRuns s.statusTimer (change statusExpired) s) s

/-- DOZE_TIMER_EXPIRY (R196). -/
def execDozeTimerExpiry (s : State) : Host.Outcome State Fault Refusal :=
  perform (fun s => whenRuns s.store.dozeTimer (change enterDoze) s) s

/-! ### Store and restart -/

/-- STORE_COMPLETION (R193). -/
def execStoreCompletion (s : State) : Host.Outcome State Fault Refusal :=
  perform endStore s

/-- RESTART_TAKES_PLACE (R189): the start of a RESTART that was taken. -/
def execRestartTakesPlace (s : State) : Host.Outcome State Fault Refusal :=
  if s.isRunning && !s.overrun && s.store.restart.isSome then .next (restartNow s) else perform (change id) s

end Sys2Proof.Machine
end

