-- ==== Sys2Proof/Machine/Clock.lean ====
section
/-! DEFINITION. What the part does of itself while no command waits (log entry 3): it puts the expiry of a
timer that is due into its queue, or the taking of a frame that stands in a receive buffer, and otherwise one
millisecond passes. -/

namespace Sys2Proof.Machine

/-- A timer that is due. -/
def isDue (now : Nat) : Timer → Bool
  | some t => decide (t ≤ now)
  | none => false

/-- The two ends, in their order. -/
def sides : List Side := [.a, .b]

/-- The seven signals, in their order. -/
def signals : List Signal :=
  [.ignition, .parkBrake, .roadSpeed, .engineRun, .supplyVoltage, .windSpeed, .serviceMode]

/-- A command, where its timer is due. -/
def ifDue (now : Nat) (t : Timer) (c : Instr) : List Instr := if isDue now t then [c] else []

/-- The expiries that are due, in the order of the opcode table. -/
def dueExpiries (s : State) : List Instr :=
  (slots.flatMap fun i => ifDue s.now (s.hold i).timer (.holdTimerExpiry i))
    ++ (slots.flatMap fun i => ifDue s.now (s.fn i).settleTimer (.settleTimerExpiry i))
    ++ (signals.flatMap fun g => ifDue s.now (s.signal g).timer (.staleTimerExpiry g))
    ++ (slots.flatMap fun i => ifDue s.now (s.fn i).contactTimer (.contactLossTimerExpiry i))
    ++ (slots.flatMap fun i => ifDue s.now (s.waitTimer i) (.waitTimerExpiry i))
    ++ ifDue s.now s.manifold.primeTimer .primeTimerExpiry
    ++ ifDue s.now s.manifold.holdOnTimer .holdOnTimerExpiry
    ++ ifDue s.now s.manifold.restTimer .restTimerExpiry
    ++ (if dutyReached s then [.pumpDutyLimitReached] else [])
    ++ ifDue s.now s.manifold.coolTimer .coolDownTimerExpiry
    ++ ifDue s.now s.budget.lowTimer.expiry .lowSupplyTimerExpiry
    ++ ifDue s.now s.sequence.settleTimer .levelSettleTimerExpiry
    ++ ifDue s.now s.sequence.sampleTimer .sampleTimerExpiry
    ++ (slots.flatMap fun i => sides.flatMap fun e =>
        ifDue s.now ((s.fn i).chan e).stallTimer (.stallTimerExpiry i e))
    ++ ifDue s.now s.wind.gustTimer .gustTimerExpiry
    ++ ifDue s.now s.wind.calmTimer .calmTimerExpiry
    ++ ifDue s.now s.link.enrolTimer .enrolmentTimerExpiry
    ++ ((List.range 24).flatMap fun n =>
        ifDue s.now (s.node (n + 1)).silenceTimer (.silenceTimerExpiry (n + 1)))
    ++ ifDue s.now s.orders.refreshTimer .refreshTimerExpiry
    ++ ifDue s.now s.statusTimer .statusTimerExpiry
    ++ ifDue s.now s.store.dozeTimer .dozeTimerExpiry
    ++ ifDue s.now (s.store.storing.bind (·.timer)) .storeCompletion
    ++ ifDue s.now s.store.restart .restartTakesPlace

/-- The command that takes the head of the C-port receive buffer (R145, R198). -/
def routeC (s : State) (f : Frame) : Instr :=
  if isCommandFrame s f then .commandFrame
  else if isContinueFrame s f then .continueFrame
  else if isRequestFrame s f then .managementFrameDiscard
  else .matchArrival .coach

/-- The command that takes the head of the M-port receive buffer (R146, R200). -/
def routeM (s : State) (f : Frame) : Instr :=
  if isLinkFrame f.form f.ident then
    if isStrayFrame s f then .linkStray
    else if isReportFrame f then .report
    else if isTiltFrame f then .tilt
    else .enrolAck
  else .matchArrival .motion

/-- The takings of the heads of the receive buffers, the C-port's first. -/
def arrivals (s : State) : List Instr :=
  (s.path.cReceive.head?.map (routeC s)).toList ++ (s.path.mReceive.head?.map (routeM s)).toList

/-- One millisecond passes; a pump that runs runs on (R62). -/
def tick (s : State) : State :=
  { s with
    now := s.now + 1
    manifold := { s.manifold with
      runTime := if s.manifold.pump.isOn then s.manifold.runTime + 1 else s.manifold.runTime } }

/-- What the part does of itself: one expiry that is due or one arrival joins the queue, or a millisecond
passes. Without power or in reset nothing happens. -/
def idle (s : State) : State :=
  if !s.isRunning then s
  else
    match dueExpiries s ++ arrivals s with
    | c :: _ => { s with pending := [c] }
    | [] => tick s

end Sys2Proof.Machine
end

