-- ==== Sys2Proof/Machine/Dispatch.lean ====
section
/-! DEFINITION. Which meaning each command has: one arm for each row of spec/opcode_table.json. -/

namespace Sys2Proof.Machine

def exec (i : Instr) (s : State) : Host.Outcome State Fault Refusal :=
  match i with
  | .powerOn straps => Sys2Proof.Machine.execPowerOn straps s
  | .resetLineAssert => Sys2Proof.Machine.execResetLineAssert s
  | .resetLineRelease straps => Sys2Proof.Machine.execResetLineRelease straps s
  | .stopAllActive => Sys2Proof.Machine.execStopAllActive s
  | .stopAllInactive => Sys2Proof.Machine.execStopAllInactive s
  | .cPortFrameReceived f => Sys2Proof.Machine.execCPortFrameReceived f s
  | .mPortFrameReceived f => Sys2Proof.Machine.execMPortFrameReceived f s
  | .matchArrival port => Sys2Proof.Machine.execMatchArrival port s
  | .commandFrame => Sys2Proof.Machine.execCommandFrame s
  | .continueFrame => Sys2Proof.Machine.execContinueFrame s
  | .managementFrameDiscard => Sys2Proof.Machine.execManagementFrameDiscard s
  | .report => Sys2Proof.Machine.execReport s
  | .tilt => Sys2Proof.Machine.execTilt s
  | .enrolAck => Sys2Proof.Machine.execEnrolAck s
  | .linkStray => Sys2Proof.Machine.execLinkStray s
  | .cPortTransmitDone => Sys2Proof.Machine.execCPortTransmitDone s
  | .mPortTransmitDone => Sys2Proof.Machine.execMPortTransmitDone s
  | .cPortBusOff => Sys2Proof.Machine.execCPortBusOff s
  | .cPortRecovery => Sys2Proof.Machine.execCPortRecovery s
  | .mPortBusOff => Sys2Proof.Machine.execMPortBusOff s
  | .mPortRecovery => Sys2Proof.Machine.execMPortRecovery s
  | .holdTimerExpiry slot => Sys2Proof.Machine.execHoldTimerExpiry slot s
  | .settleTimerExpiry slot => Sys2Proof.Machine.execSettleTimerExpiry slot s
  | .staleTimerExpiry signal => Sys2Proof.Machine.execStaleTimerExpiry signal s
  | .contactLossTimerExpiry slot => Sys2Proof.Machine.execContactLossTimerExpiry slot s
  | .waitTimerExpiry slot => Sys2Proof.Machine.execWaitTimerExpiry slot s
  | .primeTimerExpiry => Sys2Proof.Machine.execPrimeTimerExpiry s
  | .holdOnTimerExpiry => Sys2Proof.Machine.execHoldOnTimerExpiry s
  | .restTimerExpiry => Sys2Proof.Machine.execRestTimerExpiry s
  | .pumpDutyLimitReached => Sys2Proof.Machine.execPumpDutyLimitReached s
  | .coolDownTimerExpiry => Sys2Proof.Machine.execCoolDownTimerExpiry s
  | .lowSupplyTimerExpiry => Sys2Proof.Machine.execLowSupplyTimerExpiry s
  | .levelSettleTimerExpiry => Sys2Proof.Machine.execLevelSettleTimerExpiry s
  | .sampleTimerExpiry => Sys2Proof.Machine.execSampleTimerExpiry s
  | .stallTimerExpiry slot side => Sys2Proof.Machine.execStallTimerExpiry slot side s
  | .gustTimerExpiry => Sys2Proof.Machine.execGustTimerExpiry s
  | .calmTimerExpiry => Sys2Proof.Machine.execCalmTimerExpiry s
  | .enrolmentTimerExpiry => Sys2Proof.Machine.execEnrolmentTimerExpiry s
  | .silenceTimerExpiry node => Sys2Proof.Machine.execSilenceTimerExpiry node s
  | .refreshTimerExpiry => Sys2Proof.Machine.execRefreshTimerExpiry s
  | .statusTimerExpiry => Sys2Proof.Machine.execStatusTimerExpiry s
  | .dozeTimerExpiry => Sys2Proof.Machine.execDozeTimerExpiry s
  | .storeCompletion => Sys2Proof.Machine.execStoreCompletion s
  | .restartTakesPlace => Sys2Proof.Machine.execRestartTakesPlace s
  | .writeEntry tag index block => Sys2Proof.Machine.execWriteEntry tag index block s
  | .appendEntry tag block => Sys2Proof.Machine.execAppendEntry tag block s
  | .setEntryStateEntry tag index state => Sys2Proof.Machine.execSetEntryStateEntry tag index state s
  | .setEntryStatePort tag port action => Sys2Proof.Machine.execSetEntryStatePort tag port action s
  | .mark tag form ident byte0 byte1 mask port state => Sys2Proof.Machine.execMark tag form ident byte0 byte1 mask port state s
  | .probe tag form ident byte0 byte1 length port => Sys2Proof.Machine.execProbe tag form ident byte0 byte1 length port s
  | .clearHits tag first last engine => Sys2Proof.Machine.execClearHits tag first last engine s
  | .writeMask tag index ident byte0 byte1 => Sys2Proof.Machine.execWriteMask tag index ident byte0 byte1 s
  | .setWindow tag firstRow lastRow firstColumn lastColumn order => Sys2Proof.Machine.execSetWindow tag firstRow lastRow firstColumn lastColumn order s
  | .writeCells tag cells => Sys2Proof.Machine.execWriteCells tag cells s
  | .swapMatrix tag crc => Sys2Proof.Machine.execSwapMatrix tag crc s
  | .setFunction tag slot fields => Sys2Proof.Machine.execSetFunction tag slot fields s
  | .setGeometry tag slot fields => Sys2Proof.Machine.execSetGeometry tag slot fields s
  | .setLevelling tag fields => Sys2Proof.Machine.execSetLevelling tag fields s
  | .setManifold tag fields => Sys2Proof.Machine.execSetManifold tag fields s
  | .setSupply tag fields => Sys2Proof.Machine.execSetSupply tag fields s
  | .setSignal tag signal fields => Sys2Proof.Machine.execSetSignal tag signal fields s
  | .setTiming tag fields => Sys2Proof.Machine.execSetTiming tag fields s
  | .read tag kind index => Sys2Proof.Machine.execRead tag kind index s
  | .census tag => Sys2Proof.Machine.execCensus tag s
  | .halt tag => Sys2Proof.Machine.execHalt tag s
  | .jog tag slot verb distance => Sys2Proof.Machine.execJog tag slot verb distance s
  | .store tag => Sys2Proof.Machine.execStore tag s
  | .restart tag => Sys2Proof.Machine.execRestart tag s
  | .powerOff => Sys2Proof.Machine.execPowerOff s

end Sys2Proof.Machine
end

