-- ==== Sys2Proof/Safety.lean ====
section
/-! DEFINITION. The words in which statements about the NG316 are made: when the part takes a command, when
nothing follows from a change, the state a start gives, and the invariants that every step keeps. -/

namespace Sys2Proof.Machine

/-! ### When the part takes a command -/

/-- The part runs, no cascade was cut, and every judgement of the machine holds. -/
def State.isReady (s : State) : Bool := s.isRunning && !s.overrun && (react [] s).isNone

/-- The part is ready and its management decoder takes a new command: not in DOZE, no assembly in progress, no
STORE or RESTART taken (R179, R188, R189, R196). -/
def State.takesCommands (s : State) : Bool :=
  s.isReady && !s.store.doze && s.assembly.isNone && !takesNoCommand s

/-- A running doze timer restarts from its start value (R195). -/
def State.renewed (s : State) : State :=
  { s with store := { s.store with
      dozeTimer := if s.store.dozeTimer.isSome then some (s.now + s.settings.timing.dozeTime * 1000)
        else none } }

/-- No function is WAITING, MOVING or SETTLING, no sequence runs, the arbiter holds nothing, the pump is off
and no swap is pending. -/
def State.isAtRest (s : State) : Bool :=
  !s.anyBusy && s.sequence.phase == .idle && s.manifold.waitList.isEmpty && s.manifold.holder.isNone
    && !s.manifold.pump.isOn && !s.monitor.swapPending

/-- A change from one state to another calls for no clearance test, no judgement, and no service pass that would find
a function waiting. -/
def nothingFollows (old new : State) : Bool :=
  (clearanceTasks old new).isEmpty && (!passDue old new || new.manifold.waitList.isEmpty) && (react [] new).isNone

/-- What a stop, a fault, a grant or a request may change: the runtime half of the functions, their hold records,
the arbiter, the claims, the sequence, the wind record's marks, the orders, the levelled flag, the frames waiting
to be sent with their loss counts, and the census step that a sent frame makes. Everything else is as it was: the
lines, the time, the configuration, signals, posture, alarms, window and swap, the effective limit, the match
table's counts, the receive buffers, the node table, the census outcome, the assembly, the store. -/
def onlyMotionChanges (s t : State) : Prop :=
  t = { s with
    functions := t.functions, holds := t.holds, manifold := t.manifold, sequence := t.sequence
    wind := t.wind, orders := t.orders
    monitor := { s.monitor with levelled := t.monitor.levelled }
    budget := { s.budget with claims := t.budget.claims }
    matching := { s.matching with forwardOverflow := t.matching.forwardOverflow }
    path := { s.path with
      cTransmit := t.path.cTransmit, mTransmit := t.path.mTransmit, cQueue := t.path.cQueue
      forward := t.path.forward, control := t.path.control, cDiscard := t.path.cDiscard }
    link := { s.link with
      outstanding := t.link.outstanding, enrolTimer := t.link.enrolTimer, offers := t.link.offers
      chainLine := t.link.chainLine } }

/-- The same, and the alarm set may change as well. -/
def onlyMotionAndAlarmsChange (s t : State) : Prop :=
  onlyMotionChanges { s with monitor := { s.monitor with alarms := t.monitor.alarms } } t

/-- A service pass of a state calls for no test, no further pass and no judgement. -/
def passSettles (s : State) : Bool := (passAgain s (servicePass s)).isEmpty && (react [] (servicePass s)).isNone

/-- A slot whose bindings have been checked again, as R8 leaves it before the next report: UNAVAILABLE at its start
values, with CONFIG_MISMATCH where the check is made and fails (R162). -/
def unboundAgain (s : State) (i : Slot) : Prop :=
  let f := s.fn i
  f.activity = .unavailable ∧ f.owner = .none ∧ f.posClass = .unknown ∧ f.drift = none ∧ f.contact = false
    ∧ f.skewHold = none ∧ (∀ e, (f.chan e).position = none ∧ (f.chan e).load = none)
    ∧ f.fault = if s.link.outcome = .complete ∧ bindingHolds s i = false then some .configMismatch else none

/-- The parameter bytes that a management command carries, with its code and tag (R198). -/
def transactionOf : Instr → Option (CommandCode × Byte × List Byte)
  | .census tag => some (.census, tag, [])
  | .halt tag => some (.halt, tag, [])
  | .store tag => some (.store, tag, [])
  | .restart tag => some (.restart, tag, [])
  | .read tag kind index => some (.read, tag, [kind, index])
  | .swapMatrix tag crc => some (.swapMatrix, tag, bytesOf16 crc)
  | .setEntryStateEntry tag index state => some (.setEntryState, tag, [0, index, state])
  | .setEntryStatePort tag port action => some (.setEntryState, tag, [1, port, action])
  | .clearHits tag first last engine => some (.clearHits, tag, [first, last, engine])
  | .jog tag slot verb distance => some (.jog, tag, [slot, verb] ++ bytesOf16 distance)
  | .writeEntry tag index block => some (.writeEntry, tag, index :: entryBlockBytes block)
  | .appendEntry tag block => some (.appendEntry, tag, entryBlockBytes block)
  | .mark tag form ident byte0 byte1 mask port state =>
      some (.mark, tag, [form] ++ bytesOf32 ident ++ [byte0, byte1, mask, port, state])
  | .probe tag form ident byte0 byte1 length port =>
      some (.probe, tag, [form] ++ bytesOf32 ident ++ [byte0, byte1, length, port])
  | .writeMask tag index ident byte0 byte1 =>
      some (.writeMask, tag, [index] ++ bytesOf32 ident ++ [byte0, byte1])
  | .setWindow tag r0 r1 c0 c1 order => some (.setWindow, tag, [r0, r1, c0, c1, order])
  | .writeCells tag cells => some (.writeCells, tag, cells)
  | .setFunction tag slot fs => some (.setFunction, tag, slot :: fieldBytes fs)
  | .setGeometry tag slot fs => some (.setGeometry, tag, slot :: fieldBytes fs)
  | .setLevelling tag fs => some (.setLevelling, tag, fieldBytes fs)
  | .setManifold tag fs => some (.setManifold, tag, fieldBytes fs)
  | .setSupply tag fs => some (.setSupply, tag, fieldBytes fs)
  | .setSignal tag signal fs => some (.setSignal, tag, signal :: fieldBytes fs)
  | .setTiming tag fs => some (.setTiming, tag, fieldBytes fs)
  | .powerOn _ | .resetLineAssert | .resetLineRelease _ | .stopAllActive | .stopAllInactive => none
  | .cPortFrameReceived _ | .mPortFrameReceived _ => none
  | .matchArrival _ | .commandFrame | .continueFrame | .managementFrameDiscard => none
  | .report | .tilt | .enrolAck | .linkStray => none
  | .cPortTransmitDone | .mPortTransmitDone | .cPortBusOff | .cPortRecovery => none
  | .mPortBusOff | .mPortRecovery => none
  | .holdTimerExpiry _ | .settleTimerExpiry _ | .staleTimerExpiry _ => none
  | .contactLossTimerExpiry _ | .waitTimerExpiry _ | .primeTimerExpiry => none
  | .holdOnTimerExpiry | .restTimerExpiry | .pumpDutyLimitReached | .coolDownTimerExpiry => none
  | .lowSupplyTimerExpiry | .levelSettleTimerExpiry | .sampleTimerExpiry => none
  | .stallTimerExpiry _ _ | .gustTimerExpiry | .calmTimerExpiry | .enrolmentTimerExpiry => none
  | .silenceTimerExpiry _ | .refreshTimerExpiry | .statusTimerExpiry | .dozeTimerExpiry => none
  | .storeCompletion | .restartTakesPlace | .powerOff => none

/-- The timer whose expiry a command is: none for a command that is no expiry, and for the duty limit, which
is no timer. -/
def timerOf (s : State) : Instr → Option Timer
  | .holdTimerExpiry i => some (s.hold i).timer
  | .settleTimerExpiry i => some (s.fn i).settleTimer
  | .staleTimerExpiry g => some (s.signal g).timer
  | .contactLossTimerExpiry i => some (s.fn i).contactTimer
  | .waitTimerExpiry i => some (s.waitTimer i)
  | .primeTimerExpiry => some s.manifold.primeTimer
  | .holdOnTimerExpiry => some s.manifold.holdOnTimer
  | .restTimerExpiry => some s.manifold.restTimer
  | .coolDownTimerExpiry => some s.manifold.coolTimer
  | .lowSupplyTimerExpiry => some s.budget.lowTimer.expiry
  | .levelSettleTimerExpiry => some s.sequence.settleTimer
  | .sampleTimerExpiry => some s.sequence.sampleTimer
  | .stallTimerExpiry i e => some ((s.fn i).chan e).stallTimer
  | .gustTimerExpiry => some s.wind.gustTimer
  | .calmTimerExpiry => some s.wind.calmTimer
  | .enrolmentTimerExpiry => some s.link.enrolTimer
  | .silenceTimerExpiry n => some (s.node n).silenceTimer
  | .refreshTimerExpiry => some s.orders.refreshTimer
  | .statusTimerExpiry => some s.statusTimer
  | .dozeTimerExpiry => some s.store.dozeTimer
  | .restartTakesPlace => some s.store.restart
  | _ => none

/-! ### The state a start gives -/

/-- The POSTURE frame of a start: posture FAULT, the image's active bank, no swap pending, outcome RUNNING, the
effective limit of the safe supply voltage, claims held 0 (R156, R199). -/
def startPostureFrame (c : Settings) (straps : Straps) : TxEntry where
  cls := .change
  subject := some .posture
  frame := dataFrame (statusIdent straps 0)
    ([6, byteOf c.activeBank.code, 0, 1] ++ be16 (limitAt c.supply c.signals[4].safeValue) ++ [0, 0])

/-- The ALARM frame of a start with the factory image: UNCONFIGURED alone (R194, R199). -/
def startAlarmFrame (straps : Straps) : TxEntry where
  cls := .change
  subject := some .alarm
  frame := dataFrame (statusIdent straps 4) [0x20]

/-- The state right after a start that finds an image and samples or keeps straps (R194): the loaded
configuration, every runtime state at its start value, the refresh and status timers running, WIND_SPEED judged,
the doze timer as its conditions say, and the first census begun. -/
def startState (inputs : Inputs) (image : Image) (straps : Straps) (pending : List Instr) : State :=
  let c := image.load
  let factory := !image.agrees
  { inputs := inputs
    now := 0
    settings := c
    functions := Vector.replicate 16 Function.start
    holds := Vector.replicate 16 Hold.start
    monitor := PostureMonitor.start c factory
    manifold := Manifold.start
    budget := ⟨[], limitAt c.supply c.signals[4].safeValue, .idle⟩
    sequence := Sequence.start
    wind := { WindRecord.start with
      gustTimer := if c.wind.gustThreshold ≤ c.signals[5].safeValue then some c.wind.gustTime else none }
    matching := ⟨Vector.replicate 128 0, Vector.replicate 128 0, lowestEmpty c.entries, 0, 0, 0⟩
    path := { FramePath.start with
      cTransmit := some (if factory then startAlarmFrame straps else startPostureFrame c straps)
      cQueue := if factory then [startPostureFrame c straps] else []
      mTransmit := some (dataFrame (linkIdent 2 0) [])
      control := some (.enrol (.assign 1)) }
    link := { LinkManager.start with outcome := .running, outstanding := some 1, chainLine := true }
    orders := { OrderScheduler.start with refreshTimer := some c.timing.refreshPeriod, period := c.timing.refreshPeriod }
    assembly := none
    statusTimer := some c.timing.statusPeriod
    store :=
      { image := image
        factoryLoaded := factory
        storing := none
        restart := none
        straps := straps
        doze := false
        dozeTimer := if c.signals[0].safeValue = 0 then some (c.timing.dozeTime * 1000) else none }
    overrun := false
    pending := pending }

/-! ### Invariants -/

/-- In a part that runs, with no cascade cut, the posture is the derived one (R33, R34), the motion power enable
line is on exactly where its four conditions hold (R167), and the NOT_STOWED alarm is active exactly where its
condition holds (R40). -/
def State.PostureHolds (s : State) : Prop :=
  s.isRunning = true → s.overrun = false →
    s.monitor.posture = derivePosture s ∧ s.link.powerLine = powerLineHolds s
      ∧ s.monitor.alarms.notStowed = notStowedHolds s

/-- In a part that runs, with no cascade cut, a READY pump is used (R61), a plain grant has its function (R54),
no swap is pending while nothing is busy (R49), GROUND and STOWING have an unfinished jack (R81, R91), and the
doze timer runs exactly while its four conditions hold (R195). -/
def State.WorkSettled (s : State) : Prop :=
  s.isRunning = true → s.overrun = false →
    pumpUnused s = false ∧ grantOrphaned s = false ∧ (s.monitor.swapPending = true → s.anyBusy = true)
      ∧ groundDone s = false ∧ stowDone s = false ∧ s.store.dozeTimer.isSome = dozeHolds s

/-- The claims held and the effective limit never exceed the supply limit (R65, R66, R68). -/
def State.ClaimsWithinLimit (s : State) : Prop :=
  s.claimsHeld ≤ s.settings.supply.supplyLimit ∧ s.budget.effectiveLimit ≤ s.settings.supply.supplyLimit

/-- No buffer or queue holds more than its capacity (R144, R147, R151, R170). -/
def State.WithinCapacity (s : State) : Prop :=
  s.path.cReceive.length ≤ 16 ∧ s.path.mReceive.length ≤ 32 ∧ s.path.cQueue.length ≤ 16
    ∧ s.path.forward.length ≤ 8 ∧ s.orders.queue.length ≤ 8

/-- The C-port transmit queue holds at most one status frame of each subject (R148). -/
def State.SubjectsOnce (s : State) : Prop :=
  ∀ k : Subject, s.path.cQueue.countP (fun e => e.subject == some k) ≤ 1

/-- The order queue holds at most one entry for each node and channel (R170). -/
def State.ChannelsOnce (s : State) : Prop :=
  ∀ node channel : Nat, s.orders.queue.countP (·.isFor node channel) ≤ 1

/-- The next-free index is the lowest EMPTY index, or 128 (R124). -/
def State.NextFreeIsLowest (s : State) : Prop := s.matching.nextFree = lowestEmpty s.settings.entries

/-- No frame on its way to the motion link through the forward queue carries a frame kind below 24 (R130). -/
def State.LinkProtected (s : State) : Prop := ∀ f ∈ s.path.forward, isLinkFrame f.form f.ident = false

/-- A property of the configuration holds of the running one, of a good image, and of an image being
written. -/
def State.EveryConfiguration (P : Settings → Prop) (s : State) : Prop :=
  P s.settings ∧ (s.store.image.agrees = true → P s.store.image.settings)
    ∧ ∀ w, s.store.storing = some w → P w.image.settings

/-- The dependent fields of every slot are settled (R2): creep speed at most full speed, creep distance and
clearance position at most the stroke, hard skew at least twice the soft skew. -/
def Settings.FieldsSettled (c : Settings) : Prop :=
  ∀ i : Slot, c.functions[i].creepSpeed ≤ c.functions[i].fullSpeed
    ∧ c.functions[i].creepDistance ≤ c.functions[i].stroke
    ∧ c.functions[i].clearance ≤ c.functions[i].stroke
    ∧ 2 * c.functions[i].softSkew ≤ c.functions[i].hardSkew

/-- The clearance partners agree: a slide and an awning that name each other (R3). -/
def Settings.PartnersAgree (c : Settings) : Prop :=
  ∀ i k : Slot, c.functions[i].partner = some k →
    c.functions[k].partner = some i ∧ partnersFit c.functions[i].kind c.functions[k].kind = true

/-- The pair partners agree: two jacks that name each other (R71). -/
def Settings.PairsAgree (c : Settings) : Prop :=
  ∀ i k : Slot, c.geometry[i].partner = some k →
    c.geometry[k].partner = some i ∧ c.functions[i].kind = .jack ∧ c.functions[k].kind = .jack

/-- Mask record 0 has every care bit set (R125). -/
def Settings.MaskZeroFull (c : Settings) : Prop := c.masks[0] = MaskRecord.full

/-- The cut-off voltage lies below the low-supply voltage (R68). -/
def Settings.CutBelowLow (c : Settings) : Prop := c.supply.vCut < c.supply.vLow

/-- Between steps, the reading of the configuration that several rules promise at once (R2, R3, R68, R71,
R125). -/
def Settings.Agrees (c : Settings) : Prop :=
  c.FieldsSettled ∧ c.PartnersAgree ∧ c.PairsAgree ∧ c.MaskZeroFull ∧ c.CutBelowLow

/-! ### The ranges of the configuration -/

/-- Every field of a slot's configuration and geometry is in its range (R1, R71); the stroke and the windows in
those of the slot's kind (R2). -/
def Settings.SlotsInRange (c : Settings) : Prop :=
  ∀ i : Slot, let f := c.functions[i]
    (strokeRange f.kind).1 ≤ f.stroke ∧ f.stroke ≤ (strokeRange f.kind).2
    ∧ f.stowWindow ≤ windowMax f.kind ∧ f.endWindow ≤ windowMax f.kind
    ∧ f.nameTag ≤ 255 ∧ f.offsetA ≤ 65535 ∧ f.offsetB ≤ 65535
    ∧ (f.senseA = 1 ∨ f.senseA = -1) ∧ (f.senseB = 1 ∨ f.senseB = -1)
    ∧ f.draw ≤ 150 ∧ f.rampCode ≤ 3 ∧ 10 ≤ f.fullSpeed ∧ f.fullSpeed ≤ 100 ∧ 10 ≤ f.creepSpeed
    ∧ f.creepSpeed ≤ f.fullSpeed ∧ f.creepDistance ≤ f.stroke ∧ f.settleTime ≤ 5000
    ∧ f.stallCurrent ≤ 2000 ∧ 100 ≤ f.stallTime ∧ f.stallTime ≤ 2000 ∧ f.endPressure ≤ 2500 ∧ f.overload ≤ 2500
    ∧ 10 ≤ f.softSkew ∧ f.softSkew ≤ 500 ∧ 20 ≤ f.hardSkew ∧ f.hardSkew ≤ 1500 ∧ f.clearance ≤ f.stroke
    ∧ (∀ d ∈ f.drives, 1 ≤ d.node ∧ d.node ≤ 24 ∧ d.channel ≤ 7)
    ∧ -9000 ≤ c.geometry[i].x ∧ c.geometry[i].x ≤ 9000 ∧ -1600 ≤ c.geometry[i].y ∧ c.geometry[i].y ≤ 1600

/-- Every levelling parameter is in its range (R69). -/
def LevelParams.InRange (p : LevelParams) : Prop :=
  (∀ n, p.sensorNode = some n → 1 ≤ n ∧ n ≤ 24)
    ∧ 20 ≤ p.contactPressure ∧ p.contactPressure ≤ 1000 ∧ p.contactHysteresis ≤ 500
    ∧ 10 ≤ p.groundSpeed ∧ p.groundSpeed ≤ 100 ∧ 10 ≤ p.liftSpeed ∧ p.liftSpeed ≤ 100 ∧ p.liftMargin ≤ 100
    ∧ 10 ≤ p.liftStep ∧ p.liftStep ≤ 100 ∧ 5 ≤ p.tolerance ∧ p.tolerance ≤ 200 ∧ 1 ≤ p.maxPasses ∧ p.maxPasses ≤ 6
    ∧ 500 ≤ p.settleTime ∧ p.settleTime ≤ 10000 ∧ 1000 ≤ p.sampleTimeout ∧ p.sampleTimeout ≤ 30000
    ∧ 100 ≤ p.maxStartGrade ∧ p.maxStartGrade ≤ 2000 ∧ 10 ≤ p.twistLimit ∧ p.twistLimit ≤ 200

/-- Every value of SET_MANIFOLD, SET_SUPPLY, SET_SIGNAL and SET_TIMING is in its range (R25, R51, R64, R115, R184);
the pump reference is stored as written (R51). -/
def Settings.TimesInRange (c : Settings) : Prop :=
  let m := c.manifold
  let v := c.supply
  let t := c.timing
  m.pumpClaim ≤ 250 ∧ 10 ≤ m.readyPressure ∧ m.readyPressure ≤ 2500 ∧ 500 ≤ m.primeLimit ∧ m.primeLimit ≤ 5000
    ∧ m.holdOnTime ≤ 10000 ∧ 30 ≤ m.dutyLimit ∧ m.dutyLimit ≤ 600 ∧ 10 ≤ m.coolDown ∧ m.coolDown ≤ 600
    ∧ v.supplyLimit ≤ 400 ∧ 800 ≤ v.vLow ∧ v.vLow ≤ 3000 ∧ 800 ≤ v.vCut ∧ v.vCut ≤ 3000
    ∧ 1000 ≤ v.lowDuration ∧ v.lowDuration ≤ 30000
    ∧ (∀ g : Signal, let x := c.signals[signalIndex g]
      100 ≤ x.staleLimit ∧ x.staleLimit ≤ 10000 ∧ x.safeValue ≤ signalMax g) ∧ c.travelSpeed ≤ 100
    ∧ 150 ≤ t.holdTimeout ∧ t.holdTimeout ≤ 1000 ∧ 1 ≤ t.waitLimit ∧ t.waitLimit ≤ 30
    ∧ 200 ≤ t.silenceLimit ∧ t.silenceLimit ≤ 2000 ∧ 50 ≤ t.refreshPeriod ∧ t.refreshPeriod ≤ 250
    ∧ 250 ≤ t.statusPeriod ∧ t.statusPeriod ≤ 5000 ∧ 60 ≤ t.dozeTime ∧ t.dozeTime ≤ 3600
    ∧ c.wind.gustThreshold ≤ 600 ∧ c.wind.gustTime ≤ 10000 ∧ 60 ≤ c.wind.calmTime ∧ c.wind.calmTime ≤ 1800

/-- Every field of the field-wise configuration is in its range (R1, R25, R51, R64, R69, R71, R115, R184). -/
def Settings.InRange (c : Settings) : Prop := c.SlotsInRange ∧ c.levelling.InRange ∧ c.TimesInRange

/-- A last raw value is at most that of two bytes (R200). -/
def State.RawsFit (s : State) : Prop :=
  ∀ (n : Nat), ∀ r ∈ (s.node n).channels, ∀ v, r.raw = some v → v ≤ 65535

/-! ### The motion link -/

/-- Nothing waits for an M-port that could send: while its transmit buffer is empty the port is BUS_OFF, or the part
in DOZE, or the control slot, the order queue and the forward queue are empty (R151). -/
def State.LinkDrained (s : State) : Prop :=
  s.path.mTransmit = none → s.path.mState = .busOff ∨ s.store.doze = true
    ∨ s.path.control = none ∧ s.orders.queue = [] ∧ s.path.forward = []

/-- Outside a RUNNING census the link manager holds no enrolment frame, none stands in the control slot, no number is
outstanding, the enrolment timer is idle and the chain line is off (R158, R161). -/
def State.EnrolWhileRunning (s : State) : Prop :=
  s.link.outcome ≠ .running → s.link.offers = [] ∧ (∀ f, s.path.control ≠ some (.enrol f))
    ∧ s.link.outstanding = none ∧ s.link.enrolTimer = none ∧ s.link.chainLine = false

/-! ### The laws of motion -/

/-- A function has an owner, a verb and a move speed exactly in WAITING, MOVING and SETTLING, and a wait reason
exactly in WAITING (R7). -/
def State.OwnersHold (s : State) : Prop :=
  ∀ i, let f := s.fn i
    (f.owner ≠ .none ↔ f.activity.isBusy = true) ∧ (f.verb.isSome = true ↔ f.activity.isBusy = true)
      ∧ (f.moveSpeed.isSome = true ↔ f.activity.isBusy = true) ∧ (f.waitReason.isSome = true ↔ f.activity = .waiting)

/-- A slot of kind UNUSED is UNAVAILABLE (R8). -/
def State.UnusedRests (s : State) : Prop := ∀ i, (s.cfg i).kind = .unused → (s.fn i).activity = .unavailable

/-- A settle timer runs exactly in SETTLING (R15, R17), a stall timer only in MOVING (R97), and the cool-down timer
only in COOLDOWN (R62). -/
def State.TimersHold (s : State) : Prop :=
  (∀ i, ((s.fn i).settleTimer.isSome = true ↔ (s.fn i).activity = .settling)
      ∧ ∀ e, ((s.fn i).chan e).stallTimer.isSome = true → (s.fn i).activity = .moving)
    ∧ (s.manifold.coolTimer.isSome = true → s.manifold.pump = .coolDown)

/-- The wait list holds each function at most once, and exactly those that are WAITING with reason MANIFOLD or
BUDGET; it is ordered by rank, highest first, and among equal ranks by arrival, earliest first (R55). -/
def State.WaitListHolds (s : State) : Prop :=
  (s.manifold.waitList.map (·.slot)).Nodup
    ∧ (∀ i, i ∈ s.manifold.waitList.map (·.slot) ↔
      (s.fn i).activity = .waiting ∧ (s.fn i).waitReason ≠ some .prime)
    ∧ s.manifold.waitList.Pairwise (fun a b => (s.fn b.slot).owner.rank < (s.fn a.slot).owner.rank
      ∨ (s.fn b.slot).owner.rank = (s.fn a.slot).owner.rank ∧ a.arrival ≤ b.arrival)
    ∧ ∀ e ∈ s.manifold.waitList, e.arrival ≤ s.now ∧ e.timer.isSome = true

/-- The pump has one claim while it is PRIMING, READY or HOLD_ON and none while it is STOPPED or COOLDOWN (R52), and
a motor function one while it is MOVING and none else (R66). -/
def State.ClaimsHold (s : State) : Prop :=
  s.budget.claims.countP (fun c => c.claimant == .pump) = (if s.manifold.pump.isOn then 1 else 0)
    ∧ ∀ i, s.budget.claims.countP (fun c => c.claimant == .motor i)
      = if (s.fn i).activity = .moving ∧ (s.cfg i).kind.isMotor = true then 1 else 0

/-- A JACK that a sequence's owner drives is a taken jack of the running sequence of that owner, which is LEVEL or
TRAVEL (R53, R73). -/
def State.JacksTaken (s : State) : Prop :=
  (s.seqRuns = true → s.sequence.owner = some .level ∨ s.sequence.owner = some .travel)
    ∧ ∀ i, s.isJack i = true → (s.fn i).activity.isBusy = true → (s.fn i).owner = .level ∨ (s.fn i).owner = .travel →
      s.isTaken i = true ∧ s.sequence.owner = some (s.fn i).owner

/-- A hydraulic function that is MOVING, or WAITING with reason PRIME, has the owner and class of the grant, no other
function waits PRIME, and a sequence grant is one of LEVEL or TRAVEL in class JACKS (R53). -/
def State.GrantsHold (s : State) : Prop :=
  (∀ i, ((s.fn i).activity = .moving ∧ (s.cfg i).kind.isHydraulic = true)
      ∨ ((s.fn i).activity = .waiting ∧ (s.fn i).waitReason = some .prime) →
      ∃ g, s.manifold.holder = some g ∧ s.underGrant g i = true)
    ∧ ∀ g, s.manifold.holder = some g → g.sequence = true →
      g.cls = .jacks ∧ (g.owner = .level ∨ g.owner = .travel)

/-- A JACK and a SLIDE_HYD are never both MOVING (R53). -/
def State.HydraulicsApart (s : State) : Prop :=
  ∀ i j, (s.cfg i).kind = .jack → (s.cfg j).kind = .slideHyd →
    ¬ ((s.fn i).activity = .moving ∧ (s.fn j).activity = .moving)

/-- A MOVING SLIDE_TWIN has no skew above its hard skew (R103). -/
def State.SkewHolds (s : State) : Prop := ∀ i, (s.fn i).activity = .moving → s.skewTooHard i = false

/-- A slide that is WAITING or MOVING has its clearance partner, an awning, at or below the awning's clearance
position (R111). -/
def State.ClearanceHolds (s : State) : Prop :=
  ∀ i p, (s.cfg i).partner = some p → (s.cfg i).kind.isSlide = true →
    (s.fn i).activity = .waiting ∨ (s.fn i).activity = .moving → s.awningBlocks p = false

/-- The laws of motion together. -/
def State.MotionLaws (s : State) : Prop :=
  s.OwnersHold ∧ s.UnusedRests ∧ s.TimersHold ∧ s.WaitListHolds ∧ s.ClaimsHold ∧ s.JacksTaken ∧ s.GrantsHold
    ∧ s.SkewHolds ∧ s.ClearanceHolds

end Sys2Proof.Machine
end

