-- ==== Sys2Proof/Certificates/Slice0/Obligations.lean ====
section
/-! DEFINITION. The statements for the provers. Each says which rule of spec/ it formalises, or that it is derived
from the model's own choices. -/

open Sys2Proof Sys2Proof.Machine

/-! ### The machine, power and the lines -/

/-- Derived (95_what_each_step_holds.md: the table's rows are the part's steps, each whole and indivisible): a step of
a machine with a command at the front of its queue is the carrying out of that command on the state with the rest of
the queue. -/
def Obligations.StepRunsTheFrontCommand : Prop :=
  ∀ (c : Instr) (rest : List Instr) (s : State), step { s with pending := c :: rest } = exec c { s with pending := rest }

/-- The model's choice (log entry 3): with an empty queue a part that does not run stands still; one that runs puts
the first due expiry or arrival into its queue, and with none of these one millisecond passes, which a running pump
adds to its run time (R62). -/
def Obligations.AnEmptyQueueLetsTimePass : Prop :=
  ∀ s : State, s.pending = [] →
    (s.isRunning = false → step s = .next s)
    ∧ (∀ c rest, s.isRunning = true → dueExpiries s ++ arrivals s = c :: rest →
        step s = .next { s with pending := [c] })
    ∧ (s.isRunning = true → dueExpiries s = [] → arrivals s = [] → step s = .next { s with
        now := s.now + 1
        manifold := { s.manifold with
          runTime := if s.manifold.pump.isOn then s.manifold.runTime + 1 else s.manifold.runTime } })

/-- Derived (95_what_each_step_holds.md: the part's steps are each whole and indivisible): every command of a part
that does not run, and every one of a part that runs with no cascade cut, completes: it answers a next state, in which
the queue of waiting commands is as it was, and the lines' levels too unless the command is power, the reset line or
the stop-all line. The model's choices in it stand in log entries 4 and 25. -/
def Obligations.EveryCommandCompletes : Prop :=
  ∀ (c : Instr) (s : State), s.isRunning = false ∨ s.overrun = false →
    ∃ t, exec c s = .next t ∧ t.pending = s.pending
      ∧ ((∀ straps, c ≠ .powerOn straps) → (∀ straps, c ≠ .resetLineRelease straps) → c ≠ .powerOff →
        c ≠ .resetLineAssert → c ≠ .stopAllActive → c ≠ .stopAllInactive → t.inputs = s.inputs)

/-- R194, R192 and R143: power applied with the reset line inactive, the release of the reset line under power, the
end of the sending of a RESTART's reply and the RESTART's own moment each give the start state of the image they find,
which is cut where a store was in progress; the first two take the sampled straps, a RESTART keeps them; power applied
with the reset line active takes the straps alone. A start loads the image's settings where the CRC of its bytes
agrees, and the factory settings with the UNCONFIGURED alarm where it differs; strap 0 selects the C-port's bit rate,
250 or 500 kbit/s, and the M-port's is 500. The model's choices in it stand in log entries 25, 26 and 33. -/
def Obligations.EveryStartGivesTheStartState : Prop :=
  ∀ (s : State) (straps : Straps),
    let image : Image := if s.store.storing.isSome then { s.store.image with crc := ~~~ crc16 s.store.image.bytes }
      else s.store.image
    (s.inputs.resetActive = false →
      exec (.powerOn straps) s = .next (startState { s.inputs with powered := true } image straps s.pending))
    ∧ (s.inputs.resetActive = true → s.inputs.powered = true →
      exec (.resetLineRelease straps) s
        = .next (startState { s.inputs with resetActive := false } image straps s.pending))
    ∧ (s.isRunning = true → s.overrun = false → s.store.restart.isSome = true →
      exec .restartTakesPlace s = .next (startState s.inputs image s.store.straps s.pending))
    ∧ (∀ e, s.isRunning = true → s.overrun = false → s.store.restart.isSome = true → s.path.cState = .active →
      s.path.cTransmit = some e → isRestartReply e = true →
      exec .cPortTransmitDone s = .next (startState s.inputs image s.store.straps s.pending))
    ∧ (s.inputs.resetActive = true → exec (.powerOn straps) s = .next { s with
        inputs := { s.inputs with powered := true }, store := { s.store with straps := straps } })
    ∧ ∀ (m : Image), let t := startState s.inputs m straps s.pending
      (crc16 m.bytes = m.crc → t.settings = m.settings ∧ t.store.factoryLoaded = false
        ∧ t.monitor.alarms.unconfigured = false)
      ∧ (crc16 m.bytes ≠ m.crc → t.settings = Settings.factory ∧ t.store.factoryLoaded = true
        ∧ t.monitor.alarms.unconfigured = true)
      ∧ t.bitRate .coach = (if straps.strap0 then 500 else 250) ∧ t.bitRate .motion = 500

/-- R193 and R194: POWER_OFF and the reset line end all runtime state: the part does not run, both lines are off, no
frame is held or sent, no timer runs, and a store in progress leaves an image whose CRC does not agree. The model's
choices in it stand in log entries 25 and 33. -/
def Obligations.PowerOffAndResetEndAllRuntimeState : Prop :=
  ∀ s : State,
    let image : Image := if s.store.storing.isSome then { s.store.image with crc := ~~~ crc16 s.store.image.bytes }
      else s.store.image
    let off := fun (t : State) (inputs : Inputs) =>
      t.isRunning = false ∧ t.inputs = inputs ∧ t.store.image = image ∧ t.settings = image.load
        ∧ t.functions = Vector.replicate 16 Function.start ∧ t.holds = Vector.replicate 16 Hold.start
        ∧ t.link = LinkManager.start ∧ t.path = FramePath.start ∧ t.orders = OrderScheduler.start
        ∧ t.manifold = Manifold.start ∧ t.sequence = Sequence.start ∧ t.wind = WindRecord.start
        ∧ t.budget.claims = [] ∧ t.assembly = none ∧ t.statusTimer = none ∧ t.store.storing = none
        ∧ t.store.restart = none ∧ t.store.dozeTimer = none ∧ t.store.straps = s.store.straps
        ∧ dueExpiries t = [] ∧ t.pending = s.pending ∧ (s.store.storing.isSome = true → t.store.image.agrees = false)
    (∃ t, exec .powerOff s = .next t ∧ off t { s.inputs with powered := false })
      ∧ (∃ t, exec .resetLineAssert s = .next t ∧ off t { s.inputs with resetActive := true })

/-- R194: a part without power or in reset takes no command: it is left as it was by every command but power, the
reset line and the level of the stop-all line. The model's choices in it stand in log entry 25. -/
def Obligations.APartThatDoesNotRunTakesNoCommand : Prop :=
  ∀ (c : Instr) (s : State), s.isRunning = false →
    (∀ straps, c ≠ .powerOn straps) → (∀ straps, c ≠ .resetLineRelease straps) →
    c ≠ .resetLineAssert → c ≠ .powerOff → c ≠ .stopAllActive → c ≠ .stopAllInactive →
    exec c s = .next s

/-- R175, R150, R176, R33, R37 and R18: the stop-all line becoming active, and a HALT command of a part that takes
commands, stop every busy function with HALTED and leave the order queue empty, the arbiter cleared, the pump off and
no sequence running. They offer a HALT frame to the control slot: it is sent at once where the M-port's transmit
buffer is free, and else waits in the slot, in place of a BEAT or an enrolment frame, which is handed back first in
line. After the line's change the posture is FAULT and the power line off, after the command both are as they were.
The other functions, the configuration but for a swap that was pending, the signals and the nodes stay. -/
def Obligations.HaltBringsEverythingToRest : Prop :=
  ∀ (s : State) (tag : Byte),
    let still := fun t : State => t.anyBusy = false ∧ t.seqRuns = false ∧ t.manifold.waitList = []
      ∧ t.manifold.holder = none ∧ t.manifold.pump.isOn = false ∧ t.orders.queue = [] ∧ t.overrun = false
      ∧ t.monitor.swapPending = false
      ∧ (∀ i, t.fn i = if (s.fn i).activity.isBusy then (s.fn i).stopped .halted else s.fn i)
      ∧ t.settings = { s.settings with activeBank := t.settings.activeBank } ∧ t.now = s.now
      ∧ (s.monitor.swapPending = false → t.settings = s.settings) ∧ t.monitor.signals = s.monitor.signals
      ∧ t.monitor.levelled = s.monitor.levelled ∧ t.link.nodes = s.link.nodes ∧ t.link.outcome = s.link.outcome
      ∧ t.path.cReceive = s.path.cReceive ∧ t.path.mReceive = s.path.mReceive ∧ t.store.image = s.store.image
      ∧ (s.path.mTransmit.isSome = true ∨ s.path.mState = .busOff ∨ s.store.doze = true →
        t.path.control = some .halt ∧ t.path.mTransmit = s.path.mTransmit
          ∧ (∀ f, s.path.control = some (.enrol f) → t.link.offers = f :: s.link.offers))
      ∧ (s.path.mTransmit = none → s.path.mState = .active → s.store.doze = false → s.path.control ≠ some .halt →
        t.path.mTransmit = some (dataFrame (linkIdent 1 0) []))
    (s.isReady = true → s.inputs.stopAll = false →
      ∃ t, exec .stopAllActive s = .next t ∧ still t ∧ t.inputs = { s.inputs with stopAll := true }
        ∧ t.monitor.posture = .fault ∧ t.link.powerLine = false)
    ∧ (s.takesCommands = true →
      ∃ t, exec (.halt tag) s = .next t ∧ still t ∧ t.inputs = s.inputs ∧ t.monitor.posture = s.monitor.posture
        ∧ t.link.powerLine = s.link.powerLine)

/-- R34, R167 and R175: the stop-all line becoming inactive changes the line, and the posture and the motion power
enable line follow; where the part stays in FAULT nothing else changes. The model's choices in it stand in log entry
15. -/
def Obligations.StopAllInactiveChangesTheLine : Prop :=
  ∀ s : State, s.isReady = true → s.inputs.stopAll = true →
    (∃ t, exec .stopAllInactive s = .next t ∧ t.inputs = { s.inputs with stopAll := false }
      ∧ (t.overrun = false → t.monitor.posture = derivePosture t ∧ t.link.powerLine = powerLineHolds t))
    ∧ ((s.store.factoryLoaded = true ∨ s.link.outcome ≠ .complete ∨ s.path.mState = .busOff) →
      exec .stopAllInactive s = .next { s with inputs := { s.inputs with stopAll := false } })

/-! ### The frame path -/

/-- R144, R152 and R153: a frame received joins the tail of its port's buffer; one received with the buffer at its
capacity is discarded and counted; a port that is BUS_OFF receives nothing. -/
def Obligations.ReceivedFramesJoinTheirBuffer : Prop :=
  ∀ (s : State) (f : Frame), s.isReady = true →
    exec (.cPortFrameReceived f) s = .next (
      if s.path.cState = .busOff then s
      else if s.path.cReceive.length < 16 then { s with path := { s.path with cReceive := s.path.cReceive ++ [f] } }
      else { s with path := { s.path with cOverrun := min (s.path.cOverrun + 1) 65535 } })
    ∧ exec (.mPortFrameReceived f) s = .next (
      if s.path.mState = .busOff then s
      else if s.path.mReceive.length < 32 then { s with path := { s.path with mReceive := s.path.mReceive ++ [f] } }
      else { s with path := { s.path with mOverrun := min (s.path.mOverrun + 1) 65535 } })

/-- R143 and R152: the end of a C-port sending empties the transmit buffer, and the head of the queue moves into it;
C-port bus-off keeps every frame; its recovery is counted and sending resumes with the kept frame. The model's choices
in it stand in log entry 6. -/
def Obligations.CPortSendsItsQueueInOrder : Prop :=
  ∀ (s : State) (e : TxEntry) (rest : List TxEntry), s.isReady = true →
    (s.path.cState = .active → s.store.restart = none → s.path.cQueue = e :: rest →
      exec .cPortTransmitDone s = .next { s with path := { s.path with cTransmit := some e, cQueue := rest } })
    ∧ (s.path.cState = .active → s.store.restart = none → s.path.cQueue = [] →
      exec .cPortTransmitDone s = .next { s with path := { s.path with cTransmit := none } })
    ∧ exec .cPortBusOff s = .next { s with path := { s.path with cState := .busOff } }
    ∧ (s.path.cState = .busOff → s.path.cTransmit.isSome = true →
      exec .cPortRecovery s = .next { s with path := { s.path with
        cState := .active, cRecovery := min (s.path.cRecovery + 1) 65535 } })
    ∧ (s.path.cState = .busOff → s.path.cTransmit = none → s.path.cQueue = e :: rest →
      exec .cPortRecovery s = .next { s with path := { s.path with
        cState := .active, cRecovery := min (s.path.cRecovery + 1) 65535, cTransmit := some e, cQueue := rest } })

/-- R151 and R172: when the M-port's sending ends, the frame of the control slot goes next, else the head of the order
queue as an ORDER frame, else the head of the forward queue; with nothing to send the buffer stays empty. The model's
choices in it stand in log entry 6. -/
def Obligations.MPortSendsControlThenOrdersThenForwards : Prop :=
  ∀ s : State, s.isReady = true → s.path.mState = .active → s.store.doze = false →
    let empty : FramePath := { s.path with mTransmit := none }
    (s.path.control = some .halt → s.link.offers = [] →
      exec .mPortTransmitDone s = .next { s with
        path := { empty with mTransmit := some (dataFrame (linkIdent 1 0) []), control := none } })
    ∧ (∀ n p, s.path.control = some (.beat n p) → s.link.offers = [] →
      exec .mPortTransmitDone s = .next { s with
        path := { empty with
          mTransmit := some (dataFrame (linkIdent 10 0) [BitVec.ofNat 8 n, BitVec.ofNat 8 p]), control := none } })
    ∧ (∀ n, s.path.control = some (.enrol (.assign n)) → s.link.offers = [] →
      exec .mPortTransmitDone s = .next { s with
        path := { empty with mTransmit := some (dataFrame (linkIdent 6 0) [BitVec.ofNat 8 n]), control := none }
        link := { s.link with enrolTimer := some (s.now + 50) } })
    ∧ (s.path.control = some (.enrol .forget) → s.link.offers = [] →
      exec .mPortTransmitDone s = .next { s with
        path := { empty with
          mTransmit := some (dataFrame (linkIdent 2 0) []), control := some (.enrol (.assign 1)) }
        link := { s.link with chainLine := true, outstanding := some 1 } })
    ∧ (∀ e rest, s.path.control = none → s.orders.queue = e :: rest →
      (∀ r ∈ s.orders.records, r.due = false) →
      exec .mPortTransmitDone s = .next { s with
        path := { empty with mTransmit := some (dataFrame (linkIdent 4 e.node)
          [BitVec.ofNat 8 e.channel, BitVec.ofNat 8 e.drive.code, BitVec.ofNat 8 e.speed,
            BitVec.ofNat 8 e.sequence, BitVec.ofNat 8 (min 255 (s.orders.period * 3 / 10))]) }
        orders := { s.orders with queue := rest } })
    ∧ (∀ f rest, s.path.control = none → s.orders.queue = [] → s.path.forward = f :: rest →
      exec .mPortTransmitDone s = .next { s with
        path := { empty with mTransmit := some f, forward := rest } })
    ∧ (s.path.control = none → s.orders.queue = [] → s.path.forward = [] →
      exec .mPortTransmitDone s = .next { s with path := empty })

/-- R153, R161 and R37: the M-port going BUS_OFF discards the frame being sent, and empties and counts the forward
queue. In posture FAULT with no census running that is all. In another posture the posture becomes FAULT with the halt
effects, the HALT waits in the control slot and the motion power enable line drops. A running census is abandoned:
outcome NOT_RUN, count 0, every node ABSENT, its frames withdrawn, no alarm. The port's recovery is counted and starts
a census, here of a part at rest. The model's choices in it stand in log entry 16. -/
def Obligations.MPortBusOffAndRecovery : Prop :=
  ∀ s : State, s.isReady = true →
    (s.path.mState = .active → s.monitor.posture = .fault → s.link.outcome ≠ .running →
      exec .mPortBusOff s = .next { s with
        path := { s.path with mState := .busOff, mTransmit := none, forward := [] }
        matching := { s.matching with
          forwardOverflow := min (s.matching.forwardOverflow + s.path.forward.length) 65535 } })
    ∧ (s.path.mState = .active → ∃ t, exec .mPortBusOff s = .next t ∧ t.path.mState = .busOff
      ∧ t.path.mTransmit = none ∧ t.path.forward = [] ∧ t.monitor.posture = .fault ∧ t.link.powerLine = false
      ∧ min (s.matching.forwardOverflow + s.path.forward.length) 65535 ≤ t.matching.forwardOverflow
      ∧ t.overrun = false ∧ t.path.mReceive = s.path.mReceive ∧ t.path.mRecovery = s.path.mRecovery
      ∧ t.monitor.alarms.censusFault = s.monitor.alarms.censusFault
      ∧ (s.monitor.posture ≠ .fault → t.path.control = some .halt ∧ t.anyBusy = false ∧ t.seqRuns = false
        ∧ t.manifold.waitList = [] ∧ t.manifold.holder = none ∧ t.manifold.pump.isOn = false ∧ t.orders.queue = []
        ∧ (∀ i, t.fn i = if (s.fn i).activity.isBusy then (s.fn i).stopped .halted else s.fn i)
        ∧ t.link.outcome = s.link.outcome ∧ t.link.nodes = s.link.nodes)
      ∧ (s.link.outcome = .running → t.link = { s.link with
          outcome := .notRun, count := 0, nodes := Vector.replicate 24 Node.absent, outstanding := none
          enrolTimer := none, offers := [], chainLine := false, powerLine := false }
        ∧ t.path.control = (match s.path.control with
          | some (.enrol _) => none
          | c => c)
        ∧ t.functions = s.functions ∧ t.settings = s.settings))
    ∧ (s.path.mState = .busOff → s.isAtRest = true →
      exec .mPortRecovery s = .next (pumpM (startCensus (withdrawEnrol { s with
        path := { s.path with mState := .active, mRecovery := min (s.path.mRecovery + 1) 65535 } }))))

/-- R147 to R149: a status frame handed to the C-port replaces the queued status frame of its subject in place, as
CHANGE if either was, and the queue keeps its length; any other frame takes the tail; a full queue gives up its oldest
FORWARDED frame, else its oldest PERIODIC one, else the new frame is discarded; what is lost is counted, a forwarded
frame as forward overflow. -/
def Obligations.FullCPortQueueEvictsByClass : Prop :=
  ∀ (new : TxEntry) (s : State),
    let q := s.path.cQueue
    (∀ a x b, q = a ++ x :: b → new.subject.isSome = true → x.subject = new.subject →
      (∀ e ∈ a, e.subject ≠ new.subject) →
      let cls := if x.cls = .change ∨ new.cls = .change then TxClass.change else new.cls
      placeC new s = { s with path := { s.path with cQueue := a ++ { new with cls := cls } :: b } })
    ∧ ((∀ e ∈ q, new.subject = none ∨ e.subject ≠ new.subject) →
    (q.length < 16 → (placeC new s).path.cQueue = q ++ [new] ∧ (placeC new s).matching = s.matching)
    ∧ (∀ a x b, q.length = 16 → q = a ++ x :: b → x.cls = .forwarded → (∀ e ∈ a, e.cls ≠ .forwarded) →
      placeC new s = { s with
        path := { s.path with cQueue := a ++ b ++ [new] }
        matching := { s.matching with forwardOverflow := min (s.matching.forwardOverflow + 1) 65535 } })
    ∧ (∀ a x b, q.length = 16 → q = a ++ x :: b → x.cls = .periodic → (∀ e ∈ a, e.cls ≠ .periodic) →
      (∀ e ∈ q, e.cls ≠ .forwarded) →
      placeC new s = { s with
        path := { s.path with cQueue := a ++ b ++ [new], cDiscard := min (s.path.cDiscard + 1) 65535 } })
    ∧ (q.length = 16 → (∀ e ∈ q, e.cls ≠ .forwarded ∧ e.cls ≠ .periodic) →
      placeC new s =
        if new.cls = .forwarded then { s with
          matching := { s.matching with forwardOverflow := min (s.matching.forwardOverflow + 1) 65535 } }
        else { s with path := { s.path with cDiscard := min (s.path.cDiscard + 1) 65535 } }))

/-! ### Arrivals handed to the match engine -/

/-- R126 to R130 and R133: an arrival is counted and carried out by the lowest entry that matches it; where that
entry's continue flag is clear nothing else comes of it. DROP and COUNT do nothing more, FORWARD of a C-port arrival
joins the forward queue's tail unless the link protect or the full queue stops the copy, and of an M-port arrival is
handed to the C-port. An arrival that no entry matches takes its port's default action and counts nowhere. The search
from an index finds the lowest matching entry at or above it, and goes on above the entry found exactly where that
entry's continue flag is set. HOLD makes a press, and REQUEST a request, for each slot of its set whose kind is not
UNUSED, in ascending slot order, or one request to the sequencer, once a running doze timer has restarted. -/
def Obligations.LowestMatchingEntryTakesTheArrival : Prop :=
  (∀ (s : State) (port : Port) (f : Frame) (rest : List Frame),
    s.isReady = true → s.received port = f :: rest → isMatched s port f = true →
    ((∀ i : EntryIndex, s.matchesFrame port f s.settings.entries[i] = false) →
      (s.settings.defaultOf port = .drop → exec (.matchArrival port) s = .next (dropHead port s))
      ∧ (s.settings.defaultOf port = .forward →
        exec (.matchArrival port) s = .next (forward port f none (dropHead port s))))
    ∧ ∀ i : EntryIndex,
    let e := s.settings.entries[i]
    s.matchesFrame port f e = true → (∀ j : EntryIndex, j < i → s.matchesFrame port f s.settings.entries[j] = false) →
    e.continues = false →
    let counted : State := { dropHead port s with matching := { s.matching with
      hits := s.matching.hits.set i (min (s.matching.hits[i] + 1) 65535) } }
    (e.action = .drop ∨ e.action = .count → exec (.matchArrival port) s = .next counted)
    ∧ (∀ rewrite, e.action = .forward rewrite →
      let copy := match rewrite with
        | none => f
        | some (form, ident) => { f with form := form, ident := ident }
      (port = .motion → exec (.matchArrival port) s = .next (queueC ⟨.forwarded, none, copy⟩ counted))
      ∧ (port = .coach → copy.form = .extended → linkKind copy.ident < 24 →
        exec (.matchArrival port) s = .next { counted with matching := { counted.matching with
          linkProtect := min (s.matching.linkProtect + 1) 65535 } })
      ∧ (port = .coach → (copy.form = .standard ∨ 24 ≤ linkKind copy.ident) → s.path.forward.length < 8 →
        exec (.matchArrival port) s = .next (pumpM { counted with path := { counted.path with
          forward := s.path.forward ++ [copy] } }))
      ∧ (port = .coach → (copy.form = .standard ∨ 24 ≤ linkKind copy.ident) → 8 ≤ s.path.forward.length →
        exec (.matchArrival port) s = .next { counted with matching := { counted.matching with
          forwardOverflow := min (s.matching.forwardOverflow + 1) 65535 } })))
  ∧ ∀ (s : State) (port : Port) (f : Frame) (k : Nat),
    (∀ i, firstMatch s port f k = some i ↔
      k ≤ i.val ∧ s.matchesFrame port f s.settings.entries[i] = true
        ∧ ∀ j : EntryIndex, k ≤ j.val → j < i → s.matchesFrame port f s.settings.entries[j] = false)
    ∧ (∀ i, firstMatch s port f k = some i →
      ((chain port f k s).2.contains (.chain port f (i.val + 1)) = true ↔ s.settings.entries[i].continues = true))
    ∧ (firstMatch s port f k = none ↔
      ∀ j : EntryIndex, k ≤ j.val → s.matchesFrame port f s.settings.entries[j] = false)
    ∧ ∀ (i : EntryIndex) (set : BitVec 16), s.store.doze = false →
      let members := slots.filter fun j => set.getLsbD j.val && decide ((s.cfg j).kind ≠ .unused)
      (∀ d, act i port f (.hold set d) s = (s.renewed, members.map fun j => .press j d i))
      ∧ (∀ v, act i port f (.request (.functions set v)) s = (s.renewed, members.map fun j => .operator j v))
      ∧ (∀ q, act i port f (.request (.sequence q)) s = (s.renewed, [.sequence q]))

/-- R126, R19, R20, R22, R24 and R114: an entry matches an arrival exactly where it is VALID, its port and form fit,
the frame is long enough, and every bit with a care bit equals the key's. Then the requests and presses that REQUEST
and HOLD entries make, of a state whose M-port is drained and whose functions hold owners by R7. STOP stops a busy
function, turns an ACTIVE hold record REFUSED and aborts a sequence that took the slot. CLEAR of a FAULTED function
whose cause is gone leaves it IDLE; else it is refused FAULTED, of an UNAVAILABLE one NOT_READY, and of any other
changes nothing. EXTEND and RETRACT that would reverse a moving awning are a STOP; else one that R9 refuses queues one
REFUSAL frame and changes nothing else, and one that R9 accepts leaves the function WAITING with the request and every
hold record as it was. A press follows the hold record: ACTIVE with the same verb and REFUSED renew it, ACTIVE with
the other verb does nothing, and NONE makes the request, which leaves the record REFUSED or ACTIVE. -/
def Obligations.RequestsAndPressesMoveFunctions : Prop :=
  (∀ (s : State) (port : Port) (f : Frame) (e : EntryConfig),
    let m := s.settings.masks[e.mask]
    let long := if f.remote then 0 else min f.dlc 8
    (s.matchesFrame port f e = true ↔ e.state = .valid
      ∧ (e.port = .either ∨ e.port = .coach ∧ port = .coach ∨ e.port = .motion ∧ port = .motion)
      ∧ e.form = f.form ∧ e.minLength ≤ long
      ∧ (∀ k < 29, m.ident.getLsbD k = true → (e.form = .standard → k < 11) → e.ident.getLsbD k = f.ident.getLsbD k)
      ∧ (∀ k < 8, m.byte0.getLsbD k = true → e.byte0.getLsbD k = (frameByte f 0).getLsbD k)
      ∧ (∀ k < 8, m.byte1.getLsbD k = true → e.byte1.getLsbD k = (frameByte f 1).getLsbD k))
    ∧ (long = 0 → frameByte f 0 = 0) ∧ (long ≤ 1 → frameByte f 1 = 0))
  ∧ ∀ (s : State) (i : Slot), s.LinkDrained → s.OwnersHold →
    let f := s.fn i
    let refused := fun (verb reason : Nat) (u : State) => queueStatus 3 .change (.refusalSlot i)
      [0, BitVec.ofNat 8 i.val, BitVec.ofNat 8 verb, BitVec.ofNat 8 reason] u
    let moveVerb := fun d : Direction => match d with | .extend => MoveVerb.extend | .retract => .retract
    let waits := fun (d : Direction) (t : State) => (t.fn i).activity = .waiting ∧ (t.fn i).owner = .operator
      ∧ (t.fn i).verb = some (moveVerb d) ∧ (t.fn i).moveSpeed = some (s.cfg i).fullSpeed ∧ (t.fn i).target = none
      ∧ (t.fn i).lastStop = none ∧ (t.fn i).drift = none ∧ onlyMotionChanges s t
    (let halted := operatorTask i .stop s
      let t := halted.1
      halted.2 = []
      ∧ (f.activity.isBusy = true → t.fn i = f.stopped .stopped)
      ∧ (f.activity.isBusy = false → t.fn i = f)
      ∧ (t.hold i = if (s.hold i).state = .active then { s.hold i with state := .refused } else s.hold i)
      ∧ (s.isTaken i = false → t.sequence = s.sequence ∧ (∀ j, j ≠ i → t.fn j = s.fn j ∧ t.hold j = s.hold j))
      ∧ (s.isTaken i = true → t.sequence.phase = .idle ∧ t.sequence.result = some (.aborted .stopped)
        ∧ ∀ j ∈ s.sequence.taken, (s.fn j).activity.isBusy = true → t.fn j = (s.fn j).stopped .stopped)
      ∧ onlyMotionChanges s t)
    ∧ (f.activity = .unavailable → operatorTask i .clear s = (refused 3 0 s, []))
    ∧ (f.activity = .faulted → causeGone s i = false → operatorTask i .clear s = (refused 3 1 s, []))
    ∧ (f.activity = .faulted → causeGone s i = true →
      let cleared := operatorTask i .clear s
      let t := cleared.1
      cleared.2 = [] ∧ onlyMotionChanges s t ∧ (∀ j, j ≠ i → t.fn j = s.fn j)
        ∧ t.fn i = { f with fault := none, activity := .idle, posClass := classOf (s.cfg i) f })
    ∧ (f.activity ≠ .unavailable → f.activity ≠ .faulted → operatorTask i .clear s = (s, []))
    ∧ (causeGone s i = true ↔ (∀ n ∈ s.boundNodes i, (s.node n).state = .live)
      ∧ (f.fault = some .driverFault → ∀ b ∈ s.lastFlags i, b.getLsbD 0 = false)
      ∧ (f.fault = some .overTemp → ∀ b ∈ s.lastFlags i, b.getLsbD 1 = false)
      ∧ (f.fault = some .overload → s.belowOverload i = true))
    ∧ (∀ d : Direction,
      let request : Request := ⟨i, d, .operator, none, none, true, false⟩
      let r := operatorTask i (match d with | .extend => .extend | .retract => .retract) s
      (reverses s i d = true ↔ (s.cfg i).kind = .awning ∧ f.activity = .moving
        ∧ ∃ x, f.chA.direction = some x ∧ x ≠ d)
      ∧ (reverses s i d = true → r = operatorTask i .stop s)
      ∧ (∀ why, reverses s i d = false → verdict s request = some why → r = (refused d.code why.code s, []))
      ∧ (reverses s i d = false → verdict s request = none → r.2 = [.servicePass] ∧ waits d r.1
        ∧ r.1.hold i = s.hold i
        ∧ (s.isTaken i = false → r.1.holds = s.holds ∧ ∀ j, j ≠ i → r.1.fn j = s.fn j)))
    ∧ ∀ (d : Direction) (src : EntryIndex),
      let expiry : Timer := some (s.now + s.settings.timing.holdTimeout)
      let renewed := putHold i { s.hold i with lastPress := some s.now, timer := expiry } s
      let request : Request := ⟨i, d, .operator, none, none, false, false⟩
      let r := press i d src s
      ((s.hold i).state = .active → (s.hold i).verb = some d → r = (renewed, []))
      ∧ ((s.hold i).state = .active → (s.hold i).verb ≠ some d → r = (s, []))
      ∧ ((s.hold i).state = .refused → r = (renewed, []))
      ∧ ((s.hold i).state = .none → reverses s i d = true → r = (putHold i ⟨.refused, some d, some s.now, some src,
          expiry⟩ (operatorTask i .stop s).1, []))
      ∧ (∀ why, (s.hold i).state = .none → reverses s i d = false → verdict s request = some why →
        r = (refused d.code why.code (putHold i ⟨.refused, some d, some s.now, some src, expiry⟩ s), []))
      ∧ ((s.hold i).state = .none → reverses s i d = false → verdict s request = none → r.2 = [.servicePass]
        ∧ waits d r.1 ∧ r.1.hold i = ⟨.active, some d, some s.now, some src, expiry⟩
        ∧ (s.isTaken i = false → ∀ j, j ≠ i → r.1.fn j = s.fn j ∧ r.1.hold j = s.hold j))

/-- R26, R131 and R132: a CAPTURE of a field that the frame has delivers its scaled and clamped value: the signal
takes the value, is FRESH with the entry as its source, and its stale timer restarts; a frame too short for the field
is malformed and delivers nothing. -/
def Obligations.CaptureDeliversAClampedValue : Prop :=
  ∀ (s : State) (i : EntryIndex) (f : Frame) (g : Signal) (offset width multiplier divisor : Nat) (addend : Int),
    let r := capture i f g offset width multiplier divisor addend s
    (f.length ≤ offset / 8 → r = ({ s with matching := { s.matching with
      malformed := min (s.matching.malformed + 1) 65535 } }, []))
    ∧ (offset / 8 < f.length →
      let raw := ((List.range width).map fun k => if fieldBit f offset k then 2 ^ k else 0).sum
      let v : Int := ((raw * multiplier / divisor : Nat) : Int) + addend
      let w := (min (signalMax g : Int) (max 0 v)).toNat
      (r.1.signal g).value = w ∧ w ≤ signalMax g ∧ (r.1.signal g).fresh = true ∧ (r.1.signal g).source = some i
        ∧ (r.1.signal g).timer = some (s.now + s.settings.signals[signalIndex g].staleLimit)
        ∧ (∀ k, k ≠ g → r.1.signal k = s.signal k))

/-- R9: a request that the ten checks let through is for a function that is not UNAVAILABLE or FAULTED, with no STORE
in progress, permitted by the active bank's cell of the posture, not at its end already, not forbidden by clearance or
lockout, of higher rank than the present owner, and in HOLD mode not latched. -/
def Obligations.AcceptedRequestsPassEveryCheck : Prop :=
  ∀ (s : State) (r : Request), verdict s r = none ↔
    (s.fn r.slot).activity ≠ .unavailable ∧ (s.fn r.slot).activity ≠ .faulted ∧ s.store.storing = none
      ∧ (s.monitor.swapPending = true → r.owner = .none ∨ r.owner = .travel ∨ r.owner = .wind)
      ∧ (r.owner = .level → cellAuto (s.cell s.monitor.posture r.slot) = true)
      ∧ (r.owner = .operator ∨ r.owner = .service → cellAllows (s.cell s.monitor.posture r.slot) r.verb = true)
      ∧ (r.target = none → r.verb = .extend → (s.fn r.slot).posClass ≠ .deployed)
      ∧ (r.target = none → r.verb = .retract → (s.fn r.slot).posClass ≠ .stowed)
      ∧ (∀ t, r.target = some t →
          allWithin (s.cfg r.slot) (s.fn r.slot) t (arrivalWidth (s.cfg r.slot).kind) = false)
      ∧ clearanceForbids s r.slot r.verb = false
      ∧ ((s.cfg r.slot).kind = .awning → r.verb = .extend → s.wind.lockout = false)
      ∧ (currentOwner s r = .none ∨ (currentOwner s r).rank < r.owner.rank)
      ∧ (r.latched = true → (s.cfg r.slot).mode = .latch)

/-! ### Frames handed to the management decoder -/

/-- R180 and R198: a COMMAND frame that carries a command's whole parameter list, of at most four bytes, does what the
command does, once it has left the receive buffer. One of a code that names no command is answered UNKNOWN with its
tag; one with a declared length that the command does not have is answered LENGTH; a longer command begins an assembly
with the bytes that came. The model's choices in it stand in log entry 21. -/
def Obligations.CommandFrameCarriesAWholeCommand : Prop :=
  (∀ (s : State) (c : Instr) (code : CommandCode) (tag : Byte) (ps pad : List Byte) (rest : List Frame),
    transactionOf c = some (code, tag, ps) → ps.length + pad.length ≤ 4 → s.isReady = true →
    s.store.doze = false → s.assembly = none →
    s.path.cReceive = dataFrame (requestIdent s.store.straps)
      ([0x01, code.toByte, tag, BitVec.ofNat 8 ps.length] ++ ps ++ pad) :: rest →
    exec .commandFrame s = exec c { s with path := { s.path with cReceive := rest } })
  ∧ ∀ (s : State) (b tag : Byte) (n : Nat) (ps : List Byte) (rest : List Frame), s.takesCommands = true →
    n ≤ 255 → ps.length = 4 →
    s.path.cReceive = dataFrame (requestIdent s.store.straps) ([0x01, b, tag, BitVec.ofNat 8 n] ++ ps) :: rest →
    let t : State := { s.renewed with path := { s.path with cReceive := rest } }
    (CommandCode.ofByte b = none → exec .commandFrame s = .next (queueReply b tag .unknown [] t))
    ∧ (∀ code, CommandCode.ofByte b = some code → lengthFits code n = false → code ≠ .writeCells →
      exec .commandFrame s = .next (queueReply b tag .length [0] t))
    ∧ (∀ code, CommandCode.ofByte b = some code → lengthFits code n = true → 4 < n → code ≠ .writeCells →
      exec .commandFrame s = .next { t with assembly := some ⟨code, tag, n, 1, ps⟩ })

/-- R180 to R182: a CONTINUE frame with no assembly is discarded; one with the next index adds its bytes while the
declared length is not reached; one that reaches it carries the command out with the bytes gathered, as the command
does that came whole; one with another index ends a whole command with LENGTH and count 0. The cells of WRITE_CELLS
are written as they come, and stay written at a LENGTH end. A COMMAND frame that finds an assembly breaks it first
(R180 step 1): a whole command in it is answered INCOMPLETE with count 0 before the new command is judged. The model's
choices in it stand in log entry 21. -/
def Obligations.ContinueFrameAddsItsBytes : Prop :=
  (∀ (s : State) (index : Byte) (ps : List Byte) (rest : List Frame), s.isReady = true → s.store.doze = false →
    ps.length = 6 →
    s.path.cReceive = dataFrame (requestIdent s.store.straps) ([0x02, index] ++ ps) :: rest →
    let t : State := { s.renewed with path := { s.path with cReceive := rest } }
    (s.assembly = none → exec .continueFrame s = .next t)
    ∧ (∀ a, s.assembly = some a → index.toNat = a.nextIndex → a.params.length + 6 < a.declared →
      a.code ≠ .writeCells →
      exec .continueFrame s = .next { t with
        assembly := some { a with params := a.params ++ ps, nextIndex := a.nextIndex + 1 } })
    ∧ (∀ a k, s.assembly = some a → index.toNat ≠ a.nextIndex → a.code.shape = .whole k →
      exec .continueFrame s = .next (queueReply a.code.toByte a.tag .length [0] { t with assembly := none }))
    ∧ (∀ a c, s.assembly = some a → index.toNat = a.nextIndex → a.params.length < a.declared →
      a.declared ≤ a.params.length + 6 → a.code ≠ .writeCells → takesNoCommand s = false →
      lengthFits a.code a.declared = true →
      transactionOf c = some (a.code, a.tag, a.params ++ ps.take (a.declared - a.params.length)) →
      exec .continueFrame s = exec c { s with path := { s.path with cReceive := rest }, assembly := none })
    ∧ (∀ a, s.assembly = some a → a.code = .writeCells →
      let answer := fun (u : State) (why : ReplyOutcome) (n : Nat) =>
        queueReply 0x21 a.tag why [BitVec.ofNat 8 n, BitVec.ofNat 8 u.monitor.cursor.row.val,
          BitVec.ofNat 8 u.monitor.cursor.column.val] u
      let cells := ps.take (a.declared - a.params.length)
      let written := cells.foldl (fun u v => writeCell v u) t
      let all := a.params ++ cells
      (index.toNat = a.nextIndex → a.params.length + 6 < a.declared → exec .continueFrame s
        = .next { written with assembly := some { a with params := all, nextIndex := a.nextIndex + 1 } })
      ∧ (index.toNat = a.nextIndex → a.params.length < a.declared → a.declared ≤ a.params.length + 6 →
        exec .continueFrame s = .next (answer { written with assembly := none }
          (if all.any (fun v => decide (7 < v.toNat)) then .doneClamped else .done) a.declared))
      ∧ (index.toNat ≠ a.nextIndex →
        exec .continueFrame s = .next (answer { t with assembly := none } .length a.params.length))))
  ∧ ∀ (s : State) (c : Instr) (code : CommandCode) (tag : Byte) (ps : List Byte) (a : Assembly) (k : Nat),
    transactionOf c = some (code, tag, ps) → s.isReady = true → s.store.doze = false → s.assembly = some a →
    a.code.shape = .whole k →
    exec c s = exec c (queueReply a.code.toByte a.tag .incomplete [0] { s with assembly := none })

/-! ### Sequence requests and the judgement of moves at a posture change -/

/-- R35, R36, R39, R75, R76, R78, R90, R91 and R95: AUTO_LEVEL and STOW_JACKS are judged by their checks: a refused
request queues one REFUSAL frame and changes nothing else, an accepted one, here with the jacks at rest, writes the
record and asks for each unfinished jack in ascending slot order. An abort stops the busy taken jacks and turns their
ACTIVE hold records REFUSED. STOP_SEQUENCE aborts a running sequence with STOPPED and leaves the hold records as they
are, and does nothing else. A change to a posture other than FAULT judges every slot in order and then the sequence: a
busy function of OPERATOR, SERVICE or LEVEL whose cell forbids its move stops POSTURE_CHANGED, and a LEVEL sequence
with a taken jack whose cell lacks AUTO aborts; TRAVEL and WIND are not judged. A capture that sets IGNITION on from
off outside FAULT asks for the TRAVEL stow where its flag is set and a jack is not STOWED, and for the TRAVEL retract
of each awning that is not STOWED where its flag is set. Here of a state whose M-port is drained. The model's choices
in it stand in log entry 47. -/
def Obligations.SequenceRequestsAndPostureChanges : Prop :=
  ∀ s : State, s.LinkDrained →
    let cell := fun i : Slot => s.cell s.monitor.posture i
    let refused := fun (kind verb reason : Nat) (k : SeqKind) => queueStatus 3 .change (.refusalSequence k)
      [1, BitVec.ofNat 8 kind, BitVec.ofNat 8 verb, BitVec.ofNat 8 reason] s
    let begun := fun (k : SeqKind) (o : Owner) (p : Phase) (taken finished : List Slot) (t : State) =>
      t = levelFrame { s with sequence := { Sequence.start with
        kind := some k, owner := some o, phase := p, taken := taken, finished := finished
        starts := some (taken.map fun i => (i, (s.fn i).position.getD 0)) } }
    let aborted := fun (why : AbortReason) (t : State) => t.sequence.phase = .idle
      ∧ t.sequence.result = some (.aborted why) ∧ t.sequence.taken = []
      ∧ (∀ j ∈ s.sequence.taken, t.fn j
          = if (s.fn j).activity.isBusy then (s.fn j).stopped why.stopReason else s.fn j)
      ∧ (∀ j, j ∉ s.sequence.taken → t.fn j = s.fn j) ∧ onlyMotionChanges s t
    let recordsRefused := fun t : State => ∀ j, t.hold j
      = if j ∈ s.sequence.taken ∧ (s.fn j).activity.isBusy = true ∧ (s.hold j).state = .active
        then { s.hold j with state := .refused } else s.hold j
    (levelVerdict s = none ↔ s.seqRuns = false ∧ 2 ≤ s.jacks.length ∧ s.jacks.length ≤ 6
      ∧ (∃ n, s.settings.levelling.sensorNode = some n ∧ (s.node n).state = .live)
      ∧ (∀ i ∈ s.jacks, (s.fn i).activity ≠ .faulted) ∧ s.store.storing = none ∧ s.monitor.swapPending = false
      ∧ ∀ i ∈ s.jacks, cellAuto (cell i) = true)
    ∧ (∀ r, levelVerdict s = some r → operatorSequence .autoLevel s = (refused 0 5 r.code .autoLevel, []))
    ∧ (levelVerdict s = none → (∀ i ∈ s.jacks, (s.fn i).activity.isBusy = false) →
      begun .autoLevel .level .ground s.jacks (s.jacks.filter fun i => (s.fn i).contact)
        (operatorSequence .autoLevel s).1
      ∧ (operatorSequence .autoLevel s).2
        = (s.jacks.filter fun i => !(s.fn i).contact).map .groundRequest)
    ∧ (∀ o : Owner, stowVerdict o s = none ↔
      (s.seqRuns = true → s.sequence.owner ≠ some .travel ∧ o ≠ .level) ∧ s.stowable ≠ [] ∧ s.store.storing = none
      ∧ (o = .level → s.monitor.swapPending = false ∧ ∀ i ∈ s.stowable, cellAuto (cell i) = true))
    ∧ (∀ r, stowVerdict .level s = some r → operatorSequence .stowJacks s = (refused 1 1 r.code .stowJacks, []))
    ∧ (stowVerdict .level s = none → (∀ i ∈ s.stowable, (s.fn i).activity.isBusy = false) →
      begun .stowJacks .level .stowing s.stowable (s.stowable.filter fun i => (s.fn i).posClass == .stowed)
        (operatorSequence .stowJacks s).1
      ∧ (operatorSequence .stowJacks s).2
        = (s.stowable.filter fun i => (s.fn i).posClass != .stowed).map .stowRequest)
    ∧ (stowVerdict .travel s = none → s.seqRuns = false → (∀ i ∈ s.stowable, (s.fn i).activity.isBusy = false) →
      begun .stowJacks .travel .stowing s.stowable (s.stowable.filter fun i => (s.fn i).posClass == .stowed)
        (travelStow s).1)
    ∧ (stowVerdict .travel s = none → s.seqRuns = true → aborted .preempted (travelStow s).1
      ∧ recordsRefused (travelStow s).1 ∧ (travelStow s).2 = [.servicePass, .travelStow])
    ∧ (s.seqRuns = false → operatorSequence .stopSequence s = (s, []))
    ∧ (s.seqRuns = true → (operatorSequence .stopSequence s).2 = []
      ∧ aborted .stopped (operatorSequence .stopSequence s).1
      ∧ (operatorSequence .stopSequence s).1.holds = s.holds)
    ∧ (∀ p : Posture, p ≠ .fault → p ≠ s.monitor.posture →
      (changePosture p s).1 = postureFrame .change { s with monitor := { s.monitor with posture := p } }
      ∧ (s.monitor.posture ≠ .fault → (changePosture p s).2 = slots.map .judgeMove ++ [.judgeSequence]))
    ∧ (∀ i : Slot,
      let f := s.fn i
      let toward := match f.verb, f.target, f.position with
        | some .goto, some t, some p => if p < t then Direction.extend else .retract
        | some .extend, _, _ => .extend
        | _, _, _ => .retract
      let allowed := match f.owner with
        | .operator => cellAllows (cell i) toward
        | .service => decide (s.monitor.posture = .service) && cellAllows (cell i) toward
        | .level => cellAuto (cell i)
        | .none | .travel | .wind => true
      (f.target = none ∨ f.target ≠ f.position) →
      (f.activity.isBusy = false ∨ allowed = true → judgeMove i s = s)
      ∧ (f.activity.isBusy = true → allowed = false → (judgeMove i s).fn i = f.stopped .postureChanged
        ∧ onlyMotionChanges s (judgeMove i s)
        ∧ (s.isTaken i = false → ∀ j, j ≠ i → (judgeMove i s).fn j = s.fn j)
        ∧ (s.isTaken i = true → (judgeMove i s).sequence.result = some (.aborted .postureChanged))))
    ∧ (let lacks := s.sequence.taken.any fun i => !cellAuto (cell i)
      (s.seqRuns = true → s.sequence.owner = some .level → lacks = true →
        aborted .postureChanged (judgeSequence s) ∧ recordsRefused (judgeSequence s))
      ∧ (s.seqRuns = false ∨ s.sequence.owner ≠ some .level ∨ lacks = false → judgeSequence s = s))
    ∧ (∀ (value : Nat) (src : EntryIndex),
      let old := s.value .ignition
      let t := s.setSignal .ignition
        ⟨value, true, some src, some (s.now + s.settings.signals[signalIndex .ignition].staleLimit)⟩
      let r := deliver .ignition value src s
      (value = old ∨ value ≠ 1 → r = (t, []))
      ∧ (value = 1 → old ≠ 1 → s.store.doze = false → s.monitor.posture = .fault → r = (t, []))
      ∧ (value = 1 → old ≠ 1 → s.store.doze = false → s.monitor.posture ≠ .fault → r.1 = t ∧ ∃ jacks awnings,
        r.2 = jacks ++ awnings
        ∧ (s.settings.levelling.travelStowJacks = true → (∃ i, (s.cfg i).kind = .jack ∧ (s.fn i).posClass ≠ .stowed) →
          jacks = [.travelStow])
        ∧ (s.settings.levelling.travelStowJacks = false ∨ (∀ i, (s.cfg i).kind = .jack → (s.fn i).posClass = .stowed) →
          jacks = [])
        ∧ (s.settings.levelling.travelStowAwnings = false → awnings = [])
        ∧ (s.settings.levelling.travelStowAwnings = true → awnings = (slots.filter fun i =>
          (s.cfg i).kind == .awning && (s.fn i).posClass != .stowed).map .travelRetract)))

/-! ### Frames handed to the link manager -/

/-- R163 to R165 and R200: a REPORT of a channel that no slot uses, that is not the pump's and has no order record,
and a TILT of a node that is not the level sensor node, are written into the node's channel record with the gap
counted, and make the node LIVE with its silence timer restarted; here no slot awaits a node that was SILENT at its
binding check. The model's choices in it stand in log entries 32 and 34. -/
def Obligations.ReportAndTiltUpdateTheNode : Prop :=
  ∀ (s : State) (n : Nat) (ch seq seen : Byte) (raw load : Word16) (flags : Byte) (rest : List Frame),
    s.isReady = true → s.store.doze = false → (s.node n).state ≠ .absent →
    (∀ (i : Slot) (e : Side), ((s.fn i).chan e).awaited = false) →
    let x := s.node n
    let gapAt := fun k : Nat => match (x.channels[k]?).bind (·.sequence) with
      | none => false
      | some q => seq.toNat ≠ (q + 1) % 256
    let after := fun (k : Nat) (r : ChannelRecord) => (({ s with
        path := { s.path with mReceive := rest } } : State).setNode n { x with
        state := .live
        channels := x.channels.set k r
        gaps := if gapAt k then min (x.gaps + 1) 65535 else x.gaps
        silenceTimer := some (s.now + s.settings.timing.silenceLimit) })
    (s.path.mReceive = dataFrame (linkIdent 12 n)
        ([ch, raw.extractLsb' 8 8, raw.extractLsb' 0 8, load.extractLsb' 8 8, load.extractLsb' 0 8, flags, seq, seen]) :: rest →
      x.kind = .valveBank ∨ x.kind = .pump ∨ x.kind = .motorPair → ch.toNat < x.channels.length →
      (∀ i : Slot, (s.cfg i).kind ≠ .unused → ⟨n, ch.toNat⟩ ∉ (s.cfg i).drives) →
      s.settings.manifold.pump ≠ some ⟨n, ch.toNat⟩ → s.orderRecord n ch.toNat = none →
      exec .report s = .next (after ch.toNat
        ⟨some (raw.toNat : Int), some (load.toNat : Int), some flags, some seq.toNat, some seen.toNat⟩))
    ∧ (s.path.mReceive = dataFrame (linkIdent 13 n)
        ([raw.extractLsb' 8 8, raw.extractLsb' 0 8, load.extractLsb' 8 8, load.extractLsb' 0 8, flags, seq]) :: rest →
      x.kind = .levelSensor → s.settings.levelling.sensorNode ≠ some n →
      exec .tilt s = .next (after 0 ⟨some raw.toInt, some load.toInt, some (if flags.getLsbD 0 then 1 else 0),
        some seq.toNat, (x.channels[0]?).bind (·.orderSeen)⟩))

/-- R5, R6, R14, R15, R16, R30, R79 and R100: a report handed to a slot, whatever its activity, writes the position
and load of each end on that channel, the position clamped to 0..stroke, computes the class again, and for a JACK
judges the contact flag, which a report below the lower threshold leaves set until the contact-loss timer that it
starts. No other slot's positions, loads, class or contact flag change, and of an UNAVAILABLE slot's report no other
slot at all but its partner. Then the flags fault a slot that can fault. A MOVING JACK faults OVERLOAD, and else ends
at its target, at its extend end or in its stow window; on its ground request, WAITING or MOVING, contact stops and
finishes it, and the extend end without contact faults it NO_GROUND. A MOVING SLIDE_HYD is judged by the six tests in
their order. What no test ends or faults stays in its activity. Here of a state whose M-port is drained. The model's
choices in it stand in log entries 19 and 39. -/
def Obligations.ReportsMoveAndJudgeHydraulics : Prop :=
  ∀ (s : State) (i : Slot) (d : DriveRef) (r : ChannelRecord) (raw load : Nat), s.LinkDrained →
    s.channelRecord d = some r → r.raw = some (raw : Int) → r.load = some (load : Int) →
    let c := s.cfg i
    let f := s.fn i
    let p := s.settings.levelling
    let t := (slotReport i d s).1
    (∀ e, c.drive e = some d →
      ((t.fn i).chan e).load = some load
        ∧ (c.kind.isMotor = false → ((t.fn i).chan e).position = some (min raw c.stroke))
        ∧ (c.kind.isMotor = true → ((t.fn i).chan e).position
            = some (min (c.stroke : Int) (max 0 (((raw : Int) - c.offset e) * c.sense e))).toNat))
    ∧ (t.fn i).posClass = classOf c (t.fn i)
    ∧ (c.kind = .jack → s.settings.levelling.contactPressure ≤ load → (t.fn i).contact = true)
    ∧ (c.kind = .jack → (s.fn i).contact = false → load < p.contactPressure → (t.fn i).contact = false)
    ∧ (c.kind = .jack → (s.fn i).contact = true → (t.fn i).contact = true
      ∧ (p.contactPressure - p.contactHysteresis ≤ load → (t.fn i).contactTimer = none)
      ∧ (load < p.contactPressure - p.contactHysteresis → (t.fn i).contactTimer
          = if (s.fn i).contactTimer.isSome then (s.fn i).contactTimer else some (s.now + 1000)))
    ∧ (∀ j, j ≠ i → (∀ e, ((t.fn j).chan e).position = ((s.fn j).chan e).position
        ∧ ((t.fn j).chan e).load = ((s.fn j).chan e).load)
      ∧ (t.fn j).posClass = (s.fn j).posClass ∧ (t.fn j).contact = (s.fn j).contact)
    ∧ onlyMotionChanges s t
    ∧ ((s.fn i).activity = .unavailable → (t.fn i).activity = .unavailable ∧ (t.fn i).fault = (s.fn i).fault
      ∧ ∀ j, j ≠ i → c.partner ≠ some j → t.fn j = s.fn j)
    ∧ (let b := r.flags.getD 0
      let at_ := min raw c.stroke
      let failed := fun code : FaultCode => (t.fn i).activity = .faulted ∧ (t.fn i).fault = some code
        ∧ (t.fn i).owner = .none ∧ (t.fn i).lastStop = f.lastStop
      let ended := fun (why : StopReason) (e : Ending) => (t.fn i).activity = .settling
        ∧ (t.fn i).lastStop = some why ∧ (t.fn i).ending = some e ∧ (t.fn i).byStall = false
        ∧ (t.fn i).settleTimer = some (s.now + c.settleTime) ∧ (t.fn i).owner = f.owner
      let stays := (t.fn i).activity = f.activity ∧ (t.fn i).owner = f.owner ∧ (t.fn i).lastStop = f.lastStop
      let quiet := b.getLsbD 0 = false ∧ b.getLsbD 1 = false
      let near := match f.target with | some x => gap x at_ ≤ 2 | none => False
      (f.activity = .faulted → (t.fn i).activity = .faulted ∧ (t.fn i).fault = f.fault)
      ∧ (f.activity.canFault = true → b.getLsbD 0 = true → failed .driverFault)
      ∧ (f.activity.canFault = true → b.getLsbD 0 = false → b.getLsbD 1 = true → failed .overTemp)
      ∧ (c.kind = .jack → c.sides = [.a] → c.drive .a = some d → quiet →
        let grounding := s.sequence.phase = .ground ∧ s.isTaken i = true ∧ i ∉ s.sequence.finished
        let touches := f.contact = true ∨ p.contactPressure ≤ load
        (f.activity = .moving → c.overload ≤ load → failed .overload)
        ∧ (grounding → touches → f.activity = .waiting ∨ (f.activity = .moving ∧ load < c.overload) →
          (t.fn i).activity = .idle ∧ (t.fn i).lastStop = some .endReached ∧ i ∈ t.sequence.finished
            ∧ t.sequence.phase = .ground)
        ∧ (grounding → ¬ touches → f.activity = .moving → load < c.overload → c.stroke - c.endWindow ≤ at_ →
          failed .noGround ∧ t.sequence.result = some .noGround ∧ t.sequence.phase = .idle)
        ∧ (grounding → ¬ touches → f.activity = .moving → load < c.overload → at_ < c.stroke - c.endWindow → stays)
        ∧ (¬ grounding → f.activity = .moving → load < c.overload →
          (f.verb = some .goto → near → ended .targetReached .target) ∧ (f.verb = some .goto → f.target.isSome = true →
            ¬ near → stays)
          ∧ (f.verb = some .extend → c.stroke - c.endWindow ≤ at_ → ended .endReached .extendEnd)
          ∧ (f.verb = some .extend → at_ < c.stroke - c.endWindow → stays)
          ∧ (f.verb = some .retract → at_ ≤ c.stowWindow → ended .endReached .retractEnd)
          ∧ (f.verb = some .retract → c.stowWindow < at_ → stays))
        ∧ (¬ grounding → f.activity.canFault = true → f.activity ≠ .moving → stays))
      ∧ (c.kind = .slideHyd → c.drive .a = some d → quiet →
        (f.activity.canFault = true → f.activity ≠ .moving → stays)
        ∧ (f.activity = .moving → c.overload ≤ load → failed .overload)
        ∧ ∀ dir, f.activity = .moving → load < c.overload → f.chA.direction = some dir →
          let inside := match dir with
            | .retract => at_ ≤ c.stowWindow
            | .extend => c.stroke - c.endWindow ≤ at_
          let early := ∃ t0, f.chA.startTime = some t0 ∧ s.now < t0 + 250
          (¬ early → c.endPressure ≤ load → inside → ended .endReached (Ending.ofDirection dir))
          ∧ (¬ early → c.endPressure ≤ load → ¬ inside → failed .obstruction)
          ∧ (early ∨ load < c.endPressure → f.verb = some .goto → near → ended .targetReached .target)
          ∧ (early ∨ load < c.endPressure → f.verb ≠ some .goto ∨ (f.target.isSome = true ∧ ¬ near) → stays)))

/-- R74, R77 and R82 to R87: what the sequencer does with a TILT of the level sensor node. The heights are the exact
products divided by 10000, rounded half away from zero; each target is the present position, the lift to the highest
jack and on pass 1 the margin, at most the stroke less the end window, which sets the limited flag; a lift step takes
every jack more than 2 mm short of its target, by the lift step at most. Outside an AUTO_LEVEL a reading changes
nothing; else the clamped reading is written, and in SAMPLE, settled and stable, it is evaluated: too steep at pass 0,
level, out of passes, or the next pass, solved and formed into LIFT, or into SETTLE where no jack is short. A step
whose jacks have all come to rest is followed by the next. A lift request that R9 accepts makes its jack WAITING for
the step target at the lift speed, and a refused one aborts the sequence. -/
def Obligations.ReadingsAreSolvedIntoLiftSteps : Prop :=
  (∀ x y gp gr : Int,
    let sum := x * gp + y * gr
    let h := heightOf x y gp gr
    (0 ≤ sum → 10000 * h ≤ sum + 5000 ∧ sum + 5000 < 10000 * (h + 1))
    ∧ (sum ≤ 0 → 10000 * h ≥ sum - 5000 ∧ sum - 5000 > 10000 * (h - 1)))
  ∧ ∀ s : State,
    let p := s.settings.levelling
    let pos := fun i : Slot => (s.fn i).position.getD 0
    let short := fun (l : List (Slot × Nat)) (i : Slot) (n : Nat) =>
      ∃ x, (i, x) ∈ l ∧ pos i + 2 < x ∧ n = pos i + min (x - pos i) p.liftStep
    let formed := fun (u : State) (r : State × List Task) => ∀ l, u.sequence.targets = some l →
      let step := nextStep u
      r.1.sequence.targets = some l ∧ r.1.sequence.pass = u.sequence.pass ∧ r.1.functions = u.functions
      ∧ (step = [] → r.1.sequence.phase = .settle ∧ r.1.sequence.stepTargets = none ∧ r.2 = []
        ∧ r.1.sequence.settleTimer = some (s.now + p.settleTime))
      ∧ (step ≠ [] → r.1.sequence.phase = .lift ∧ r.1.sequence.stepTargets = some step
        ∧ r.2 = step.map fun x => .liftRequest x.1)
    (∀ (pass : Nat) (gp gr top : Int),
      let h := fun i : Slot => heightOf s.settings.geometry[i].x s.settings.geometry[i].y gp gr
      let want := fun i : Slot => pos i + (top - h i).toNat + (if pass = 1 then p.liftMargin else 0)
      let bound := fun i : Slot => (s.cfg i).stroke - (s.cfg i).endWindow
      (∃ j ∈ s.sequence.taken, h j = top) → (∀ j ∈ s.sequence.taken, h j ≤ top) →
      (solve s pass gp gr).1 = s.sequence.taken.map (fun i => (i, min (bound i) (want i)))
      ∧ ((solve s pass gp gr).2 = true ↔ ∃ i ∈ s.sequence.taken, bound i < want i))
    ∧ (∀ i n, (i, n) ∈ nextStep s ↔ short (s.sequence.targets.getD []) i n)
    ∧ (∀ (pitch roll : Int) (stable : Bool),
      let level := s.seqRuns = true ∧ s.sequence.kind = some .autoLevel
      let gp := min 2000 (max (-2000) pitch)
      let gr := min 2000 (max (-2000) roll)
      let read : Sequence := { s.sequence with reading := some (gp, gr, stable) }
      let usable := s.sequence.phase = .sample ∧ s.sequence.settleTimer = none ∧ stable = true
      let r := takeReading pitch roll stable s
      let u : State := { s with sequence := { read with sampleTimer := none } }
      let pass := s.sequence.pass
      let steep := pass = 0 ∧ ((p.maxStartGrade : Int) < |gp| ∨ (p.maxStartGrade : Int) < |gr|)
      let flat := |gp| ≤ (p.tolerance : Int) ∧ |gr| ≤ (p.tolerance : Int)
      let done := fun x : SeqResult => r.2 = [] ∧ r.1.sequence.phase = .idle ∧ r.1.sequence.result = some x
        ∧ r.1.sequence.pass = pass ∧ r.1.sequence.reading = read.reading ∧ r.1.sequence.taken = []
        ∧ r.1.sequence.sampleTimer = none ∧ r.1.sequence.settleTimer = none
        ∧ r.1.monitor.levelled = (x == .levelOk || s.monitor.levelled)
        ∧ ((∀ i ∈ s.sequence.taken, (s.fn i).activity.isBusy = false) → r.1.functions = s.functions)
      (¬ level → r = (s, []))
      ∧ (level → ¬ usable → r = ({ s with sequence := read }, []))
      ∧ (level → usable → steep → done .tooSteep)
      ∧ (level → usable → ¬ steep → flat → done .levelOk)
      ∧ (level → usable → ¬ steep → ¬ flat → pass = p.maxPasses →
        done (if s.sequence.limited then .levelLimited else .outOfTolerance))
      ∧ (level → usable → ¬ steep → ¬ flat → pass ≠ p.maxPasses →
        let solved := solve s (pass + 1) gp gr
        formed { u with sequence := { u.sequence with
          pass := pass + 1, targets := some solved.1, limited := s.sequence.limited || solved.2 } } r
        ∧ r.1.sequence.pass = pass + 1 ∧ r.1.sequence.targets = some solved.1
        ∧ r.1.sequence.limited = (s.sequence.limited || solved.2)))
    ∧ (∀ ts, s.sequence.phase = .lift → s.sequence.stepTargets = some ts →
      ((∀ x ∈ ts, (s.fn x.1).activity = .idle) → formed s (stepEnd s))
      ∧ ((∃ x ∈ ts, (s.fn x.1).activity ≠ .idle) → stepEnd s = (s, []))
      ∧ ∀ (i : Slot) (n : Nat), s.isTaken i = true → ts.find? (fun x => x.1 == i) = some (i, n) → s.LinkDrained →
        let request : Request :=
          ⟨i, .extend, s.sequence.owner.getD .none, some n, some p.liftSpeed, false, true⟩
        let r := liftRequest i s
        let ends := fun why : AbortReason => r.2 = [] ∧ r.1.sequence.phase = .idle
          ∧ r.1.sequence.result = some (.aborted why)
          ∧ ∀ j ∈ s.sequence.taken, r.1.fn j
            = if (s.fn j).activity.isBusy then (s.fn j).stopped why.stopReason else s.fn j
        (verdict s request = none → r.2 = [.servicePass] ∧ (r.1.fn i).activity = .waiting
          ∧ (r.1.fn i).owner = s.sequence.owner.getD .none ∧ (r.1.fn i).verb = some .goto
          ∧ (r.1.fn i).target = some (min (s.cfg i).stroke n) ∧ (r.1.fn i).moveSpeed = some p.liftSpeed
          ∧ onlyMotionChanges s r.1)
        ∧ (∀ why, verdict s request = some why →
          (why = .notPermitted → ends .postureChanged)
          ∧ (why = .notReady ∨ why = .faulted → ends .fault)
          ∧ (why ≠ .notPermitted → why ≠ .notReady → why ≠ .faulted → ends .stopped)))
    ∧ ∀ (n : Nat) (pitch roll : Word16) (flags seq : Byte) (rest : List Frame), s.isReady = true →
      s.store.doze = false → p.sensorNode = some n → (s.node n).kind = .levelSensor → (s.node n).state ≠ .absent →
      (∀ (i : Slot) (e : Side), ((s.fn i).chan e).awaited = false) →
      s.path.mReceive = dataFrame (linkIdent 13 n) [pitch.extractLsb' 8 8, pitch.extractLsb' 0 8,
        roll.extractLsb' 8 8, roll.extractLsb' 0 8, flags, seq] :: rest →
      let x := s.node n
      let v := ({ s with path := { s.path with mReceive := rest } } : State).setNode n { x with
        state := .live
        channels := x.channels.set 0 ⟨some pitch.toInt, some roll.toInt, some (if flags.getLsbD 0 then 1 else 0),
          some seq.toNat, (x.channels[0]?).bind (·.orderSeen)⟩
        gaps := match (x.channels[0]?).bind (·.sequence) with
          | none => x.gaps
          | some k => if seq.toNat = (k + 1) % 256 then x.gaps else min (x.gaps + 1) 65535
        silenceTimer := some (s.now + s.settings.timing.silenceLimit) }
      let r := takeReading pitch.toInt roll.toInt (flags.getLsbD 0) v
      (s.seqRuns = false ∨ s.sequence.kind ≠ some .autoLevel → exec .tilt s = .next v)
      ∧ (r.2 = [] → nothingFollows s r.1 = true → exec .tilt s = .next r.1)

/-- R158 to R160: an ENROL_ACK carrying the outstanding number of a running census enters the node, cancels the
enrolment timer and offers PASS; one carrying an enrolled number ends the census CONFLICT with the CENSUS_FAULT alarm;
one carrying 0 at the probe ends it EXCESS with count 24. -/
def Obligations.EnrolAckAdvancesOrEndsTheCensus : Prop :=
  ∀ (s : State) (n : Nat) (kind channels hardware : Byte) (rest : List Frame), s.isReady = true → n ≤ 255 →
    s.link.outcome = .running →
    s.path.mReceive = dataFrame (linkIdent 8 0) [BitVec.ofNat 8 n, kind, channels, hardware] :: rest →
    let t : State := { s with path := { s.path with mReceive := rest } }
    (1 ≤ n → n ≤ 24 → (s.node n).state = .absent → s.link.outstanding = some n →
      exec .enrolAck s = .next (offerEnrol (.pass n) (({ t with
        link := { t.link with enrolTimer := none, count := n } } : State).setNode n
          { state := .enrolled
            kind := NodeKind.ofCode kind.toNat
            hardwareClass := hardware.toNat
            channels := List.replicate (min 8 (max 1 channels.toNat)) ⟨none, none, none, none, none⟩
            gaps := 0
            silenceTimer := none })))
    ∧ (1 ≤ n → n ≤ 24 → (s.node n).state ≠ .absent →
      ∃ u, exec .enrolAck s = .next u ∧ u.link.outcome = .conflict ∧ u.link.count = s.enrolledCount
        ∧ u.link.nodes = s.link.nodes ∧ u.link.outstanding = none ∧ u.link.enrolTimer = none
        ∧ u.link.chainLine = false ∧ u.link.offers = [] ∧ u.monitor.alarms.censusFault = true
        ∧ u.monitor.posture = .fault ∧ u.functions = s.functions ∧ u.settings = s.settings)
    ∧ (n = 0 → s.link.outstanding = some 0 →
      ∃ u, exec .enrolAck s = .next u ∧ u.link.outcome = .excess ∧ u.link.count = 24
        ∧ u.link.nodes = s.link.nodes ∧ u.link.outstanding = none ∧ u.link.enrolTimer = none
        ∧ u.link.chainLine = false ∧ u.link.offers = [] ∧ u.monitor.alarms.censusFault = true
        ∧ u.monitor.posture = .fault ∧ u.functions = s.functions ∧ u.settings = s.settings)

/-- R165, R160, R198 and R200: a link frame that the link manager sets aside leaves the buffer, is counted as a stray,
and changes nothing else: no node, no timer. A frame on the request identifier that fits neither layout leaves the
buffer and restarts a running doze timer, and changes nothing else. -/
def Obligations.StraysAreOnlyCounted : Prop :=
  ∀ (s : State) (f : Frame) (rest : List Frame), s.isReady = true →
    (s.path.mReceive = f :: rest → f.form = .extended → linkKind f.ident < 24 →
      (linkKind f.ident ≠ 12 ∧ linkKind f.ident ≠ 13 ∧ linkKind f.ident ≠ 8
        ∨ linkKind f.ident = 12 ∧ (s.node (linkNode f.ident)).state = .absent
        ∨ linkKind f.ident = 13 ∧ (s.node (linkNode f.ident)).state = .absent
        ∨ linkKind f.ident = 8 ∧ s.link.outcome ≠ .running
        ∨ f.remote = true) →
      exec .linkStray s = .next { s with
        path := { s.path with mReceive := rest }
        link := { s.link with strays := min (s.link.strays + 1) 65535 } })
    ∧ (s.path.cReceive = f :: rest → s.store.doze = false → f.form = .extended →
      f.ident = requestIdent s.store.straps →
      (f.remote = true ∨ f.length < 4 ∨ (frameByte f 0 ≠ 1 ∧ frameByte f 0 ≠ 2)) →
      exec .managementFrameDiscard s = .next { s.renewed with path := { s.path with cReceive := rest } })

/-! ### Orders and the service pass -/

/-- R169, R170, R171, R173 and R174: how an order is placed, repeated and sent again. Placing a channel replaces its
queued entry in place, else joins the tail while the queue holds fewer than 8, and clears the channel's marks. On a
full queue a stopping order evicts the oldest driving order, whose channel is marked for refresh, or, with none there,
makes its channel due; a driving order only marks its channel and is counted as deferred. A new order takes the next
sequence number and is placed, an equal one changes nothing. While the queue has room the due channels are placed,
stopping orders first, then by node and channel. A refresh makes due every marked channel, every drive channel of a
MOVING function and the channel of a running pump. A report that shows another sequence than a standing stopping order
places its channel again, once a refresh cycle. -/
def Obligations.OrdersArePlacedEvictedAndRepeated : Prop :=
  ∀ s : State,
    let rs := s.orders.records
    let q := s.orders.queue
    let entry := fun r : OrderRecord => (⟨r.node, r.channel, r.drive, r.speed, r.sequence⟩ : OrderEntry)
    let stops := fun d : DriveCode => d = .holdStill ∨ d = .pumpStop
    let queued := fun r : OrderRecord => ∃ e ∈ q, e.node = r.node ∧ e.channel = r.channel
    let marks := fun (r : OrderRecord) (due refresh : Bool) (l : List OrderRecord) => l.map fun x =>
      if x.node = r.node ∧ x.channel = r.channel then { x with due := due, refresh := refresh } else x
    let before := fun a b : OrderRecord => stops a.drive ∧ ¬ stops b.drive
      ∨ (stops a.drive ↔ stops b.drive) ∧ (a.node < b.node ∨ a.node = b.node ∧ a.channel < b.channel)
    (∀ r : OrderRecord,
      (queued r → placeOrder r s = { s with orders := { s.orders with
        queue := q.map fun e => if e.node = r.node ∧ e.channel = r.channel then entry r else e
        records := marks r false false rs } })
      ∧ (¬ queued r → q.length < 8 → placeOrder r s = { s with orders := { s.orders with
        queue := q ++ [entry r], records := marks r false false rs } })
      ∧ (∀ a x b, ¬ queued r → 8 ≤ q.length → stops r.drive → q = a ++ x :: b → ¬ stops x.drive →
        (∀ e ∈ a, stops e.drive) → placeOrder r s = { s with orders := { s.orders with
          queue := a ++ b ++ [entry r], evictions := min (s.orders.evictions + 1) 65535
          records := marks r false false (rs.map fun y =>
            if y.node = x.node ∧ y.channel = x.channel then { y with refresh := true } else y) } })
      ∧ (¬ queued r → 8 ≤ q.length → stops r.drive → (∀ e ∈ q, stops e.drive) →
        placeOrder r s = { s with orders := { s.orders with records := marks r true false rs } })
      ∧ (¬ queued r → 8 ≤ q.length → ¬ stops r.drive → placeOrder r s = { s with orders := { s.orders with
        records := marks r false true rs, deferrals := min (s.orders.deferrals + 1) 65535 } }))
    ∧ (∀ (d : DriveRef) (code : DriveCode) (speed : Nat), s.path.mTransmit.isSome = true →
      let new : OrderRecord := ⟨d.node, d.channel, code, speed, 0, false, false, none⟩
      (s.orderRecord d.node d.channel = none → handOrder true d code speed s
        = placeOrder new { s with orders := { s.orders with records := rs ++ [new] } })
      ∧ ∀ r, s.orderRecord d.node d.channel = some r →
        let next : OrderRecord := { r with drive := code, speed := speed, sequence := (r.sequence + 1) % 256 }
        let held : State := { s with orders := { s.orders with records := rs.map fun x =>
          if x.node = d.node ∧ x.channel = d.channel then next else x } }
        r.node = d.node ∧ r.channel = d.channel
        ∧ (r.drive = code → r.speed = speed → handOrder true d code speed s = s)
        ∧ (r.drive ≠ code ∨ r.speed ≠ speed → handOrder true d code speed s = placeOrder next held
          ∧ handOrder false d code speed s = held))
    ∧ (8 ≤ q.length → placeDue s = s)
    ∧ ((∀ r ∈ rs, r.due = false) → placeDue s = s)
    ∧ (∀ a r b, q.length < 8 → rs = a ++ r :: b → r.due = true → (∀ x ∈ a, x.due = true → before r x) →
      (∀ x ∈ b, x.due = true → ¬ before x r) → placeDue s = placeDue (placeOrder r s))
    ∧ (q.length ≤ 8 → (placeDue s).orders.queue.length = 8 ∨ ∀ r ∈ (placeDue s).orders.records, r.due = false)
    ∧ (setDue s = { s with orders := { s.orders with records := (setDue s).orders.records } }
      ∧ (setDue s).orders.records.length = rs.length
      ∧ ∀ (k : Nat) (r x : OrderRecord), rs[k]? = some r → (setDue s).orders.records[k]? = some x →
        x = { r with due := x.due } ∧ (x.due = true ↔ r.due = true ∨ r.refresh = true
          ∨ (∃ i, (s.fn i).activity = .moving ∧ ⟨r.node, r.channel⟩ ∈ (s.cfg i).drives)
          ∨ s.manifold.pump.isOn = true ∧ s.settings.manifold.pump = some ⟨r.node, r.channel⟩))
    ∧ (s.isReady = true → s.orders.refreshTimer.isSome = true → (∀ i, (s.fn i).activity ≠ .moving) →
      s.path.mTransmit.isSome = true →
      let cycle := (s.orders.cycle + 1) % 256
      let period := s.settings.timing.refreshPeriod
      exec .refreshTimerExpiry s = .next (placeDue (setDue { s with
        orders := { s.orders with refreshTimer := some (s.now + period), period := period, cycle := cycle }
        path := { s.path with control := match s.path.control with
          | some .halt => some .halt
          | some (.enrol f) => some (.enrol f)
          | _ => some (.beat cycle period) } })))
    ∧ ∀ (node channel seen : Nat),
      (s.orderRecord node channel = none → resendStop node channel seen s = s)
      ∧ ∀ r, s.orderRecord node channel = some r →
        let again := stops r.drive ∧ seen ≠ r.sequence ∧ ¬ queued r ∧ r.due = false
          ∧ r.resend ≠ some s.orders.cycle
        let next : OrderRecord := { r with resend := some s.orders.cycle }
        (¬ again → resendStop node channel seen s = s)
        ∧ (again → s.path.mTransmit.isSome = true → resendStop node channel seen s
          = placeOrder next { s with orders := { s.orders with records := rs.map fun x =>
            if x.node = node ∧ x.channel = channel then next else x } })

/-- R13, R54, R56, R59, R61, R66, R97 and R103: the service pass, the pump's start and the entry into MOVING, of a
state whose M-port is drained, whose functions hold owners by R7 and whose wait list is R55's, with no motor function
taken by a sequence. The holder's own entries leave the list while the pump runs. Then the head is served: a motor
kind whose draw fits takes its claim and goes MOVING, a hydraulic one with no foreign holder is granted the manifold
with all of its owner and class, starting the pump where it is STOPPED and its claim fits; a head that does not fit
ends the pass. Freed functions wait PRIME under a priming pump and else go MOVING. Every entry left carries its
reason, the claims stay within the effective limit, and no function outside the list changes. The pump's start takes
its claim, orders PUMP_RUN at 100 and starts the prime timer; the entry into MOVING orders each channel, or faults a
twin beyond its hard skew. -/
def Obligations.ServicePassGrantsInOrder : Prop :=
  ∀ s : State, s.LinkDrained → s.OwnersHold → s.WaitListHolds →
    (∀ i, (s.cfg i).kind.isMotor = true → s.isTaken i = false) →
    let t := servicePass s
    let m := s.manifold
    let listed := fun (u : State) (i : Slot) => i ∈ u.manifold.waitList.map (·.slot)
    let foreign := fun (u : State) (i : Slot) => ∃ g, u.manifold.holder = some g ∧ u.underGrant g i = false
    let sameAs := fun i j : Slot => (s.cfg j).kind = (s.cfg i).kind ∧ (s.fn j).owner = (s.fn i).owner
    let granted := fun i : Slot => some (⟨(s.fn i).owner, if (s.cfg i).kind = .jack then .jacks else .slides,
      decide ((s.cfg i).kind = .jack ∧ ((s.fn i).owner = .level ∨ (s.fn i).owner = .travel))⟩ : Grant)
    let primes := fun j : Slot => ¬ listed t j ∧ t.fn j = { s.fn j with waitReason := some .prime }
    let goes := fun j : Slot => ¬ listed t j ∧ (t.fn j).activity = .moving ∧ (t.fn j).moveBegan = some s.now
    (onlyMotionChanges s t ∧ t.sequence = s.sequence
      ∧ t.manifold.waitList.Sublist m.waitList ∧ t.claimsHeld ≤ max s.claimsHeld s.budget.effectiveLimit
      ∧ (∀ i, ¬ listed s i → t.fn i = s.fn i)
      ∧ (∀ i, listed t i → t.fn i = { s.fn i with waitReason := (t.fn i).waitReason }
        ∧ ((s.cfg i).kind.isHydraulic = true ∧ (foreign t i ∨ t.manifold.pump = .coolDown) →
          (t.fn i).waitReason = some .manifold)
        ∧ ((s.cfg i).kind.isHydraulic = false ∨ ¬ foreign t i ∧ t.manifold.pump ≠ .coolDown →
          (t.fn i).waitReason = some .budget)))
    ∧ (∀ g i, m.holder = some g → m.pump.isOn = true → listed s i → s.underGrant g i = true →
      if m.pump = .priming then primes i else goes i)
    ∧ (m.pump = .coolDown → ∀ i, listed s i → (s.cfg i).kind.isHydraulic = true → listed t i)
    ∧ (∀ e rest, m.waitList = e :: rest →
      let i := e.slot
      let c := s.cfg i
      let fits := fun n : Nat => s.claimsHeld + n ≤ s.budget.effectiveLimit
      (c.kind.isHydraulic = false → m.holder = none ∨ m.pump.isOn = false → c.draw = 0 ∨ fits c.draw →
        ¬ listed t i ∧ ((t.fn i).activity = .faulted ∧ (t.fn i).fault = some .skew ∧ c.kind = .slideTwin
          ∨ (t.fn i).activity = .moving ∧ (t.fn i).moveBegan = some s.now
            ∧ ⟨.motor i, c.draw⟩ ∈ t.budget.claims))
      ∧ (c.kind.isHydraulic = false → m.holder = none ∨ m.pump.isOn = false → c.draw ≠ 0 → ¬ fits c.draw →
        t.manifold = m ∧ t.budget = s.budget)
      ∧ (c.kind.isHydraulic = true → m.holder = none → m.pump.isOn = true →
        t.manifold.holder = granted i ∧ ∀ j, listed s j → sameAs i j → if m.pump = .priming then primes j else goes j)
      ∧ (c.kind.isHydraulic = true → ¬ foreign s i → m.pump = .holdOn → t.manifold.pump = .ready
        ∧ t.manifold.holdOnTimer = none)
      ∧ (c.kind.isHydraulic = true → ¬ foreign s i → m.pump = .stopped → fits s.settings.manifold.pumpClaim →
        t.manifold.holder = granted i ∧ t.manifold.pump = .priming
        ∧ ⟨.pump, s.settings.manifold.pumpClaim⟩ ∈ t.budget.claims ∧ ∀ j, listed s j → sameAs i j → primes j)
      ∧ (c.kind.isHydraulic = true → ¬ foreign s i → m.pump = .stopped → ¬ fits s.settings.manifold.pumpClaim →
        t.manifold = m ∧ t.budget = s.budget))
    ∧ (let u := startPump s
      onlyMotionChanges s u ∧ u.functions = s.functions
      ∧ u.manifold = { m with
        pump := .priming, primeTimer := some (s.now + s.settings.manifold.primeLimit), restTimer := none }
      ∧ u.budget.claims = s.budget.claims ++ [⟨.pump, s.settings.manifold.pumpClaim⟩]
      ∧ ∀ d, s.settings.manifold.pump = some d → ∃ r, u.orderRecord d.node d.channel = some r
        ∧ r.drive = .pumpRun ∧ r.speed = 100)
    ∧ ∀ i, s.isTaken i = false → (s.fn i).activity = .waiting →
      let u := startMove i s
      let f := s.fn i
      let c := s.cfg i
      onlyMotionChanges s u ∧ (∀ j, j ≠ i → u.fn j = s.fn j)
      ∧ (s.skewTooHard i = true → (u.fn i).activity = .faulted ∧ (u.fn i).fault = some .skew
        ∧ (u.fn i).owner = .none ∧ (u.fn i).lastStop = f.lastStop)
      ∧ (s.skewTooHard i = false → (u.fn i).activity = .moving ∧ (u.fn i).waitReason = none
        ∧ (u.fn i).moveBegan = some s.now ∧ (u.fn i).owner = f.owner ∧ (u.fn i).verb = f.verb
        ∧ (u.fn i).target = f.target ∧ (u.fn i).moveSpeed = f.moveSpeed ∧ (u.fn i).skewHold = none
        ∧ (∀ e, ((u.fn i).chan e).startTime = some s.now ∧ ((u.fn i).chan e).endMark = false
          ∧ ((u.fn i).chan e).arrivalMark = false ∧ ((u.fn i).chan e).stallTimer = none
          ∧ ((u.fn i).chan e).position = ((s.fn i).chan e).position)
        ∧ ∀ (e : Side) (d : DriveRef) (p : Nat) (way : Direction), c.drives.Nodup → c.drive e = some d →
          (f.chan e).position = some p →
          (f.verb = some .extend ∧ way = .extend ∨ f.verb = some .retract ∧ way = .retract
            ∨ f.verb = some .goto ∧ (∃ x, f.target = some x ∧ (p < x ∧ way = .extend ∨ x < p ∧ way = .retract))) →
          ((u.fn i).chan e).direction = some way
          ∧ ∃ r, u.orderRecord d.node d.channel = some r
            ∧ r.drive = (match way with | .extend => .extend | .retract => .retract)
            ∧ r.speed = (let full := f.moveSpeed.getD 0
              let begin_ := if c.kind.isMotor then c.creepSpeed else full
              if inCreepZone c f then min c.creepSpeed begin_ else begin_))

/-! ### Timers -/

/-- Derived (R23, R27, R57 and the other timer rules, log entry 15): a timer that is idle has no expiry, so a command
that is the expiry of an idle timer changes nothing. -/
def Obligations.IdleTimersHaveNoExpiry : Prop :=
  ∀ (c : Instr) (s : State), timerOf s c = some none → s.isReady = true → exec c s = .next s

/-- R18, R23, R27, R30, R57, R63, R79, R92 and R166: the expiries of a part whose M-port is drained. The hold timer's
makes the hold record NONE, and stops a HOLD-mode move of the OPERATOR that is WAITING or MOVING with HOLD_RELEASED.
The wait timer's stops the function with RESOURCE_TIMEOUT, and it leaves the wait list; a sequence that took it aborts
STOPPED. The contact-loss timer's clears the contact flag, and makes a finished jack in GROUND unfinished and asks for
it again. The stale timer's leaves the signal STALE at its value, or under SAFE at its safe value. A silence timer's
leaves its node SILENT, faults every bound slot that is IDLE, WAITING, MOVING or SETTLING NODE_SILENT with its last
stop reason kept, and stops a running pump on the node. Each is the command's next state where nothing follows from
it. The model's choices in it stand in log entries 15 and 37. -/
def Obligations.HoldWaitStaleContactAndSilenceTimersAct : Prop :=
  ∀ s : State, s.isReady = true → s.LinkDrained →
    (∀ i : Slot,
      let released := putHold i { s.hold i with state := .none, verb := none, timer := none } s
      let t := stopFn true i .holdReleased released
      let mine := (s.hold i).state = .active ∧ (s.cfg i).mode = .hold ∧ (s.fn i).owner = .operator
        ∧ ((s.fn i).activity = .waiting ∨ (s.fn i).activity = .moving)
      ((s.hold i).timer.isSome = true → ¬ mine → exec (.holdTimerExpiry i) s = .next released)
      ∧ ((s.hold i).timer.isSome = true → mine → nothingFollows s t = true →
        exec (.holdTimerExpiry i) s = .next t
          ∧ t.fn i = (s.fn i).stopped .holdReleased ∧ (t.hold i).state = .none
          ∧ (∀ j, j ≠ i → t.fn j = s.fn j) ∧ onlyMotionChanges s t))
    ∧ (∀ i : Slot,
      let t := waitExpired i s
      (s.waitTimer i).isSome = true → (s.fn i).activity.isBusy = true →
      (nothingFollows s t = true → exec (.waitTimerExpiry i) s = .next t)
      ∧ t.fn i = (s.fn i).stopped .resourceTimeout ∧ (∀ e ∈ t.manifold.waitList, e.slot ≠ i) ∧ onlyMotionChanges s t
      ∧ (s.isTaken i = false → t.sequence = s.sequence ∧ ∀ j, j ≠ i → t.fn j = s.fn j)
      ∧ (s.isTaken i = true → t.sequence.phase = .idle ∧ t.sequence.result = some (.aborted .stopped)
        ∧ (∀ j, j ≠ i → j ∉ s.sequence.taken → t.fn j = s.fn j)
        ∧ ∀ j ∈ s.sequence.taken, j ≠ i → t.fn j
          = if (s.fn j).activity.isBusy then (s.fn j).stopped .stopped else s.fn j))
    ∧ (∀ i : Slot,
      let t := putFn i { s.fn i with contact := false, contactTimer := none } s
      let regained := s.sequence.phase = .ground ∧ s.isTaken i = true ∧ i ∈ s.sequence.finished
      ((s.fn i).contactTimer.isSome = true → ¬ regained → nothingFollows s t = true →
        exec (.contactLossTimerExpiry i) s = .next t)
      ∧ (regained → contactLost i s = ({ t with
          sequence := { s.sequence with finished := s.sequence.finished.filter (· != i) } }, [.groundRequest i]))
      ∧ (t.fn i).contact = false ∧ (t.fn i).contactTimer = none ∧ (t.fn i).activity = (s.fn i).activity
      ∧ (∀ j, j ≠ i → t.fn j = s.fn j) ∧ onlyMotionChanges s t
      ∧ (s.isJack i = true → (s.fn i).contact = true → t.monitor.levelled = false))
    ∧ (∀ g : Signal,
      let r := s.signal g
      let c := s.settings.signals[signalIndex g]
      let v := match c.policy with
        | .hold => r.value
        | .safe => c.safeValue
      let t := s.setSignal g { r with value := v, fresh := false, timer := none }
      r.timer.isSome = true →
        (v = r.value → exec (.staleTimerExpiry g) s = .next t)
        ∧ (v ≠ r.value → nothingFollows s (handOver g t) = true →
          exec (.staleTimerExpiry g) s = .next (handOver g t)))
    ∧ ∀ n : Nat, 1 ≤ n → n ≤ 24 → (s.node n).silenceTimer.isSome = true →
      let t := silentNode n s
      (nothingFollows s t = true → exec (.silenceTimerExpiry n) s = .next t)
      ∧ (∀ i, n ∈ s.boundNodes i → (s.fn i).activity.canFault = true →
        (t.fn i).activity = .faulted ∧ (t.fn i).fault = some .nodeSilent ∧ (t.fn i).lastStop = (s.fn i).lastStop)
      ∧ (∀ i, (s.fn i).activity.canFault = false → t.fn i = s.fn i)
      ∧ (∀ i, n ∉ s.boundNodes i → s.isTaken i = false → t.fn i = s.fn i)
      ∧ (∀ d, s.settings.manifold.pump = some d → d.node = n → t.manifold.pump.isOn = false)
      ∧ (t.node n).state = .silent ∧ (t.node n).silenceTimer = none
      ∧ (∀ k, 1 ≤ k → k ≤ 24 → k ≠ n → t.node k = s.node k)
      ∧ onlyMotionChanges { s with link := { s.link with nodes := t.link.nodes } } t

/-- R14, R15, R16, R17, R97, R101 to R107, R111 and R112, of a slot no sequence took. The verify at the settle expiry:
an extend end passes; a GOTO within 5 mm or 50 counts of its target; a retract end with every channel in the stow
window; a motor kind's retract end by stall is re-zeroed, passes, and of a twin faults SKEW where its noted positions
lie more than the soft skew apart. A stall timer's expiry outside the window faults OBSTRUCTION, inside it ends the
move of an AWNING. A report of a MOVING motor channel is judged in R106's order: the hard skew; the clearance stop of
an awning; the stall timer and the end flag; the arrival at a target; the soft skew. A twin goes on until its second
end is marked. An awning's report stops its partner slide, WAITING or MOVING, only with the awning above its clearance
position. Here of a state whose M-port is drained. The model's choices in it stand in log entries 15 and 48. -/
def Obligations.SettleAndStallTimersAndMotorReports : Prop :=
  ∀ (s : State) (i : Slot), s.isReady = true → s.LinkDrained → s.isTaken i = false →
    let f := s.fn i
    let c := s.cfg i
    let failed := fun (t : State) (code : FaultCode) => (t.fn i).activity = .faulted ∧ (t.fn i).fault = some code
      ∧ (t.fn i).owner = .none ∧ (t.fn i).lastStop = f.lastStop
    let ended := fun (t : State) (why : StopReason) (e : Ending) (stall : Bool) => (t.fn i).activity = .settling
      ∧ (t.fn i).lastStop = some why ∧ (t.fn i).ending = some e ∧ (t.fn i).byStall = stall
      ∧ (t.fn i).settleTimer = some (s.now + c.settleTime) ∧ (t.fn i).owner = f.owner
    let alone := fun t : State => ∀ j, j ≠ i → t.fn j = s.fn j
    (f.settleTimer.isSome = true → f.activity = .settling →
      let t := verify i s
      let passed := (t.fn i).activity = .idle ∧ (t.fn i).owner = .none ∧ (t.fn i).verb = none
        ∧ (t.fn i).moveSpeed = none ∧ (t.fn i).target = none ∧ (t.fn i).settleTimer = none
        ∧ (t.fn i).lastStop = f.lastStop ∧ (t.fn i).fault = f.fault
      (nothingFollows s t = true → exec (.settleTimerExpiry i) s = .next t) ∧ alone t
      ∧ (f.ending = some .extendEnd → passed ∧ (t.fn i).drift = recordedDrift c f)
      ∧ (f.ending = some .target → allWithin c f (f.target.getD 0) (if c.kind.isMotor then 50 else 5) = true →
        passed)
      ∧ (f.ending = some .target → allWithin c f (f.target.getD 0) (if c.kind.isMotor then 50 else 5) = false →
        failed t .positionMismatch)
      ∧ (f.ending = some .retractEnd → (c.kind.isMotor = false ∨ f.byStall = false) → s.allStowed i = true → passed)
      ∧ (f.ending = some .retractEnd → (c.kind.isMotor = false ∨ f.byStall = false) → s.allStowed i = false →
        failed t .stowFailed)
      ∧ (f.ending ≠ some .retractEnd ∨ f.byStall = false ∨ c.kind.isMotor = false → onlyMotionChanges s t)
      ∧ (∀ ra : Nat, f.ending = some .retractEnd → f.byStall = true → c.kind = .awning → c.sides = [.a] →
        s.lastRaw i .a = some (ra : Int) → passed ∧ t.cfg i = { c with offsetA := ra }
          ∧ (t.fn i).chA.noted = f.chA.position ∧ (t.fn i).chA.position = some 0)
      ∧ (∀ ra rb pa pb : Nat, f.ending = some .retractEnd → f.byStall = true → c.kind = .slideTwin →
        c.sides = [.a, .b] → s.lastRaw i .a = some (ra : Int) → s.lastRaw i .b = some (rb : Int) →
        f.chA.position = some pa → f.chB.position = some pb →
        t.cfg i = { c with offsetA := ra, offsetB := rb }
          ∧ (t.fn i).chA.noted = some pa ∧ (t.fn i).chB.noted = some pb
          ∧ (t.fn i).chA.position = some 0 ∧ (t.fn i).chB.position = some 0
          ∧ (gap pa pb ≤ c.softSkew → passed) ∧ (c.softSkew < gap pa pb → failed t .skew)))
    ∧ (∀ e p d, (f.chan e).stallTimer.isSome = true → (f.chan e).position = some p →
      (f.chan e).direction = some d → f.activity = .moving →
      let t := stallExpired i e s
      (nothingFollows s t = true → exec (.stallTimerExpiry i e) s = .next t) ∧ onlyMotionChanges s t ∧ alone t
      ∧ (inWindow c d p = false → failed t .obstruction)
      ∧ (inWindow c d p = true → c.sides = [.a] → e = .a → ended t .endReached (Ending.ofDirection d) true))
    ∧ (∀ (e : Side) (p current : Nat) (flags : Byte) (d : Direction), c.kind.isMotor = true → e ∈ c.sides →
      c.sides = (if c.kind = .slideTwin then [.a, .b] else [.a]) → f.activity = .moving →
      (f.chan e).position = some p → (f.chan e).direction = some d →
      let t := motorReport i e current flags s
      let skew := skewOf f
      let tooHard := c.kind = .slideTwin ∧ ∃ k, skew = some k ∧ c.hardSkew < k
      let blocked := c.kind = .awning ∧ d = .extend ∧ c.clearance ≤ p
        ∧ ∃ q, c.partner = some q ∧ s.slideAllows q = false
      let held := s.channelHeld i e
      let atEnd := flags.getLsbD 3 = true ∧ held = false
      let high := c.stallCurrent ≤ current ∨ flags.getLsbD 2 = true
      let old := (f.chan e).stallTimer
      let timer : Timer := if old.isSome then if high then old else none
        else if high ∧ held = false ∧ (∀ t0, (f.chan e).startTime = some t0 → t0 + 250 ≤ s.now) then
          some (s.now + c.stallTime) else none
      let there := ∃ x, f.target = some x ∧ gap x p ≤ 20
      let across := match e with
        | .a => Side.b
        | .b => .a
      let marked := fun g : Side => (f.chan g).endMark = true ∨ (f.chan g).arrivalMark = true
      onlyMotionChanges s t ∧ alone t
      ∧ (tooHard → failed t .skew)
      ∧ (blocked → t.fn i = f.stopped .clearance)
      ∧ (¬ tooHard → ¬ blocked → atEnd → inWindow c d p = false → failed t .obstruction)
      ∧ (¬ tooHard → ¬ blocked → atEnd → inWindow c d p = true →
        (c.kind = .awning → ended t .endReached (Ending.ofDirection d) true)
        ∧ (c.kind = .slideTwin → ¬ marked across → (t.fn i).activity = .moving ∧ ((t.fn i).chan e).endMark = true
          ∧ ((t.fn i).chan e).stallTimer = none ∧ (t.fn i).skewHold = none)
        ∧ (c.kind = .slideTwin → marked across → ((f.chan across).endMark = true → (f.chan across).direction = some d) →
          ended t .endReached (Ending.ofDirection d) true))
      ∧ (¬ tooHard → ¬ blocked → ¬ atEnd → c.kind = .awning → f.verb ≠ some .goto →
        t = s.storeFn i (f.setChan e { f.chan e with stallTimer := timer }))
      ∧ (¬ tooHard → ¬ blocked → ¬ atEnd → f.verb = some .goto → there → (f.chan e).arrivalMark = false →
        (c.kind = .awning → f.chA.endMark = false → ended t .targetReached .target false)
        ∧ (c.kind = .slideTwin → ¬ marked .a → ¬ marked .b → (t.fn i).activity = .moving
          ∧ ((t.fn i).chan e).arrivalMark = true ∧ ((t.fn i).chan e).stallTimer = none ∧ (t.fn i).skewHold = none)
        ∧ (c.kind = .slideTwin → (f.chan e).endMark = false → (f.chan across).endMark = false →
          (f.chan across).arrivalMark = true → ended t .targetReached .target false))
      ∧ (¬ tooHard → ¬ atEnd → f.verb = some .goto → ¬ there → f.target.isSome = true → c.kind = .slideTwin →
        (f.chan e).arrivalMark = true → (f.chan e).endMark = false → f.skewHold = none →
        (t.fn i).activity = .moving ∧ ((t.fn i).chan e).arrivalMark = false
        ∧ (∀ k, skew = some k → k ≤ c.softSkew → ((t.fn i).chan e).startTime = some s.now))
      ∧ (∀ k, ¬ tooHard → ¬ atEnd → f.verb ≠ some .goto → c.kind = .slideTwin → skew = some k →
        let leader := leaderOf c f
        let marker := (t.fn i).skewHold
        (t.fn i).activity = .moving
        ∧ (marked .a ∨ marked .b → marker = f.skewHold ∧ ((t.fn i).chan e).stallTimer = timer)
        ∧ (¬ marked .a → ¬ marked .b →
          (f.skewHold = none → k ≤ c.softSkew → marker = none ∧ ((t.fn i).chan e).stallTimer = timer)
          ∧ (f.skewHold = none → c.softSkew < k → marker = some leader ∧ ((t.fn i).chan leader).stallTimer = none)
          ∧ (∀ g, f.skewHold = some g →
            (k ≤ c.softSkew / 2 → marker = none ∧ ((t.fn i).chan g).startTime = some s.now)
            ∧ (c.softSkew / 2 < k → g = leader ∨ k ≤ c.softSkew → marker = some g)
            ∧ (c.softSkew < k → g ≠ leader → marker = some leader ∧ ((t.fn i).chan leader).stallTimer = none
              ∧ ((t.fn i).chan g).startTime = some s.now)))))
    ∧ ∀ (d : DriveRef) (r : ChannelRecord) (raw load : Nat) (q : Slot), s.channelRecord d = some r →
      r.raw = some (raw : Int) → r.load = some (load : Int) → c.kind = .awning → c.sides = [.a] →
      c.drive .a = some d → c.partner = some q → (s.cfg q).kind.isSlide = true →
      let t := (slotReport i d s).1
      let reached := (min (c.stroke : Int) (max 0 (((raw : Int) - c.offsetA) * c.senseA))).toNat
      ((s.fn q).activity = .waiting ∨ (s.fn q).activity = .moving → c.clearance < reached →
        t.fn q = (s.fn q).stopped .clearance)
      ∧ (reached ≤ c.clearance → t.fn q = s.fn q)
      ∧ ((s.fn q).activity ≠ .waiting → (s.fn q).activity ≠ .moving → t.fn q = s.fn q)

/-- R60 to R62, R67, R116 to R120 and R122, of a part whose M-port is drained. The prime expiry faults every function
waiting PRIME and stops the pump, as the hold-on expiry does; a stopped pump gives up its claim and starts the rest
timer, whose expiry makes the run time 0. The duty limit stops what the pump drives, the waiters of a pump in PRIMING
among it, with PUMP_DUTY, releases the grant and starts the cool-down with the PUMP_DUTY alarm; the cool-down's expiry
leaves the pump STOPPED with run time 0 and no alarm, and a service pass follows. The low-supply expiry stops every
MOVING function and every one waiting PRIME LOW_SUPPLY, every sequence and the pump. A changed WIND_SPEED is judged
against the gust threshold. The gust expiry sets the lockout and the WIND alarm and retracts each awning or marks it
owed; the calm expiry clears the lockout, the alarm and every mark. The model's choices in it stand in log entry 15.
-/
def Obligations.PumpSupplyAndWindTimersAct : Prop :=
  ∀ s : State, s.isReady = true → s.LinkDrained →
    (let rest := some (s.now + s.settings.manifold.coolDown * 1000)
    let stopped := fun t : State => t.manifold.pump = .stopped ∧ t.manifold.restTimer = rest
      ∧ t.manifold.primeTimer = none ∧ t.manifold.holdOnTimer = none
      ∧ (∀ c ∈ t.budget.claims, c.claimant ≠ .pump) ∧ t.manifold.runTime = s.manifold.runTime
    (s.manifold.primeTimer.isSome = true → s.manifold.pump.isOn = true →
      let t := primeExpired s
      (nothingFollows s t = true → exec .primeTimerExpiry s = .next t) ∧ stopped t ∧ onlyMotionChanges s t
        ∧ (∀ i, (s.fn i).activity.isBusy = false → t.fn i = s.fn i)
        ∧ (∀ i, (s.fn i).activity = .waiting → (s.fn i).waitReason = some .prime →
          (t.fn i).activity = .faulted ∧ (t.fn i).fault = some .pumpNoPressure
            ∧ (t.fn i).lastStop = (s.fn i).lastStop))
    ∧ (s.manifold.holdOnTimer.isSome = true → s.manifold.pump.isOn = true →
      let t := stopPump true s
      (nothingFollows s t = true → exec .holdOnTimerExpiry s = .next t) ∧ stopped t ∧ t.functions = s.functions
        ∧ onlyMotionChanges s t)
    ∧ (s.manifold.restTimer.isSome = true →
      exec .restTimerExpiry s = .next { s with manifold := { s.manifold with runTime := 0, restTimer := none } })
    ∧ (s.manifold.pump.isOn = true →
      let t := dutyExpired { s with manifold := { s.manifold with
        runTime := s.settings.manifold.dutyLimit * 1000 } }
      (nothingFollows s t = true → exec .pumpDutyLimitReached s = .next t)
        ∧ t.manifold.pump = .coolDown ∧ t.manifold.coolTimer = rest ∧ t.manifold.holder = none
        ∧ t.monitor.alarms.pumpDuty = true ∧ (∀ c ∈ t.budget.claims, c.claimant ≠ .pump)
        ∧ (∀ i, (s.cfg i).kind.isHydraulic = true → (s.fn i).activity = .moving →
          t.fn i = (s.fn i).stopped .pumpDuty)
        ∧ (∀ i, (s.fn i).activity = .waiting → (s.fn i).waitReason = some .prime →
          t.fn i = (s.fn i).stopped .pumpDuty)
        ∧ (∀ i, (s.fn i).activity.isBusy = false → t.fn i = s.fn i) ∧ onlyMotionAndAlarmsChange s t)
    ∧ (s.manifold.coolTimer.isSome = true →
      let t := setAlarm .pumpDuty false { s with manifold := { s.manifold with
        pump := .stopped, runTime := 0, coolTimer := none } }
      (s.manifold.waitList = [] → exec .coolDownTimerExpiry s = .next t)
      ∧ (s.manifold.pump = .coolDown → (react [] t).isNone = true → passSettles t = true →
        exec .coolDownTimerExpiry s = .next (servicePass t))))
    ∧ (s.budget.lowTimer.expiry.isSome = true →
      let t := lowSupplyExpired s
      (nothingFollows s t = true → exec .lowSupplyTimerExpiry s = .next t)
      ∧ t.budget.lowTimer = .expired ∧ t.monitor.alarms.lowSupply = true ∧ t.manifold.pump.isOn = false
      ∧ t.seqRuns = false
      ∧ (∀ i, (s.fn i).activity = .moving ∨ ((s.fn i).activity = .waiting ∧ (s.fn i).waitReason = some .prime) →
        t.fn i = (s.fn i).stopped .lowSupply)
      ∧ (∀ i, (t.fn i).activity ≠ .moving)
      ∧ (∀ i, (s.fn i).activity.isBusy = false → t.fn i = s.fn i)
      ∧ onlyMotionAndAlarmsChange { s with budget := { s.budget with lowTimer := .expired } } t)
    ∧ (∀ (v : Nat) (src : EntryIndex),
      let w := s.settings.wind
      let r := deliver .windSpeed v src s
      let written := s.setSignal .windSpeed
        ⟨v, true, some src, some (s.now + s.settings.signals[signalIndex .windSpeed].staleLimit)⟩
      r.2 = [] ∧ r.1 = { written with wind := r.1.wind }
      ∧ r.1.wind = { s.wind with gustTimer := r.1.wind.gustTimer, calmTimer := r.1.wind.calmTimer }
      ∧ (v = s.value .windSpeed → r.1.wind = s.wind)
      ∧ (v ≠ s.value .windSpeed → w.gustThreshold ≤ v → r.1.wind.calmTimer = none
        ∧ r.1.wind.gustTimer = if s.wind.gustTimer.isSome then s.wind.gustTimer else some (s.now + w.gustTime))
      ∧ (v ≠ s.value .windSpeed → v < w.gustThreshold → r.1.wind.gustTimer = none
        ∧ r.1.wind.calmTimer = if s.wind.calmTimer.isSome then s.wind.calmTimer
          else if s.wind.lockout then some (s.now + w.calmTime * 1000) else none))
    ∧ (s.wind.gustTimer.isSome = true →
      let t := setAlarm .wind true { s with wind := { s.wind with gustTimer := none, lockout := true } }
      gustExpired s = (t, (slots.filter fun i => (s.cfg i).kind == .awning).map .gustRetract)
      ∧ ((∀ i, (s.cfg i).kind = .awning → (s.fn i).posClass = .stowed) → exec .gustTimerExpiry s = .next t))
    ∧ (s.wind.calmTimer.isSome = true →
      exec .calmTimerExpiry s = .next (setAlarm .wind false { s with wind := { s.wind with
        calmTimer := none, lockout := false
        retryUsed := Vector.replicate 16 false, owed := Vector.replicate 16 false } }))
    ∧ ∀ i : Slot,
      let f := s.fn i
      let request : Request := ⟨i, .retract, .wind, none, none, false, false⟩
      let marked : State := { s with wind := { s.wind with owed := s.wind.owed.set i true } }
      (f.posClass = .stowed → gustRetract i s = (s, []))
      ∧ (f.posClass ≠ .stowed → f.activity = .faulted → f.fault ≠ some .obstruction → gustRetract i s = (s, []))
      ∧ (f.posClass ≠ .stowed → f.activity ≠ .faulted → (s.store.doze = true ∨ s.monitor.posture = .fault) →
        gustRetract i s = (marked, []))
      ∧ (f.posClass ≠ .stowed → f.activity ≠ .faulted → s.store.doze = false → s.monitor.posture ≠ .fault →
        (verdict s request = some .notReady ∨ verdict s request = some .storing → gustRetract i s = (marked, []))
        ∧ (verdict s request = some .busy → gustRetract i s = (s, []))
        ∧ (verdict s request = none →
          let t := (gustRetract i s).1
          (gustRetract i s).2 = [.servicePass] ∧ (t.fn i).activity = .waiting ∧ (t.fn i).owner = .wind
            ∧ (t.fn i).verb = some .retract ∧ t.wind.owed[i] = false
            ∧ (∀ j, j ≠ i → s.isTaken i = false → t.fn j = s.fn j) ∧ onlyMotionChanges s t))

/-- R82, R88 and R89: the level settle expiry leaves SETTLE for SAMPLE with the sample timer started, and in another
phase only makes the timer idle; the sample expiry, with the taken jacks at rest, ends the sequence SENSOR_TIMEOUT:
phase IDLE, timers cancelled, lists absent, the sequence grant released and one LEVEL frame. The model's choices in it
stand in log entries 15 and 18. -/
def Obligations.LevellingTimersAdvanceOrEndTheSequence : Prop :=
  ∀ s : State, s.isReady = true →
    (s.sequence.settleTimer.isSome = true → s.sequence.phase = .settle →
      exec .levelSettleTimerExpiry s = .next (levelFrame { s with sequence := { s.sequence with
        phase := .sample, settleTimer := none
        sampleTimer := some (s.now + s.settings.levelling.sampleTimeout) } }))
    ∧ (s.sequence.settleTimer.isSome = true → s.sequence.phase ≠ .settle →
      exec .levelSettleTimerExpiry s = .next { s with sequence := { s.sequence with settleTimer := none } })
    ∧ (s.sequence.sampleTimer.isSome = true → s.sequence.phase = .sample →
      (∀ i ∈ s.sequence.taken, (s.fn i).activity.isBusy = false) →
      (∀ g, s.manifold.holder = some g → g.sequence = true) →
      let t := levelFrame { s with
        sequence := { s.sequence with
          phase := .idle, result := some .sensorTimeout, settleTimer := none, sampleTimer := none, taken := []
          starts := none, finished := [], twistHeld := [], targets := none, stepTargets := none }
        manifold := { s.manifold with holder := none } }
      nothingFollows s t = true → exec .sampleTimerExpiry s = .next t)

/-- R159 and R161: the enrolment timer's expiry at the first ASSIGN ends the census EMPTY with count 0 and the
CENSUS_FAULT alarm; at a later one, or at the probe, COMPLETE with the count of nodes, and the posture and the motion
power enable line follow. The model's choices in it stand in log entry 15. -/
def Obligations.EnrolmentTimerEndsTheCensus : Prop :=
  ∀ s : State, s.isReady = true → s.link.enrolTimer.isSome = true → s.link.outcome = .running →
    (s.link.outstanding = some 1 → ∃ t, exec .enrolmentTimerExpiry s = .next t
      ∧ t.link = { s.link with
          outcome := .empty, count := 0, outstanding := none, enrolTimer := none, offers := [], chainLine := false }
      ∧ t.monitor.alarms.censusFault = true ∧ t.monitor.posture = .fault ∧ t.functions = s.functions
      ∧ t.settings = s.settings ∧ t.monitor.signals = s.monitor.signals)
    ∧ (∀ n, s.link.outstanding = some n → n ≠ 1 → ∃ t, exec .enrolmentTimerExpiry s = .next t
      ∧ t.link.outcome = .complete ∧ t.link.count = (if n = 0 then 24 else n - 1)
      ∧ (t.overrun = false → t.monitor.posture = derivePosture t ∧ t.link.powerLine = powerLineHolds t))

/-- R173, R150 and R191: the refresh expiry restarts its timer, counts the cycle on and offers a BEAT, which waits in
the control slot behind the frame being sent, or is dropped behind a HALT or an enrolment frame; with nothing to
repeat that is all. The status expiry restarts its timer and queues the POSTURE frame and a FUNCTION frame of each
MOVING slot, as PERIODIC. The model's choices in it stand in log entry 15. -/
def Obligations.RefreshAndStatusTimersRepeat : Prop :=
  ∀ s : State, s.isReady = true →
    (s.orders.refreshTimer.isSome = true → (∀ i, (s.fn i).activity ≠ .moving) → s.manifold.pump.isOn = false →
      (∀ r ∈ s.orders.records, r.refresh = false ∧ r.due = false) → s.path.mTransmit.isSome = true →
      let cycle := (s.orders.cycle + 1) % 256
      let period := s.settings.timing.refreshPeriod
      exec .refreshTimerExpiry s = .next { s with
        orders := { s.orders with refreshTimer := some (s.now + period), period := period, cycle := cycle }
        path := { s.path with control := match s.path.control with
          | some .halt => some .halt
          | some (.enrol f) => some (.enrol f)
          | _ => some (.beat cycle period) } })
    ∧ (s.statusTimer.isSome = true →
      let t : State := { s with statusTimer := some (s.now + s.settings.timing.statusPeriod) }
      exec .statusTimerExpiry s = .next
        ((slots.filter fun i => (s.fn i).activity == .moving).foldl
          (fun u i => queueStatus 1 .periodic (.function i) (functionBytes (s.cfg i) (s.fn i) i) u)
          (queueStatus 0 .periodic .posture (postureBytes s) t)))

/-- R196 and R168: at the doze timer's expiry the part enters DOZE: the refresh, status and silence timers are
cancelled and the motion power enable line drops. A frame for the management decoder wakes it: DOZE clears, both
timers start, and a census starts. The model's choices in it stand in log entry 15. -/
def Obligations.DozeQuietensAndWakeStartsACensus : Prop :=
  ∀ s : State, s.isReady = true →
    (s.store.dozeTimer.isSome = true → s.link.outcome ≠ .running →
      exec .dozeTimerExpiry s = .next { s with
        store := { s.store with doze := true, dozeTimer := none }
        orders := { s.orders with refreshTimer := none }
        statusTimer := none
        link := { s.link with
          nodes := s.link.nodes.map fun x => { x with silenceTimer := none }, powerLine := false } })
    ∧ (s.store.doze = true →
      let t := touchDoze s
      t.store.doze = false ∧ t.orders.refreshTimer = some (s.now + s.settings.timing.refreshPeriod)
        ∧ t.orders.period = s.settings.timing.refreshPeriod
        ∧ t.statusTimer = some (s.now + s.settings.timing.statusPeriod) ∧ t.link.outcome = .running
        ∧ (∀ i, (t.fn i).activity = .unavailable) ∧ t.link.powerLine = false ∧ t.monitor.posture = .fault)

/-- R193: the store completes: the image is the one built at the STORE's taking, the store in progress ends, and DONE
is queued with the STORE's tag; no owed retract is to be served here. The model's choices in it stand in log entries
15, 26 and 33. -/
def Obligations.StoreCompletionWritesTheImage : Prop :=
  ∀ (s : State) (w : Storing), s.isReady = true → s.store.storing = some w → (∀ i : Slot, s.wind.owed[i] = false) →
    exec .storeCompletion s = .next (queueReply 0x44 w.tag .done [] { s with
      store := { s.store with storing := none, image := w.image } })

/-! ### Management commands on the match table -/

/-- R135, R136 and R124: WRITE_ENTRY replaces an entry whole and APPEND_ENTRY writes the lowest EMPTY one; both set
its counts to 0 and compute the next-free index again, and nothing else changes but for the reply. APPEND_ENTRY of an
entry of state EMPTY is refused RANGE, and with no EMPTY entry left, the next-free index 128, it is refused FULL;
nothing is written. -/
def Obligations.WriteAndAppendEntryReplaceAnEntry : Prop :=
  ∀ (s : State) (tag : Byte) (block : EntryBlock) (e : EntryConfig) (clamped : Bool) (i : EntryIndex),
    s.takesCommands = true → entryOfBlock block = some (e, clamped) →
    let outcome : ReplyOutcome := if clamped then .doneClamped else .done
    let es := s.settings.entries.set i e
    let t : State := { s.renewed with
      settings := { s.settings with entries := es }
      matching := { s.matching with
        hits := s.matching.hits.set i 0
        clamps := s.matching.clamps.set i 0
        nextFree := lowestEmpty es } }
    exec (.writeEntry tag (BitVec.ofNat 8 i.val) block) s = .next (queueReply 0x10 tag outcome [] t)
      ∧ (s.matching.nextFree = i.val → e.state ≠ .empty →
          exec (.appendEntry tag block) s = .next (queueReply 0x11 tag outcome [BitVec.ofNat 8 i.val] t))
      ∧ (s.matching.nextFree = i.val → e.state = .empty →
          exec (.appendEntry tag block) s = .next (queueReply 0x11 tag .range [] s.renewed))
      ∧ (s.matching.nextFree = 128 → ∀ b : EntryBlock,
          exec (.appendEntry tag b) s = .next (queueReply 0x11 tag .full [] s.renewed))

/-- R137 and R138: SET_ENTRY_STATE in its entry form writes the state of one entry alone and computes the next-free
index again, which its reply carries; in its port form it writes the default action of one port. An index above 127 or
a value that names none is refused RANGE and changes nothing. -/
def Obligations.SetEntryStateWritesStateOrDefault : Prop :=
  ∀ (s : State) (tag : Byte), s.takesCommands = true →
    (∀ (i : EntryIndex) (st : EntryState),
      let es := s.settings.entries.set i { s.settings.entries[i] with state := st }
      exec (.setEntryStateEntry tag (BitVec.ofNat 8 i.val) (BitVec.ofNat 8 st.code)) s
        = .next (queueReply 0x12 tag .done [0, BitVec.ofNat 8 (lowestEmpty es)] { s.renewed with
            settings := { s.settings with entries := es }
            matching := { s.matching with nextFree := lowestEmpty es } }))
    ∧ exec (.setEntryStatePort tag 0 0) s = .next (queueReply 0x12 tag .done [] { s.renewed with
        settings := { s.settings with coachDefault := .forward } })
    ∧ exec (.setEntryStatePort tag 0 1) s = .next (queueReply 0x12 tag .done [] { s.renewed with
        settings := { s.settings with coachDefault := .drop } })
    ∧ exec (.setEntryStatePort tag 1 0) s = .next (queueReply 0x12 tag .done [] { s.renewed with
        settings := { s.settings with motionDefault := .forward } })
    ∧ exec (.setEntryStatePort tag 1 1) s = .next (queueReply 0x12 tag .done [] { s.renewed with
        settings := { s.settings with motionDefault := .drop } })
    ∧ (∀ index st : Byte, 127 < index.toNat ∨ 2 < st.toNat →
        exec (.setEntryStateEntry tag index st) s = .next (queueReply 0x12 tag .range [] s.renewed))
    ∧ (∀ port action : Byte, 1 < port.toNat ∨ 1 < action.toNat →
        exec (.setEntryStatePort tag port action) s = .next (queueReply 0x12 tag .range [] s.renewed))

/-- R139: MARK writes the state of every entry that is not EMPTY and agrees with the form, the key under the named
mask and the port, and answers how many states changed with the next-free index; a mask, state, port or form that is
not one of its values is refused RANGE. -/
def Obligations.MarkWritesTheStatesOfMatchingKeys : Prop :=
  ∀ (s : State) (tag : Byte) (ident : Word32) (b0 b1 : Byte), s.takesCommands = true →
    (∀ (form : Form) (mask : Fin 8) (port : EntryPort) (st : EntryState), ident.toNat < 536870912 →
    let m := s.settings.masks[mask]
    let care := if form = .standard then m.ident &&& 0x7FF else m.ident
    let marked := fun e : EntryConfig =>
      decide (e.state ≠ .empty ∧ e.form = form ∧ (e.ident ^^^ ident.setWidth 29) &&& care = 0
        ∧ (e.byte0 ^^^ b0) &&& m.byte0 = 0 ∧ (e.byte1 ^^^ b1) &&& m.byte1 = 0
        ∧ (port = .either ∨ e.port = .either ∨ e.port = port))
    let es := s.settings.entries.map fun e => if marked e then { e with state := st } else e
    let changed := s.settings.entries.toList.countP fun e => marked e && e.state != st
    exec (.mark tag (BitVec.ofNat 8 (formCode form)) ident b0 b1 (BitVec.ofNat 8 mask.val)
        (BitVec.ofNat 8 port.code) (BitVec.ofNat 8 st.code)) s
      = .next (queueReply 0x13 tag .done [BitVec.ofNat 8 changed, BitVec.ofNat 8 (lowestEmpty es)] { s.renewed with
          settings := { s.settings with entries := es }
          matching := { s.matching with nextFree := lowestEmpty es } }))
    ∧ (∀ form mask port st : Byte, 1 < form.toNat ∨ 7 < mask.toNat ∨ 2 < port.toNat ∨ 2 < st.toNat →
      exec (.mark tag form ident b0 b1 mask port st) s = .next (queueReply 0x13 tag .range [] s.renewed))

/-- R140: PROBE answers the lowest index and the number of the entries that match the probe, and changes nothing but
for the reply; a byte that the length leaves out is taken as 0 (R126). A port of EITHER, a length above 8, a STANDARD
identifier above 2047 and a form that is none are refused RANGE. -/
def Obligations.ProbeOnlyReadsTheTable : Prop :=
  ∀ (s : State) (tag : Byte) (ident : Word32) (b0 b1 : Byte), s.takesCommands = true →
    (∀ (form : Form) (n : Nat) (port : Port), n ≤ 8 → ident.toNat < 536870912 → (form = .standard → ident.toNat ≤ 2047) →
    let v0 := if n = 0 then 0 else b0
    let v1 := if n ≤ 1 then 0 else b1
    let hit := fun e => entryMatches s.settings.masks e port form (ident.setWidth 29) n v0 v1
    exec (.probe tag (BitVec.ofNat 8 (formCode form)) ident b0 b1 (BitVec.ofNat 8 n)
        (if port = .coach then 0 else 1)) s
      = .next (queueReply 0x14 tag .done
          [BitVec.ofNat 8 ((s.settings.entries.toList.findIdx? hit).getD 255),
            BitVec.ofNat 8 (s.settings.entries.toList.countP hit)] s.renewed))
    ∧ (∀ form length port : Byte,
      1 < form.toNat ∨ 8 < length.toNat ∨ 1 < port.toNat ∨ (form = 0 ∧ 2047 < ident.toNat) →
      exec (.probe tag form ident b0 b1 length port) s = .next (queueReply 0x14 tag .range [] s.renewed))

/-- R141 and R142: CLEAR_HITS sets the counts of a range of entries to 0, and the engine counts where the flag is set;
WRITE_MASK replaces one of the mask records 1 to 7. A first index above the last, an index above 127, and a mask index
of 0 or above 7 are refused RANGE, and nothing changes. The model's choices in it stand in log entry 24. -/
def Obligations.ClearHitsAndWriteMaskWriteTheirRecords : Prop :=
  ∀ (s : State) (tag : Byte), s.takesCommands = true →
    (∀ (first last : Nat) (engine : Bool), first ≤ last → last ≤ 127 →
      let clear := fun v : Vector Nat 128 => Vector.ofFn fun i => if first ≤ i.val ∧ i.val ≤ last then 0 else v[i]
      let keep := fun n : Nat => if engine then 0 else n
      exec (.clearHits tag (BitVec.ofNat 8 first) (BitVec.ofNat 8 last) (if engine then 1 else 0)) s
        = .next (queueReply 0x15 tag .done [] { s.renewed with
            matching := { s.matching with
              hits := clear s.matching.hits
              clamps := clear s.matching.clamps
              malformed := keep s.matching.malformed
              linkProtect := keep s.matching.linkProtect
              forwardOverflow := keep s.matching.forwardOverflow } }))
    ∧ (∀ (k : Fin 8) (ident : Word32) (b0 b1 : Byte), k ≠ 0 →
      exec (.writeMask tag (BitVec.ofNat 8 k.val) ident b0 b1) s
        = .next (queueReply 0x16 tag .done [] { s.renewed with
            settings := { s.settings with masks := s.settings.masks.set k ⟨ident.setWidth 29, b0, b1⟩ } }))
    ∧ (∀ first last engine : Byte, last.toNat < first.toNat ∨ 127 < first.toNat ∨ 127 < last.toNat →
      exec (.clearHits tag first last engine) s = .next (queueReply 0x15 tag .range [] s.renewed))
    ∧ (∀ (index : Byte) (ident : Word32) (b0 b1 : Byte), index.toNat = 0 ∨ 7 < index.toNat →
      exec (.writeMask tag index ident b0 b1) s = .next (queueReply 0x16 tag .range [] s.renewed))

/-! ### Management commands on the permission matrix -/

/-- R44: while a swap is pending SET_WINDOW is refused SWAP_PENDING; else a row above 6, a column above 15 and a first
above its last are refused RANGE; else the window takes the five values and the cursor its first cell. A refused one
changes neither. -/
def Obligations.SetWindowWritesWindowAndCursor : Prop :=
  ∀ (s : State) (tag : Byte), s.takesCommands = true →
    (s.monitor.swapPending = true → ∀ r0 r1 c0 c1 order : Byte,
      exec (.setWindow tag r0 r1 c0 c1 order) s = .next (queueReply 0x20 tag .swapPending [] s.renewed))
    ∧ (s.monitor.swapPending = false → ∀ r0 r1 c0 c1 order : Byte,
      6 < r0.toNat ∨ 6 < r1.toNat ∨ 15 < c0.toNat ∨ 15 < c1.toNat ∨ r1.toNat < r0.toNat ∨ c1.toNat < c0.toNat →
      exec (.setWindow tag r0 r1 c0 c1 order) s = .next (queueReply 0x20 tag .range [] s.renewed))
    ∧ (s.monitor.swapPending = false →
      ∀ (r0 r1 : Fin 7) (c0 c1 : Fin 16) (order : WindowOrder), r0 ≤ r1 → c0 ≤ c1 →
      exec (.setWindow tag (BitVec.ofNat 8 r0.val) (BitVec.ofNat 8 r1.val) (BitVec.ofNat 8 c0.val)
          (BitVec.ofNat 8 c1.val) (BitVec.ofNat 8 order.code)) s
        = .next (queueReply 0x20 tag .done [] { s.renewed with
          monitor := { s.monitor with window := ⟨r0, r1, c0, c1, order⟩, cursor := ⟨r0, c0⟩ } }))

/-- R45 and R46: WRITE_CELLS writes its cells one after another at the cursor into the standby bank and answers their
count with the cursor after the last, clamped where a value was above 7; while a swap is pending it is refused
SWAP_PENDING and writes none. One cell write changes the standby bank at the cursor alone, to the value or to 7, and
moves the cursor to the next cell of the window; the active bank is untouched. -/
def Obligations.WriteCellsWritesTheStandbyBank : Prop :=
  (∀ (s : State) (tag : Byte) (cells : List Byte), s.takesCommands = true → cells.length ≤ 200 →
    let t := cells.foldl (fun u v => writeCell v u) s.renewed
    (s.monitor.swapPending = true →
      exec (.writeCells tag cells) s = .next (queueReply 0x21 tag .swapPending [] s.renewed))
    ∧ (s.monitor.swapPending = false → exec (.writeCells tag cells) s
        = .next (queueReply 0x21 tag (if cells.any (fun v => decide (7 < v.toNat)) then .doneClamped else .done)
            [BitVec.ofNat 8 cells.length, BitVec.ofNat 8 t.monitor.cursor.row.val,
              BitVec.ofNat 8 t.monitor.cursor.column.val] t)))
  ∧ ∀ (s : State) (v : Byte),
    let c := s.monitor.cursor
    let w := s.monitor.window
    let t := writeCell v s
    (t.standby[c.row])[c.column] = (if v.toNat ≤ 7 then BitVec.ofNat 3 v.toNat else 7)
      ∧ (∀ (r : Fin 7) (k : Fin 16), (r, k) ≠ (c.row, c.column) → (t.standby[r])[k] = (s.standby[r])[k])
      ∧ t.settings.bank t.settings.activeBank = s.settings.bank s.settings.activeBank
      ∧ t.settings.activeBank = s.settings.activeBank
      ∧ t.monitor = { s.monitor with cursor := w.next c }
      ∧ (w.order = .rowWise → c.column < w.lastColumn → w.next c = ⟨c.row, c.column + 1⟩)
      ∧ (w.order = .rowWise → c.column = w.lastColumn → c.row < w.lastRow → w.next c = ⟨c.row + 1, w.firstColumn⟩)
      ∧ (w.order = .columnWise → c.row < w.lastRow → w.next c = ⟨c.row + 1, c.column⟩)
      ∧ (w.order = .columnWise → c.row = w.lastRow → c.column < w.lastColumn →
          w.next c = ⟨w.firstRow, c.column + 1⟩)
      ∧ (c.row = w.lastRow → c.column = w.lastColumn → w.next c = ⟨w.firstRow, w.firstColumn⟩)
      ∧ t = { s with settings := t.settings, monitor := t.monitor }
      ∧ t.settings = { s.settings with bankA := t.settings.bankA, bankB := t.settings.bankB }

/-- R48 and R50: SWAP_MATRIX with the standby bank's CRC exchanges the banks at once while nothing is busy and no
sequence runs, is pending while something is, answers CRC_MISMATCH with the CRC computed for another CRC, and
SWAP_PENDING while a swap is pending. -/
def Obligations.SwapMatrixComparesTheStandbyCrc : Prop :=
  ∀ (s : State) (tag : Byte) (crc : Word16), s.takesCommands = true →
    (s.monitor.swapPending = true →
      exec (.swapMatrix tag crc) s = .next (queueReply 0x22 tag .swapPending [] s.renewed))
    ∧ (s.monitor.swapPending = false →
    let computed := crc16 (bankBytes s.standby)
    (crc ≠ computed →
      exec (.swapMatrix tag crc) s
        = .next (queueReply 0x22 tag .crcMismatch [computed.extractLsb' 8 8, computed.extractLsb' 0 8] s.renewed))
    ∧ (crc = computed → s.anyBusy = true →
      exec (.swapMatrix tag crc) s
        = .next (queueReply 0x22 tag .pending [] (postureFrame .change { s.renewed with
            monitor := { s.monitor with swapPending := true } })))
    ∧ (crc = computed → s.anyBusy = false → s.seqRuns = false →
      exec (.swapMatrix tag crc) s
        = .next (queueReply 0x22 tag .done [] (postureFrame .change { s.renewed with
            settings := { s.settings with activeBank := s.settings.activeBank.other }
            monitor := { s.monitor with swapPending := false } }))))

/-! ### Field-wise configuration commands -/

/-- R8, R68, R70, R182 and R184: SET_SUPPLY, SET_SIGNAL, SET_TIMING, SET_MANIFOLD and SET_LEVELLING write the
configuration that their fields give, applied in the order received, and answer DONE, or DONE_CLAMPED where a value
was clamped or settled, with the count of fields. Where the written values set nothing else off (the effective limit
is computed with no function waiting, the signal is fresh, the gust threshold stays) nothing else changes.
SET_MANIFOLD is refused BUSY while the pump is not STOPPED, or with a new pump reference a hydraulic function is
WAITING or SETTLING; SET_LEVELLING while a sequence runs, or with a new sensor node a JACK is busy. A new pump
reference makes every hydraulic slot, and a new sensor node every JACK slot, UNAVAILABLE with its start values and
checks its binding again. The model's choices in it stand in log entries 8, 36 and 44. -/
def Obligations.FieldWiseCommandsWriteTheirOwner : Prop :=
  ∀ (s : State) (tag : Byte) (fs : List FieldWrite), s.takesCommands = true → fs.length ≤ 66 →
    let c := s.settings
    let count := BitVec.ofNat 8 fs.length
    let outcome := fun clamped : Bool => if clamped then ReplyOutcome.doneClamped else ReplyOutcome.done
    (let p := applyAll putSupplyField fs c.supply
      let x := settleSupply s.claimsHeld p.1
      fs.all supplyFieldNamed = true → s.manifold.waitList = [] →
      exec (.setSupply tag fs) s = .next (queueReply 0x34 tag (outcome (p.2 || x != p.1)) [count]
        (supplyChanged { s.renewed with settings := { c with supply := x } })))
    ∧ (∀ g : Signal, let p := applyAll (putSignalField g) fs c.signals[signalIndex g]
      fs.all signalFieldNamed = true → writes fs 4 = false → (s.signal g).fresh = true →
      exec (.setSignal tag (BitVec.ofNat 8 (signalIndex g).val) fs) s = .next (queueReply 0x35 tag (outcome p.2) [count]
        { s.renewed with settings := { c with signals := c.signals.set (signalIndex g) p.1 } }))
    ∧ (let p := applyAll putTimingField fs (c.timing, c.wind)
      fs.all timingFieldNamed = true → p.1.2.gustThreshold = c.wind.gustThreshold →
      exec (.setTiming tag fs) s = .next (queueReply 0x36 tag (outcome p.2) [count]
        { s.renewed with settings := { c with timing := p.1.1, wind := p.1.2 } }))
    ∧ (let p := applyAll putManifoldField fs c.manifold
      fs.all manifoldFieldNamed = true → s.manifold.pump = .stopped → p.1.pump = c.manifold.pump →
      exec (.setManifold tag fs) s = .next (queueReply 0x33 tag (outcome p.2) [count]
        { s.renewed with
          settings := { c with manifold := p.1 }
          manifold := { s.manifold with runTime := min s.manifold.runTime (p.1.dutyLimit * 1000) } }))
    ∧ (let p := applyAll putLevellingField fs c.levelling
      fs.all levellingFieldNamed = true → s.seqRuns = false → p.1.sensorNode = c.levelling.sensorNode →
      exec (.setLevelling tag fs) s = .next (queueReply 0x32 tag (outcome p.2) [count]
        { s.renewed with settings := { c with levelling := p.1 } }))
    ∧ (let p := applyAll putManifoldField fs c.manifold
      let r := applyManifold fs s.renewed
      let t := queueReply 0x33 tag (outcome p.2) [count] r.1
      fs.all manifoldFieldNamed = true →
      (s.manifold.pump ≠ .stopped ∨ p.1.pump ≠ c.manifold.pump ∧ (∃ i, (s.cfg i).kind.isHydraulic = true
          ∧ ((s.fn i).activity = .waiting ∨ (s.fn i).activity = .settling)) →
        exec (.setManifold tag fs) s = .next (queueReply 0x33 tag .busy [] s.renewed))
      ∧ (s.manifold.pump = .stopped → p.1.pump ≠ c.manifold.pump → (∀ i, (s.cfg i).kind.isHydraulic = true →
          (s.fn i).activity ≠ .waiting ∧ (s.fn i).activity ≠ .settling) →
        (nothingFollows s.renewed t = true → exec (.setManifold tag fs) s = .next t)
        ∧ r.1.settings = { c with manifold := p.1 }
        ∧ (∀ i, (s.cfg i).kind.isHydraulic = true → unboundAgain r.1 i)
        ∧ (∀ i, (s.cfg i).kind.isHydraulic = false → (∀ k, s.isTaken k = true → s.isJack k = true) →
          r.1.fn i = s.fn i)))
    ∧ (let p := applyAll putLevellingField fs c.levelling
      let r := applyLevelling fs s.renewed
      let t := queueReply 0x32 tag (outcome p.2) [count] r.1
      fs.all levellingFieldNamed = true →
      (s.seqRuns = true ∨ p.1.sensorNode ≠ c.levelling.sensorNode ∧ (∃ i, s.isJack i = true
          ∧ (s.fn i).activity.isBusy = true) →
        exec (.setLevelling tag fs) s = .next (queueReply 0x32 tag .busy [] s.renewed))
      ∧ (s.seqRuns = false → p.1.sensorNode ≠ c.levelling.sensorNode →
        (∀ i, s.isJack i = true → (s.fn i).activity.isBusy = false) →
        (nothingFollows s.renewed t = true → exec (.setLevelling tag fs) s = .next t)
        ∧ r.1.settings = { c with levelling := p.1 }
        ∧ (∀ i, s.isJack i = true → unboundAgain r.1 i)
        ∧ (∀ i, s.isJack i = false → r.1.fn i = s.fn i)))

/-- R2, R3, R5, R8, R71 and R184: SET_FUNCTION is refused BUSY while its slot is WAITING, MOVING or SETTLING, and
SET_GEOMETRY while a sequence runs too. SET_FUNCTION writes the settled configuration of its slot; a motor channel
whose offset or sense is written takes its position from its last raw count. A slot that keeps its kind and channels
has its positions and class computed again; one whose kind or channels change becomes UNAVAILABLE at its start values
and its binding is checked. A partner written that fits is written on both sides and the old relations of both end;
another is stored absent, noted as clamped but for 255. SET_GEOMETRY writes x and y, and the pair partner likewise.
The model's choices in it stand in log entries 17, 36 and 38. -/
def Obligations.SetFunctionAndSetGeometryWriteTheirSlot : Prop :=
  ∀ (s : State) (tag : Byte) (i : Slot) (fs : List FieldWrite), s.takesCommands = true → fs.length ≤ 66 →
    let count := BitVec.ofNat 8 fs.length
    let outcome := fun clamped : Bool => if clamped then ReplyOutcome.doneClamped else ReplyOutcome.done
    (fs.all functionFieldNamed = true → (s.fn i).activity.isBusy = true →
      exec (.setFunction tag (BitVec.ofNat 8 i.val) fs) s = .next (queueReply 0x30 tag .busy [] s.renewed))
    ∧ (fs.all geometryFieldNamed = true → (s.fn i).activity.isBusy = true ∨ s.seqRuns = true →
      exec (.setGeometry tag (BitVec.ofNat 8 i.val) fs) s = .next (queueReply 0x31 tag .busy [] s.renewed))
    ∧ (let c := functionAfter fs (s.cfg i)
      let r := applyFunction i fs s.renewed
      let t := queueReply 0x30 tag (outcome r.2.1) [count] r.1
      let u := (becomeIdle i t).1
      fs.all functionFieldNamed = true → (s.fn i).activity.isBusy = false →
      (((s.fn i).activity ≠ .unavailable ∧ c.1.kind = (s.cfg i).kind ∧ c.1.drives = (s.cfg i).drives
          ∨ r.1.allPositions i = false) → nothingFollows s.renewed t = true →
        exec (.setFunction tag (BitVec.ofNat 8 i.val) fs) s = .next t)
      ∧ ((s.fn i).activity = .unavailable ∨ c.1.kind ≠ (s.cfg i).kind ∨ c.1.drives ≠ (s.cfg i).drives →
        nothingFollows s.renewed t = true → nothingFollows t u = true →
        s.wind.owed[i] = false → exec (.setFunction tag (BitVec.ofNat 8 i.val) fs) s = .next u)
      ∧ r.1.cfg i = { c.1 with partner := (r.1.cfg i).partner }
      ∧ (∀ j, j ≠ i → r.1.cfg j = { s.cfg j with partner := (r.1.cfg j).partner })
      ∧ (c.1.kind = (s.cfg i).kind → c.1.drives = (s.cfg i).drives →
        r.1.fn i = (placeAgain i fs (s.renewed.setCfg i c.1)).fn i)
      ∧ (c.1.kind ≠ (s.cfg i).kind ∨ c.1.drives ≠ (s.cfg i).drives → (r.1.fn i).activity = .unavailable
        ∧ (r.1.fn i).drift = none ∧ (r.1.fn i).contact = false ∧ (r.1.fn i).skewHold = none
        ∧ (r.1.fn i).fault = (if s.link.outcome = .complete ∧ c.1.kind ≠ .unused ∧ bindingHolds r.1 i = false
          then some .configMismatch else none)
        ∧ (∀ e, (c.1.kind.isMotor = false ∨ r.1.lastRaw i e = none ∨ (e = .a ∧ writes fs 9 = false
            ∧ writes fs 10 = false) ∨ (e = .b ∧ writes fs 11 = false ∧ writes fs 12 = false)) →
          ((r.1.fn i).chan e).position = none))
      ∧ (∀ e raw, c.1.kind.isMotor = true → r.1.lastRaw i e = some raw →
        (e = .a ∧ (writes fs 9 = true ∨ writes fs 10 = true) ∨ e = .b ∧ (writes fs 11 = true ∨ writes fs 12 = true)) →
        ((r.1.fn i).chan e).position = some (positionOf (r.1.cfg i) e raw))
      ∧ (∀ w, lastWrite fs 25 = some w →
        (∀ p : Slot, w.nat = p.val → p ≠ i → partnersFit c.1.kind (s.cfg p).kind = true →
          (r.1.cfg i).partner = some p ∧ (r.1.cfg p).partner = some i
          ∧ ∀ k, k ≠ i → k ≠ p → (r.1.cfg k).partner
            = if (s.cfg k).partner = some i ∨ (s.cfg k).partner = some p then none else (s.cfg k).partner)
        ∧ (15 < w.nat → (r.1.cfg i).partner = none ∧ (w.nat ≠ 255 → r.2.1 = true)
          ∧ ∀ k, k ≠ i → (r.1.cfg k).partner
            = if (s.cfg k).partner = some i then none else (s.cfg k).partner)
        ∧ (∀ p : Slot, w.nat = p.val → p = i ∨ partnersFit c.1.kind (s.cfg p).kind = false →
          (r.1.cfg i).partner = none ∧ r.2.1 = true)))
    ∧ (let r := applyGeometry i fs s.renewed
      (∀ w, lastWrite fs 3 = some w →
        (∀ p : Slot, w.nat = p.val → p ≠ i → s.isJack i = true → s.isJack p = true →
          r.1.settings.geometry[i].partner = some p ∧ r.1.settings.geometry[p].partner = some i)
        ∧ (15 < w.nat → r.1.settings.geometry[i].partner = none ∧ (w.nat ≠ 255 → r.2.1 = true))
        ∧ (∀ p : Slot, w.nat = p.val → p = i ∨ s.isJack i = false ∨ s.isJack p = false →
          r.1.settings.geometry[i].partner = none ∧ r.2.1 = true))
      ∧ (fs.all geometryFieldNamed = true → (s.fn i).activity.isBusy = false → s.seqRuns = false →
        exec (.setGeometry tag (BitVec.ofNat 8 i.val) fs) s
          = .next (queueReply 0x31 tag (outcome r.2.1) [count] r.1) ∧ r.1 = { s.renewed with settings := r.1.settings }
        ∧ r.1.settings = { s.settings with geometry := r.1.settings.geometry }))
    ∧ (let g := applyAll putGeometryField fs s.settings.geometry[i]
      fs.all geometryFieldNamed = true → writes fs 3 = false → (s.fn i).activity.isBusy = false → s.seqRuns = false →
      exec (.setGeometry tag (BitVec.ofNat 8 i.val) fs) s = .next (queueReply 0x31 tag (outcome g.2) [count]
        { s.renewed with settings := { s.settings with geometry := s.settings.geometry.set i g.1 } }))

/-- R65 and R68: the fields of SET_SUPPLY are settled: the supply limit is not below the claims held, and the cut
threshold lies below the low threshold, by 10 where it was set. The effective limit is the supply limit at or above
the low threshold, 0 at or below the cut threshold, and between them the floored share. The model's choices in it
stand in log entry 44. -/
def Obligations.SetSupplySettlesItsThresholds : Prop :=
  ∀ (held : Nat) (c : SupplyConfig),
    let x := settleSupply held c
    x.supplyLimit = max c.supplyLimit held ∧ x.vCut < x.vLow ∧ x.lowDuration = c.lowDuration
      ∧ (c.vCut < c.vLow → x.vCut = c.vCut ∧ x.vLow = c.vLow)
      ∧ (c.vLow ≤ c.vCut → 810 ≤ c.vLow → x.vCut = c.vLow - 10 ∧ x.vLow = c.vLow)
      ∧ (c.vLow ≤ c.vCut → c.vLow < 810 → x.vCut = 800 ∧ x.vLow = 810)
      ∧ ∀ v : Nat, (c.vLow ≤ v → c.vCut < c.vLow → limitAt c v = c.supplyLimit)
        ∧ (v ≤ c.vCut → c.vCut < c.vLow → limitAt c v = 0)
        ∧ (c.vCut < v → v < c.vLow → limitAt c v = c.supplyLimit * (v - c.vCut) / (c.vLow - c.vCut))

/-! ### Operational management commands -/

/-- R155 to R157, R182, R185, R186 and R198. READ queues the record's data frames in order, six bytes each with their
index, the last one with what is left, then the reply DONE with their number, and changes nothing else; a kind or
index that names no record is refused RANGE. CENSUS is refused BUSY while a function is WAITING, MOVING or SETTLING;
of a part at rest it abandons the census in progress, starts another and answers DONE. A census start makes every slot
UNAVAILABLE with its positions absent, every hold record NONE and every node ABSENT, and the outcome RUNNING with
count and strays 0. A field-wise assembly that a CONTINUE of another index or a new command ends has its completed
fields judged and applied as a whole command's are: its reply is LENGTH or INCOMPLETE with their count, a refusal's
own outcome with count 0, or, without its selector, count 0. The new command then runs on the state so left. The
model's choices in it stand in log entries 14, 21 and 53. -/
def Obligations.ReadCensusAndBrokenFieldsAreAnswered : Prop :=
  (∀ (s : State) (tag kind index : Byte), s.takesCommands = true →
    (∀ bs, recordOf s.renewed kind.toNat index.toNat = some bs →
      let frames := dataFrames bs
      exec (.read tag kind index) s = .next (queueReply 0x40 tag .done [BitVec.ofNat 8 frames.length]
        (frames.zipIdx.foldl (fun u p => queueData p.2 p.1 u) s.renewed))
      ∧ frames.flatten = bs ∧ (∀ f ∈ frames.dropLast, f.length = 6) ∧ ∀ f ∈ frames, 0 < f.length ∧ f.length ≤ 6)
    ∧ (recordOf s.renewed kind.toNat index.toNat = none →
      exec (.read tag kind index) s = .next (queueReply 0x40 tag .range [] s.renewed)))
  ∧ (∀ (s : State) (tag : Byte), s.takesCommands = true → s.LinkDrained → s.EnrolWhileRunning →
    (s.anyBusy = true → exec (.census tag) s = .next (queueReply 0x41 tag .busy [] s.renewed))
    ∧ (s.isAtRest = true → s.monitor.posture ≠ .travel →
      exec (.census tag) s = .next (queueReply 0x41 tag .done [] (startCensus (abandonCensus s.renewed))))
    ∧ (s.isAtRest = true →
      let t := startCensus (abandonCensus s.renewed)
      t.link.outcome = .running ∧ t.link.count = 0 ∧ t.link.strays = 0 ∧ t.link.enrolTimer = none
        ∧ t.link.nodes = Vector.replicate 24 Node.absent ∧ t.link.powerLine = false
        ∧ t.monitor.posture = .fault ∧ t.monitor.alarms.censusFault = false ∧ t.orders.queue = []
        ∧ t.orders.records = []
        ∧ (∀ i, (t.fn i).activity = .unavailable ∧ (t.fn i).position = none ∧ (t.fn i).contact = false
          ∧ t.hold i = Hold.start)
        ∧ t.settings = s.settings ∧ t.inputs = s.inputs ∧ t.monitor.signals = s.monitor.signals))
  ∧ ∀ (s : State) (a : Assembly) (k : Nat) (rest : List Frame), s.isReady = true → s.store.doze = false →
    s.assembly = some a → a.code.shape = .fieldWise k →
    let base : State := { s.renewed with path := { s.path with cReceive := rest }, assembly := none }
    let fields := fieldsOf (a.params.drop k)
    let r := applyFields a.code (if k = 0 then 0 else a.params.getD 0 0) fields base
    let applied := r.outcome = .done ∨ r.outcome = .doneClamped
    let answer := fun (why : ReplyOutcome) (n : Nat) (u : State) =>
      queueReply a.code.toByte a.tag why [BitVec.ofNat 8 n] u
    let left := fun why : ReplyOutcome => if a.params.length < k then answer why 0 base
      else if applied then answer why fields.length r.state else answer r.outcome 0 base
    (k ≤ a.params.length → fields.length = (a.params.length - k) / 3)
    ∧ (k ≤ a.params.length → ¬ applied → r.state = base ∧ r.tasks = [])
    ∧ (∀ (index : Byte) (ps : List Byte), ps.length = 6 → index.toNat ≠ a.nextIndex →
      s.path.cReceive = dataFrame (requestIdent s.store.straps) ([0x02, index] ++ ps) :: rest →
      r.tasks = [] → nothingFollows base (left .length) = true → exec .continueFrame s = .next (left .length))
    ∧ ∀ (c : Instr) (code : CommandCode) (tag : Byte) (ps : List Byte), transactionOf c = some (code, tag, ps) →
      s.path.cReceive = rest → r.tasks = [] → clearanceTasks base (left .incomplete) = [] →
      passDue base (left .incomplete) = false → (react [] (left .incomplete)).isNone = true →
      (left .incomplete).settings.timing.dozeTime = s.settings.timing.dozeTime →
      exec c s = exec c (left .incomplete)

/-- R187: JOG answers STATE with NOT_PERMITTED outside SERVICE, and in SERVICE the refusal reason of R9 for a GOTO of
owner SERVICE to the present position plus or minus the distance, clamped to the stroke; where R9 refuses nothing it
answers DONE with the target, and the function takes the request. The model's choices in it stand in log entries 27
and 40. -/
def Obligations.JogIsJudgedAsAServiceGoto : Prop :=
  ∀ (s : State) (tag : Byte) (i : Slot) (d : Direction) (distance : Word16), s.takesCommands = true →
    let run := exec (.jog tag (BitVec.ofNat 8 i.val) (BitVec.ofNat 8 d.code) distance) s
    (s.monitor.posture ≠ .service → run = .next (queueReply 0x43 tag .state [4] s.renewed))
    ∧ (∀ p, s.monitor.posture = .service → (s.fn i).position = some p → distance.toNat ≤ 60000 →
      let target := match d with
        | .extend => min (s.cfg i).stroke (p + distance.toNat)
        | .retract => p - distance.toNat
      let request : Request := ⟨i, d, .service, some target, none, false, false⟩
      (∀ r, verdict s request = some r →
        run = .next (queueReply 0x43 tag .state [BitVec.ofNat 8 r.code] s.renewed))
      ∧ (verdict s request = none →
        let t := queueReply 0x43 tag .done [BitVec.ofNat 8 (target / 256), BitVec.ofNat 8 target]
          (accept request s.renewed)
        nothingFollows s.renewed t = true → passSettles t = true →
        run = .next (servicePass t)))

/-- R188, R189 and R193: STORE is refused STATE while a function is WAITING, MOVING or SETTLING; else the image is
built from the configuration as it stands, with the CRC of its bytes, and its writing begins, with no reply yet; a
start that finds this image loads that configuration. RESTART answers DONE and takes place 200 ms later at the latest.
The model's choices in it stand in log entries 26 and 33. -/
def Obligations.StoreAndRestartAreTaken : Prop :=
  ∀ (s : State) (tag : Byte), s.takesCommands = true →
    (s.anyBusy = true → exec (.store tag) s = .next (queueReply 0x44 tag .state [] s.renewed))
    ∧ (s.anyBusy = false → exec (.store tag) s = .next { s.renewed with
        store := { s.renewed.store with storing := some ⟨tag, s.settings.image, some (s.now + 400)⟩ } })
    ∧ (s.settings.image.settings = s.settings ∧ crc16 s.settings.image.bytes = s.settings.image.crc
      ∧ s.settings.image.load = s.settings)
    ∧ exec (.restart tag) s = .next (queueReply 0x45 tag .done [] { s.renewed with
        store := { s.renewed.store with restart := some (s.now + 200) } })

/-- R180, R188 and R189: through a STORE, and between the taking of a RESTART and the restart, every management
command is answered BUSY and changes nothing else. -/
def Obligations.EveryCommandIsBusyDuringStoreAndRestart : Prop :=
  ∀ (c : Instr) (code : CommandCode) (tag : Byte) (ps : List Byte) (s : State),
    transactionOf c = some (code, tag, ps) → s.isReady = true → s.store.doze = false → s.assembly = none →
    takesNoCommand s = true →
    exec c s = .next (queueReply code.toByte tag .busy [] s.renewed)

/-- R135, R184, R187 and R182: a WRITE_ENTRY with an index above 127 or a block of which a field is out of range, a
command of a slot above 15 or a signal above 6, and a JOG of a slot above 15 or another verb are answered RANGE and
change nothing else. The model's choices in it stand in log entry 23. -/
def Obligations.OutOfRangeCommandsChangeNothing : Prop :=
  ∀ (s : State) (tag : Byte), s.takesCommands = true →
    let refused := fun code : Byte => Host.Outcome.next (queueReply code tag .range [] s.renewed)
    (∀ index block, 127 < index.toNat → exec (.writeEntry tag index block) s = refused 0x10)
    ∧ (∀ index block, entryOfBlock block = none → exec (.writeEntry tag index block) s = refused 0x10)
    ∧ (∀ slot fs, 15 < slot.toNat → fs.length ≤ 66 → exec (.setFunction tag slot fs) s = refused 0x30)
    ∧ (∀ slot fs, 15 < slot.toNat → fs.length ≤ 66 → exec (.setGeometry tag slot fs) s = refused 0x31)
    ∧ (∀ g fs, 6 < g.toNat → fs.length ≤ 66 → exec (.setSignal tag g fs) s = refused 0x35)
    ∧ (∀ slot verb distance, 15 < slot.toNat ∨ 1 < verb.toNat →
        exec (.jog tag slot verb distance) s = refused 0x43)

/-! ### Invariants that every step keeps -/

/-- Derived (R192 and R194, log entry 2: which image and straps a reset finds is the model's choice): the reset state
is the state that a start from a blank image with all straps low gives, and every invariant that steps keep holds
there. -/
def Obligations.ResetMeetsEveryInvariant : Prop :=
  State.reset = startState ⟨true, false, false⟩ Image.blank ⟨false, false, false⟩ []
    ∧ State.reset.PostureHolds ∧ State.reset.WorkSettled ∧ State.reset.ClaimsWithinLimit
    ∧ State.reset.WithinCapacity ∧ State.reset.SubjectsOnce ∧ State.reset.ChannelsOnce
    ∧ State.reset.NextFreeIsLowest ∧ State.reset.LinkProtected ∧ State.reset.EveryConfiguration Settings.Agrees

/-- R33, R34, R40, R49, R54, R61, R81, R91, R167 and R195: in a part that runs, after every step the posture is the
derived one, the motion power enable line is on exactly where its four conditions hold, the NOT_STOWED alarm is active
exactly where its condition holds, a READY pump and a plain grant are used, no swap is pending with nothing busy,
GROUND and STOWING have an unfinished jack, and the doze timer runs exactly while its conditions hold. The model's
choices in it stand in log entries 4 and 5. -/
def Obligations.EveryStepKeepsTheJudgements : Prop :=
  ∀ s t : State, s.PostureHolds → s.WorkSettled → step s = .next t → t.PostureHolds ∧ t.WorkSettled

/-- R65, R66 and R68: the claims held and the effective limit never exceed the supply limit. -/
def Obligations.EveryStepKeepsTheClaimsWithinTheLimit : Prop :=
  ∀ s t : State, s.ClaimsWithinLimit → step s = .next t → t.ClaimsWithinLimit

/-- R144, R147, R148, R151 and R170: no buffer or queue exceeds its capacity, the C-port queue holds at most one
status frame of each subject, and the order queue at most one entry for each node and channel. -/
def Obligations.EveryStepKeepsTheQueuesWithinCapacity : Prop :=
  ∀ s t : State, s.WithinCapacity → s.SubjectsOnce → s.ChannelsOnce → step s = .next t →
    t.WithinCapacity ∧ t.SubjectsOnce ∧ t.ChannelsOnce

/-- R124 and R130: the next-free index is the lowest index of an EMPTY entry, or 128, and no frame waiting in the
forward queue carries a motion-link frame kind below 24. -/
def Obligations.EveryStepKeepsNextFreeAndLinkProtect : Prop :=
  ∀ s t : State, s.NextFreeIsLowest → s.LinkProtected → step s = .next t → t.NextFreeIsLowest ∧ t.LinkProtected

/-- R2, R3, R68, R71 and R125: in the running configuration, in a good image and in one being written, the dependent
fields are settled, clearance and pair partners name each other and fit, mask 0 has every bit set, and the cut
threshold lies below the low threshold. -/
def Obligations.EveryStepKeepsTheConfigurationAgreed : Prop :=
  ∀ s t : State, s.EveryConfiguration Settings.Agrees → step s = .next t → t.EveryConfiguration Settings.Agrees

/-- R1, R25, R51, R64, R69, R71, R115, R151, R158, R161, R184 and R200: every step keeps three things. Nothing waits
for an M-port that could send. Outside a running census no enrolment frame is held, no number is outstanding, the
enrolment timer is idle and the chain line is off. Every field of the running configuration, of a good image and of
one being written is in its range, where the claims held are within the supply limit and the last raw values fit two
bytes, which they do after the step too. The reset state has all of them. -/
def Obligations.EveryStepKeepsLinkAndRanges : Prop :=
  (State.reset.LinkDrained ∧ State.reset.EnrolWhileRunning ∧ State.reset.RawsFit
    ∧ State.reset.EveryConfiguration Settings.InRange)
  ∧ ∀ s t : State, step s = .next t →
    (s.LinkDrained → t.LinkDrained) ∧ (s.EnrolWhileRunning → t.EnrolWhileRunning) ∧ (s.RawsFit → t.RawsFit)
    ∧ (s.ClaimsWithinLimit → s.RawsFit → s.EveryConfiguration Settings.InRange →
      t.EveryConfiguration Settings.InRange)

/-- R7, R8, R15, R17, R52, R53, R55, R62, R66, R73, R97, R103 and R111: the part's laws of motion, kept by every step
of a part whose configurations agree: an owner, a verb and a move speed exactly in WAITING, MOVING and SETTLING; an
UNUSED slot UNAVAILABLE; settle, stall and cool-down timers only where they may run; the wait list with each waiting
function once, by rank and then arrival; the pump's claim exactly while it runs and a motor's exactly while it moves;
the owners of a sequence's jacks; every hydraulic move under the one grant; no MOVING twin beyond its hard skew; and
no slide WAITING or MOVING with its awning above its clearance position. So a JACK and a SLIDE_HYD are never both
MOVING. The reset state has them all. -/
def Obligations.EveryStepKeepsTheMotionLaws : Prop :=
  State.reset.MotionLaws
  ∧ ∀ s t : State, s.EveryConfiguration Settings.Agrees → s.MotionLaws → step s = .next t →
    t.MotionLaws ∧ t.HydraulicsApart
end

