-- ==== Sys2Proof/Laws/Bytes.lean ====
section
/-! SUPPORT. Numbers and records as bytes and back: a byte of a small number, the words of two and four bytes,
the entry block, and the fields of a field-wise command. -/

namespace Sys2Proof.Laws
open Sys2Proof.Machine

theorem byte_toNat {n : Nat} (h : n < 256) : (BitVec.ofNat 8 n).toNat = n := by simp [Nat.mod_eq_of_lt h]

theorem finOf_lt {n k : Nat} (h : k < n) : finOf n k = some ⟨k, h⟩ := by simp [finOf, h]

theorem finOf_ge {n k : Nat} (h : n ≤ k) : finOf n k = none := by simp [finOf, Nat.not_lt.mpr h]

/-- A word is what its two bytes give. -/
theorem word16_bytes (w : Word16) : word16Of (w.extractLsb' 8 8) (w.extractLsb' 0 8) = w := by
  apply BitVec.eq_of_getLsbD_eq
  intro i hi
  simp only [word16Of, BitVec.getLsbD_append, BitVec.getLsbD_extractLsb']
  by_cases h : i < 8
  · simp [h]
  · simp only [h, if_false, show i - 8 < 8 by omega, decide_true, Bool.true_and]
    congr 1
    omega

/-- A word is what its four bytes give. -/
theorem word32_bytes (w : Word32) :
    word32Of (w.extractLsb' 24 8) (w.extractLsb' 16 8) (w.extractLsb' 8 8) (w.extractLsb' 0 8) = w := by
  apply BitVec.eq_of_getLsbD_eq
  intro i hi
  simp only [word32Of, BitVec.getLsbD_append, BitVec.getLsbD_extractLsb']
  by_cases h : i < 8
  · simp [h]
  · by_cases h2 : i - 8 < 8
    · simp only [h, h2, if_false, if_true, decide_true, Bool.true_and]
      congr 1
      omega
    · by_cases h3 : i - 8 - 8 < 8
      · simp only [h, h2, h3, if_false, if_true, decide_true, Bool.true_and]
        congr 1
        omega
      · simp only [h, h2, h3, if_false, show i - 8 - 8 - 8 < 8 by omega, decide_true, Bool.true_and]
        congr 1
        omega

theorem entryBlock_length (b : EntryBlock) : (entryBlockBytes b).length = 22 := by
  simp [entryBlockBytes, bytesOf32]

/-- An entry block is read back from its bytes. -/
theorem entryBlock_round (b : EntryBlock) : entryBlockAt (entryBlockBytes b) 0 = b := by
  obtain ⟨st, po, fo, id, b0, b1, m, ml, c, a, ab⟩ := b
  have h : ∀ (i : Nat) (hi : i < 9),
      byteAt (entryBlockBytes ⟨st, po, fo, id, b0, b1, m, ml, c, a, ab⟩) (13 + i) = ab[i] := by
    intro i hi
    simp only [entryBlockBytes, byteAt, bytesOf32, List.getD_eq_getElem?_getD]
    rw [List.getElem?_append_right (by simp)]
    simp [hi]
  simp only [entryBlockAt, EntryBlock.mk.injEq]
  refine ⟨rfl, rfl, rfl, word32_bytes id, rfl, rfl, rfl, rfl, rfl, rfl, ?_⟩
  apply Vector.ext
  intro i hi
  simpa using h i hi

theorem entryBlock_round_index (x : Byte) (b : EntryBlock) : entryBlockAt (x :: entryBlockBytes b) 1 = b := by
  conv => rhs; rw [← entryBlock_round b]
  simp only [entryBlockAt, word32At]
  congr 1

theorem fieldBytes_length (fs : List FieldWrite) : (fieldBytes fs).length = 3 * fs.length := by
  induction fs with
  | nil => rfl
  | cons f fs ih =>
    simp only [fieldBytes, List.flatMap_cons, List.length_append, List.length_cons, bytesOf16] at ih ⊢
    rw [ih]
    simp only [List.length_nil]
    omega

/-- The fields of a field-wise command are read back from their bytes. -/
theorem fields_round (fs : List FieldWrite) : fieldsOf (fieldBytes fs) = fs := by
  induction fs with
  | nil => rfl
  | cons f fs ih =>
    have : fieldBytes (f :: fs) = f.code :: f.value.extractLsb' 8 8 :: f.value.extractLsb' 0 8 :: fieldBytes fs := rfl
    rw [this, fieldsOf, ih, word16_bytes]

/-! ### Codes read back -/

theorem entryState_round (x : EntryState) : EntryState.ofCode (BitVec.ofNat 8 x.code).toNat = some x := by
  cases x <;> rfl

theorem entryPort_round (x : EntryPort) : EntryPort.ofCode (BitVec.ofNat 8 x.code).toNat = some x := by
  cases x <;> rfl

theorem form_round (x : Form) : formOfCode (BitVec.ofNat 8 (formCode x)).toNat = some x := by cases x <;> rfl

theorem windowOrder_round (x : WindowOrder) : WindowOrder.ofCode (BitVec.ofNat 8 x.code).toNat = some x := by
  cases x <;> rfl

end Sys2Proof.Laws
end

