-- ==== Sys2Proof/Laws/Kept.lean ====
section
/-! SUPPORT. What the operations of the machine leave as it was. KeptOutside: the lines, the clock, the queue of
commands, the mark of a cut cascade, the nonvolatile image with its note, and the straps. Kept: these and the
whole configuration. One lemma for each operation, each a conjunction that simp reads as its parts. -/

namespace Sys2Proof.Laws
open Sys2Proof.Machine

/-- What no command of the running part changes. -/
@[reducible] def KeptOutside (t s : State) : Prop :=
  t.inputs = s.inputs ∧ t.now = s.now ∧ t.pending = s.pending ∧ t.overrun = s.overrun
    ∧ t.store.image = s.store.image ∧ t.store.factoryLoaded = s.store.factoryLoaded
    ∧ t.store.straps = s.store.straps

/-- What no operation but a configuring one changes. -/
@[reducible] def Kept (t s : State) : Prop := KeptOutside t s ∧ t.settings = s.settings

theorem KeptOutside.rfl' (s : State) : KeptOutside s s := ⟨rfl, rfl, rfl, rfl, rfl, rfl, rfl⟩

theorem KeptOutside.trans {u t s : State} (h : KeptOutside u t) (k : KeptOutside t s) : KeptOutside u s :=
  ⟨h.1.trans k.1, h.2.1.trans k.2.1, h.2.2.1.trans k.2.2.1, h.2.2.2.1.trans k.2.2.2.1,
    h.2.2.2.2.1.trans k.2.2.2.2.1, h.2.2.2.2.2.1.trans k.2.2.2.2.2.1,
    h.2.2.2.2.2.2.trans k.2.2.2.2.2.2⟩

theorem Kept.rfl' (s : State) : Kept s s := ⟨KeptOutside.rfl' s, rfl⟩

theorem Kept.trans {u t s : State} (h : Kept u t) (k : Kept t s) : Kept u s :=
  ⟨h.1.trans k.1, h.2.trans k.2⟩

/-- A fold of an operation that keeps, keeps. -/
@[simp] theorem foldl_kept {α : Type} {f : State → α → State} (h : ∀ s a, Kept (f s a) s) (l : List α) (s : State) :
    Kept (l.foldl f s) s := by
  induction l generalizing s with
  | nil => exact Kept.rfl' s
  | cons a l ih => exact (ih (f s a)).trans (h s a)

@[simp] theorem foldl_keptOutside {α : Type} {f : State → α → State} (h : ∀ s a, KeptOutside (f s a) s) (l : List α)
    (s : State) : KeptOutside (l.foldl f s) s := by
  induction l generalizing s with
  | nil => exact KeptOutside.rfl' s
  | cons a l ih => exact (ih (f s a)).trans (h s a)


/-! ### Machine/Ops.lean -/

@[simp] theorem setNode_kept (s : State) (n : Nat) (x : Node) : Kept (s.setNode n x) s := by
  simp only [State.setNode]; split <;> exact Kept.rfl' _

@[simp] theorem storeFn_kept (s : State) (i : Slot) (f : Function) : Kept (s.storeFn i f) s := Kept.rfl' _

@[simp] theorem pumpC_kept (s : State) :
    Kept (pumpC s) s := by
  simp only [pumpC]; (repeat' split) <;> simp [Kept, KeptOutside]

@[simp] theorem placeC_kept (new : TxEntry) (s : State) :
    Kept (placeC new s) s := by
  simp only [placeC]; (repeat' split) <;> simp [Kept, KeptOutside]

@[simp] theorem queueC_kept (new : TxEntry) (s : State) :
    Kept (queueC new s) s := by
  simp only [queueC]; (repeat' split) <;> simp [Kept, KeptOutside]

@[simp] theorem queueStatus_kept (kind : Nat) (cls : TxClass) (subject : Subject) (bytes : List Byte) (s : State) :
    Kept (queueStatus kind cls subject bytes s) s := by
  simp only [queueStatus]; (repeat' split) <;> simp [Kept, KeptOutside]

@[simp] theorem postureFrame_kept (cls : TxClass) (s : State) :
    Kept (postureFrame cls s) s := by
  simp only [postureFrame]; (repeat' split) <;> simp [Kept, KeptOutside]

@[simp] theorem functionFrame_kept (cls : TxClass) (i : Slot) (s : State) :
    Kept (functionFrame cls i s) s := by
  simp only [functionFrame]; (repeat' split) <;> simp [Kept, KeptOutside]

@[simp] theorem levelFrame_kept (s : State) :
    Kept (levelFrame s) s := by
  simp only [levelFrame]; (repeat' split) <;> simp [Kept, KeptOutside]

@[simp] theorem refusalFrame_kept (i : Slot) (verb : Nat) (r : RefusalReason) (s : State) :
    Kept (refusalFrame i verb r s) s := by
  simp only [refusalFrame]; (repeat' split) <;> simp [Kept, KeptOutside]

@[simp] theorem refusalSeqFrame_kept (k : SeqKind) (verb : Nat) (r : RefusalReason) (s : State) :
    Kept (refusalSeqFrame k verb r s) s := by
  simp only [refusalSeqFrame]; (repeat' split) <;> simp [Kept, KeptOutside]

@[simp] theorem alarmFrame_kept (s : State) :
    Kept (alarmFrame s) s := by
  simp only [alarmFrame]; (repeat' split) <;> simp [Kept, KeptOutside]

@[simp] theorem judgeLevelled_kept (i : Slot) (old new : Function) (s : State) :
    Kept (judgeLevelled i old new s) s := by
  simp only [judgeLevelled]; (repeat' split) <;> simp [Kept, KeptOutside]

@[simp] theorem judgeOwedStowed_kept (i : Slot) (old new : Function) (s : State) :
    Kept (judgeOwedStowed i old new s) s := by
  simp only [judgeOwedStowed]; (repeat' split) <;> simp [Kept, KeptOutside]

@[simp] theorem putFn_kept (i : Slot) (f : Function) (s : State) :
    Kept (putFn i f s) s := by
  simp only [putFn]; (repeat' split) <;> simp [Kept, KeptOutside]

@[simp] theorem putHold_kept (i : Slot) (h : Hold) (s : State) :
    Kept (putHold i h s) s := by
  simp only [putHold]; (repeat' split) <;> simp [Kept, KeptOutside]

@[simp] theorem refuseHold_kept (i : Slot) (s : State) :
    Kept (refuseHold i s) s := by
  simp only [refuseHold]; (repeat' split) <;> simp [Kept, KeptOutside]

@[simp] theorem queueReply_kept (code tag : Byte) (o : ReplyOutcome) (result : List Byte) (s : State) :
    Kept (queueReply code tag o result s) s := by
  simp only [queueReply]; (repeat' split) <;> simp [Kept, KeptOutside]

@[simp] theorem queueData_kept (k : Nat) (bytes : List Byte) (s : State) :
    Kept (queueData k bytes s) s := by
  simp only [queueData]; (repeat' split) <;> simp [Kept, KeptOutside]

/-! ### Machine/Orders.lean -/

@[simp] theorem setManifold_kept (s : State) (m : Manifold) : Kept (s.setManifold m) s := Kept.rfl' _

@[simp] theorem setOwed_kept (s : State) (i : Slot) (v : Bool) : Kept (s.setOwed i v) s := Kept.rfl' _

@[simp] theorem setSeq_kept (s : State) (q : Sequence) : Kept (s.setSeq q) s := Kept.rfl' _

@[simp] theorem setWind_kept (s : State) (w : WindRecord) : Kept (s.setWind w) s := Kept.rfl' _

@[simp] theorem setLink_kept (s : State) (l : LinkManager) : Kept (s.setLink l) s := Kept.rfl' _

@[simp] theorem setSignal_kept (s : State) (g : Signal) (r : SignalRecord) : Kept (s.setSignal g r) s :=
  Kept.rfl' _

@[simp] theorem setMatching_kept (s : State) (m : MatchEngine) : Kept (s.setMatching m) s := Kept.rfl' _

@[simp] theorem setCfg_kept (s : State) (i : Slot) (c : FunctionConfig) : KeptOutside (s.setCfg i c) s :=
  KeptOutside.rfl' _

@[simp] theorem mapOrder_kept (s : State) (node channel : Nat) (g : OrderRecord → OrderRecord) :
    Kept (s.mapOrder node channel g) s := Kept.rfl' _

@[simp] theorem setQueue_kept (s : State) (q : List OrderEntry) : Kept (s.setQueue q) s := Kept.rfl' _

@[simp] theorem clearMarks_kept (r : OrderRecord) (s : State) :
    Kept (clearMarks r s) s := by
  simp only [clearMarks]; (repeat' split) <;> simp [Kept, KeptOutside]

@[simp] theorem placeFull_kept (r : OrderRecord) (s : State) :
    Kept (placeFull r s) s := by
  simp only [placeFull]; (repeat' split) <;> simp [Kept, KeptOutside]

@[simp] theorem placeOrder_kept (r : OrderRecord) (s : State) :
    Kept (placeOrder r s) s := by
  simp only [placeOrder]; (repeat' split) <;> simp [Kept, KeptOutside]

@[simp] theorem placeDueUpTo_kept (n : Nat) (s : State) : Kept (placeDueUpTo n s) s := by
  induction n generalizing s with
  | zero => exact Kept.rfl' s
  | succ n ih =>
    simp only [placeDueUpTo]
    split
    · split
      · exact Kept.rfl' s
      · exact (ih _).trans (by simp [Kept, KeptOutside])
    · exact Kept.rfl' s

@[simp] theorem placeDue_kept (s : State) :
    Kept (placeDue s) s := by
  simp only [placeDue]; (repeat' split) <;> simp [Kept, KeptOutside]

@[simp] theorem offerHeld_kept (s : State) :
    Kept (offerHeld s) s := by
  simp only [offerHeld]; (repeat' split) <;> simp [Kept, KeptOutside]

@[simp] theorem addOffer_kept (f : EnrolFrame) (s : State) :
    Kept (addOffer f s) s := by
  simp only [addOffer]; (repeat' split) <;> simp [Kept, KeptOutside]

@[simp] theorem censusAdvance_kept (f : EnrolFrame) (s : State) :
    Kept (censusAdvance f s) s := by
  simp only [censusAdvance]; (repeat' split) <;> simp [Kept, KeptOutside]

@[simp] theorem slotEmptied_kept (c : ControlFrame) (s : State) :
    Kept (slotEmptied c s) s := by
  simp only [slotEmptied]; (repeat' split) <;> simp [Kept, KeptOutside]

@[simp] theorem pumpM_kept (s : State) :
    Kept (pumpM s) s := by
  simp only [pumpM]; (repeat' split) <;> simp [Kept, KeptOutside]

@[simp] theorem offerEnrol_kept (f : EnrolFrame) (s : State) :
    Kept (offerEnrol f s) s := by
  simp only [offerEnrol]; (repeat' split) <;> simp [Kept, KeptOutside]

@[simp] theorem offerHalt_kept (s : State) :
    Kept (offerHalt s) s := by
  simp only [offerHalt]; (repeat' split) <;> simp [Kept, KeptOutside]

@[simp] theorem offerBeat_kept (s : State) :
    Kept (offerBeat s) s := by
  simp only [offerBeat]; (repeat' split) <;> simp [Kept, KeptOutside]

@[simp] theorem withdrawEnrol_kept (s : State) :
    Kept (withdrawEnrol s) s := by
  simp only [withdrawEnrol]; (repeat' split) <;> simp [Kept, KeptOutside]

@[simp] theorem handOrder_kept (place : Bool) (d : DriveRef) (code : DriveCode) (speed : Nat) (s : State) :
    Kept (handOrder place d code speed s) s := by
  simp only [handOrder]; (repeat' split) <;> simp [Kept, KeptOutside]

@[simp] theorem holdAll_kept (place : Bool) (i : Slot) (s : State) :
    Kept (holdAll place i s) s := foldl_kept (fun s d => by simp [Kept, KeptOutside]) _ _

@[simp] theorem pumpOrder_kept (place : Bool) (code : DriveCode) (speed : Nat) (s : State) :
    Kept (pumpOrder place code speed s) s := by
  simp only [pumpOrder]; (repeat' split) <;> simp [Kept, KeptOutside]

@[simp] theorem clearQueue_kept (s : State) :
    Kept (clearQueue s) s := by
  simp only [clearQueue]; (repeat' split) <;> simp [Kept, KeptOutside]

@[simp] theorem discardOrders_kept (s : State) :
    Kept (discardOrders s) s := by
  simp only [discardOrders]; (repeat' split) <;> simp [Kept, KeptOutside]

@[simp] theorem resendStop_kept (node channel seen : Nat) (s : State) :
    Kept (resendStop node channel seen s) s := by
  simp only [resendStop]; (repeat' split) <;> simp [Kept, KeptOutside]

/-! ### Machine/Flags.lean -/

@[simp] theorem setAlarm_kept (k : Alarm) (v : Bool) (s : State) :
    Kept (setAlarm k v s) s := by
  simp only [setAlarm]; (repeat' split) <;> simp [Kept, KeptOutside]

/-! ### Machine/Moves.lean -/

@[simp] theorem turnChannel_kept (i : Slot) (e : Side) (s : State) :
    Kept (turnChannel i e s) s := by
  simp only [turnChannel]; (repeat' split) <;> simp [Kept, KeptOutside]

@[simp] theorem orderChannel_kept (i : Slot) (e : Side) (s : State) :
    Kept (orderChannel i e s) s := by
  simp only [orderChannel]; (repeat' split) <;> simp [Kept, KeptOutside]

@[simp] theorem reorder_kept (i : Slot) (s : State) :
    Kept (reorder i s) s := by
  simp only [reorder]; split
  · exact foldl_kept (fun s e => by simp [Kept, KeptOutside]) _ _
  · exact Kept.rfl' s

/-! ### Machine/Manifold.lean -/

@[simp] theorem addClaim_kept (who : Claimant) (amps : Nat) (s : State) :
    Kept (addClaim who amps s) s := by
  simp only [addClaim]; (repeat' split) <;> simp [Kept, KeptOutside]

@[simp] theorem dropClaim_kept (who : Claimant) (s : State) :
    Kept (dropClaim who s) s := by
  simp only [dropClaim]; (repeat' split) <;> simp [Kept, KeptOutside]

@[simp] theorem releaseDraw_kept (i : Slot) (s : State) :
    Kept (releaseDraw i s) s := by
  simp only [releaseDraw]; (repeat' split) <;> simp [Kept, KeptOutside]

@[simp] theorem startPump_kept (s : State) :
    Kept (startPump s) s := by
  simp only [startPump]; (repeat' split) <;> simp [Kept, KeptOutside]

@[simp] theorem stopPump_kept (place : Bool) (s : State) :
    Kept (stopPump place s) s := by
  simp only [stopPump]; (repeat' split) <;> simp [Kept, KeptOutside]

@[simp] theorem coolPump_kept (s : State) :
    Kept (coolPump s) s := by
  simp only [coolPump]; (repeat' split) <;> simp [Kept, KeptOutside]

@[simp] theorem holdOnPump_kept (s : State) :
    Kept (holdOnPump s) s := by
  simp only [holdOnPump]; (repeat' split) <;> simp [Kept, KeptOutside]

@[simp] theorem readyPump_kept (s : State) :
    Kept (readyPump s) s := by
  simp only [readyPump]; (repeat' split) <;> simp [Kept, KeptOutside]

@[simp] theorem leaveList_kept (i : Slot) (s : State) :
    Kept (leaveList i s) s := by
  simp only [leaveList]; (repeat' split) <;> simp [Kept, KeptOutside]

@[simp] theorem joinList_kept (i : Slot) (s : State) :
    Kept (joinList i s) s := by
  simp only [joinList]; (repeat' split) <;> simp [Kept, KeptOutside]

@[simp] theorem windStopped_kept (i : Slot) (r : StopReason) (s : State) :
    Kept (windStopped i r s) s := by
  simp only [windStopped]; (repeat' split) <;> simp [Kept, KeptOutside]

@[simp] theorem holdMoved_kept (place : Bool) (i : Slot) (s : State) :
    Kept (holdMoved place i s) s := by
  simp only [holdMoved]; (repeat' split) <;> simp [Kept, KeptOutside]

@[simp] theorem stopFn_kept (place : Bool) (i : Slot) (r : StopReason) (s : State) :
    Kept (stopFn place i r s) s := by
  simp only [stopFn]; (repeat' split) <;> simp [Kept, KeptOutside]

@[simp] theorem stopAll_kept (place : Bool) (r : StopReason) (is : List Slot) (s : State) :
    Kept (stopAll place r is s) s := foldl_kept (fun s i => by simp [Kept, KeptOutside]) _ _

@[simp] theorem releaseSequenceGrant_kept (s : State) :
    Kept (releaseSequenceGrant s) s := by
  simp only [releaseSequenceGrant]; (repeat' split) <;> simp [Kept, KeptOutside]

@[simp] theorem closeSequence_kept (r : SeqResult) (s : State) :
    Kept (closeSequence r s) s := by
  simp only [closeSequence]; (repeat' split) <;> simp [Kept, KeptOutside]

@[simp] theorem endSequence_kept (place : Bool) (result : SeqResult) (r : StopReason) (s : State) :
    Kept (endSequence place result r s) s := by
  simp only [endSequence]; (repeat' split) <;> simp [Kept, KeptOutside]

@[simp] theorem abortSequence_kept (place : Bool) (r : AbortReason) (s : State) :
    Kept (abortSequence place r s) s := by
  simp only [abortSequence]; (repeat' split) <;> simp [Kept, KeptOutside]

@[simp] theorem failFn_kept (i : Slot) (c : FaultCode) (s : State) :
    Kept (failFn i c s) s := by
  simp only [failFn]; (repeat' split) <;> simp [Kept, KeptOutside]

@[simp] theorem faultFns_kept (is : List Slot) (c : FaultCode) (s : State) :
    Kept (faultFns is c s) s := by
  have h : Kept (is.foldl (fun s i => failFn i c s) s) s :=
    foldl_kept (fun s i => by simp [Kept, KeptOutside]) _ _
  simp only [faultFns]; split
  · exact (endSequence_kept _ _ _ _).trans h
  · exact h

@[simp] theorem faultFn_kept (i : Slot) (c : FaultCode) (s : State) :
    Kept (faultFn i c s) s := faultFns_kept [i] c s

@[simp] theorem startMove_kept (i : Slot) (s : State) :
    Kept (startMove i s) s := by
  simp only [startMove]; (repeat' split) <;> simp [Kept, KeptOutside]

@[simp] theorem startHydraulic_kept (i : Slot) (s : State) :
    Kept (startHydraulic i s) s := by
  simp only [startHydraulic]; (repeat' split) <;> simp [Kept, KeptOutside]

@[simp] theorem freeHydraulic_kept (i : Slot) (s : State) :
    Kept (freeHydraulic i s) s := by
  simp only [freeHydraulic]; (repeat' split) <;> simp [Kept, KeptOutside]

@[simp] theorem freeGranted_kept (g : Grant) (s : State) :
    Kept (freeGranted g s) s := foldl_kept (fun s i => by simp [Kept, KeptOutside]) _ _

@[simp] theorem grantTo_kept (i : Slot) (s : State) :
    Kept (grantTo i s) s := by
  simp only [grantTo]; (repeat' split) <;> simp [Kept, KeptOutside]

@[simp] theorem serveHolder_kept (s : State) :
    Kept (serveHolder s) s := by
  simp only [serveHolder]; (repeat' split) <;> simp [Kept, KeptOutside]

@[simp] theorem admitMotor_kept (i : Slot) (s : State) :
    Kept (admitMotor i s) s := by
  simp only [admitMotor]; (repeat' split) <;> simp [Kept, KeptOutside]

@[simp] theorem walkList_kept (is : List Slot) (s : State) : Kept (walkList is s) s := by
  induction is generalizing s with
  | nil => exact Kept.rfl' s
  | cons i rest ih =>
    simp only [walkList]
    (repeat' split) <;>
      first
        | exact Kept.rfl' s
        | exact (ih _).trans (Kept.rfl' s)
        | exact (ih _).trans (by simp [Kept, KeptOutside])

@[simp] theorem writeReasons_kept (s : State) :
    Kept (writeReasons s) s := foldl_kept (fun s i => by simp [Kept, KeptOutside]) _ _

@[simp] theorem servicePass_kept (s : State) :
    Kept (servicePass s) s := by
  simp only [servicePass]; (repeat' split) <;> simp [Kept, KeptOutside]

@[simp] theorem preemptManifold_kept (i : Slot) (s : State) :
    Kept (preemptManifold i s) s := by
  simp only [preemptManifold]; (repeat' split) <;> simp [Kept, KeptOutside]

@[simp] theorem clearArbiter_kept (s : State) :
    Kept (clearArbiter s) s := by
  simp only [clearArbiter]; (repeat' split) <;> simp [Kept, KeptOutside]

@[simp] theorem haltEffects_kept (s : State) :
    Kept (haltEffects s) s := by
  simp only [haltEffects]; (repeat' split) <;> simp [Kept, KeptOutside]

@[simp] theorem preempt_kept (r : Request) (s : State) :
    Kept (preempt r s) s := by
  simp only [preempt]; (repeat' split) <;> simp [Kept, KeptOutside]

@[simp] theorem windTaken_kept (r : Request) (s : State) :
    Kept (windTaken r s) s := by
  simp only [windTaken]; (repeat' split) <;> simp [Kept, KeptOutside]

@[simp] theorem accept_kept (r : Request) (s : State) :
    Kept (accept r s) s := by
  simp only [accept]; (repeat' split) <;> simp [Kept, KeptOutside]

/-! ### Machine/Slides.lean -/

@[simp] theorem settleFn_kept (i : Slot) (r : StopReason) (e : Ending) (byStall : Bool) (s : State) :
    Kept (settleFn i r e byStall s) s := by
  simp only [settleFn]; (repeat' split) <;> simp [Kept, KeptOutside]

@[simp] theorem endReached_kept (i : Slot) (d : Direction) (byStall : Bool) (s : State) :
    Kept (endReached i d byStall s) s := by
  simp only [endReached]; (repeat' split) <;> simp [Kept, KeptOutside]

@[simp] theorem targetReached_kept (i : Slot) (s : State) :
    Kept (targetReached i s) s := by
  simp only [targetReached]; (repeat' split) <;> simp [Kept, KeptOutside]

@[simp] theorem setChannel_kept (i : Slot) (e : Side) (ch : Channel) (s : State) :
    Kept (setChannel i e ch s) s := by
  simp only [setChannel]; (repeat' split) <;> simp [Kept, KeptOutside]

@[simp] theorem resumeChannel_kept (i : Slot) (e : Side) (s : State) :
    Kept (resumeChannel i e s) s := by
  simp only [resumeChannel]; (repeat' split) <;> simp [Kept, KeptOutside]

@[simp] theorem setMarker_kept (i : Slot) (m : Option Side) (s : State) :
    Kept (setMarker i m s) s := by
  simp only [setMarker]; (repeat' split) <;> simp [Kept, KeptOutside]

@[simp] theorem clearMarker_kept (i : Slot) (s : State) :
    Kept (clearMarker i s) s := by
  simp only [clearMarker]; (repeat' split) <;> simp [Kept, KeptOutside]

@[simp] theorem takeEndMark_kept (i : Slot) (e : Side) (s : State) :
    Kept (takeEndMark i e s) s := by
  simp only [takeEndMark]; (repeat' split) <;> simp [Kept, KeptOutside]

@[simp] theorem takeArrivalMark_kept (i : Slot) (e : Side) (s : State) :
    Kept (takeArrivalMark i e s) s := by
  simp only [takeArrivalMark]; (repeat' split) <;> simp [Kept, KeptOutside]

@[simp] theorem finishMotor_kept (i : Slot) (s : State) :
    Kept (finishMotor i s) s := by
  simp only [finishMotor]; (repeat' split) <;> simp [Kept, KeptOutside]

@[simp] theorem judgeStall_kept (i : Slot) (e : Side) (s : State) :
    Kept (judgeStall i e s) s := by
  simp only [judgeStall]; (repeat' split) <;> simp [Kept, KeptOutside]

@[simp] theorem stallTest_kept (i : Slot) (e : Side) (current : Nat) (flags : Byte) (s : State) :
    Kept (stallTest i e current flags s) s := by
  simp only [stallTest]; (repeat' split) <;> simp [Kept, KeptOutside]

@[simp] theorem arrivalTest_kept (i : Slot) (e : Side) (s : State) :
    Kept (arrivalTest i e s) s := by
  simp only [arrivalTest]; (repeat' split) <;> simp [Kept, KeptOutside]

@[simp] theorem holdEnd_kept (i : Slot) (e : Side) (s : State) :
    Kept (holdEnd i e s) s := by
  simp only [holdEnd]; (repeat' split) <;> simp [Kept, KeptOutside]

@[simp] theorem softSkewTest_kept (i : Slot) (s : State) :
    Kept (softSkewTest i s) s := by
  simp only [softSkewTest]; (repeat' split) <;> simp [Kept, KeptOutside]

@[simp] theorem hardSkewTest_kept (i : Slot) (s : State) :
    Kept (hardSkewTest i s) s := by
  simp only [hardSkewTest]; (repeat' split) <;> simp [Kept, KeptOutside]

@[simp] theorem clearanceStop_kept (i : Slot) (s : State) :
    Kept (clearanceStop i s) s := by
  simp only [clearanceStop]; (repeat' split) <;> simp [Kept, KeptOutside]

@[simp] theorem whileMoving_kept (i : Slot) {test : State → State} (h : ∀ s, Kept (test s) s) (s : State) :
    Kept (whileMoving i test s) s := by
  simp only [whileMoving]; split
  · exact h s
  · exact Kept.rfl' s

@[simp] theorem motorReport_kept (i : Slot) (e : Side) (current : Nat) (flags : Byte) (s : State) :
    Kept (motorReport i e current flags s) s := by
  simp only [motorReport]
  refine (whileMoving_kept i (fun s => ?_) _).trans ((whileMoving_kept i (fun s => ?_) _).trans
    ((whileMoving_kept i (fun s => ?_) _).trans ?_))
  · split <;> simp [Kept, KeptOutside]
  · split <;> simp [Kept, KeptOutside]
  all_goals simp [Kept, KeptOutside]

@[simp] theorem slideHydReport_kept (i : Slot) (pressure : Nat) (s : State) :
    Kept (slideHydReport i pressure s) s := by
  simp only [slideHydReport]; (repeat' split) <;> simp [Kept, KeptOutside]

@[simp] theorem rezeroChannel_kept (i : Slot) (s : State) (e : Side) :
    KeptOutside (rezeroChannel i s e) s := by
  simp only [rezeroChannel]; (repeat' split) <;> simp [KeptOutside]

@[simp] theorem rezero_kept (i : Slot) (s : State) :
    KeptOutside (rezero i s) s := by
  simp only [rezero]; (repeat' split) <;> simp [KeptOutside]

@[simp] theorem passVerify_kept (i : Slot) (s : State) :
    Kept (passVerify i s) s := by
  simp only [passVerify]; (repeat' split) <;> simp [Kept, KeptOutside]

@[simp] theorem verifyRetract_kept (i : Slot) (s : State) :
    KeptOutside (verifyRetract i s) s := by
  simp only [verifyRetract]; (repeat' split) <;> simp [KeptOutside]

@[simp] theorem verifyExtend_kept (i : Slot) (s : State) :
    Kept (verifyExtend i s) s := by
  simp only [verifyExtend]; (repeat' split) <;> simp [Kept, KeptOutside]

@[simp] theorem verifyTarget_kept (i : Slot) (s : State) :
    Kept (verifyTarget i s) s := by
  simp only [verifyTarget]; (repeat' split) <;> simp [Kept, KeptOutside]

@[simp] theorem verify_kept (i : Slot) (s : State) :
    KeptOutside (verify i s) s := by
  simp only [verify]; (repeat' split) <;> simp [KeptOutside]

@[simp] theorem slideTest_kept (awning : Slot) (s : State) :
    Kept (slideTest awning s) s := by
  simp only [slideTest]; (repeat' split) <;> simp [Kept, KeptOutside]

/-! ### Machine/Levelling.lean -/

@[simp] theorem seqRefused_kept (r : RefusalReason) (s : State) :
    Kept (seqRefused r s) s := by
  simp only [seqRefused]; (repeat' split) <;> simp [Kept, KeptOutside]

@[simp] theorem releaseTwist_kept (i : Slot) (s : State) :
    Kept (releaseTwist i s) s := by
  simp only [releaseTwist]; (repeat' split) <;> simp [Kept, KeptOutside]

@[simp] theorem markFinished_kept (i : Slot) (s : State) :
    Kept (markFinished i s) s := by
  simp only [markFinished]; (repeat' split) <;> simp [Kept, KeptOutside]

@[simp] theorem sendSeqRequest_kept (r : Request) {onEnd : State → State} (h : ∀ s, Kept (onEnd s) s)
    (s : State) : Kept (sendSeqRequest r onEnd s).1 s := by
  simp only [sendSeqRequest]
  (repeat' split) <;> first | exact h s | simp [Kept, KeptOutside]

@[simp] theorem groundRequest_kept (i : Slot) (s : State) :
    Kept (groundRequest i s).1 s := by
  simp only [groundRequest]; (repeat' split) <;> simp [Kept, KeptOutside]

@[simp] theorem liftRequest_kept (i : Slot) (s : State) :
    Kept (liftRequest i s).1 s := by
  simp only [liftRequest]; (repeat' split) <;> simp [Kept, KeptOutside]

@[simp] theorem stowRequest_kept (i : Slot) (s : State) :
    Kept (stowRequest i s).1 s := by
  simp only [stowRequest]; (repeat' split) <;> simp [Kept, KeptOutside]

@[simp] theorem preemptJacks_kept (o : Owner) (is : List Slot) (s : State) :
    Kept (preemptJacks o is s) s := foldl_kept (fun s i => by split <;> simp [Kept, KeptOutside]) _ _

theorem firstRequests_kept (atOnce : Bool) {request : Slot → State → State × List Task}
    (h : ∀ i s, Kept (request i s).1 s) (task : Slot → Task) (is : List Slot) (s : State) :
    Kept (firstRequests atOnce request task is s).1 s := by
  simp only [firstRequests]; split
  · exact foldl_kept (fun s i => h i s) _ _
  · exact Kept.rfl' s

@[simp] theorem startLevel_kept (s : State) :
    Kept (startLevel s).1 s := by
  simp only [startLevel]
  exact (firstRequests_kept _ groundRequest_kept _ _ _).trans (by simp [Kept, KeptOutside])

@[simp] theorem startStow_kept (o : Owner) (s : State) :
    Kept (startStow o s).1 s := by
  simp only [startStow]
  exact (firstRequests_kept _ stowRequest_kept _ _ _).trans (by simp [Kept, KeptOutside])

@[simp] theorem stopSequence_kept (s : State) :
    Kept (stopSequence s) s := by
  simp only [stopSequence]; (repeat' split) <;> simp [Kept, KeptOutside]

@[simp] theorem operatorSequence_kept (which : SeqRequest) (s : State) :
    Kept (operatorSequence which s).1 s := by
  simp only [operatorSequence]; (repeat' split) <;> simp [Kept, KeptOutside]

@[simp] theorem travelStow_kept (s : State) :
    Kept (travelStow s).1 s := by
  simp only [travelStow]; (repeat' split) <;> simp [Kept, KeptOutside]

@[simp] theorem groundReport_kept (i : Slot) (s : State) :
    Kept (groundReport i s) s := by
  simp only [groundReport]; (repeat' split) <;> simp [Kept, KeptOutside]

@[simp] theorem twistMember_kept (limit : Nat) (i other : Slot) (s : State) :
    Kept (twistMember limit i other s) s := by
  simp only [twistMember]; (repeat' split) <;> simp [Kept, KeptOutside]

@[simp] theorem twistRule_kept (i : Slot) (s : State) :
    Kept (twistRule i s) s := by
  simp only [twistRule]; (repeat' split) <;> simp [Kept, KeptOutside]

@[simp] theorem endGround_kept (s : State) :
    Kept (endGround s) s := by
  simp only [endGround]; (repeat' split) <;> simp [Kept, KeptOutside]

@[simp] theorem setPhase_kept (p : Phase) (s : State) :
    Kept (setPhase p s) s := by
  simp only [setPhase]; (repeat' split) <;> simp [Kept, KeptOutside]

@[simp] theorem formStep_kept (s : State) :
    Kept (formStep s).1 s := by
  simp only [formStep]; (repeat' split) <;> simp [Kept, KeptOutside]

@[simp] theorem stepEnd_kept (s : State) :
    Kept (stepEnd s).1 s := by
  simp only [stepEnd]; (repeat' split) <;> simp [Kept, KeptOutside]

@[simp] theorem setLevelled_kept (s : State) :
    Kept (setLevelled s) s := by
  simp only [setLevelled]; (repeat' split) <;> simp [Kept, KeptOutside]

@[simp] theorem endSequenceAs_kept (r : SeqResult) (s : State) :
    Kept (endSequenceAs r s) s := by
  simp only [endSequenceAs]; (repeat' split) <;> simp [Kept, KeptOutside]

@[simp] theorem evaluate_kept (gp gr : Int) (s : State) :
    Kept (evaluate gp gr s).1 s := by
  simp only [evaluate]; (repeat' split) <;> simp [Kept, KeptOutside]

@[simp] theorem takeReading_kept (pitch roll : Int) (stable : Bool) (s : State) :
    Kept (takeReading pitch roll stable s).1 s := by
  simp only [takeReading]; (repeat' split) <;> simp [Kept, KeptOutside]

@[simp] theorem endStow_kept (s : State) :
    Kept (endStow s) s := by
  simp only [endStow]; (repeat' split) <;> simp [Kept, KeptOutside]

@[simp] theorem jackRested_kept (i : Slot) (s : State) :
    Kept (jackRested i s).1 s := by
  simp only [jackRested]; (repeat' split) <;> simp [Kept, KeptOutside]

/-! ### Machine/Supply.lean -/

@[simp] theorem computeLimit_kept (s : State) :
    Kept (computeLimit s) s := by
  simp only [computeLimit]; (repeat' split) <;> simp [Kept, KeptOutside]

@[simp] theorem judgeLowSupply_kept (s : State) :
    Kept (judgeLowSupply s) s := by
  simp only [judgeLowSupply]; (repeat' split) <;> simp [Kept, KeptOutside]

@[simp] theorem supplyChanged_kept (s : State) :
    Kept (supplyChanged s) s := by
  simp only [supplyChanged]; (repeat' split) <;> simp [Kept, KeptOutside]

@[simp] theorem lowSupplyExpired_kept (s : State) :
    Kept (lowSupplyExpired s) s := by
  simp only [lowSupplyExpired]; (repeat' split) <;> simp [Kept, KeptOutside]

@[simp] theorem abortHolder_kept (s : State) :
    Kept (abortHolder s) s := by
  simp only [abortHolder]; (repeat' split) <;> simp [Kept, KeptOutside]

@[simp] theorem dutyExpired_kept (s : State) :
    Kept (dutyExpired s) s := by
  simp only [dutyExpired]; (repeat' split) <;> simp [Kept, KeptOutside]

@[simp] theorem pumpPressure_kept (pressure : Nat) (s : State) :
    Kept (pumpPressure pressure s) s := by
  simp only [pumpPressure]; (repeat' split) <;> simp [Kept, KeptOutside]

@[simp] theorem primeExpired_kept (s : State) :
    Kept (primeExpired s) s := by
  simp only [primeExpired]; (repeat' split) <;> simp [Kept, KeptOutside]

@[simp] theorem coolDownOver_kept (s : State) :
    Kept (coolDownOver s) s := by
  simp only [coolDownOver]; (repeat' split) <;> simp [Kept, KeptOutside]

/-! ### Machine/Awnings.lean -/

@[simp] theorem windJudged_kept (s : State) :
    Kept (windJudged s) s := by
  simp only [windJudged]; (repeat' split) <;> simp [Kept, KeptOutside]

@[simp] theorem clearFault_kept (i : Slot) (s : State) :
    Kept (clearFault i s) s := by
  simp only [clearFault]; (repeat' split) <;> simp [Kept, KeptOutside]

@[simp] theorem windRetract_kept (i : Slot) (s : State) :
    Kept (windRetract i s).1 s := by
  simp only [windRetract]; (repeat' split) <;> simp [Kept, KeptOutside]

@[simp] theorem travelRetract_kept (i : Slot) (s : State) :
    Kept (travelRetract i s).1 s := by
  simp only [travelRetract]; (repeat' split) <;> simp [Kept, KeptOutside]

@[simp] theorem retryObstructed_kept (i : Slot) (s : State) :
    Kept (retryObstructed i s).1 s := by
  simp only [retryObstructed]; (repeat' split) <;> simp [Kept, KeptOutside]

@[simp] theorem gustRetract_kept (i : Slot) (s : State) :
    Kept (gustRetract i s).1 s := by
  simp only [gustRetract]; (repeat' split) <;> simp [Kept, KeptOutside]

@[simp] theorem gustExpired_kept (s : State) :
    Kept (gustExpired s).1 s := by
  simp only [gustExpired]; (repeat' split) <;> simp [Kept, KeptOutside]

@[simp] theorem calmExpired_kept (s : State) :
    Kept (calmExpired s) s := by
  simp only [calmExpired]; (repeat' split) <;> simp [Kept, KeptOutside]

@[simp] theorem owedRetract_kept (i : Slot) (s : State) :
    Kept (owedRetract i s).1 s := by
  simp only [owedRetract]; (repeat' split) <;> simp [Kept, KeptOutside]

/-! ### Machine/Link.lean -/

@[simp] theorem setPosture_kept (p : Posture) (s : State) :
    Kept (setPosture p s) s := by
  simp only [setPosture]; (repeat' split) <;> simp [Kept, KeptOutside]

@[simp] theorem enterFault_kept (s : State) :
    Kept (enterFault s) s := by
  simp only [enterFault]; (repeat' split) <;> simp [Kept, KeptOutside]

@[simp] theorem setOutcome_kept (o : CensusOutcome) (s : State) :
    Kept (setOutcome o s) s := by
  simp only [setOutcome]; (repeat' split) <;> simp [Kept, KeptOutside]

@[simp] theorem judgePowerLine_kept (s : State) :
    Kept (judgePowerLine s) s := by
  simp only [judgePowerLine]; (repeat' split) <;> simp [Kept, KeptOutside]

@[simp] theorem clearFunctions_kept (s : State) :
    Kept (clearFunctions s) s := foldl_kept (fun s i => by simp [Kept, KeptOutside]) _ _

@[simp] theorem closeCensus_kept (s : State) :
    Kept (closeCensus s) s := by
  simp only [closeCensus]; (repeat' split) <;> simp [Kept, KeptOutside]

@[simp] theorem clearNodes_kept (s : State) :
    Kept (clearNodes s) s := by
  simp only [clearNodes]; (repeat' split) <;> simp [Kept, KeptOutside]

@[simp] theorem abandonCensus_kept (s : State) :
    Kept (abandonCensus s) s := by
  simp only [abandonCensus]; (repeat' split) <;> simp [Kept, KeptOutside]

@[simp] theorem startCensus_kept (s : State) :
    Kept (startCensus s) s := by
  simp only [startCensus]; (repeat' split) <;> simp [Kept, KeptOutside]

@[simp] theorem becomeIdle_kept (i : Slot) (s : State) :
    Kept (becomeIdle i s).1 s := by
  simp only [becomeIdle]; (repeat' split) <;> simp [Kept, KeptOutside]

@[simp] theorem becomeIdleAll_kept (is : List Slot) (s : State) :
    Kept (becomeIdleAll is s).1 s := by
  unfold becomeIdleAll
  suffices h : ∀ (r : State × List Task), Kept r.1 s → Kept
      (is.foldl (fun r i => let t := becomeIdle i r.1; (t.1, r.2 ++ t.2)) r).1 s from h _ (Kept.rfl' s)
  induction is with
  | nil => exact fun _ h => h
  | cons i is ih => exact fun r h => ih _ ((becomeIdle_kept i r.1).trans h)

@[simp] theorem checkBinding_kept (i : Slot) (s : State) :
    Kept (checkBinding i s) s := by
  simp only [checkBinding]; (repeat' split) <;> simp [Kept, KeptOutside]

@[simp] theorem recheck_kept (is : List Slot) (s : State) :
    Kept (recheck is s).1 s := by
  simp only [recheck]; (repeat' split) <;> simp [Kept, KeptOutside]

@[simp] theorem unbindFn_kept (i : Slot) (s : State) :
    Kept (unbindFn i s) s := by
  simp only [unbindFn]; (repeat' split) <;> simp [Kept, KeptOutside]

@[simp] theorem endCensus_kept (o : CensusOutcome) (count : Nat) (s : State) :
    Kept (endCensus o count s).1 s := by
  simp only [endCensus]; (repeat' split) <;> simp [Kept, KeptOutside]

@[simp] theorem enrolmentExpired_kept (s : State) :
    Kept (enrolmentExpired s).1 s := by
  simp only [enrolmentExpired]; (repeat' split) <;> simp [Kept, KeptOutside]

@[simp] theorem stray_kept (s : State) :
    Kept (stray s) s := by
  simp only [stray]; (repeat' split) <;> simp [Kept, KeptOutside]

@[simp] theorem enrolAnswer_kept (n kindCode channels hardware : Nat) (s : State) :
    Kept (enrolAnswer n kindCode channels hardware s).1 s := by
  simp only [enrolAnswer]; (repeat' split) <;> simp [Kept, KeptOutside]

@[simp] theorem hearNode_kept (n : Nat) (s : State) :
    Kept (hearNode n s) s := foldl_kept (fun s i => by simp [Kept, KeptOutside]) _ _

@[simp] theorem recordReport_kept (n ch : Nat) (r : ChannelRecord) (s : State) :
    Kept (recordReport n ch r s) s := by
  simp only [recordReport]; (repeat' split) <;> simp [Kept, KeptOutside]

@[simp] theorem takeReport_kept (f : Frame) (s : State) :
    Kept (takeReport f s).1 s := by
  simp only [takeReport]; (repeat' split) <;> simp [Kept, KeptOutside]

@[simp] theorem takeTilt_kept (f : Frame) (s : State) :
    Kept (takeTilt f s).1 s := by
  simp only [takeTilt]; (repeat' split) <;> simp [Kept, KeptOutside]

@[simp] theorem silentNode_kept (n : Nat) (s : State) :
    Kept (silentNode n s) s := by
  simp only [silentNode]; (repeat' split) <;> simp [Kept, KeptOutside]

@[simp] theorem cancelSilence_kept (s : State) :
    Kept (cancelSilence s) s := by
  simp only [cancelSilence]; (repeat' split) <;> simp [Kept, KeptOutside]

@[simp] theorem enterDoze_kept (s : State) :
    Kept (enterDoze s) s := by
  simp only [enterDoze]; (repeat' split) <;> simp [Kept, KeptOutside]

@[simp] theorem wake_kept (s : State) :
    Kept (wake s) s := by
  simp only [wake]; (repeat' split) <;> simp [Kept, KeptOutside]

@[simp] theorem touchDoze_kept (s : State) :
    Kept (touchDoze s) s := by
  simp only [touchDoze]; (repeat' split) <;> simp [Kept, KeptOutside]

/-! ### Machine/Posture.lean -/

@[simp] theorem handOver_kept (g : Signal) (s : State) :
    Kept (handOver g s) s := by
  simp only [handOver]; (repeat' split) <;> simp [Kept, KeptOutside]

@[simp] theorem ignitionOn_kept (s : State) :
    Kept (ignitionOn s).1 s := by
  simp only [ignitionOn]; (repeat' split) <;> simp [Kept, KeptOutside]

@[simp] theorem deliver_kept (g : Signal) (value : Nat) (source : EntryIndex) (s : State) :
    Kept (deliver g value source s).1 s := by
  simp only [deliver]; (repeat' split) <;> simp [Kept, KeptOutside]

@[simp] theorem staleExpired_kept (g : Signal) (s : State) :
    Kept (staleExpired g s) s := by
  simp only [staleExpired]; (repeat' split) <;> simp [Kept, KeptOutside]

@[simp] theorem judgeMove_kept (i : Slot) (s : State) :
    Kept (judgeMove i s) s := by
  simp only [judgeMove]; (repeat' split) <;> simp [Kept, KeptOutside]

@[simp] theorem judgeSequence_kept (s : State) :
    Kept (judgeSequence s) s := by
  simp only [judgeSequence]; (repeat' split) <;> simp [Kept, KeptOutside]

@[simp] theorem changePosture_kept (p : Posture) (s : State) :
    Kept (changePosture p s).1 s := by
  simp only [changePosture]; (repeat' split) <;> simp [Kept, KeptOutside]

@[simp] theorem exchangeBanks_kept (s : State) :
    KeptOutside (exchangeBanks s) s := by
  simp only [exchangeBanks]; (repeat' split) <;> simp [KeptOutside]

@[simp] theorem writeCell_kept (v : Byte) (s : State) :
    KeptOutside (writeCell v s) s := by
  simp only [writeCell]; (repeat' split) <;> simp [KeptOutside]

@[simp] theorem writeCellList_kept (bs : List Byte) (s : State) :
    KeptOutside (writeCellList bs s) s := foldl_keptOutside (fun s v => by simp [KeptOutside]) _ _

/-! ### Machine/Matching.lean -/

@[simp] theorem capture_kept (i : EntryIndex) (f : Frame) (g : Signal) (offset width multiplier divisor : Nat) (addend : Int) (s : State) :
    Kept (capture i f g offset width multiplier divisor addend s).1 s := by
  simp only [capture]; (repeat' split) <;> simp [Kept, KeptOutside]

@[simp] theorem forward_kept (port : Port) (f : Frame) (rewrite : Option (Form × Ident)) (s : State) :
    Kept (forward port f rewrite s) s := by
  simp only [forward]; (repeat' split) <;> simp [Kept, KeptOutside]

@[simp] theorem act_kept (i : EntryIndex) (port : Port) (f : Frame) (a : Action) (s : State) :
    Kept (act i port f a s).1 s := by
  simp only [act]; (repeat' split) <;> simp [Kept, KeptOutside]

@[simp] theorem countHit_kept (i : EntryIndex) (s : State) :
    Kept (countHit i s) s := by
  simp only [countHit]; (repeat' split) <;> simp [Kept, KeptOutside]

@[simp] theorem chain_kept (port : Port) (f : Frame) (k : Nat) (s : State) :
    Kept (chain port f k s).1 s := by
  simp only [chain]; (repeat' split) <;> simp [Kept, KeptOutside]

@[simp] theorem stopRequest_kept (i : Slot) (s : State) :
    Kept (stopRequest i s) s := by
  simp only [stopRequest]; (repeat' split) <;> simp [Kept, KeptOutside]

@[simp] theorem clearRequest_kept (i : Slot) (s : State) :
    Kept (clearRequest i s) s := by
  simp only [clearRequest]; (repeat' split) <;> simp [Kept, KeptOutside]

@[simp] theorem moveRequest_kept (i : Slot) (d : Direction) (s : State) :
    Kept (moveRequest i d s).1 s := by
  simp only [moveRequest]; (repeat' split) <;> simp [Kept, KeptOutside]

@[simp] theorem operatorTask_kept (i : Slot) (v : RequestVerb) (s : State) :
    Kept (operatorTask i v s).1 s := by
  simp only [operatorTask]; (repeat' split) <;> simp [Kept, KeptOutside]

@[simp] theorem renewHold_kept (i : Slot) (s : State) :
    Kept (renewHold i s) s := by
  simp only [renewHold]; (repeat' split) <;> simp [Kept, KeptOutside]

@[simp] theorem newPress_kept (i : Slot) (d : Direction) (source : EntryIndex) (s : State) :
    Kept (newPress i d source s).1 s := by
  simp only [newPress]; (repeat' split) <;> simp [Kept, KeptOutside]

@[simp] theorem press_kept (i : Slot) (d : Direction) (source : EntryIndex) (s : State) :
    Kept (press i d source s).1 s := by
  simp only [press]; (repeat' split) <;> simp [Kept, KeptOutside]

/-! ### Machine/Reports.lean -/

@[simp] theorem jackReport_kept (i : Slot) (pressure : Nat) (s : State) :
    Kept (jackReport i pressure s) s := by
  simp only [jackReport]; (repeat' split) <;> simp [Kept, KeptOutside]

@[simp] theorem hydReport_kept (i : Slot) (pressure : Nat) (s : State) :
    Kept (hydReport i pressure s) s := by
  simp only [hydReport]; (repeat' split) <;> simp [Kept, KeptOutside]

@[simp] theorem twinReport_kept (i : Slot) (e : Side) (current : Nat) (flags : Byte) (s : State) :
    Kept (twinReport i e current flags s) s := by
  simp only [twinReport]; (repeat' split) <;> simp [Kept, KeptOutside]

@[simp] theorem kindReport_kept (i : Slot) (d : DriveRef) (load : Nat) (flags : Byte) (s : State) :
    Kept (kindReport i d load flags s) s := by
  simp only [kindReport]; split
  · simp [Kept, KeptOutside]
  · simp [Kept, KeptOutside]
  · exact (reorder_kept i _).trans (foldl_kept (fun s e => twinReport_kept i e load flags s) _ _)
  · exact (reorder_kept i _).trans (foldl_kept (fun s e => twinReport_kept i e load flags s) _ _)
  · exact Kept.rfl' s

@[simp] theorem activityReport_kept (i : Slot) (d : DriveRef) (load : Nat) (flags : Byte) (s : State) :
    Kept (activityReport i d load flags s).1 s := by
  simp only [activityReport]; (repeat' split) <;> simp [Kept, KeptOutside]

@[simp] theorem slotReport_kept (i : Slot) (d : DriveRef) (s : State) :
    Kept (slotReport i d s).1 s := by
  simp only [slotReport]; (repeat' split) <;> simp [Kept, KeptOutside]

/-! ### Machine/Records.lean -/

@[simp] theorem queueRecord_kept (bs : List Byte) (s : State) :
    Kept (queueRecord bs s) s := foldl_kept (fun s p => by simp [Kept, KeptOutside]) _ _

/-! ### Machine/Tables.lean -/

@[simp] theorem refuse_kept (o : ReplyOutcome) (s : State) :
    Kept (refuse o s).state s := by
  simp only [refuse]; (repeat' split) <;> simp [Kept, KeptOutside]

@[simp] theorem setEntries_kept (es : Vector EntryConfig 128) (s : State) :
    KeptOutside (setEntries es s) s := by
  simp only [setEntries]; (repeat' split) <;> simp [KeptOutside]

@[simp] theorem putEntry_kept (i : EntryIndex) (e : EntryConfig) (s : State) :
    KeptOutside (putEntry i e s) s := by
  simp only [putEntry]; (repeat' split) <;> simp [KeptOutside]

@[simp] theorem writeEntry_kept (index : Byte) (b : EntryBlock) (s : State) :
    KeptOutside (writeEntry index b s).state s := by
  simp only [writeEntry]; (repeat' split) <;> simp [KeptOutside]

@[simp] theorem appendEntry_kept (b : EntryBlock) (s : State) :
    KeptOutside (appendEntry b s).state s := by
  simp only [appendEntry]; (repeat' split) <;> simp [KeptOutside]

@[simp] theorem setEntryState_kept (index state : Byte) (s : State) :
    KeptOutside (setEntryState index state s).state s := by
  simp only [setEntryState]; (repeat' split) <;> simp [KeptOutside]

@[simp] theorem setPortDefault_kept (port action : Byte) (s : State) :
    KeptOutside (setPortDefault port action s).state s := by
  simp only [setPortDefault]; (repeat' split) <;> simp [KeptOutside]

@[simp] theorem markEntries_kept (form : Byte) (ident : Word32) (v0 v1 mask port state : Byte) (s : State) :
    KeptOutside (markEntries form ident v0 v1 mask port state s).state s := by
  simp only [markEntries]; (repeat' split) <;> simp [KeptOutside]

@[simp] theorem probe_kept (form : Byte) (ident : Word32) (v0 v1 length port : Byte) (s : State) :
    Kept (probe form ident v0 v1 length port s).state s := by
  simp only [probe]; (repeat' split) <;> simp [Kept, KeptOutside]

@[simp] theorem clearHits_kept (first last engine : Byte) (s : State) :
    Kept (clearHits first last engine s).state s := by
  simp only [clearHits]; (repeat' split) <;> simp [Kept, KeptOutside]

@[simp] theorem writeMask_kept (index : Byte) (ident : Word32) (v0 v1 : Byte) (s : State) :
    KeptOutside (writeMask index ident v0 v1 s).state s := by
  simp only [writeMask]; (repeat' split) <;> simp [KeptOutside]

@[simp] theorem setWindow_kept (r0 r1 c0 c1 order : Byte) (s : State) :
    Kept (setWindow r0 r1 c0 c1 order s).state s := by
  simp only [setWindow]; (repeat' split) <;> simp [Kept, KeptOutside]

@[simp] theorem swapMatrix_kept (crc : Word16) (s : State) :
    KeptOutside (swapMatrix crc s).state s := by
  simp only [swapMatrix]; (repeat' split) <;> simp [KeptOutside]

/-! ### Machine/Fields.lean -/

@[simp] theorem setPartner_kept (i : Slot) (p : Option Slot) (s : State) :
    KeptOutside (setPartner i p s) s := by
  simp only [setPartner]; (repeat' split) <;> simp [KeptOutside]

@[simp] theorem applyPartner_kept (i : Slot) (fs : List FieldWrite) (s : State) :
    KeptOutside (applyPartner i fs s).1 s := by
  simp only [applyPartner]; (repeat' split) <;> simp [KeptOutside]

@[simp] theorem setPair_kept (i : Slot) (p : Option Slot) (s : State) :
    KeptOutside (setPair i p s) s := by
  simp only [setPair]; (repeat' split) <;> simp [KeptOutside]

@[simp] theorem kindChanged_kept (i : Slot) (old : Kind) (s : State) :
    KeptOutside (kindChanged i old s) s := by
  simp only [kindChanged]; (repeat' split) <;> simp [KeptOutside]

@[simp] theorem placeAgain_kept (i : Slot) (fs : List FieldWrite) (s : State) :
    Kept (placeAgain i fs s) s := by
  simp only [placeAgain]; (repeat' split) <;> simp [Kept, KeptOutside]

@[simp] theorem clearContact_kept (i : Slot) (old : Kind) (s : State) :
    Kept (clearContact i old s) s := by
  simp only [clearContact]; (repeat' split) <;> simp [Kept, KeptOutside]

@[simp] theorem testSlides_kept (i : Slot) (s : State) :
    Kept (testSlides i s) s := foldl_kept (fun s i => by simp [Kept, KeptOutside]) _ _

@[simp] theorem applyFunction_kept (i : Slot) (fs : List FieldWrite) (s : State) :
    KeptOutside (applyFunction i fs s).1 s := by
  simp only [applyFunction]; (repeat' split) <;> simp [KeptOutside]

@[simp] theorem applyPair_kept (i : Slot) (fs : List FieldWrite) (s : State) :
    KeptOutside (applyPair i fs s).1 s := by
  simp only [applyPair]; (repeat' split) <;> simp [KeptOutside]

@[simp] theorem applyGeometry_kept (i : Slot) (fs : List FieldWrite) (s : State) :
    KeptOutside (applyGeometry i fs s).1 s := by
  simp only [applyGeometry]; (repeat' split) <;> simp [KeptOutside]

@[simp] theorem rebind_kept (is : List Slot) (s : State) :
    Kept (rebind is s).1 s := by
  simp only [rebind]; (repeat' split) <;> simp [Kept, KeptOutside]

@[simp] theorem applyLevelling_kept (fs : List FieldWrite) (s : State) :
    KeptOutside (applyLevelling fs s).1 s := by
  simp only [applyLevelling]; (repeat' split) <;> simp [KeptOutside]

@[simp] theorem applyManifold_kept (fs : List FieldWrite) (s : State) :
    KeptOutside (applyManifold fs s).1 s := by
  simp only [applyManifold]; (repeat' split) <;> simp [KeptOutside]

@[simp] theorem applySupply_kept (fs : List FieldWrite) (s : State) :
    KeptOutside (applySupply fs s).1 s := by
  simp only [applySupply]; (repeat' split) <;> simp [KeptOutside]

@[simp] theorem applySafeValue_kept (g : Signal) (old new : SignalConfig) (s : State) :
    Kept (applySafeValue g old new s) s := by
  simp only [applySafeValue]; (repeat' split) <;> simp [Kept, KeptOutside]

@[simp] theorem applySignal_kept (g : Signal) (fs : List FieldWrite) (s : State) :
    KeptOutside (applySignal g fs s).1 s := by
  simp only [applySignal]; (repeat' split) <;> simp [KeptOutside]

@[simp] theorem applyTiming_kept (fs : List FieldWrite) (s : State) :
    KeptOutside (applyTiming fs s).1 s := by
  simp only [applyTiming]; (repeat' split) <;> simp [KeptOutside]

theorem fieldCommand_kept {code : CommandCode} {selector : Byte} {c : FieldCommand}
    (h : fieldCommand code selector = some c) (fs : List FieldWrite) (s : State) :
    KeptOutside (c.apply fs s).1 s := by
  revert h
  simp only [fieldCommand]
  split <;> simp only [Option.map_eq_some_iff, Option.some.injEq, reduceCtorEq, false_implies]
  all_goals first | (rintro rfl; simp [KeptOutside]) | (rintro ⟨i, -, rfl⟩; simp [KeptOutside])

@[simp] theorem applyFields_kept (code : CommandCode) (selector : Byte) (fs : List FieldWrite) (s : State) :
    KeptOutside (applyFields code selector fs s).state s := by
  simp only [applyFields]; split
  · simp [KeptOutside]
  · (repeat' split) <;> first | exact fieldCommand_kept (by assumption) fs s | simp [KeptOutside]

/-! ### Machine/Management.lean -/

@[simp] theorem readRecord_kept (kind index : Byte) (s : State) :
    Kept (readRecord kind index s).state s := by
  simp only [readRecord]; (repeat' split) <;> simp [Kept, KeptOutside]

@[simp] theorem censusCommand_kept (s : State) :
    Kept (censusCommand s).state s := by
  simp only [censusCommand]; (repeat' split) <;> simp [Kept, KeptOutside]

@[simp] theorem haltCommand_kept (s : State) :
    Kept (haltCommand s).state s := by
  simp only [haltCommand]; (repeat' split) <;> simp [Kept, KeptOutside]

@[simp] theorem jogRefused_kept (r : RefusalReason) (s : State) :
    Kept (jogRefused r s).state s := by
  simp only [jogRefused]; (repeat' split) <;> simp [Kept, KeptOutside]

@[simp] theorem jog_kept (slot verb : Byte) (distance : Word16) (s : State) :
    Kept (jog slot verb distance s).state s := by
  simp only [jog]; (repeat' split) <;> simp [Kept, KeptOutside]

@[simp] theorem beginStore_kept (tag : Byte) (s : State) :
    Kept (beginStore tag s) s := by
  simp only [beginStore]; (repeat' split) <;> simp [Kept, KeptOutside]

@[simp] theorem beginRestart_kept (s : State) :
    Kept (beginRestart s) s := by
  simp only [beginRestart]; (repeat' split) <;> simp [Kept, KeptOutside]

@[simp] theorem reply_kept (code tag : Byte) (a : Answer) : Kept (reply code tag a).1 a.state := by
  simp [reply, Kept, KeptOutside]

@[simp] theorem entryStateCommand_kept (ps : List Byte) (s : State) :
    KeptOutside (entryStateCommand ps s).state s := by
  simp only [entryStateCommand]; (repeat' split) <;> simp [KeptOutside]

@[simp] theorem cellsAnswer_kept (ps : List Byte) (s : State) :
    Kept (cellsAnswer ps s).state s := by
  simp only [cellsAnswer]; (repeat' split) <;> simp [Kept, KeptOutside]

@[simp] theorem answerTo_kept (code : CommandCode) (ps : List Byte) (s : State) :
    KeptOutside (answerTo code ps s).state s := by
  simp only [answerTo]; (repeat' split) <;> simp [KeptOutside]

@[simp] theorem carryOut_kept (code : CommandCode) (tag : Byte) (ps : List Byte) (s : State) :
    KeptOutside (carryOut code tag ps s).1 s := by
  simp only [carryOut]; (repeat' split) <;> simp [KeptOutside]

@[simp] theorem gather_kept (code : CommandCode) (bs : List Byte) (s : State) :
    KeptOutside (gather code bs s) s := by
  simp only [gather]; (repeat' split) <;> simp [KeptOutside]

@[simp] theorem advance_kept (a : Assembly) (s : State) :
    KeptOutside (advance a s).1 s := by
  simp only [advance]; (repeat' split) <;> simp [KeptOutside]

@[simp] theorem startCommand_kept (f : Frame) (s : State) :
    KeptOutside (startCommand f s).1 s := by
  simp only [startCommand]; (repeat' split) <;> simp [KeptOutside]

@[simp] theorem transact_kept (code : CommandCode) (tag : Byte) (ps : List Byte) (s : State) :
    KeptOutside (transact code tag ps s).1 s := by
  simp only [transact]; (repeat' split) <;> simp [KeptOutside]

@[simp] theorem endFields_kept (a : Assembly) (k : Nat) (why : ReplyOutcome) (s : State) :
    KeptOutside (endFields a k why s).state s := by
  simp only [endFields]; (repeat' split) <;> simp [KeptOutside]

@[simp] theorem endAssembly_kept (a : Assembly) (why : ReplyOutcome) (s : State) :
    KeptOutside (endAssembly a why s).1 s := by
  simp only [endAssembly]
  (repeat' split) <;> simp [KeptOutside]

@[simp] theorem breakAssembly_kept (s : State) :
    KeptOutside (breakAssembly s).1 s := by
  simp only [breakAssembly]; (repeat' split) <;> simp [KeptOutside]

@[simp] theorem continueCommand_kept (f : Frame) (s : State) :
    KeptOutside (continueCommand f s).1 s := by
  simp only [continueCommand]; (repeat' split) <;> simp [KeptOutside]

@[simp] theorem takeCommand_kept (f : Frame) (s : State) :
    KeptOutside (takeCommand f s).1 s := by
  simp only [takeCommand]; (repeat' split) <;> simp [KeptOutside]

@[simp] theorem takeContinue_kept (f : Frame) (s : State) :
    Kept (takeContinue f s).1 s := by
  simp only [takeContinue]; (repeat' split) <;> simp [Kept, KeptOutside]

@[simp] theorem takeTransaction_kept (code : CommandCode) (tag : Byte) (ps : List Byte) (s : State) :
    KeptOutside (takeTransaction code tag ps s).1 s := by
  simp only [takeTransaction]; (repeat' split) <;> simp [KeptOutside]

/-! ### Machine/Cascade.lean -/

@[simp] theorem handle_kept (t : Task) (s : State) :
    KeptOutside (handle t s).1 s := by
  simp only [handle]; (repeat' split) <;> simp [KeptOutside]

@[simp] theorem judgeDozeTimer_kept (s : State) :
    Kept (judgeDozeTimer s) s := by
  simp only [judgeDozeTimer]; (repeat' split) <;> simp [Kept, KeptOutside]

/-! ### Machine/Timers.lean -/

@[simp] theorem holdExpired_kept (i : Slot) (s : State) :
    Kept (holdExpired i s) s := by
  simp only [holdExpired]; (repeat' split) <;> simp [Kept, KeptOutside]

@[simp] theorem settleExpired_kept (i : Slot) (s : State) :
    KeptOutside (settleExpired i s).1 s := by
  simp only [settleExpired]; (repeat' split) <;> simp [KeptOutside]

@[simp] theorem contactLost_kept (i : Slot) (s : State) :
    Kept (contactLost i s).1 s := by
  simp only [contactLost]; (repeat' split) <;> simp [Kept, KeptOutside]

@[simp] theorem waitExpired_kept (i : Slot) (s : State) :
    Kept (waitExpired i s) s := by
  simp only [waitExpired]; (repeat' split) <;> simp [Kept, KeptOutside]

@[simp] theorem restExpired_kept (s : State) :
    Kept (restExpired s) s := by
  simp only [restExpired]; (repeat' split) <;> simp [Kept, KeptOutside]

@[simp] theorem dutyReachedNow_kept (s : State) :
    Kept (dutyReachedNow s) s := by
  simp only [dutyReachedNow]; (repeat' split) <;> simp [Kept, KeptOutside]

@[simp] theorem levelSettled_kept (s : State) :
    Kept (levelSettled s) s := by
  simp only [levelSettled]; (repeat' split) <;> simp [Kept, KeptOutside]

@[simp] theorem stallExpired_kept (i : Slot) (e : Side) (s : State) :
    Kept (stallExpired i e s) s := by
  simp only [stallExpired]; (repeat' split) <;> simp [Kept, KeptOutside]

@[simp] theorem setDue_kept (s : State) :
    Kept (setDue s) s := by
  simp only [setDue]; (repeat' split) <;> simp [Kept, KeptOutside]

@[simp] theorem refreshExpired_kept (s : State) :
    Kept (refreshExpired s) s := by
  simp only [refreshExpired]; (repeat' split) <;> simp [Kept, KeptOutside]

@[simp] theorem statusExpired_kept (s : State) :
    Kept (statusExpired s) s := by
  simp only [statusExpired]; (repeat' split) <;> simp [Kept, KeptOutside]

end Sys2Proof.Laws
end

