-- ==== Sys2Proof/Laws/State.lean ====
section
/-! SUPPORT. The named record updates of the state, field by field: what each leaves as it was, and what it
writes. Each is true by unfolding, and simp reads them, so that no later proof unfolds an update. -/

namespace Sys2Proof.Laws
open Sys2Proof.Machine

/-! ### storeFn -/

@[simp] theorem storeFn_inputs (s : State) (i : Slot) (f : Function) : (s.storeFn i f).inputs = s.inputs := rfl
@[simp] theorem storeFn_now (s : State) (i : Slot) (f : Function) : (s.storeFn i f).now = s.now := rfl
@[simp] theorem storeFn_settings (s : State) (i : Slot) (f : Function) : (s.storeFn i f).settings = s.settings := rfl
@[simp] theorem storeFn_holds (s : State) (i : Slot) (f : Function) : (s.storeFn i f).holds = s.holds := rfl
@[simp] theorem storeFn_monitor (s : State) (i : Slot) (f : Function) : (s.storeFn i f).monitor = s.monitor := rfl
@[simp] theorem storeFn_manifold (s : State) (i : Slot) (f : Function) : (s.storeFn i f).manifold = s.manifold := rfl
@[simp] theorem storeFn_budget (s : State) (i : Slot) (f : Function) : (s.storeFn i f).budget = s.budget := rfl
@[simp] theorem storeFn_sequence (s : State) (i : Slot) (f : Function) : (s.storeFn i f).sequence = s.sequence := rfl
@[simp] theorem storeFn_wind (s : State) (i : Slot) (f : Function) : (s.storeFn i f).wind = s.wind := rfl
@[simp] theorem storeFn_matching (s : State) (i : Slot) (f : Function) : (s.storeFn i f).matching = s.matching := rfl
@[simp] theorem storeFn_path (s : State) (i : Slot) (f : Function) : (s.storeFn i f).path = s.path := rfl
@[simp] theorem storeFn_link (s : State) (i : Slot) (f : Function) : (s.storeFn i f).link = s.link := rfl
@[simp] theorem storeFn_orders (s : State) (i : Slot) (f : Function) : (s.storeFn i f).orders = s.orders := rfl
@[simp] theorem storeFn_assembly (s : State) (i : Slot) (f : Function) : (s.storeFn i f).assembly = s.assembly := rfl
@[simp] theorem storeFn_statusTimer (s : State) (i : Slot) (f : Function) : (s.storeFn i f).statusTimer = s.statusTimer := rfl
@[simp] theorem storeFn_store (s : State) (i : Slot) (f : Function) : (s.storeFn i f).store = s.store := rfl
@[simp] theorem storeFn_overrun (s : State) (i : Slot) (f : Function) : (s.storeFn i f).overrun = s.overrun := rfl
@[simp] theorem storeFn_pending (s : State) (i : Slot) (f : Function) : (s.storeFn i f).pending = s.pending := rfl

/-! ### putHold -/

@[simp] theorem putHold_inputs (s : State) (i : Slot) (h : Hold) : (putHold i h s).inputs = s.inputs := rfl
@[simp] theorem putHold_now (s : State) (i : Slot) (h : Hold) : (putHold i h s).now = s.now := rfl
@[simp] theorem putHold_settings (s : State) (i : Slot) (h : Hold) : (putHold i h s).settings = s.settings := rfl
@[simp] theorem putHold_functions (s : State) (i : Slot) (h : Hold) : (putHold i h s).functions = s.functions := rfl
@[simp] theorem putHold_monitor (s : State) (i : Slot) (h : Hold) : (putHold i h s).monitor = s.monitor := rfl
@[simp] theorem putHold_manifold (s : State) (i : Slot) (h : Hold) : (putHold i h s).manifold = s.manifold := rfl
@[simp] theorem putHold_budget (s : State) (i : Slot) (h : Hold) : (putHold i h s).budget = s.budget := rfl
@[simp] theorem putHold_sequence (s : State) (i : Slot) (h : Hold) : (putHold i h s).sequence = s.sequence := rfl
@[simp] theorem putHold_wind (s : State) (i : Slot) (h : Hold) : (putHold i h s).wind = s.wind := rfl
@[simp] theorem putHold_matching (s : State) (i : Slot) (h : Hold) : (putHold i h s).matching = s.matching := rfl
@[simp] theorem putHold_path (s : State) (i : Slot) (h : Hold) : (putHold i h s).path = s.path := rfl
@[simp] theorem putHold_link (s : State) (i : Slot) (h : Hold) : (putHold i h s).link = s.link := rfl
@[simp] theorem putHold_orders (s : State) (i : Slot) (h : Hold) : (putHold i h s).orders = s.orders := rfl
@[simp] theorem putHold_assembly (s : State) (i : Slot) (h : Hold) : (putHold i h s).assembly = s.assembly := rfl
@[simp] theorem putHold_statusTimer (s : State) (i : Slot) (h : Hold) : (putHold i h s).statusTimer = s.statusTimer := rfl
@[simp] theorem putHold_store (s : State) (i : Slot) (h : Hold) : (putHold i h s).store = s.store := rfl
@[simp] theorem putHold_overrun (s : State) (i : Slot) (h : Hold) : (putHold i h s).overrun = s.overrun := rfl
@[simp] theorem putHold_pending (s : State) (i : Slot) (h : Hold) : (putHold i h s).pending = s.pending := rfl

/-! ### setManifold -/

@[simp] theorem setManifold_inputs (s : State) (m : Manifold) : (s.setManifold m).inputs = s.inputs := rfl
@[simp] theorem setManifold_now (s : State) (m : Manifold) : (s.setManifold m).now = s.now := rfl
@[simp] theorem setManifold_settings (s : State) (m : Manifold) : (s.setManifold m).settings = s.settings := rfl
@[simp] theorem setManifold_functions (s : State) (m : Manifold) : (s.setManifold m).functions = s.functions := rfl
@[simp] theorem setManifold_holds (s : State) (m : Manifold) : (s.setManifold m).holds = s.holds := rfl
@[simp] theorem setManifold_monitor (s : State) (m : Manifold) : (s.setManifold m).monitor = s.monitor := rfl
@[simp] theorem setManifold_budget (s : State) (m : Manifold) : (s.setManifold m).budget = s.budget := rfl
@[simp] theorem setManifold_sequence (s : State) (m : Manifold) : (s.setManifold m).sequence = s.sequence := rfl
@[simp] theorem setManifold_wind (s : State) (m : Manifold) : (s.setManifold m).wind = s.wind := rfl
@[simp] theorem setManifold_matching (s : State) (m : Manifold) : (s.setManifold m).matching = s.matching := rfl
@[simp] theorem setManifold_path (s : State) (m : Manifold) : (s.setManifold m).path = s.path := rfl
@[simp] theorem setManifold_link (s : State) (m : Manifold) : (s.setManifold m).link = s.link := rfl
@[simp] theorem setManifold_orders (s : State) (m : Manifold) : (s.setManifold m).orders = s.orders := rfl
@[simp] theorem setManifold_assembly (s : State) (m : Manifold) : (s.setManifold m).assembly = s.assembly := rfl
@[simp] theorem setManifold_statusTimer (s : State) (m : Manifold) : (s.setManifold m).statusTimer = s.statusTimer := rfl
@[simp] theorem setManifold_store (s : State) (m : Manifold) : (s.setManifold m).store = s.store := rfl
@[simp] theorem setManifold_overrun (s : State) (m : Manifold) : (s.setManifold m).overrun = s.overrun := rfl
@[simp] theorem setManifold_pending (s : State) (m : Manifold) : (s.setManifold m).pending = s.pending := rfl

/-! ### setSeq -/

@[simp] theorem setSeq_inputs (s : State) (q : Sequence) : (s.setSeq q).inputs = s.inputs := rfl
@[simp] theorem setSeq_now (s : State) (q : Sequence) : (s.setSeq q).now = s.now := rfl
@[simp] theorem setSeq_settings (s : State) (q : Sequence) : (s.setSeq q).settings = s.settings := rfl
@[simp] theorem setSeq_functions (s : State) (q : Sequence) : (s.setSeq q).functions = s.functions := rfl
@[simp] theorem setSeq_holds (s : State) (q : Sequence) : (s.setSeq q).holds = s.holds := rfl
@[simp] theorem setSeq_monitor (s : State) (q : Sequence) : (s.setSeq q).monitor = s.monitor := rfl
@[simp] theorem setSeq_manifold (s : State) (q : Sequence) : (s.setSeq q).manifold = s.manifold := rfl
@[simp] theorem setSeq_budget (s : State) (q : Sequence) : (s.setSeq q).budget = s.budget := rfl
@[simp] theorem setSeq_wind (s : State) (q : Sequence) : (s.setSeq q).wind = s.wind := rfl
@[simp] theorem setSeq_matching (s : State) (q : Sequence) : (s.setSeq q).matching = s.matching := rfl
@[simp] theorem setSeq_path (s : State) (q : Sequence) : (s.setSeq q).path = s.path := rfl
@[simp] theorem setSeq_link (s : State) (q : Sequence) : (s.setSeq q).link = s.link := rfl
@[simp] theorem setSeq_orders (s : State) (q : Sequence) : (s.setSeq q).orders = s.orders := rfl
@[simp] theorem setSeq_assembly (s : State) (q : Sequence) : (s.setSeq q).assembly = s.assembly := rfl
@[simp] theorem setSeq_statusTimer (s : State) (q : Sequence) : (s.setSeq q).statusTimer = s.statusTimer := rfl
@[simp] theorem setSeq_store (s : State) (q : Sequence) : (s.setSeq q).store = s.store := rfl
@[simp] theorem setSeq_overrun (s : State) (q : Sequence) : (s.setSeq q).overrun = s.overrun := rfl
@[simp] theorem setSeq_pending (s : State) (q : Sequence) : (s.setSeq q).pending = s.pending := rfl

/-! ### setWind -/

@[simp] theorem setWind_inputs (s : State) (w : WindRecord) : (s.setWind w).inputs = s.inputs := rfl
@[simp] theorem setWind_now (s : State) (w : WindRecord) : (s.setWind w).now = s.now := rfl
@[simp] theorem setWind_settings (s : State) (w : WindRecord) : (s.setWind w).settings = s.settings := rfl
@[simp] theorem setWind_functions (s : State) (w : WindRecord) : (s.setWind w).functions = s.functions := rfl
@[simp] theorem setWind_holds (s : State) (w : WindRecord) : (s.setWind w).holds = s.holds := rfl
@[simp] theorem setWind_monitor (s : State) (w : WindRecord) : (s.setWind w).monitor = s.monitor := rfl
@[simp] theorem setWind_manifold (s : State) (w : WindRecord) : (s.setWind w).manifold = s.manifold := rfl
@[simp] theorem setWind_budget (s : State) (w : WindRecord) : (s.setWind w).budget = s.budget := rfl
@[simp] theorem setWind_sequence (s : State) (w : WindRecord) : (s.setWind w).sequence = s.sequence := rfl
@[simp] theorem setWind_matching (s : State) (w : WindRecord) : (s.setWind w).matching = s.matching := rfl
@[simp] theorem setWind_path (s : State) (w : WindRecord) : (s.setWind w).path = s.path := rfl
@[simp] theorem setWind_link (s : State) (w : WindRecord) : (s.setWind w).link = s.link := rfl
@[simp] theorem setWind_orders (s : State) (w : WindRecord) : (s.setWind w).orders = s.orders := rfl
@[simp] theorem setWind_assembly (s : State) (w : WindRecord) : (s.setWind w).assembly = s.assembly := rfl
@[simp] theorem setWind_statusTimer (s : State) (w : WindRecord) : (s.setWind w).statusTimer = s.statusTimer := rfl
@[simp] theorem setWind_store (s : State) (w : WindRecord) : (s.setWind w).store = s.store := rfl
@[simp] theorem setWind_overrun (s : State) (w : WindRecord) : (s.setWind w).overrun = s.overrun := rfl
@[simp] theorem setWind_pending (s : State) (w : WindRecord) : (s.setWind w).pending = s.pending := rfl

/-! ### setOwed -/

@[simp] theorem setOwed_inputs (s : State) (i : Slot) (v : Bool) : (s.setOwed i v).inputs = s.inputs := rfl
@[simp] theorem setOwed_now (s : State) (i : Slot) (v : Bool) : (s.setOwed i v).now = s.now := rfl
@[simp] theorem setOwed_settings (s : State) (i : Slot) (v : Bool) : (s.setOwed i v).settings = s.settings := rfl
@[simp] theorem setOwed_functions (s : State) (i : Slot) (v : Bool) : (s.setOwed i v).functions = s.functions := rfl
@[simp] theorem setOwed_holds (s : State) (i : Slot) (v : Bool) : (s.setOwed i v).holds = s.holds := rfl
@[simp] theorem setOwed_monitor (s : State) (i : Slot) (v : Bool) : (s.setOwed i v).monitor = s.monitor := rfl
@[simp] theorem setOwed_manifold (s : State) (i : Slot) (v : Bool) : (s.setOwed i v).manifold = s.manifold := rfl
@[simp] theorem setOwed_budget (s : State) (i : Slot) (v : Bool) : (s.setOwed i v).budget = s.budget := rfl
@[simp] theorem setOwed_sequence (s : State) (i : Slot) (v : Bool) : (s.setOwed i v).sequence = s.sequence := rfl
@[simp] theorem setOwed_matching (s : State) (i : Slot) (v : Bool) : (s.setOwed i v).matching = s.matching := rfl
@[simp] theorem setOwed_path (s : State) (i : Slot) (v : Bool) : (s.setOwed i v).path = s.path := rfl
@[simp] theorem setOwed_link (s : State) (i : Slot) (v : Bool) : (s.setOwed i v).link = s.link := rfl
@[simp] theorem setOwed_orders (s : State) (i : Slot) (v : Bool) : (s.setOwed i v).orders = s.orders := rfl
@[simp] theorem setOwed_assembly (s : State) (i : Slot) (v : Bool) : (s.setOwed i v).assembly = s.assembly := rfl
@[simp] theorem setOwed_statusTimer (s : State) (i : Slot) (v : Bool) : (s.setOwed i v).statusTimer = s.statusTimer := rfl
@[simp] theorem setOwed_store (s : State) (i : Slot) (v : Bool) : (s.setOwed i v).store = s.store := rfl
@[simp] theorem setOwed_overrun (s : State) (i : Slot) (v : Bool) : (s.setOwed i v).overrun = s.overrun := rfl
@[simp] theorem setOwed_pending (s : State) (i : Slot) (v : Bool) : (s.setOwed i v).pending = s.pending := rfl

/-! ### setLink -/

@[simp] theorem setLink_inputs (s : State) (l : LinkManager) : (s.setLink l).inputs = s.inputs := rfl
@[simp] theorem setLink_now (s : State) (l : LinkManager) : (s.setLink l).now = s.now := rfl
@[simp] theorem setLink_settings (s : State) (l : LinkManager) : (s.setLink l).settings = s.settings := rfl
@[simp] theorem setLink_functions (s : State) (l : LinkManager) : (s.setLink l).functions = s.functions := rfl
@[simp] theorem setLink_holds (s : State) (l : LinkManager) : (s.setLink l).holds = s.holds := rfl
@[simp] theorem setLink_monitor (s : State) (l : LinkManager) : (s.setLink l).monitor = s.monitor := rfl
@[simp] theorem setLink_manifold (s : State) (l : LinkManager) : (s.setLink l).manifold = s.manifold := rfl
@[simp] theorem setLink_budget (s : State) (l : LinkManager) : (s.setLink l).budget = s.budget := rfl
@[simp] theorem setLink_sequence (s : State) (l : LinkManager) : (s.setLink l).sequence = s.sequence := rfl
@[simp] theorem setLink_wind (s : State) (l : LinkManager) : (s.setLink l).wind = s.wind := rfl
@[simp] theorem setLink_matching (s : State) (l : LinkManager) : (s.setLink l).matching = s.matching := rfl
@[simp] theorem setLink_path (s : State) (l : LinkManager) : (s.setLink l).path = s.path := rfl
@[simp] theorem setLink_orders (s : State) (l : LinkManager) : (s.setLink l).orders = s.orders := rfl
@[simp] theorem setLink_assembly (s : State) (l : LinkManager) : (s.setLink l).assembly = s.assembly := rfl
@[simp] theorem setLink_statusTimer (s : State) (l : LinkManager) : (s.setLink l).statusTimer = s.statusTimer := rfl
@[simp] theorem setLink_store (s : State) (l : LinkManager) : (s.setLink l).store = s.store := rfl
@[simp] theorem setLink_overrun (s : State) (l : LinkManager) : (s.setLink l).overrun = s.overrun := rfl
@[simp] theorem setLink_pending (s : State) (l : LinkManager) : (s.setLink l).pending = s.pending := rfl

/-! ### setMatching -/

@[simp] theorem setMatching_inputs (s : State) (m : MatchEngine) : (s.setMatching m).inputs = s.inputs := rfl
@[simp] theorem setMatching_now (s : State) (m : MatchEngine) : (s.setMatching m).now = s.now := rfl
@[simp] theorem setMatching_settings (s : State) (m : MatchEngine) : (s.setMatching m).settings = s.settings := rfl
@[simp] theorem setMatching_functions (s : State) (m : MatchEngine) : (s.setMatching m).functions = s.functions := rfl
@[simp] theorem setMatching_holds (s : State) (m : MatchEngine) : (s.setMatching m).holds = s.holds := rfl
@[simp] theorem setMatching_monitor (s : State) (m : MatchEngine) : (s.setMatching m).monitor = s.monitor := rfl
@[simp] theorem setMatching_manifold (s : State) (m : MatchEngine) : (s.setMatching m).manifold = s.manifold := rfl
@[simp] theorem setMatching_budget (s : State) (m : MatchEngine) : (s.setMatching m).budget = s.budget := rfl
@[simp] theorem setMatching_sequence (s : State) (m : MatchEngine) : (s.setMatching m).sequence = s.sequence := rfl
@[simp] theorem setMatching_wind (s : State) (m : MatchEngine) : (s.setMatching m).wind = s.wind := rfl
@[simp] theorem setMatching_path (s : State) (m : MatchEngine) : (s.setMatching m).path = s.path := rfl
@[simp] theorem setMatching_link (s : State) (m : MatchEngine) : (s.setMatching m).link = s.link := rfl
@[simp] theorem setMatching_orders (s : State) (m : MatchEngine) : (s.setMatching m).orders = s.orders := rfl
@[simp] theorem setMatching_assembly (s : State) (m : MatchEngine) : (s.setMatching m).assembly = s.assembly := rfl
@[simp] theorem setMatching_statusTimer (s : State) (m : MatchEngine) : (s.setMatching m).statusTimer = s.statusTimer := rfl
@[simp] theorem setMatching_store (s : State) (m : MatchEngine) : (s.setMatching m).store = s.store := rfl
@[simp] theorem setMatching_overrun (s : State) (m : MatchEngine) : (s.setMatching m).overrun = s.overrun := rfl
@[simp] theorem setMatching_pending (s : State) (m : MatchEngine) : (s.setMatching m).pending = s.pending := rfl

/-! ### setSignal -/

@[simp] theorem setSignal_inputs (s : State) (g : Signal) (r : SignalRecord) : (s.setSignal g r).inputs = s.inputs := rfl
@[simp] theorem setSignal_now (s : State) (g : Signal) (r : SignalRecord) : (s.setSignal g r).now = s.now := rfl
@[simp] theorem setSignal_settings (s : State) (g : Signal) (r : SignalRecord) : (s.setSignal g r).settings = s.settings := rfl
@[simp] theorem setSignal_functions (s : State) (g : Signal) (r : SignalRecord) : (s.setSignal g r).functions = s.functions := rfl
@[simp] theorem setSignal_holds (s : State) (g : Signal) (r : SignalRecord) : (s.setSignal g r).holds = s.holds := rfl
@[simp] theorem setSignal_manifold (s : State) (g : Signal) (r : SignalRecord) : (s.setSignal g r).manifold = s.manifold := rfl
@[simp] theorem setSignal_budget (s : State) (g : Signal) (r : SignalRecord) : (s.setSignal g r).budget = s.budget := rfl
@[simp] theorem setSignal_sequence (s : State) (g : Signal) (r : SignalRecord) : (s.setSignal g r).sequence = s.sequence := rfl
@[simp] theorem setSignal_wind (s : State) (g : Signal) (r : SignalRecord) : (s.setSignal g r).wind = s.wind := rfl
@[simp] theorem setSignal_matching (s : State) (g : Signal) (r : SignalRecord) : (s.setSignal g r).matching = s.matching := rfl
@[simp] theorem setSignal_path (s : State) (g : Signal) (r : SignalRecord) : (s.setSignal g r).path = s.path := rfl
@[simp] theorem setSignal_link (s : State) (g : Signal) (r : SignalRecord) : (s.setSignal g r).link = s.link := rfl
@[simp] theorem setSignal_orders (s : State) (g : Signal) (r : SignalRecord) : (s.setSignal g r).orders = s.orders := rfl
@[simp] theorem setSignal_assembly (s : State) (g : Signal) (r : SignalRecord) : (s.setSignal g r).assembly = s.assembly := rfl
@[simp] theorem setSignal_statusTimer (s : State) (g : Signal) (r : SignalRecord) : (s.setSignal g r).statusTimer = s.statusTimer := rfl
@[simp] theorem setSignal_store (s : State) (g : Signal) (r : SignalRecord) : (s.setSignal g r).store = s.store := rfl
@[simp] theorem setSignal_overrun (s : State) (g : Signal) (r : SignalRecord) : (s.setSignal g r).overrun = s.overrun := rfl
@[simp] theorem setSignal_pending (s : State) (g : Signal) (r : SignalRecord) : (s.setSignal g r).pending = s.pending := rfl

/-! ### setCfg -/

@[simp] theorem setCfg_inputs (s : State) (i : Slot) (c : FunctionConfig) : (s.setCfg i c).inputs = s.inputs := rfl
@[simp] theorem setCfg_now (s : State) (i : Slot) (c : FunctionConfig) : (s.setCfg i c).now = s.now := rfl
@[simp] theorem setCfg_functions (s : State) (i : Slot) (c : FunctionConfig) : (s.setCfg i c).functions = s.functions := rfl
@[simp] theorem setCfg_holds (s : State) (i : Slot) (c : FunctionConfig) : (s.setCfg i c).holds = s.holds := rfl
@[simp] theorem setCfg_monitor (s : State) (i : Slot) (c : FunctionConfig) : (s.setCfg i c).monitor = s.monitor := rfl
@[simp] theorem setCfg_manifold (s : State) (i : Slot) (c : FunctionConfig) : (s.setCfg i c).manifold = s.manifold := rfl
@[simp] theorem setCfg_budget (s : State) (i : Slot) (c : FunctionConfig) : (s.setCfg i c).budget = s.budget := rfl
@[simp] theorem setCfg_sequence (s : State) (i : Slot) (c : FunctionConfig) : (s.setCfg i c).sequence = s.sequence := rfl
@[simp] theorem setCfg_wind (s : State) (i : Slot) (c : FunctionConfig) : (s.setCfg i c).wind = s.wind := rfl
@[simp] theorem setCfg_matching (s : State) (i : Slot) (c : FunctionConfig) : (s.setCfg i c).matching = s.matching := rfl
@[simp] theorem setCfg_path (s : State) (i : Slot) (c : FunctionConfig) : (s.setCfg i c).path = s.path := rfl
@[simp] theorem setCfg_link (s : State) (i : Slot) (c : FunctionConfig) : (s.setCfg i c).link = s.link := rfl
@[simp] theorem setCfg_orders (s : State) (i : Slot) (c : FunctionConfig) : (s.setCfg i c).orders = s.orders := rfl
@[simp] theorem setCfg_assembly (s : State) (i : Slot) (c : FunctionConfig) : (s.setCfg i c).assembly = s.assembly := rfl
@[simp] theorem setCfg_statusTimer (s : State) (i : Slot) (c : FunctionConfig) : (s.setCfg i c).statusTimer = s.statusTimer := rfl
@[simp] theorem setCfg_store (s : State) (i : Slot) (c : FunctionConfig) : (s.setCfg i c).store = s.store := rfl
@[simp] theorem setCfg_overrun (s : State) (i : Slot) (c : FunctionConfig) : (s.setCfg i c).overrun = s.overrun := rfl
@[simp] theorem setCfg_pending (s : State) (i : Slot) (c : FunctionConfig) : (s.setCfg i c).pending = s.pending := rfl

/-! ### setQueue -/

@[simp] theorem setQueue_inputs (s : State) (q : List OrderEntry) : (s.setQueue q).inputs = s.inputs := rfl
@[simp] theorem setQueue_now (s : State) (q : List OrderEntry) : (s.setQueue q).now = s.now := rfl
@[simp] theorem setQueue_settings (s : State) (q : List OrderEntry) : (s.setQueue q).settings = s.settings := rfl
@[simp] theorem setQueue_functions (s : State) (q : List OrderEntry) : (s.setQueue q).functions = s.functions := rfl
@[simp] theorem setQueue_holds (s : State) (q : List OrderEntry) : (s.setQueue q).holds = s.holds := rfl
@[simp] theorem setQueue_monitor (s : State) (q : List OrderEntry) : (s.setQueue q).monitor = s.monitor := rfl
@[simp] theorem setQueue_manifold (s : State) (q : List OrderEntry) : (s.setQueue q).manifold = s.manifold := rfl
@[simp] theorem setQueue_budget (s : State) (q : List OrderEntry) : (s.setQueue q).budget = s.budget := rfl
@[simp] theorem setQueue_sequence (s : State) (q : List OrderEntry) : (s.setQueue q).sequence = s.sequence := rfl
@[simp] theorem setQueue_wind (s : State) (q : List OrderEntry) : (s.setQueue q).wind = s.wind := rfl
@[simp] theorem setQueue_matching (s : State) (q : List OrderEntry) : (s.setQueue q).matching = s.matching := rfl
@[simp] theorem setQueue_path (s : State) (q : List OrderEntry) : (s.setQueue q).path = s.path := rfl
@[simp] theorem setQueue_link (s : State) (q : List OrderEntry) : (s.setQueue q).link = s.link := rfl
@[simp] theorem setQueue_assembly (s : State) (q : List OrderEntry) : (s.setQueue q).assembly = s.assembly := rfl
@[simp] theorem setQueue_statusTimer (s : State) (q : List OrderEntry) : (s.setQueue q).statusTimer = s.statusTimer := rfl
@[simp] theorem setQueue_store (s : State) (q : List OrderEntry) : (s.setQueue q).store = s.store := rfl
@[simp] theorem setQueue_overrun (s : State) (q : List OrderEntry) : (s.setQueue q).overrun = s.overrun := rfl
@[simp] theorem setQueue_pending (s : State) (q : List OrderEntry) : (s.setQueue q).pending = s.pending := rfl

/-! ### mapOrder -/

@[simp] theorem mapOrder_inputs (s : State) (node channel : Nat) (g : OrderRecord → OrderRecord) : (s.mapOrder node channel g).inputs = s.inputs := rfl
@[simp] theorem mapOrder_now (s : State) (node channel : Nat) (g : OrderRecord → OrderRecord) : (s.mapOrder node channel g).now = s.now := rfl
@[simp] theorem mapOrder_settings (s : State) (node channel : Nat) (g : OrderRecord → OrderRecord) : (s.mapOrder node channel g).settings = s.settings := rfl
@[simp] theorem mapOrder_functions (s : State) (node channel : Nat) (g : OrderRecord → OrderRecord) : (s.mapOrder node channel g).functions = s.functions := rfl
@[simp] theorem mapOrder_holds (s : State) (node channel : Nat) (g : OrderRecord → OrderRecord) : (s.mapOrder node channel g).holds = s.holds := rfl
@[simp] theorem mapOrder_monitor (s : State) (node channel : Nat) (g : OrderRecord → OrderRecord) : (s.mapOrder node channel g).monitor = s.monitor := rfl
@[simp] theorem mapOrder_manifold (s : State) (node channel : Nat) (g : OrderRecord → OrderRecord) : (s.mapOrder node channel g).manifold = s.manifold := rfl
@[simp] theorem mapOrder_budget (s : State) (node channel : Nat) (g : OrderRecord → OrderRecord) : (s.mapOrder node channel g).budget = s.budget := rfl
@[simp] theorem mapOrder_sequence (s : State) (node channel : Nat) (g : OrderRecord → OrderRecord) : (s.mapOrder node channel g).sequence = s.sequence := rfl
@[simp] theorem mapOrder_wind (s : State) (node channel : Nat) (g : OrderRecord → OrderRecord) : (s.mapOrder node channel g).wind = s.wind := rfl
@[simp] theorem mapOrder_matching (s : State) (node channel : Nat) (g : OrderRecord → OrderRecord) : (s.mapOrder node channel g).matching = s.matching := rfl
@[simp] theorem mapOrder_path (s : State) (node channel : Nat) (g : OrderRecord → OrderRecord) : (s.mapOrder node channel g).path = s.path := rfl
@[simp] theorem mapOrder_link (s : State) (node channel : Nat) (g : OrderRecord → OrderRecord) : (s.mapOrder node channel g).link = s.link := rfl
@[simp] theorem mapOrder_assembly (s : State) (node channel : Nat) (g : OrderRecord → OrderRecord) : (s.mapOrder node channel g).assembly = s.assembly := rfl
@[simp] theorem mapOrder_statusTimer (s : State) (node channel : Nat) (g : OrderRecord → OrderRecord) : (s.mapOrder node channel g).statusTimer = s.statusTimer := rfl
@[simp] theorem mapOrder_store (s : State) (node channel : Nat) (g : OrderRecord → OrderRecord) : (s.mapOrder node channel g).store = s.store := rfl
@[simp] theorem mapOrder_overrun (s : State) (node channel : Nat) (g : OrderRecord → OrderRecord) : (s.mapOrder node channel g).overrun = s.overrun := rfl
@[simp] theorem mapOrder_pending (s : State) (node channel : Nat) (g : OrderRecord → OrderRecord) : (s.mapOrder node channel g).pending = s.pending := rfl

/-! ### addClaim -/

@[simp] theorem addClaim_inputs (s : State) (who : Claimant) (amps : Nat) : (addClaim who amps s).inputs = s.inputs := rfl
@[simp] theorem addClaim_now (s : State) (who : Claimant) (amps : Nat) : (addClaim who amps s).now = s.now := rfl
@[simp] theorem addClaim_settings (s : State) (who : Claimant) (amps : Nat) : (addClaim who amps s).settings = s.settings := rfl
@[simp] theorem addClaim_functions (s : State) (who : Claimant) (amps : Nat) : (addClaim who amps s).functions = s.functions := rfl
@[simp] theorem addClaim_holds (s : State) (who : Claimant) (amps : Nat) : (addClaim who amps s).holds = s.holds := rfl
@[simp] theorem addClaim_monitor (s : State) (who : Claimant) (amps : Nat) : (addClaim who amps s).monitor = s.monitor := rfl
@[simp] theorem addClaim_manifold (s : State) (who : Claimant) (amps : Nat) : (addClaim who amps s).manifold = s.manifold := rfl
@[simp] theorem addClaim_sequence (s : State) (who : Claimant) (amps : Nat) : (addClaim who amps s).sequence = s.sequence := rfl
@[simp] theorem addClaim_wind (s : State) (who : Claimant) (amps : Nat) : (addClaim who amps s).wind = s.wind := rfl
@[simp] theorem addClaim_matching (s : State) (who : Claimant) (amps : Nat) : (addClaim who amps s).matching = s.matching := rfl
@[simp] theorem addClaim_path (s : State) (who : Claimant) (amps : Nat) : (addClaim who amps s).path = s.path := rfl
@[simp] theorem addClaim_link (s : State) (who : Claimant) (amps : Nat) : (addClaim who amps s).link = s.link := rfl
@[simp] theorem addClaim_orders (s : State) (who : Claimant) (amps : Nat) : (addClaim who amps s).orders = s.orders := rfl
@[simp] theorem addClaim_assembly (s : State) (who : Claimant) (amps : Nat) : (addClaim who amps s).assembly = s.assembly := rfl
@[simp] theorem addClaim_statusTimer (s : State) (who : Claimant) (amps : Nat) : (addClaim who amps s).statusTimer = s.statusTimer := rfl
@[simp] theorem addClaim_store (s : State) (who : Claimant) (amps : Nat) : (addClaim who amps s).store = s.store := rfl
@[simp] theorem addClaim_overrun (s : State) (who : Claimant) (amps : Nat) : (addClaim who amps s).overrun = s.overrun := rfl
@[simp] theorem addClaim_pending (s : State) (who : Claimant) (amps : Nat) : (addClaim who amps s).pending = s.pending := rfl

/-! ### dropClaim -/

@[simp] theorem dropClaim_inputs (s : State) (who : Claimant) : (dropClaim who s).inputs = s.inputs := rfl
@[simp] theorem dropClaim_now (s : State) (who : Claimant) : (dropClaim who s).now = s.now := rfl
@[simp] theorem dropClaim_settings (s : State) (who : Claimant) : (dropClaim who s).settings = s.settings := rfl
@[simp] theorem dropClaim_functions (s : State) (who : Claimant) : (dropClaim who s).functions = s.functions := rfl
@[simp] theorem dropClaim_holds (s : State) (who : Claimant) : (dropClaim who s).holds = s.holds := rfl
@[simp] theorem dropClaim_monitor (s : State) (who : Claimant) : (dropClaim who s).monitor = s.monitor := rfl
@[simp] theorem dropClaim_manifold (s : State) (who : Claimant) : (dropClaim who s).manifold = s.manifold := rfl
@[simp] theorem dropClaim_sequence (s : State) (who : Claimant) : (dropClaim who s).sequence = s.sequence := rfl
@[simp] theorem dropClaim_wind (s : State) (who : Claimant) : (dropClaim who s).wind = s.wind := rfl
@[simp] theorem dropClaim_matching (s : State) (who : Claimant) : (dropClaim who s).matching = s.matching := rfl
@[simp] theorem dropClaim_path (s : State) (who : Claimant) : (dropClaim who s).path = s.path := rfl
@[simp] theorem dropClaim_link (s : State) (who : Claimant) : (dropClaim who s).link = s.link := rfl
@[simp] theorem dropClaim_orders (s : State) (who : Claimant) : (dropClaim who s).orders = s.orders := rfl
@[simp] theorem dropClaim_assembly (s : State) (who : Claimant) : (dropClaim who s).assembly = s.assembly := rfl
@[simp] theorem dropClaim_statusTimer (s : State) (who : Claimant) : (dropClaim who s).statusTimer = s.statusTimer := rfl
@[simp] theorem dropClaim_store (s : State) (who : Claimant) : (dropClaim who s).store = s.store := rfl
@[simp] theorem dropClaim_overrun (s : State) (who : Claimant) : (dropClaim who s).overrun = s.overrun := rfl
@[simp] theorem dropClaim_pending (s : State) (who : Claimant) : (dropClaim who s).pending = s.pending := rfl

/-! ### setStopAll -/

@[simp] theorem setStopAll_now (s : State) (v : Bool) : (setStopAll v s).now = s.now := rfl
@[simp] theorem setStopAll_settings (s : State) (v : Bool) : (setStopAll v s).settings = s.settings := rfl
@[simp] theorem setStopAll_functions (s : State) (v : Bool) : (setStopAll v s).functions = s.functions := rfl
@[simp] theorem setStopAll_holds (s : State) (v : Bool) : (setStopAll v s).holds = s.holds := rfl
@[simp] theorem setStopAll_monitor (s : State) (v : Bool) : (setStopAll v s).monitor = s.monitor := rfl
@[simp] theorem setStopAll_manifold (s : State) (v : Bool) : (setStopAll v s).manifold = s.manifold := rfl
@[simp] theorem setStopAll_budget (s : State) (v : Bool) : (setStopAll v s).budget = s.budget := rfl
@[simp] theorem setStopAll_sequence (s : State) (v : Bool) : (setStopAll v s).sequence = s.sequence := rfl
@[simp] theorem setStopAll_wind (s : State) (v : Bool) : (setStopAll v s).wind = s.wind := rfl
@[simp] theorem setStopAll_matching (s : State) (v : Bool) : (setStopAll v s).matching = s.matching := rfl
@[simp] theorem setStopAll_path (s : State) (v : Bool) : (setStopAll v s).path = s.path := rfl
@[simp] theorem setStopAll_link (s : State) (v : Bool) : (setStopAll v s).link = s.link := rfl
@[simp] theorem setStopAll_orders (s : State) (v : Bool) : (setStopAll v s).orders = s.orders := rfl
@[simp] theorem setStopAll_assembly (s : State) (v : Bool) : (setStopAll v s).assembly = s.assembly := rfl
@[simp] theorem setStopAll_statusTimer (s : State) (v : Bool) : (setStopAll v s).statusTimer = s.statusTimer := rfl
@[simp] theorem setStopAll_store (s : State) (v : Bool) : (setStopAll v s).store = s.store := rfl
@[simp] theorem setStopAll_overrun (s : State) (v : Bool) : (setStopAll v s).overrun = s.overrun := rfl
@[simp] theorem setStopAll_pending (s : State) (v : Bool) : (setStopAll v s).pending = s.pending := rfl

/-! ### What the updates write -/

@[simp] theorem setManifold_manifold (s : State) (m : Manifold) : (s.setManifold m).manifold = m := rfl
@[simp] theorem setSeq_sequence (s : State) (q : Sequence) : (s.setSeq q).sequence = q := rfl
@[simp] theorem setWind_wind (s : State) (w : WindRecord) : (s.setWind w).wind = w := rfl
@[simp] theorem setLink_link (s : State) (l : LinkManager) : (s.setLink l).link = l := rfl
@[simp] theorem setMatching_matching (s : State) (m : MatchEngine) : (s.setMatching m).matching = m := rfl
@[simp] theorem setQueue_queue (s : State) (q : List OrderEntry) : (s.setQueue q).orders.queue = q := rfl
@[simp] theorem setQueue_records (s : State) (q : List OrderEntry) :
    (s.setQueue q).orders.records = s.orders.records := rfl
@[simp] theorem mapOrder_queue (s : State) (node channel : Nat) (g : OrderRecord → OrderRecord) :
    (s.mapOrder node channel g).orders.queue = s.orders.queue := rfl
@[simp] theorem setStopAll_stopAll (s : State) (v : Bool) : (setStopAll v s).inputs.stopAll = v := rfl
@[simp] theorem dropClaim_claims (s : State) (who : Claimant) :
    (dropClaim who s).budget.claims = s.budget.claims.filter fun c => c.claimant != who := rfl
@[simp] theorem addClaim_claims (s : State) (who : Claimant) (amps : Nat) :
    (addClaim who amps s).budget.claims = s.budget.claims ++ [⟨who, amps⟩] := rfl
@[simp] theorem addClaim_effectiveLimit (s : State) (who : Claimant) (amps : Nat) :
    (addClaim who amps s).budget.effectiveLimit = s.budget.effectiveLimit := rfl
@[simp] theorem dropClaim_effectiveLimit (s : State) (who : Claimant) :
    (dropClaim who s).budget.effectiveLimit = s.budget.effectiveLimit := rfl

@[simp] theorem storeFn_fn (s : State) (i : Slot) (f : Function) : (s.storeFn i f).fn i = f := by
  simp [State.fn, State.storeFn]

theorem storeFn_fn_ne (s : State) {i j : Slot} (f : Function) (h : i ≠ j) : (s.storeFn i f).fn j = s.fn j := by
  have h' : i.val ≠ j.val := fun e => h (Fin.ext e)
  simp [State.fn, State.storeFn, h']

@[simp] theorem putHold_hold (s : State) (i : Slot) (h : Hold) : (putHold i h s).hold i = h := by
  simp [State.hold, putHold]

theorem putHold_hold_ne (s : State) {i j : Slot} (h : Hold) (hij : i ≠ j) :
    (putHold i h s).hold j = s.hold j := by
  have h' : i.val ≠ j.val := fun e => hij (Fin.ext e)
  simp [State.hold, putHold, h']

@[simp] theorem setSignal_signal (s : State) (g : Signal) (r : SignalRecord) :
    (s.setSignal g r).signal g = r := by
  simp [State.signal, State.setSignal]

theorem setSignal_signal_ne (s : State) {g k : Signal} (r : SignalRecord) (h : signalIndex g ≠ signalIndex k) :
    (s.setSignal g r).signal k = s.signal k := by
  have h' : (signalIndex g).val ≠ (signalIndex k).val := fun e => h (Fin.ext e)
  simp [State.signal, State.setSignal, h']

theorem setNode_node (s : State) {n : Nat} (x : Node) (h : 1 ≤ n ∧ n ≤ 24) : (s.setNode n x).node n = x := by
  simp [State.node, State.setNode, nodeIndex, h]

@[simp] theorem setCfg_cfg (s : State) (i : Slot) (c : FunctionConfig) : (s.setCfg i c).cfg i = c := by
  simp [State.cfg, State.setCfg]

end Sys2Proof.Laws
end

