-- ==== Sys2Proof/Laws/Frames.lean ====
section
/-! SUPPORT. Which blocks of the state each operation leaves as it was: one lemma for each operation, each a
conjunction that simp reads as its parts. What Laws/Kept.lean says of the lines and the configuration is not
said again. -/

namespace Sys2Proof.Laws
open Sys2Proof.Machine

/-- A fold of an operation that leaves a part as it was leaves it. -/
theorem foldl_part {α β : Type} (p : State → β) {f : State → α → State} (h : ∀ s a, p (f s a) = p s)
    (l : List α) (s : State) : p (l.foldl f s) = p s := by
  induction l generalizing s with
  | nil => rfl
  | cons a l ih => exact (ih (f s a)).trans (h s a)

@[simp] theorem foldl_functions {α : Type} {f : State → α → State} (h : ∀ s a, (f s a).functions = s.functions) (l : List α)
    (s : State) : (l.foldl f s).functions = s.functions := foldl_part (·.functions) h l s

@[simp] theorem foldl_holds {α : Type} {f : State → α → State} (h : ∀ s a, (f s a).holds = s.holds) (l : List α)
    (s : State) : (l.foldl f s).holds = s.holds := foldl_part (·.holds) h l s

@[simp] theorem foldl_monitor {α : Type} {f : State → α → State} (h : ∀ s a, (f s a).monitor = s.monitor) (l : List α)
    (s : State) : (l.foldl f s).monitor = s.monitor := foldl_part (·.monitor) h l s

@[simp] theorem foldl_manifold {α : Type} {f : State → α → State} (h : ∀ s a, (f s a).manifold = s.manifold) (l : List α)
    (s : State) : (l.foldl f s).manifold = s.manifold := foldl_part (·.manifold) h l s

@[simp] theorem foldl_budget {α : Type} {f : State → α → State} (h : ∀ s a, (f s a).budget = s.budget) (l : List α)
    (s : State) : (l.foldl f s).budget = s.budget := foldl_part (·.budget) h l s

@[simp] theorem foldl_sequence {α : Type} {f : State → α → State} (h : ∀ s a, (f s a).sequence = s.sequence) (l : List α)
    (s : State) : (l.foldl f s).sequence = s.sequence := foldl_part (·.sequence) h l s

@[simp] theorem foldl_wind {α : Type} {f : State → α → State} (h : ∀ s a, (f s a).wind = s.wind) (l : List α)
    (s : State) : (l.foldl f s).wind = s.wind := foldl_part (·.wind) h l s

@[simp] theorem foldl_matching {α : Type} {f : State → α → State} (h : ∀ s a, (f s a).matching = s.matching) (l : List α)
    (s : State) : (l.foldl f s).matching = s.matching := foldl_part (·.matching) h l s

@[simp] theorem foldl_path {α : Type} {f : State → α → State} (h : ∀ s a, (f s a).path = s.path) (l : List α)
    (s : State) : (l.foldl f s).path = s.path := foldl_part (·.path) h l s

@[simp] theorem foldl_link {α : Type} {f : State → α → State} (h : ∀ s a, (f s a).link = s.link) (l : List α)
    (s : State) : (l.foldl f s).link = s.link := foldl_part (·.link) h l s

@[simp] theorem foldl_orders {α : Type} {f : State → α → State} (h : ∀ s a, (f s a).orders = s.orders) (l : List α)
    (s : State) : (l.foldl f s).orders = s.orders := foldl_part (·.orders) h l s

@[simp] theorem foldl_assembly {α : Type} {f : State → α → State} (h : ∀ s a, (f s a).assembly = s.assembly) (l : List α)
    (s : State) : (l.foldl f s).assembly = s.assembly := foldl_part (·.assembly) h l s

@[simp] theorem foldl_statusTimer {α : Type} {f : State → α → State} (h : ∀ s a, (f s a).statusTimer = s.statusTimer) (l : List α)
    (s : State) : (l.foldl f s).statusTimer = s.statusTimer := foldl_part (·.statusTimer) h l s

@[simp] theorem foldl_store {α : Type} {f : State → α → State} (h : ∀ s a, (f s a).store = s.store) (l : List α)
    (s : State) : (l.foldl f s).store = s.store := foldl_part (·.store) h l s


/-! ### Machine/Ops.lean -/

@[simp] theorem setNode_frame (s : State) (n : Nat) (x : Node) :
    (s.setNode n x).functions = s.functions
      ∧ (s.setNode n x).holds = s.holds
      ∧ (s.setNode n x).monitor = s.monitor
      ∧ (s.setNode n x).manifold = s.manifold
      ∧ (s.setNode n x).budget = s.budget
      ∧ (s.setNode n x).sequence = s.sequence
      ∧ (s.setNode n x).wind = s.wind
      ∧ (s.setNode n x).matching = s.matching
      ∧ (s.setNode n x).path = s.path
      ∧ (s.setNode n x).orders = s.orders
      ∧ (s.setNode n x).assembly = s.assembly
      ∧ (s.setNode n x).statusTimer = s.statusTimer
      ∧ (s.setNode n x).store = s.store := by
  simp only [State.setNode]; split <;> simp

@[simp] theorem pumpC_frame (s : State) :
    (pumpC s).functions = s.functions
      ∧ (pumpC s).holds = s.holds
      ∧ (pumpC s).monitor = s.monitor
      ∧ (pumpC s).manifold = s.manifold
      ∧ (pumpC s).budget = s.budget
      ∧ (pumpC s).sequence = s.sequence
      ∧ (pumpC s).wind = s.wind
      ∧ (pumpC s).matching = s.matching
      ∧ (pumpC s).link = s.link
      ∧ (pumpC s).orders = s.orders
      ∧ (pumpC s).assembly = s.assembly
      ∧ (pumpC s).statusTimer = s.statusTimer
      ∧ (pumpC s).store = s.store := by
  simp only [pumpC]; (repeat' split) <;> simp

@[simp] theorem placeC_frame (new : TxEntry) (s : State) :
    (placeC new s).functions = s.functions
      ∧ (placeC new s).holds = s.holds
      ∧ (placeC new s).monitor = s.monitor
      ∧ (placeC new s).manifold = s.manifold
      ∧ (placeC new s).budget = s.budget
      ∧ (placeC new s).sequence = s.sequence
      ∧ (placeC new s).wind = s.wind
      ∧ (placeC new s).link = s.link
      ∧ (placeC new s).orders = s.orders
      ∧ (placeC new s).assembly = s.assembly
      ∧ (placeC new s).statusTimer = s.statusTimer
      ∧ (placeC new s).store = s.store := by
  simp only [placeC]; (repeat' split) <;> simp

@[simp] theorem queueC_frame (new : TxEntry) (s : State) :
    (queueC new s).functions = s.functions
      ∧ (queueC new s).holds = s.holds
      ∧ (queueC new s).monitor = s.monitor
      ∧ (queueC new s).manifold = s.manifold
      ∧ (queueC new s).budget = s.budget
      ∧ (queueC new s).sequence = s.sequence
      ∧ (queueC new s).wind = s.wind
      ∧ (queueC new s).link = s.link
      ∧ (queueC new s).orders = s.orders
      ∧ (queueC new s).assembly = s.assembly
      ∧ (queueC new s).statusTimer = s.statusTimer
      ∧ (queueC new s).store = s.store := by
  simp only [queueC]; (repeat' split) <;> simp

@[simp] theorem queueStatus_frame (kind : Nat) (cls : TxClass) (subject : Subject) (bytes : List Byte) (s : State) :
    (queueStatus kind cls subject bytes s).functions = s.functions
      ∧ (queueStatus kind cls subject bytes s).holds = s.holds
      ∧ (queueStatus kind cls subject bytes s).monitor = s.monitor
      ∧ (queueStatus kind cls subject bytes s).manifold = s.manifold
      ∧ (queueStatus kind cls subject bytes s).budget = s.budget
      ∧ (queueStatus kind cls subject bytes s).sequence = s.sequence
      ∧ (queueStatus kind cls subject bytes s).wind = s.wind
      ∧ (queueStatus kind cls subject bytes s).link = s.link
      ∧ (queueStatus kind cls subject bytes s).orders = s.orders
      ∧ (queueStatus kind cls subject bytes s).assembly = s.assembly
      ∧ (queueStatus kind cls subject bytes s).statusTimer = s.statusTimer
      ∧ (queueStatus kind cls subject bytes s).store = s.store := by
  simp only [queueStatus]; (repeat' split) <;> simp

@[simp] theorem postureFrame_frame (cls : TxClass) (s : State) :
    (postureFrame cls s).functions = s.functions
      ∧ (postureFrame cls s).holds = s.holds
      ∧ (postureFrame cls s).monitor = s.monitor
      ∧ (postureFrame cls s).manifold = s.manifold
      ∧ (postureFrame cls s).budget = s.budget
      ∧ (postureFrame cls s).sequence = s.sequence
      ∧ (postureFrame cls s).wind = s.wind
      ∧ (postureFrame cls s).link = s.link
      ∧ (postureFrame cls s).orders = s.orders
      ∧ (postureFrame cls s).assembly = s.assembly
      ∧ (postureFrame cls s).statusTimer = s.statusTimer
      ∧ (postureFrame cls s).store = s.store := by
  simp only [postureFrame]; (repeat' split) <;> simp

@[simp] theorem functionFrame_frame (cls : TxClass) (i : Slot) (s : State) :
    (functionFrame cls i s).functions = s.functions
      ∧ (functionFrame cls i s).holds = s.holds
      ∧ (functionFrame cls i s).monitor = s.monitor
      ∧ (functionFrame cls i s).manifold = s.manifold
      ∧ (functionFrame cls i s).budget = s.budget
      ∧ (functionFrame cls i s).sequence = s.sequence
      ∧ (functionFrame cls i s).wind = s.wind
      ∧ (functionFrame cls i s).link = s.link
      ∧ (functionFrame cls i s).orders = s.orders
      ∧ (functionFrame cls i s).assembly = s.assembly
      ∧ (functionFrame cls i s).statusTimer = s.statusTimer
      ∧ (functionFrame cls i s).store = s.store := by
  simp only [functionFrame]; (repeat' split) <;> simp

@[simp] theorem levelFrame_frame (s : State) :
    (levelFrame s).functions = s.functions
      ∧ (levelFrame s).holds = s.holds
      ∧ (levelFrame s).monitor = s.monitor
      ∧ (levelFrame s).manifold = s.manifold
      ∧ (levelFrame s).budget = s.budget
      ∧ (levelFrame s).sequence = s.sequence
      ∧ (levelFrame s).wind = s.wind
      ∧ (levelFrame s).link = s.link
      ∧ (levelFrame s).orders = s.orders
      ∧ (levelFrame s).assembly = s.assembly
      ∧ (levelFrame s).statusTimer = s.statusTimer
      ∧ (levelFrame s).store = s.store := by
  simp only [levelFrame]; (repeat' split) <;> simp

@[simp] theorem refusalFrame_frame (i : Slot) (verb : Nat) (r : RefusalReason) (s : State) :
    (refusalFrame i verb r s).functions = s.functions
      ∧ (refusalFrame i verb r s).holds = s.holds
      ∧ (refusalFrame i verb r s).monitor = s.monitor
      ∧ (refusalFrame i verb r s).manifold = s.manifold
      ∧ (refusalFrame i verb r s).budget = s.budget
      ∧ (refusalFrame i verb r s).sequence = s.sequence
      ∧ (refusalFrame i verb r s).wind = s.wind
      ∧ (refusalFrame i verb r s).link = s.link
      ∧ (refusalFrame i verb r s).orders = s.orders
      ∧ (refusalFrame i verb r s).assembly = s.assembly
      ∧ (refusalFrame i verb r s).statusTimer = s.statusTimer
      ∧ (refusalFrame i verb r s).store = s.store := by
  simp only [refusalFrame]; (repeat' split) <;> simp

@[simp] theorem refusalSeqFrame_frame (k : SeqKind) (verb : Nat) (r : RefusalReason) (s : State) :
    (refusalSeqFrame k verb r s).functions = s.functions
      ∧ (refusalSeqFrame k verb r s).holds = s.holds
      ∧ (refusalSeqFrame k verb r s).monitor = s.monitor
      ∧ (refusalSeqFrame k verb r s).manifold = s.manifold
      ∧ (refusalSeqFrame k verb r s).budget = s.budget
      ∧ (refusalSeqFrame k verb r s).sequence = s.sequence
      ∧ (refusalSeqFrame k verb r s).wind = s.wind
      ∧ (refusalSeqFrame k verb r s).link = s.link
      ∧ (refusalSeqFrame k verb r s).orders = s.orders
      ∧ (refusalSeqFrame k verb r s).assembly = s.assembly
      ∧ (refusalSeqFrame k verb r s).statusTimer = s.statusTimer
      ∧ (refusalSeqFrame k verb r s).store = s.store := by
  simp only [refusalSeqFrame]; (repeat' split) <;> simp

@[simp] theorem alarmFrame_frame (s : State) :
    (alarmFrame s).functions = s.functions
      ∧ (alarmFrame s).holds = s.holds
      ∧ (alarmFrame s).monitor = s.monitor
      ∧ (alarmFrame s).manifold = s.manifold
      ∧ (alarmFrame s).budget = s.budget
      ∧ (alarmFrame s).sequence = s.sequence
      ∧ (alarmFrame s).wind = s.wind
      ∧ (alarmFrame s).link = s.link
      ∧ (alarmFrame s).orders = s.orders
      ∧ (alarmFrame s).assembly = s.assembly
      ∧ (alarmFrame s).statusTimer = s.statusTimer
      ∧ (alarmFrame s).store = s.store := by
  simp only [alarmFrame]; (repeat' split) <;> simp

@[simp] theorem judgeLevelled_frame (i : Slot) (old new : Function) (s : State) :
    (judgeLevelled i old new s).functions = s.functions
      ∧ (judgeLevelled i old new s).holds = s.holds
      ∧ (judgeLevelled i old new s).manifold = s.manifold
      ∧ (judgeLevelled i old new s).budget = s.budget
      ∧ (judgeLevelled i old new s).sequence = s.sequence
      ∧ (judgeLevelled i old new s).wind = s.wind
      ∧ (judgeLevelled i old new s).matching = s.matching
      ∧ (judgeLevelled i old new s).path = s.path
      ∧ (judgeLevelled i old new s).link = s.link
      ∧ (judgeLevelled i old new s).orders = s.orders
      ∧ (judgeLevelled i old new s).assembly = s.assembly
      ∧ (judgeLevelled i old new s).statusTimer = s.statusTimer
      ∧ (judgeLevelled i old new s).store = s.store := by
  simp only [judgeLevelled]; (repeat' split) <;> simp

@[simp] theorem judgeOwedStowed_frame (i : Slot) (old new : Function) (s : State) :
    (judgeOwedStowed i old new s).functions = s.functions
      ∧ (judgeOwedStowed i old new s).holds = s.holds
      ∧ (judgeOwedStowed i old new s).monitor = s.monitor
      ∧ (judgeOwedStowed i old new s).manifold = s.manifold
      ∧ (judgeOwedStowed i old new s).budget = s.budget
      ∧ (judgeOwedStowed i old new s).sequence = s.sequence
      ∧ (judgeOwedStowed i old new s).matching = s.matching
      ∧ (judgeOwedStowed i old new s).path = s.path
      ∧ (judgeOwedStowed i old new s).link = s.link
      ∧ (judgeOwedStowed i old new s).orders = s.orders
      ∧ (judgeOwedStowed i old new s).assembly = s.assembly
      ∧ (judgeOwedStowed i old new s).statusTimer = s.statusTimer
      ∧ (judgeOwedStowed i old new s).store = s.store := by
  simp only [judgeOwedStowed]; (repeat' split) <;> simp

@[simp] theorem putFn_frame (i : Slot) (f : Function) (s : State) :
    (putFn i f s).holds = s.holds
      ∧ (putFn i f s).manifold = s.manifold
      ∧ (putFn i f s).budget = s.budget
      ∧ (putFn i f s).sequence = s.sequence
      ∧ (putFn i f s).link = s.link
      ∧ (putFn i f s).orders = s.orders
      ∧ (putFn i f s).assembly = s.assembly
      ∧ (putFn i f s).statusTimer = s.statusTimer
      ∧ (putFn i f s).store = s.store := by
  simp only [putFn]; (repeat' split) <;> simp

@[simp] theorem refuseHold_frame (i : Slot) (s : State) :
    (refuseHold i s).functions = s.functions
      ∧ (refuseHold i s).monitor = s.monitor
      ∧ (refuseHold i s).manifold = s.manifold
      ∧ (refuseHold i s).budget = s.budget
      ∧ (refuseHold i s).sequence = s.sequence
      ∧ (refuseHold i s).wind = s.wind
      ∧ (refuseHold i s).matching = s.matching
      ∧ (refuseHold i s).path = s.path
      ∧ (refuseHold i s).link = s.link
      ∧ (refuseHold i s).orders = s.orders
      ∧ (refuseHold i s).assembly = s.assembly
      ∧ (refuseHold i s).statusTimer = s.statusTimer
      ∧ (refuseHold i s).store = s.store := by
  simp only [refuseHold]; (repeat' split) <;> simp

@[simp] theorem queueReply_frame (code tag : Byte) (o : ReplyOutcome) (result : List Byte) (s : State) :
    (queueReply code tag o result s).functions = s.functions
      ∧ (queueReply code tag o result s).holds = s.holds
      ∧ (queueReply code tag o result s).monitor = s.monitor
      ∧ (queueReply code tag o result s).manifold = s.manifold
      ∧ (queueReply code tag o result s).budget = s.budget
      ∧ (queueReply code tag o result s).sequence = s.sequence
      ∧ (queueReply code tag o result s).wind = s.wind
      ∧ (queueReply code tag o result s).link = s.link
      ∧ (queueReply code tag o result s).orders = s.orders
      ∧ (queueReply code tag o result s).assembly = s.assembly
      ∧ (queueReply code tag o result s).statusTimer = s.statusTimer
      ∧ (queueReply code tag o result s).store = s.store := by
  simp only [queueReply]; (repeat' split) <;> simp

@[simp] theorem queueData_frame (k : Nat) (bytes : List Byte) (s : State) :
    (queueData k bytes s).functions = s.functions
      ∧ (queueData k bytes s).holds = s.holds
      ∧ (queueData k bytes s).monitor = s.monitor
      ∧ (queueData k bytes s).manifold = s.manifold
      ∧ (queueData k bytes s).budget = s.budget
      ∧ (queueData k bytes s).sequence = s.sequence
      ∧ (queueData k bytes s).wind = s.wind
      ∧ (queueData k bytes s).link = s.link
      ∧ (queueData k bytes s).orders = s.orders
      ∧ (queueData k bytes s).assembly = s.assembly
      ∧ (queueData k bytes s).statusTimer = s.statusTimer
      ∧ (queueData k bytes s).store = s.store := by
  simp only [queueData]; (repeat' split) <;> simp

/-! ### Machine/Orders.lean -/

@[simp] theorem clearMarks_frame (r : OrderRecord) (s : State) :
    (clearMarks r s).functions = s.functions
      ∧ (clearMarks r s).holds = s.holds
      ∧ (clearMarks r s).monitor = s.monitor
      ∧ (clearMarks r s).manifold = s.manifold
      ∧ (clearMarks r s).budget = s.budget
      ∧ (clearMarks r s).sequence = s.sequence
      ∧ (clearMarks r s).wind = s.wind
      ∧ (clearMarks r s).matching = s.matching
      ∧ (clearMarks r s).path = s.path
      ∧ (clearMarks r s).link = s.link
      ∧ (clearMarks r s).assembly = s.assembly
      ∧ (clearMarks r s).statusTimer = s.statusTimer
      ∧ (clearMarks r s).store = s.store := by
  simp only [clearMarks]; (repeat' split) <;> simp

@[simp] theorem placeFull_frame (r : OrderRecord) (s : State) :
    (placeFull r s).functions = s.functions
      ∧ (placeFull r s).holds = s.holds
      ∧ (placeFull r s).monitor = s.monitor
      ∧ (placeFull r s).manifold = s.manifold
      ∧ (placeFull r s).budget = s.budget
      ∧ (placeFull r s).sequence = s.sequence
      ∧ (placeFull r s).wind = s.wind
      ∧ (placeFull r s).matching = s.matching
      ∧ (placeFull r s).path = s.path
      ∧ (placeFull r s).link = s.link
      ∧ (placeFull r s).assembly = s.assembly
      ∧ (placeFull r s).statusTimer = s.statusTimer
      ∧ (placeFull r s).store = s.store := by
  simp only [placeFull]; (repeat' split) <;> simp

@[simp] theorem placeOrder_frame (r : OrderRecord) (s : State) :
    (placeOrder r s).functions = s.functions
      ∧ (placeOrder r s).holds = s.holds
      ∧ (placeOrder r s).monitor = s.monitor
      ∧ (placeOrder r s).manifold = s.manifold
      ∧ (placeOrder r s).budget = s.budget
      ∧ (placeOrder r s).sequence = s.sequence
      ∧ (placeOrder r s).wind = s.wind
      ∧ (placeOrder r s).matching = s.matching
      ∧ (placeOrder r s).path = s.path
      ∧ (placeOrder r s).link = s.link
      ∧ (placeOrder r s).assembly = s.assembly
      ∧ (placeOrder r s).statusTimer = s.statusTimer
      ∧ (placeOrder r s).store = s.store := by
  simp only [placeOrder]; (repeat' split) <;> simp

@[simp] theorem placeDueUpTo_frame (n : Nat) (s : State) :
    (placeDueUpTo n s).functions = s.functions
      ∧ (placeDueUpTo n s).holds = s.holds
      ∧ (placeDueUpTo n s).monitor = s.monitor
      ∧ (placeDueUpTo n s).manifold = s.manifold
      ∧ (placeDueUpTo n s).budget = s.budget
      ∧ (placeDueUpTo n s).sequence = s.sequence
      ∧ (placeDueUpTo n s).wind = s.wind
      ∧ (placeDueUpTo n s).matching = s.matching
      ∧ (placeDueUpTo n s).path = s.path
      ∧ (placeDueUpTo n s).link = s.link
      ∧ (placeDueUpTo n s).assembly = s.assembly
      ∧ (placeDueUpTo n s).statusTimer = s.statusTimer
      ∧ (placeDueUpTo n s).store = s.store := by
  induction n generalizing s with
  | zero => simp [placeDueUpTo]
  | succ n ih => simp only [placeDueUpTo]; (repeat' split) <;> simp [ih]

@[simp] theorem placeDue_frame (s : State) :
    (placeDue s).functions = s.functions
      ∧ (placeDue s).holds = s.holds
      ∧ (placeDue s).monitor = s.monitor
      ∧ (placeDue s).manifold = s.manifold
      ∧ (placeDue s).budget = s.budget
      ∧ (placeDue s).sequence = s.sequence
      ∧ (placeDue s).wind = s.wind
      ∧ (placeDue s).matching = s.matching
      ∧ (placeDue s).path = s.path
      ∧ (placeDue s).link = s.link
      ∧ (placeDue s).assembly = s.assembly
      ∧ (placeDue s).statusTimer = s.statusTimer
      ∧ (placeDue s).store = s.store := by
  simp only [placeDue]; (repeat' split) <;> simp

@[simp] theorem offerHeld_frame (s : State) :
    (offerHeld s).functions = s.functions
      ∧ (offerHeld s).holds = s.holds
      ∧ (offerHeld s).monitor = s.monitor
      ∧ (offerHeld s).manifold = s.manifold
      ∧ (offerHeld s).budget = s.budget
      ∧ (offerHeld s).sequence = s.sequence
      ∧ (offerHeld s).wind = s.wind
      ∧ (offerHeld s).matching = s.matching
      ∧ (offerHeld s).orders = s.orders
      ∧ (offerHeld s).assembly = s.assembly
      ∧ (offerHeld s).statusTimer = s.statusTimer
      ∧ (offerHeld s).store = s.store := by
  simp only [offerHeld]; (repeat' split) <;> simp

@[simp] theorem addOffer_frame (f : EnrolFrame) (s : State) :
    (addOffer f s).functions = s.functions
      ∧ (addOffer f s).holds = s.holds
      ∧ (addOffer f s).monitor = s.monitor
      ∧ (addOffer f s).manifold = s.manifold
      ∧ (addOffer f s).budget = s.budget
      ∧ (addOffer f s).sequence = s.sequence
      ∧ (addOffer f s).wind = s.wind
      ∧ (addOffer f s).matching = s.matching
      ∧ (addOffer f s).path = s.path
      ∧ (addOffer f s).orders = s.orders
      ∧ (addOffer f s).assembly = s.assembly
      ∧ (addOffer f s).statusTimer = s.statusTimer
      ∧ (addOffer f s).store = s.store := by
  simp only [addOffer]; (repeat' split) <;> simp

@[simp] theorem censusAdvance_frame (f : EnrolFrame) (s : State) :
    (censusAdvance f s).functions = s.functions
      ∧ (censusAdvance f s).holds = s.holds
      ∧ (censusAdvance f s).monitor = s.monitor
      ∧ (censusAdvance f s).manifold = s.manifold
      ∧ (censusAdvance f s).budget = s.budget
      ∧ (censusAdvance f s).sequence = s.sequence
      ∧ (censusAdvance f s).wind = s.wind
      ∧ (censusAdvance f s).matching = s.matching
      ∧ (censusAdvance f s).path = s.path
      ∧ (censusAdvance f s).orders = s.orders
      ∧ (censusAdvance f s).assembly = s.assembly
      ∧ (censusAdvance f s).statusTimer = s.statusTimer
      ∧ (censusAdvance f s).store = s.store := by
  simp only [censusAdvance]; (repeat' split) <;> simp

@[simp] theorem slotEmptied_frame (c : ControlFrame) (s : State) :
    (slotEmptied c s).functions = s.functions
      ∧ (slotEmptied c s).holds = s.holds
      ∧ (slotEmptied c s).monitor = s.monitor
      ∧ (slotEmptied c s).manifold = s.manifold
      ∧ (slotEmptied c s).budget = s.budget
      ∧ (slotEmptied c s).sequence = s.sequence
      ∧ (slotEmptied c s).wind = s.wind
      ∧ (slotEmptied c s).matching = s.matching
      ∧ (slotEmptied c s).orders = s.orders
      ∧ (slotEmptied c s).assembly = s.assembly
      ∧ (slotEmptied c s).statusTimer = s.statusTimer
      ∧ (slotEmptied c s).store = s.store := by
  simp only [slotEmptied]; (repeat' split) <;> simp

@[simp] theorem pumpM_frame (s : State) :
    (pumpM s).functions = s.functions
      ∧ (pumpM s).holds = s.holds
      ∧ (pumpM s).monitor = s.monitor
      ∧ (pumpM s).manifold = s.manifold
      ∧ (pumpM s).budget = s.budget
      ∧ (pumpM s).sequence = s.sequence
      ∧ (pumpM s).wind = s.wind
      ∧ (pumpM s).matching = s.matching
      ∧ (pumpM s).assembly = s.assembly
      ∧ (pumpM s).statusTimer = s.statusTimer
      ∧ (pumpM s).store = s.store := by
  simp only [pumpM]; (repeat' split) <;> simp

@[simp] theorem offerEnrol_frame (f : EnrolFrame) (s : State) :
    (offerEnrol f s).functions = s.functions
      ∧ (offerEnrol f s).holds = s.holds
      ∧ (offerEnrol f s).monitor = s.monitor
      ∧ (offerEnrol f s).manifold = s.manifold
      ∧ (offerEnrol f s).budget = s.budget
      ∧ (offerEnrol f s).sequence = s.sequence
      ∧ (offerEnrol f s).wind = s.wind
      ∧ (offerEnrol f s).matching = s.matching
      ∧ (offerEnrol f s).assembly = s.assembly
      ∧ (offerEnrol f s).statusTimer = s.statusTimer
      ∧ (offerEnrol f s).store = s.store := by
  simp only [offerEnrol]; (repeat' split) <;> simp

@[simp] theorem offerHalt_frame (s : State) :
    (offerHalt s).functions = s.functions
      ∧ (offerHalt s).holds = s.holds
      ∧ (offerHalt s).monitor = s.monitor
      ∧ (offerHalt s).manifold = s.manifold
      ∧ (offerHalt s).budget = s.budget
      ∧ (offerHalt s).sequence = s.sequence
      ∧ (offerHalt s).wind = s.wind
      ∧ (offerHalt s).matching = s.matching
      ∧ (offerHalt s).assembly = s.assembly
      ∧ (offerHalt s).statusTimer = s.statusTimer
      ∧ (offerHalt s).store = s.store := by
  simp only [offerHalt]; (repeat' split) <;> simp

@[simp] theorem offerBeat_frame (s : State) :
    (offerBeat s).functions = s.functions
      ∧ (offerBeat s).holds = s.holds
      ∧ (offerBeat s).monitor = s.monitor
      ∧ (offerBeat s).manifold = s.manifold
      ∧ (offerBeat s).budget = s.budget
      ∧ (offerBeat s).sequence = s.sequence
      ∧ (offerBeat s).wind = s.wind
      ∧ (offerBeat s).matching = s.matching
      ∧ (offerBeat s).assembly = s.assembly
      ∧ (offerBeat s).statusTimer = s.statusTimer
      ∧ (offerBeat s).store = s.store := by
  simp only [offerBeat]; (repeat' split) <;> simp

@[simp] theorem withdrawEnrol_frame (s : State) :
    (withdrawEnrol s).functions = s.functions
      ∧ (withdrawEnrol s).holds = s.holds
      ∧ (withdrawEnrol s).monitor = s.monitor
      ∧ (withdrawEnrol s).manifold = s.manifold
      ∧ (withdrawEnrol s).budget = s.budget
      ∧ (withdrawEnrol s).sequence = s.sequence
      ∧ (withdrawEnrol s).wind = s.wind
      ∧ (withdrawEnrol s).matching = s.matching
      ∧ (withdrawEnrol s).orders = s.orders
      ∧ (withdrawEnrol s).assembly = s.assembly
      ∧ (withdrawEnrol s).statusTimer = s.statusTimer
      ∧ (withdrawEnrol s).store = s.store := by
  simp only [withdrawEnrol]; (repeat' split) <;> simp

@[simp] theorem handOrder_frame (place : Bool) (d : DriveRef) (code : DriveCode) (speed : Nat) (s : State) :
    (handOrder place d code speed s).functions = s.functions
      ∧ (handOrder place d code speed s).holds = s.holds
      ∧ (handOrder place d code speed s).monitor = s.monitor
      ∧ (handOrder place d code speed s).manifold = s.manifold
      ∧ (handOrder place d code speed s).budget = s.budget
      ∧ (handOrder place d code speed s).sequence = s.sequence
      ∧ (handOrder place d code speed s).wind = s.wind
      ∧ (handOrder place d code speed s).matching = s.matching
      ∧ (handOrder place d code speed s).assembly = s.assembly
      ∧ (handOrder place d code speed s).statusTimer = s.statusTimer
      ∧ (handOrder place d code speed s).store = s.store := by
  simp only [handOrder]; (repeat' split) <;> simp

@[simp] theorem holdAll_frame (place : Bool) (i : Slot) (s : State) :
    (holdAll place i s).functions = s.functions
      ∧ (holdAll place i s).holds = s.holds
      ∧ (holdAll place i s).monitor = s.monitor
      ∧ (holdAll place i s).manifold = s.manifold
      ∧ (holdAll place i s).budget = s.budget
      ∧ (holdAll place i s).sequence = s.sequence
      ∧ (holdAll place i s).wind = s.wind
      ∧ (holdAll place i s).matching = s.matching
      ∧ (holdAll place i s).assembly = s.assembly
      ∧ (holdAll place i s).statusTimer = s.statusTimer
      ∧ (holdAll place i s).store = s.store := by
  simp [holdAll]

@[simp] theorem pumpOrder_frame (place : Bool) (code : DriveCode) (speed : Nat) (s : State) :
    (pumpOrder place code speed s).functions = s.functions
      ∧ (pumpOrder place code speed s).holds = s.holds
      ∧ (pumpOrder place code speed s).monitor = s.monitor
      ∧ (pumpOrder place code speed s).manifold = s.manifold
      ∧ (pumpOrder place code speed s).budget = s.budget
      ∧ (pumpOrder place code speed s).sequence = s.sequence
      ∧ (pumpOrder place code speed s).wind = s.wind
      ∧ (pumpOrder place code speed s).matching = s.matching
      ∧ (pumpOrder place code speed s).assembly = s.assembly
      ∧ (pumpOrder place code speed s).statusTimer = s.statusTimer
      ∧ (pumpOrder place code speed s).store = s.store := by
  simp only [pumpOrder]; (repeat' split) <;> simp

@[simp] theorem clearQueue_frame (s : State) :
    (clearQueue s).functions = s.functions
      ∧ (clearQueue s).holds = s.holds
      ∧ (clearQueue s).monitor = s.monitor
      ∧ (clearQueue s).manifold = s.manifold
      ∧ (clearQueue s).budget = s.budget
      ∧ (clearQueue s).sequence = s.sequence
      ∧ (clearQueue s).wind = s.wind
      ∧ (clearQueue s).matching = s.matching
      ∧ (clearQueue s).path = s.path
      ∧ (clearQueue s).link = s.link
      ∧ (clearQueue s).assembly = s.assembly
      ∧ (clearQueue s).statusTimer = s.statusTimer
      ∧ (clearQueue s).store = s.store := by
  simp only [clearQueue]; (repeat' split) <;> simp

@[simp] theorem discardOrders_frame (s : State) :
    (discardOrders s).functions = s.functions
      ∧ (discardOrders s).holds = s.holds
      ∧ (discardOrders s).monitor = s.monitor
      ∧ (discardOrders s).manifold = s.manifold
      ∧ (discardOrders s).budget = s.budget
      ∧ (discardOrders s).sequence = s.sequence
      ∧ (discardOrders s).wind = s.wind
      ∧ (discardOrders s).matching = s.matching
      ∧ (discardOrders s).path = s.path
      ∧ (discardOrders s).link = s.link
      ∧ (discardOrders s).assembly = s.assembly
      ∧ (discardOrders s).statusTimer = s.statusTimer
      ∧ (discardOrders s).store = s.store := by
  simp only [discardOrders]; (repeat' split) <;> simp

@[simp] theorem resendStop_frame (node channel seen : Nat) (s : State) :
    (resendStop node channel seen s).functions = s.functions
      ∧ (resendStop node channel seen s).holds = s.holds
      ∧ (resendStop node channel seen s).monitor = s.monitor
      ∧ (resendStop node channel seen s).manifold = s.manifold
      ∧ (resendStop node channel seen s).budget = s.budget
      ∧ (resendStop node channel seen s).sequence = s.sequence
      ∧ (resendStop node channel seen s).wind = s.wind
      ∧ (resendStop node channel seen s).matching = s.matching
      ∧ (resendStop node channel seen s).assembly = s.assembly
      ∧ (resendStop node channel seen s).statusTimer = s.statusTimer
      ∧ (resendStop node channel seen s).store = s.store := by
  simp only [resendStop]; (repeat' split) <;> simp

/-! ### Machine/Flags.lean -/

@[simp] theorem setAlarm_frame (k : Alarm) (v : Bool) (s : State) :
    (setAlarm k v s).functions = s.functions
      ∧ (setAlarm k v s).holds = s.holds
      ∧ (setAlarm k v s).manifold = s.manifold
      ∧ (setAlarm k v s).budget = s.budget
      ∧ (setAlarm k v s).sequence = s.sequence
      ∧ (setAlarm k v s).wind = s.wind
      ∧ (setAlarm k v s).link = s.link
      ∧ (setAlarm k v s).orders = s.orders
      ∧ (setAlarm k v s).assembly = s.assembly
      ∧ (setAlarm k v s).statusTimer = s.statusTimer
      ∧ (setAlarm k v s).store = s.store := by
  simp only [setAlarm]; (repeat' split) <;> simp

/-! ### Machine/Moves.lean -/

@[simp] theorem turnChannel_frame (i : Slot) (e : Side) (s : State) :
    (turnChannel i e s).holds = s.holds
      ∧ (turnChannel i e s).monitor = s.monitor
      ∧ (turnChannel i e s).manifold = s.manifold
      ∧ (turnChannel i e s).budget = s.budget
      ∧ (turnChannel i e s).sequence = s.sequence
      ∧ (turnChannel i e s).wind = s.wind
      ∧ (turnChannel i e s).matching = s.matching
      ∧ (turnChannel i e s).path = s.path
      ∧ (turnChannel i e s).link = s.link
      ∧ (turnChannel i e s).orders = s.orders
      ∧ (turnChannel i e s).assembly = s.assembly
      ∧ (turnChannel i e s).statusTimer = s.statusTimer
      ∧ (turnChannel i e s).store = s.store := by
  simp only [turnChannel]; (repeat' split) <;> simp

@[simp] theorem orderChannel_frame (i : Slot) (e : Side) (s : State) :
    (orderChannel i e s).functions = s.functions
      ∧ (orderChannel i e s).holds = s.holds
      ∧ (orderChannel i e s).monitor = s.monitor
      ∧ (orderChannel i e s).manifold = s.manifold
      ∧ (orderChannel i e s).budget = s.budget
      ∧ (orderChannel i e s).sequence = s.sequence
      ∧ (orderChannel i e s).wind = s.wind
      ∧ (orderChannel i e s).matching = s.matching
      ∧ (orderChannel i e s).assembly = s.assembly
      ∧ (orderChannel i e s).statusTimer = s.statusTimer
      ∧ (orderChannel i e s).store = s.store := by
  simp only [orderChannel]; (repeat' split) <;> simp

@[simp] theorem reorder_frame (i : Slot) (s : State) :
    (reorder i s).holds = s.holds
      ∧ (reorder i s).monitor = s.monitor
      ∧ (reorder i s).manifold = s.manifold
      ∧ (reorder i s).budget = s.budget
      ∧ (reorder i s).sequence = s.sequence
      ∧ (reorder i s).wind = s.wind
      ∧ (reorder i s).matching = s.matching
      ∧ (reorder i s).assembly = s.assembly
      ∧ (reorder i s).statusTimer = s.statusTimer
      ∧ (reorder i s).store = s.store := by
  simp only [reorder]; (repeat' split) <;> simp

/-! ### Machine/Manifold.lean -/

@[simp] theorem releaseDraw_frame (i : Slot) (s : State) :
    (releaseDraw i s).functions = s.functions
      ∧ (releaseDraw i s).holds = s.holds
      ∧ (releaseDraw i s).monitor = s.monitor
      ∧ (releaseDraw i s).manifold = s.manifold
      ∧ (releaseDraw i s).sequence = s.sequence
      ∧ (releaseDraw i s).wind = s.wind
      ∧ (releaseDraw i s).matching = s.matching
      ∧ (releaseDraw i s).path = s.path
      ∧ (releaseDraw i s).link = s.link
      ∧ (releaseDraw i s).orders = s.orders
      ∧ (releaseDraw i s).assembly = s.assembly
      ∧ (releaseDraw i s).statusTimer = s.statusTimer
      ∧ (releaseDraw i s).store = s.store := by
  simp only [releaseDraw]; (repeat' split) <;> simp

@[simp] theorem startPump_frame (s : State) :
    (startPump s).functions = s.functions
      ∧ (startPump s).holds = s.holds
      ∧ (startPump s).monitor = s.monitor
      ∧ (startPump s).sequence = s.sequence
      ∧ (startPump s).wind = s.wind
      ∧ (startPump s).matching = s.matching
      ∧ (startPump s).assembly = s.assembly
      ∧ (startPump s).statusTimer = s.statusTimer
      ∧ (startPump s).store = s.store := by
  simp only [startPump]; (repeat' split) <;> simp

@[simp] theorem stopPump_frame (place : Bool) (s : State) :
    (stopPump place s).functions = s.functions
      ∧ (stopPump place s).holds = s.holds
      ∧ (stopPump place s).monitor = s.monitor
      ∧ (stopPump place s).sequence = s.sequence
      ∧ (stopPump place s).wind = s.wind
      ∧ (stopPump place s).matching = s.matching
      ∧ (stopPump place s).assembly = s.assembly
      ∧ (stopPump place s).statusTimer = s.statusTimer
      ∧ (stopPump place s).store = s.store := by
  simp only [stopPump]; (repeat' split) <;> simp

@[simp] theorem coolPump_frame (s : State) :
    (coolPump s).functions = s.functions
      ∧ (coolPump s).holds = s.holds
      ∧ (coolPump s).sequence = s.sequence
      ∧ (coolPump s).wind = s.wind
      ∧ (coolPump s).assembly = s.assembly
      ∧ (coolPump s).statusTimer = s.statusTimer
      ∧ (coolPump s).store = s.store := by
  simp only [coolPump]; (repeat' split) <;> simp

@[simp] theorem holdOnPump_frame (s : State) :
    (holdOnPump s).functions = s.functions
      ∧ (holdOnPump s).holds = s.holds
      ∧ (holdOnPump s).monitor = s.monitor
      ∧ (holdOnPump s).budget = s.budget
      ∧ (holdOnPump s).sequence = s.sequence
      ∧ (holdOnPump s).wind = s.wind
      ∧ (holdOnPump s).matching = s.matching
      ∧ (holdOnPump s).path = s.path
      ∧ (holdOnPump s).link = s.link
      ∧ (holdOnPump s).orders = s.orders
      ∧ (holdOnPump s).assembly = s.assembly
      ∧ (holdOnPump s).statusTimer = s.statusTimer
      ∧ (holdOnPump s).store = s.store := by
  simp only [holdOnPump]; (repeat' split) <;> simp

@[simp] theorem readyPump_frame (s : State) :
    (readyPump s).functions = s.functions
      ∧ (readyPump s).holds = s.holds
      ∧ (readyPump s).monitor = s.monitor
      ∧ (readyPump s).budget = s.budget
      ∧ (readyPump s).sequence = s.sequence
      ∧ (readyPump s).wind = s.wind
      ∧ (readyPump s).matching = s.matching
      ∧ (readyPump s).path = s.path
      ∧ (readyPump s).link = s.link
      ∧ (readyPump s).orders = s.orders
      ∧ (readyPump s).assembly = s.assembly
      ∧ (readyPump s).statusTimer = s.statusTimer
      ∧ (readyPump s).store = s.store := by
  simp only [readyPump]; (repeat' split) <;> simp

@[simp] theorem leaveList_frame (i : Slot) (s : State) :
    (leaveList i s).functions = s.functions
      ∧ (leaveList i s).holds = s.holds
      ∧ (leaveList i s).monitor = s.monitor
      ∧ (leaveList i s).budget = s.budget
      ∧ (leaveList i s).sequence = s.sequence
      ∧ (leaveList i s).wind = s.wind
      ∧ (leaveList i s).matching = s.matching
      ∧ (leaveList i s).path = s.path
      ∧ (leaveList i s).link = s.link
      ∧ (leaveList i s).orders = s.orders
      ∧ (leaveList i s).assembly = s.assembly
      ∧ (leaveList i s).statusTimer = s.statusTimer
      ∧ (leaveList i s).store = s.store := by
  simp only [leaveList]; (repeat' split) <;> simp

@[simp] theorem joinList_frame (i : Slot) (s : State) :
    (joinList i s).functions = s.functions
      ∧ (joinList i s).holds = s.holds
      ∧ (joinList i s).monitor = s.monitor
      ∧ (joinList i s).budget = s.budget
      ∧ (joinList i s).sequence = s.sequence
      ∧ (joinList i s).wind = s.wind
      ∧ (joinList i s).matching = s.matching
      ∧ (joinList i s).path = s.path
      ∧ (joinList i s).link = s.link
      ∧ (joinList i s).orders = s.orders
      ∧ (joinList i s).assembly = s.assembly
      ∧ (joinList i s).statusTimer = s.statusTimer
      ∧ (joinList i s).store = s.store := by
  simp only [joinList]; (repeat' split) <;> simp

@[simp] theorem windStopped_frame (i : Slot) (r : StopReason) (s : State) :
    (windStopped i r s).functions = s.functions
      ∧ (windStopped i r s).holds = s.holds
      ∧ (windStopped i r s).monitor = s.monitor
      ∧ (windStopped i r s).manifold = s.manifold
      ∧ (windStopped i r s).budget = s.budget
      ∧ (windStopped i r s).sequence = s.sequence
      ∧ (windStopped i r s).matching = s.matching
      ∧ (windStopped i r s).path = s.path
      ∧ (windStopped i r s).link = s.link
      ∧ (windStopped i r s).orders = s.orders
      ∧ (windStopped i r s).assembly = s.assembly
      ∧ (windStopped i r s).statusTimer = s.statusTimer
      ∧ (windStopped i r s).store = s.store := by
  simp only [windStopped]; (repeat' split) <;> simp

@[simp] theorem holdMoved_frame (place : Bool) (i : Slot) (s : State) :
    (holdMoved place i s).functions = s.functions
      ∧ (holdMoved place i s).holds = s.holds
      ∧ (holdMoved place i s).monitor = s.monitor
      ∧ (holdMoved place i s).manifold = s.manifold
      ∧ (holdMoved place i s).budget = s.budget
      ∧ (holdMoved place i s).sequence = s.sequence
      ∧ (holdMoved place i s).wind = s.wind
      ∧ (holdMoved place i s).matching = s.matching
      ∧ (holdMoved place i s).assembly = s.assembly
      ∧ (holdMoved place i s).statusTimer = s.statusTimer
      ∧ (holdMoved place i s).store = s.store := by
  simp only [holdMoved]; (repeat' split) <;> simp

@[simp] theorem stopFn_frame (place : Bool) (i : Slot) (r : StopReason) (s : State) :
    (stopFn place i r s).sequence = s.sequence
      ∧ (stopFn place i r s).assembly = s.assembly
      ∧ (stopFn place i r s).statusTimer = s.statusTimer
      ∧ (stopFn place i r s).store = s.store := by
  simp only [stopFn]; (repeat' split) <;> simp

@[simp] theorem stopAll_frame (place : Bool) (r : StopReason) (is : List Slot) (s : State) :
    (stopAll place r is s).sequence = s.sequence
      ∧ (stopAll place r is s).assembly = s.assembly
      ∧ (stopAll place r is s).statusTimer = s.statusTimer
      ∧ (stopAll place r is s).store = s.store := by
  simp [stopAll]

@[simp] theorem releaseSequenceGrant_frame (s : State) :
    (releaseSequenceGrant s).functions = s.functions
      ∧ (releaseSequenceGrant s).holds = s.holds
      ∧ (releaseSequenceGrant s).monitor = s.monitor
      ∧ (releaseSequenceGrant s).budget = s.budget
      ∧ (releaseSequenceGrant s).sequence = s.sequence
      ∧ (releaseSequenceGrant s).wind = s.wind
      ∧ (releaseSequenceGrant s).matching = s.matching
      ∧ (releaseSequenceGrant s).path = s.path
      ∧ (releaseSequenceGrant s).link = s.link
      ∧ (releaseSequenceGrant s).orders = s.orders
      ∧ (releaseSequenceGrant s).assembly = s.assembly
      ∧ (releaseSequenceGrant s).statusTimer = s.statusTimer
      ∧ (releaseSequenceGrant s).store = s.store := by
  simp only [releaseSequenceGrant]; (repeat' split) <;> simp

@[simp] theorem closeSequence_frame (r : SeqResult) (s : State) :
    (closeSequence r s).functions = s.functions
      ∧ (closeSequence r s).holds = s.holds
      ∧ (closeSequence r s).monitor = s.monitor
      ∧ (closeSequence r s).budget = s.budget
      ∧ (closeSequence r s).wind = s.wind
      ∧ (closeSequence r s).link = s.link
      ∧ (closeSequence r s).orders = s.orders
      ∧ (closeSequence r s).assembly = s.assembly
      ∧ (closeSequence r s).statusTimer = s.statusTimer
      ∧ (closeSequence r s).store = s.store := by
  simp only [closeSequence]; (repeat' split) <;> simp

@[simp] theorem endSequence_frame (place : Bool) (result : SeqResult) (r : StopReason) (s : State) :
    (endSequence place result r s).assembly = s.assembly
      ∧ (endSequence place result r s).statusTimer = s.statusTimer
      ∧ (endSequence place result r s).store = s.store := by
  simp only [endSequence]; (repeat' split) <;> simp

@[simp] theorem abortSequence_frame (place : Bool) (r : AbortReason) (s : State) :
    (abortSequence place r s).assembly = s.assembly
      ∧ (abortSequence place r s).statusTimer = s.statusTimer
      ∧ (abortSequence place r s).store = s.store := by
  simp only [abortSequence]; (repeat' split) <;> simp

@[simp] theorem failFn_frame (i : Slot) (c : FaultCode) (s : State) :
    (failFn i c s).sequence = s.sequence
      ∧ (failFn i c s).assembly = s.assembly
      ∧ (failFn i c s).statusTimer = s.statusTimer
      ∧ (failFn i c s).store = s.store := by
  simp only [failFn]; (repeat' split) <;> simp

@[simp] theorem faultFns_frame (is : List Slot) (c : FaultCode) (s : State) :
    (faultFns is c s).assembly = s.assembly
      ∧ (faultFns is c s).statusTimer = s.statusTimer
      ∧ (faultFns is c s).store = s.store := by
  simp only [faultFns]; split <;> simp

@[simp] theorem faultFn_frame (i : Slot) (c : FaultCode) (s : State) :
    (faultFn i c s).assembly = s.assembly
      ∧ (faultFn i c s).statusTimer = s.statusTimer
      ∧ (faultFn i c s).store = s.store := by
  simp only [faultFn]; (repeat' split) <;> simp

@[simp] theorem startMove_frame (i : Slot) (s : State) :
    (startMove i s).assembly = s.assembly
      ∧ (startMove i s).statusTimer = s.statusTimer
      ∧ (startMove i s).store = s.store := by
  simp only [startMove]; (repeat' split) <;> simp

@[simp] theorem startHydraulic_frame (i : Slot) (s : State) :
    (startHydraulic i s).assembly = s.assembly
      ∧ (startHydraulic i s).statusTimer = s.statusTimer
      ∧ (startHydraulic i s).store = s.store := by
  simp only [startHydraulic]; (repeat' split) <;> simp

@[simp] theorem freeHydraulic_frame (i : Slot) (s : State) :
    (freeHydraulic i s).assembly = s.assembly
      ∧ (freeHydraulic i s).statusTimer = s.statusTimer
      ∧ (freeHydraulic i s).store = s.store := by
  simp only [freeHydraulic]; (repeat' split) <;> simp

@[simp] theorem freeGranted_frame (g : Grant) (s : State) :
    (freeGranted g s).assembly = s.assembly
      ∧ (freeGranted g s).statusTimer = s.statusTimer
      ∧ (freeGranted g s).store = s.store := by
  simp [freeGranted]

@[simp] theorem grantTo_frame (i : Slot) (s : State) :
    (grantTo i s).assembly = s.assembly
      ∧ (grantTo i s).statusTimer = s.statusTimer
      ∧ (grantTo i s).store = s.store := by
  simp only [grantTo]; (repeat' split) <;> simp

@[simp] theorem serveHolder_frame (s : State) :
    (serveHolder s).assembly = s.assembly
      ∧ (serveHolder s).statusTimer = s.statusTimer
      ∧ (serveHolder s).store = s.store := by
  simp only [serveHolder]; (repeat' split) <;> simp

@[simp] theorem admitMotor_frame (i : Slot) (s : State) :
    (admitMotor i s).assembly = s.assembly
      ∧ (admitMotor i s).statusTimer = s.statusTimer
      ∧ (admitMotor i s).store = s.store := by
  simp only [admitMotor]; (repeat' split) <;> simp

@[simp] theorem walkList_frame (is : List Slot) (s : State) :
    (walkList is s).assembly = s.assembly
      ∧ (walkList is s).statusTimer = s.statusTimer
      ∧ (walkList is s).store = s.store := by
  induction is generalizing s with
  | nil => simp [walkList]
  | cons i rest ih => simp only [walkList]; (repeat' split) <;> simp [ih]

@[simp] theorem writeReasons_frame (s : State) :
    (writeReasons s).holds = s.holds
      ∧ (writeReasons s).manifold = s.manifold
      ∧ (writeReasons s).budget = s.budget
      ∧ (writeReasons s).sequence = s.sequence
      ∧ (writeReasons s).link = s.link
      ∧ (writeReasons s).orders = s.orders
      ∧ (writeReasons s).assembly = s.assembly
      ∧ (writeReasons s).statusTimer = s.statusTimer
      ∧ (writeReasons s).store = s.store := by
  simp [writeReasons]

@[simp] theorem servicePass_frame (s : State) :
    (servicePass s).assembly = s.assembly
      ∧ (servicePass s).statusTimer = s.statusTimer
      ∧ (servicePass s).store = s.store := by
  simp only [servicePass]; (repeat' split) <;> simp

@[simp] theorem preemptManifold_frame (i : Slot) (s : State) :
    (preemptManifold i s).assembly = s.assembly
      ∧ (preemptManifold i s).statusTimer = s.statusTimer
      ∧ (preemptManifold i s).store = s.store := by
  simp only [preemptManifold]; (repeat' split) <;> simp

@[simp] theorem clearArbiter_frame (s : State) :
    (clearArbiter s).functions = s.functions
      ∧ (clearArbiter s).holds = s.holds
      ∧ (clearArbiter s).monitor = s.monitor
      ∧ (clearArbiter s).budget = s.budget
      ∧ (clearArbiter s).sequence = s.sequence
      ∧ (clearArbiter s).wind = s.wind
      ∧ (clearArbiter s).matching = s.matching
      ∧ (clearArbiter s).path = s.path
      ∧ (clearArbiter s).link = s.link
      ∧ (clearArbiter s).orders = s.orders
      ∧ (clearArbiter s).assembly = s.assembly
      ∧ (clearArbiter s).statusTimer = s.statusTimer
      ∧ (clearArbiter s).store = s.store := by
  simp only [clearArbiter]; (repeat' split) <;> simp

@[simp] theorem haltEffects_frame (s : State) :
    (haltEffects s).assembly = s.assembly
      ∧ (haltEffects s).statusTimer = s.statusTimer
      ∧ (haltEffects s).store = s.store := by
  simp only [haltEffects]; (repeat' split) <;> simp

@[simp] theorem preempt_frame (r : Request) (s : State) :
    (preempt r s).assembly = s.assembly
      ∧ (preempt r s).statusTimer = s.statusTimer
      ∧ (preempt r s).store = s.store := by
  simp only [preempt]; (repeat' split) <;> simp

@[simp] theorem windTaken_frame (r : Request) (s : State) :
    (windTaken r s).functions = s.functions
      ∧ (windTaken r s).holds = s.holds
      ∧ (windTaken r s).monitor = s.monitor
      ∧ (windTaken r s).manifold = s.manifold
      ∧ (windTaken r s).budget = s.budget
      ∧ (windTaken r s).sequence = s.sequence
      ∧ (windTaken r s).matching = s.matching
      ∧ (windTaken r s).path = s.path
      ∧ (windTaken r s).link = s.link
      ∧ (windTaken r s).orders = s.orders
      ∧ (windTaken r s).assembly = s.assembly
      ∧ (windTaken r s).statusTimer = s.statusTimer
      ∧ (windTaken r s).store = s.store := by
  simp only [windTaken]; (repeat' split) <;> simp

@[simp] theorem accept_frame (r : Request) (s : State) :
    (accept r s).assembly = s.assembly
      ∧ (accept r s).statusTimer = s.statusTimer
      ∧ (accept r s).store = s.store := by
  simp only [accept]; (repeat' split) <;> simp

/-! ### Machine/Slides.lean -/

@[simp] theorem settleFn_frame (i : Slot) (r : StopReason) (e : Ending) (byStall : Bool) (s : State) :
    (settleFn i r e byStall s).holds = s.holds
      ∧ (settleFn i r e byStall s).manifold = s.manifold
      ∧ (settleFn i r e byStall s).sequence = s.sequence
      ∧ (settleFn i r e byStall s).assembly = s.assembly
      ∧ (settleFn i r e byStall s).statusTimer = s.statusTimer
      ∧ (settleFn i r e byStall s).store = s.store := by
  simp only [settleFn]; (repeat' split) <;> simp

@[simp] theorem endReached_frame (i : Slot) (d : Direction) (byStall : Bool) (s : State) :
    (endReached i d byStall s).holds = s.holds
      ∧ (endReached i d byStall s).manifold = s.manifold
      ∧ (endReached i d byStall s).sequence = s.sequence
      ∧ (endReached i d byStall s).assembly = s.assembly
      ∧ (endReached i d byStall s).statusTimer = s.statusTimer
      ∧ (endReached i d byStall s).store = s.store := by
  simp only [endReached]; (repeat' split) <;> simp

@[simp] theorem targetReached_frame (i : Slot) (s : State) :
    (targetReached i s).holds = s.holds
      ∧ (targetReached i s).manifold = s.manifold
      ∧ (targetReached i s).sequence = s.sequence
      ∧ (targetReached i s).assembly = s.assembly
      ∧ (targetReached i s).statusTimer = s.statusTimer
      ∧ (targetReached i s).store = s.store := by
  simp only [targetReached]; (repeat' split) <;> simp

@[simp] theorem setChannel_frame (i : Slot) (e : Side) (ch : Channel) (s : State) :
    (setChannel i e ch s).holds = s.holds
      ∧ (setChannel i e ch s).monitor = s.monitor
      ∧ (setChannel i e ch s).manifold = s.manifold
      ∧ (setChannel i e ch s).budget = s.budget
      ∧ (setChannel i e ch s).sequence = s.sequence
      ∧ (setChannel i e ch s).wind = s.wind
      ∧ (setChannel i e ch s).matching = s.matching
      ∧ (setChannel i e ch s).path = s.path
      ∧ (setChannel i e ch s).link = s.link
      ∧ (setChannel i e ch s).orders = s.orders
      ∧ (setChannel i e ch s).assembly = s.assembly
      ∧ (setChannel i e ch s).statusTimer = s.statusTimer
      ∧ (setChannel i e ch s).store = s.store := by
  simp only [setChannel]; (repeat' split) <;> simp

@[simp] theorem resumeChannel_frame (i : Slot) (e : Side) (s : State) :
    (resumeChannel i e s).holds = s.holds
      ∧ (resumeChannel i e s).monitor = s.monitor
      ∧ (resumeChannel i e s).manifold = s.manifold
      ∧ (resumeChannel i e s).budget = s.budget
      ∧ (resumeChannel i e s).sequence = s.sequence
      ∧ (resumeChannel i e s).wind = s.wind
      ∧ (resumeChannel i e s).matching = s.matching
      ∧ (resumeChannel i e s).path = s.path
      ∧ (resumeChannel i e s).link = s.link
      ∧ (resumeChannel i e s).orders = s.orders
      ∧ (resumeChannel i e s).assembly = s.assembly
      ∧ (resumeChannel i e s).statusTimer = s.statusTimer
      ∧ (resumeChannel i e s).store = s.store := by
  simp only [resumeChannel]; (repeat' split) <;> simp

@[simp] theorem setMarker_frame (i : Slot) (m : Option Side) (s : State) :
    (setMarker i m s).holds = s.holds
      ∧ (setMarker i m s).monitor = s.monitor
      ∧ (setMarker i m s).manifold = s.manifold
      ∧ (setMarker i m s).budget = s.budget
      ∧ (setMarker i m s).sequence = s.sequence
      ∧ (setMarker i m s).wind = s.wind
      ∧ (setMarker i m s).matching = s.matching
      ∧ (setMarker i m s).path = s.path
      ∧ (setMarker i m s).link = s.link
      ∧ (setMarker i m s).orders = s.orders
      ∧ (setMarker i m s).assembly = s.assembly
      ∧ (setMarker i m s).statusTimer = s.statusTimer
      ∧ (setMarker i m s).store = s.store := by
  simp only [setMarker]; (repeat' split) <;> simp

@[simp] theorem clearMarker_frame (i : Slot) (s : State) :
    (clearMarker i s).holds = s.holds
      ∧ (clearMarker i s).monitor = s.monitor
      ∧ (clearMarker i s).manifold = s.manifold
      ∧ (clearMarker i s).budget = s.budget
      ∧ (clearMarker i s).sequence = s.sequence
      ∧ (clearMarker i s).wind = s.wind
      ∧ (clearMarker i s).matching = s.matching
      ∧ (clearMarker i s).path = s.path
      ∧ (clearMarker i s).link = s.link
      ∧ (clearMarker i s).orders = s.orders
      ∧ (clearMarker i s).assembly = s.assembly
      ∧ (clearMarker i s).statusTimer = s.statusTimer
      ∧ (clearMarker i s).store = s.store := by
  simp only [clearMarker]; (repeat' split) <;> simp

@[simp] theorem takeEndMark_frame (i : Slot) (e : Side) (s : State) :
    (takeEndMark i e s).holds = s.holds
      ∧ (takeEndMark i e s).monitor = s.monitor
      ∧ (takeEndMark i e s).manifold = s.manifold
      ∧ (takeEndMark i e s).budget = s.budget
      ∧ (takeEndMark i e s).sequence = s.sequence
      ∧ (takeEndMark i e s).wind = s.wind
      ∧ (takeEndMark i e s).matching = s.matching
      ∧ (takeEndMark i e s).path = s.path
      ∧ (takeEndMark i e s).link = s.link
      ∧ (takeEndMark i e s).orders = s.orders
      ∧ (takeEndMark i e s).assembly = s.assembly
      ∧ (takeEndMark i e s).statusTimer = s.statusTimer
      ∧ (takeEndMark i e s).store = s.store := by
  simp only [takeEndMark]; (repeat' split) <;> simp

@[simp] theorem takeArrivalMark_frame (i : Slot) (e : Side) (s : State) :
    (takeArrivalMark i e s).holds = s.holds
      ∧ (takeArrivalMark i e s).monitor = s.monitor
      ∧ (takeArrivalMark i e s).manifold = s.manifold
      ∧ (takeArrivalMark i e s).budget = s.budget
      ∧ (takeArrivalMark i e s).sequence = s.sequence
      ∧ (takeArrivalMark i e s).wind = s.wind
      ∧ (takeArrivalMark i e s).matching = s.matching
      ∧ (takeArrivalMark i e s).path = s.path
      ∧ (takeArrivalMark i e s).link = s.link
      ∧ (takeArrivalMark i e s).orders = s.orders
      ∧ (takeArrivalMark i e s).assembly = s.assembly
      ∧ (takeArrivalMark i e s).statusTimer = s.statusTimer
      ∧ (takeArrivalMark i e s).store = s.store := by
  simp only [takeArrivalMark]; (repeat' split) <;> simp

@[simp] theorem finishMotor_frame (i : Slot) (s : State) :
    (finishMotor i s).holds = s.holds
      ∧ (finishMotor i s).manifold = s.manifold
      ∧ (finishMotor i s).sequence = s.sequence
      ∧ (finishMotor i s).assembly = s.assembly
      ∧ (finishMotor i s).statusTimer = s.statusTimer
      ∧ (finishMotor i s).store = s.store := by
  simp only [finishMotor]; (repeat' split) <;> simp

@[simp] theorem judgeStall_frame (i : Slot) (e : Side) (s : State) :
    (judgeStall i e s).assembly = s.assembly
      ∧ (judgeStall i e s).statusTimer = s.statusTimer
      ∧ (judgeStall i e s).store = s.store := by
  simp only [judgeStall]; (repeat' split) <;> simp

@[simp] theorem stallTest_frame (i : Slot) (e : Side) (current : Nat) (flags : Byte) (s : State) :
    (stallTest i e current flags s).assembly = s.assembly
      ∧ (stallTest i e current flags s).statusTimer = s.statusTimer
      ∧ (stallTest i e current flags s).store = s.store := by
  simp only [stallTest]; (repeat' split) <;> simp

@[simp] theorem arrivalTest_frame (i : Slot) (e : Side) (s : State) :
    (arrivalTest i e s).holds = s.holds
      ∧ (arrivalTest i e s).manifold = s.manifold
      ∧ (arrivalTest i e s).sequence = s.sequence
      ∧ (arrivalTest i e s).assembly = s.assembly
      ∧ (arrivalTest i e s).statusTimer = s.statusTimer
      ∧ (arrivalTest i e s).store = s.store := by
  simp only [arrivalTest]; (repeat' split) <;> simp

@[simp] theorem holdEnd_frame (i : Slot) (e : Side) (s : State) :
    (holdEnd i e s).holds = s.holds
      ∧ (holdEnd i e s).monitor = s.monitor
      ∧ (holdEnd i e s).manifold = s.manifold
      ∧ (holdEnd i e s).budget = s.budget
      ∧ (holdEnd i e s).sequence = s.sequence
      ∧ (holdEnd i e s).wind = s.wind
      ∧ (holdEnd i e s).matching = s.matching
      ∧ (holdEnd i e s).path = s.path
      ∧ (holdEnd i e s).link = s.link
      ∧ (holdEnd i e s).orders = s.orders
      ∧ (holdEnd i e s).assembly = s.assembly
      ∧ (holdEnd i e s).statusTimer = s.statusTimer
      ∧ (holdEnd i e s).store = s.store := by
  simp only [holdEnd]; (repeat' split) <;> simp

@[simp] theorem softSkewTest_frame (i : Slot) (s : State) :
    (softSkewTest i s).holds = s.holds
      ∧ (softSkewTest i s).monitor = s.monitor
      ∧ (softSkewTest i s).manifold = s.manifold
      ∧ (softSkewTest i s).budget = s.budget
      ∧ (softSkewTest i s).sequence = s.sequence
      ∧ (softSkewTest i s).wind = s.wind
      ∧ (softSkewTest i s).matching = s.matching
      ∧ (softSkewTest i s).path = s.path
      ∧ (softSkewTest i s).link = s.link
      ∧ (softSkewTest i s).orders = s.orders
      ∧ (softSkewTest i s).assembly = s.assembly
      ∧ (softSkewTest i s).statusTimer = s.statusTimer
      ∧ (softSkewTest i s).store = s.store := by
  simp only [softSkewTest]; (repeat' split) <;> simp

@[simp] theorem hardSkewTest_frame (i : Slot) (s : State) :
    (hardSkewTest i s).assembly = s.assembly
      ∧ (hardSkewTest i s).statusTimer = s.statusTimer
      ∧ (hardSkewTest i s).store = s.store := by
  simp only [hardSkewTest]; (repeat' split) <;> simp

@[simp] theorem clearanceStop_frame (i : Slot) (s : State) :
    (clearanceStop i s).sequence = s.sequence
      ∧ (clearanceStop i s).assembly = s.assembly
      ∧ (clearanceStop i s).statusTimer = s.statusTimer
      ∧ (clearanceStop i s).store = s.store := by
  simp only [clearanceStop]; (repeat' split) <;> simp

theorem whileMoving_frame (i : Slot) {test : State → State} (h : ∀ s, (test s).assembly = s.assembly ∧ (test s).statusTimer = s.statusTimer ∧ (test s).store = s.store) (s : State) :
    (whileMoving i test s).assembly = s.assembly
      ∧ (whileMoving i test s).statusTimer = s.statusTimer
      ∧ (whileMoving i test s).store = s.store := by
  simp only [whileMoving]; split
  · exact h s
  · simp

@[simp] theorem motorReport_frame (i : Slot) (e : Side) (current : Nat) (flags : Byte) (s : State) :
    (motorReport i e current flags s).assembly = s.assembly
      ∧ (motorReport i e current flags s).statusTimer = s.statusTimer
      ∧ (motorReport i e current flags s).store = s.store := by
  simp only [motorReport]
  have h1 := whileMoving_frame i (test := stallTest i e current flags) (by simp)
  have h2 := whileMoving_frame i (test := fun s => if (s.fn i).verb = some .goto then arrivalTest i e s else s)
    (fun s => by split <;> simp)
  have h3 := whileMoving_frame i (test := fun s => if (s.cfg i).kind = .slideTwin then softSkewTest i s else s)
    (fun s => by split <;> simp)
  simp [h1, h2, h3]

@[simp] theorem slideHydReport_frame (i : Slot) (pressure : Nat) (s : State) :
    (slideHydReport i pressure s).assembly = s.assembly
      ∧ (slideHydReport i pressure s).statusTimer = s.statusTimer
      ∧ (slideHydReport i pressure s).store = s.store := by
  simp only [slideHydReport]; (repeat' split) <;> simp

@[simp] theorem rezeroChannel_frame (i : Slot) (s : State) (e : Side) :
    (rezeroChannel i s e).holds = s.holds
      ∧ (rezeroChannel i s e).monitor = s.monitor
      ∧ (rezeroChannel i s e).manifold = s.manifold
      ∧ (rezeroChannel i s e).budget = s.budget
      ∧ (rezeroChannel i s e).sequence = s.sequence
      ∧ (rezeroChannel i s e).wind = s.wind
      ∧ (rezeroChannel i s e).matching = s.matching
      ∧ (rezeroChannel i s e).path = s.path
      ∧ (rezeroChannel i s e).link = s.link
      ∧ (rezeroChannel i s e).orders = s.orders
      ∧ (rezeroChannel i s e).assembly = s.assembly
      ∧ (rezeroChannel i s e).statusTimer = s.statusTimer
      ∧ (rezeroChannel i s e).store = s.store := by
  simp only [rezeroChannel]; (repeat' split) <;> simp

@[simp] theorem rezero_frame (i : Slot) (s : State) :
    (rezero i s).holds = s.holds
      ∧ (rezero i s).manifold = s.manifold
      ∧ (rezero i s).budget = s.budget
      ∧ (rezero i s).sequence = s.sequence
      ∧ (rezero i s).link = s.link
      ∧ (rezero i s).orders = s.orders
      ∧ (rezero i s).assembly = s.assembly
      ∧ (rezero i s).statusTimer = s.statusTimer
      ∧ (rezero i s).store = s.store := by
  simp only [rezero]; (repeat' split) <;> simp

@[simp] theorem passVerify_frame (i : Slot) (s : State) :
    (passVerify i s).holds = s.holds
      ∧ (passVerify i s).manifold = s.manifold
      ∧ (passVerify i s).budget = s.budget
      ∧ (passVerify i s).sequence = s.sequence
      ∧ (passVerify i s).link = s.link
      ∧ (passVerify i s).orders = s.orders
      ∧ (passVerify i s).assembly = s.assembly
      ∧ (passVerify i s).statusTimer = s.statusTimer
      ∧ (passVerify i s).store = s.store := by
  simp only [passVerify]; (repeat' split) <;> simp

@[simp] theorem verifyRetract_frame (i : Slot) (s : State) :
    (verifyRetract i s).assembly = s.assembly
      ∧ (verifyRetract i s).statusTimer = s.statusTimer
      ∧ (verifyRetract i s).store = s.store := by
  simp only [verifyRetract]; (repeat' split) <;> simp

@[simp] theorem verifyExtend_frame (i : Slot) (s : State) :
    (verifyExtend i s).holds = s.holds
      ∧ (verifyExtend i s).manifold = s.manifold
      ∧ (verifyExtend i s).budget = s.budget
      ∧ (verifyExtend i s).sequence = s.sequence
      ∧ (verifyExtend i s).link = s.link
      ∧ (verifyExtend i s).orders = s.orders
      ∧ (verifyExtend i s).assembly = s.assembly
      ∧ (verifyExtend i s).statusTimer = s.statusTimer
      ∧ (verifyExtend i s).store = s.store := by
  simp only [verifyExtend]; (repeat' split) <;> simp

@[simp] theorem verifyTarget_frame (i : Slot) (s : State) :
    (verifyTarget i s).assembly = s.assembly
      ∧ (verifyTarget i s).statusTimer = s.statusTimer
      ∧ (verifyTarget i s).store = s.store := by
  simp only [verifyTarget]; (repeat' split) <;> simp

@[simp] theorem verify_frame (i : Slot) (s : State) :
    (verify i s).assembly = s.assembly
      ∧ (verify i s).statusTimer = s.statusTimer
      ∧ (verify i s).store = s.store := by
  simp only [verify]; (repeat' split) <;> simp

@[simp] theorem slideTest_frame (awning : Slot) (s : State) :
    (slideTest awning s).sequence = s.sequence
      ∧ (slideTest awning s).assembly = s.assembly
      ∧ (slideTest awning s).statusTimer = s.statusTimer
      ∧ (slideTest awning s).store = s.store := by
  simp only [slideTest]; (repeat' split) <;> simp

/-! ### Machine/Levelling.lean -/

@[simp] theorem seqRefused_frame (r : RefusalReason) (s : State) :
    (seqRefused r s).assembly = s.assembly
      ∧ (seqRefused r s).statusTimer = s.statusTimer
      ∧ (seqRefused r s).store = s.store := by
  simp only [seqRefused]; (repeat' split) <;> simp

@[simp] theorem releaseTwist_frame (i : Slot) (s : State) :
    (releaseTwist i s).holds = s.holds
      ∧ (releaseTwist i s).monitor = s.monitor
      ∧ (releaseTwist i s).manifold = s.manifold
      ∧ (releaseTwist i s).budget = s.budget
      ∧ (releaseTwist i s).wind = s.wind
      ∧ (releaseTwist i s).matching = s.matching
      ∧ (releaseTwist i s).assembly = s.assembly
      ∧ (releaseTwist i s).statusTimer = s.statusTimer
      ∧ (releaseTwist i s).store = s.store := by
  simp only [releaseTwist]; (repeat' split) <;> simp

@[simp] theorem markFinished_frame (i : Slot) (s : State) :
    (markFinished i s).holds = s.holds
      ∧ (markFinished i s).monitor = s.monitor
      ∧ (markFinished i s).manifold = s.manifold
      ∧ (markFinished i s).budget = s.budget
      ∧ (markFinished i s).wind = s.wind
      ∧ (markFinished i s).matching = s.matching
      ∧ (markFinished i s).assembly = s.assembly
      ∧ (markFinished i s).statusTimer = s.statusTimer
      ∧ (markFinished i s).store = s.store := by
  simp only [markFinished]; (repeat' split) <;> simp

@[simp] theorem sendSeqRequest_frame (r : Request) {onEnd : State → State} (h : ∀ s, (onEnd s).assembly = s.assembly ∧ (onEnd s).statusTimer = s.statusTimer ∧ (onEnd s).store = s.store) (s : State) :
    (sendSeqRequest r onEnd s).1.assembly = s.assembly
      ∧ (sendSeqRequest r onEnd s).1.statusTimer = s.statusTimer
      ∧ (sendSeqRequest r onEnd s).1.store = s.store := by
  simp only [sendSeqRequest]; (repeat' split) <;> first | exact h s | simp

@[simp] theorem groundRequest_frame (i : Slot) (s : State) :
    (groundRequest i s).1.assembly = s.assembly
      ∧ (groundRequest i s).1.statusTimer = s.statusTimer
      ∧ (groundRequest i s).1.store = s.store := by
  simp only [groundRequest]; (repeat' split) <;> simp

@[simp] theorem liftRequest_frame (i : Slot) (s : State) :
    (liftRequest i s).1.assembly = s.assembly
      ∧ (liftRequest i s).1.statusTimer = s.statusTimer
      ∧ (liftRequest i s).1.store = s.store := by
  simp only [liftRequest]; (repeat' split) <;> simp

@[simp] theorem stowRequest_frame (i : Slot) (s : State) :
    (stowRequest i s).1.assembly = s.assembly
      ∧ (stowRequest i s).1.statusTimer = s.statusTimer
      ∧ (stowRequest i s).1.store = s.store := by
  simp only [stowRequest]; (repeat' split) <;> simp

@[simp] theorem preemptJacks_frame (o : Owner) (is : List Slot) (s : State) :
    (preemptJacks o is s).sequence = s.sequence
      ∧ (preemptJacks o is s).assembly = s.assembly
      ∧ (preemptJacks o is s).statusTimer = s.statusTimer
      ∧ (preemptJacks o is s).store = s.store := by
  have h : ∀ (s : State) (i : Slot), (if (s.fn i).owner.rank < o.rank then stopFn true i .preempted s else s).sequence = s.sequence ∧ (if (s.fn i).owner.rank < o.rank then stopFn true i .preempted s else s).assembly = s.assembly ∧ (if (s.fn i).owner.rank < o.rank then stopFn true i .preempted s else s).statusTimer = s.statusTimer ∧ (if (s.fn i).owner.rank < o.rank then stopFn true i .preempted s else s).store = s.store := by
    intro s i; split <;> simp
  simp only [preemptJacks]
  simp [h]

theorem firstRequests_frame (atOnce : Bool) {request : Slot → State → State × List Task} (task : Slot → Task)
    (h : ∀ i s, (request i s).1.assembly = s.assembly ∧ (request i s).1.statusTimer = s.statusTimer ∧ (request i s).1.store = s.store) (is : List Slot) (s : State) :
    (firstRequests atOnce request task is s).1.assembly = s.assembly
      ∧ (firstRequests atOnce request task is s).1.statusTimer = s.statusTimer
      ∧ (firstRequests atOnce request task is s).1.store = s.store := by
  simp only [firstRequests]; split <;> simp [h]

@[simp] theorem startLevel_frame (s : State) :
    (startLevel s).1.assembly = s.assembly
      ∧ (startLevel s).1.statusTimer = s.statusTimer
      ∧ (startLevel s).1.store = s.store := by
  simp only [startLevel]
  simp [firstRequests_frame _ _ (request := groundRequest) (by simp)]

@[simp] theorem startStow_frame (o : Owner) (s : State) :
    (startStow o s).1.assembly = s.assembly
      ∧ (startStow o s).1.statusTimer = s.statusTimer
      ∧ (startStow o s).1.store = s.store := by
  simp only [startStow]
  simp [firstRequests_frame _ _ (request := stowRequest) (by simp)]

@[simp] theorem stopSequence_frame (s : State) :
    (stopSequence s).holds = s.holds
      ∧ (stopSequence s).assembly = s.assembly
      ∧ (stopSequence s).statusTimer = s.statusTimer
      ∧ (stopSequence s).store = s.store := by
  simp [stopSequence]

@[simp] theorem operatorSequence_frame (which : SeqRequest) (s : State) :
    (operatorSequence which s).1.assembly = s.assembly
      ∧ (operatorSequence which s).1.statusTimer = s.statusTimer
      ∧ (operatorSequence which s).1.store = s.store := by
  simp only [operatorSequence]; (repeat' split) <;> simp

@[simp] theorem travelStow_frame (s : State) :
    (travelStow s).1.assembly = s.assembly
      ∧ (travelStow s).1.statusTimer = s.statusTimer
      ∧ (travelStow s).1.store = s.store := by
  simp only [travelStow]; (repeat' split) <;> simp

@[simp] theorem groundReport_frame (i : Slot) (s : State) :
    (groundReport i s).assembly = s.assembly
      ∧ (groundReport i s).statusTimer = s.statusTimer
      ∧ (groundReport i s).store = s.store := by
  simp only [groundReport]; (repeat' split) <;> simp

@[simp] theorem twistMember_frame (limit : Nat) (i other : Slot) (s : State) :
    (twistMember limit i other s).holds = s.holds
      ∧ (twistMember limit i other s).monitor = s.monitor
      ∧ (twistMember limit i other s).manifold = s.manifold
      ∧ (twistMember limit i other s).budget = s.budget
      ∧ (twistMember limit i other s).wind = s.wind
      ∧ (twistMember limit i other s).matching = s.matching
      ∧ (twistMember limit i other s).assembly = s.assembly
      ∧ (twistMember limit i other s).statusTimer = s.statusTimer
      ∧ (twistMember limit i other s).store = s.store := by
  simp only [twistMember]; (repeat' split) <;> simp

@[simp] theorem twistRule_frame (i : Slot) (s : State) :
    (twistRule i s).holds = s.holds
      ∧ (twistRule i s).monitor = s.monitor
      ∧ (twistRule i s).manifold = s.manifold
      ∧ (twistRule i s).budget = s.budget
      ∧ (twistRule i s).wind = s.wind
      ∧ (twistRule i s).matching = s.matching
      ∧ (twistRule i s).assembly = s.assembly
      ∧ (twistRule i s).statusTimer = s.statusTimer
      ∧ (twistRule i s).store = s.store := by
  simp only [twistRule]; (repeat' split) <;> simp

@[simp] theorem endGround_frame (s : State) :
    (endGround s).functions = s.functions
      ∧ (endGround s).holds = s.holds
      ∧ (endGround s).monitor = s.monitor
      ∧ (endGround s).manifold = s.manifold
      ∧ (endGround s).budget = s.budget
      ∧ (endGround s).wind = s.wind
      ∧ (endGround s).link = s.link
      ∧ (endGround s).orders = s.orders
      ∧ (endGround s).assembly = s.assembly
      ∧ (endGround s).statusTimer = s.statusTimer
      ∧ (endGround s).store = s.store := by
  simp only [endGround]; (repeat' split) <;> simp

@[simp] theorem setPhase_frame (p : Phase) (s : State) :
    (setPhase p s).functions = s.functions
      ∧ (setPhase p s).holds = s.holds
      ∧ (setPhase p s).monitor = s.monitor
      ∧ (setPhase p s).manifold = s.manifold
      ∧ (setPhase p s).budget = s.budget
      ∧ (setPhase p s).wind = s.wind
      ∧ (setPhase p s).link = s.link
      ∧ (setPhase p s).orders = s.orders
      ∧ (setPhase p s).assembly = s.assembly
      ∧ (setPhase p s).statusTimer = s.statusTimer
      ∧ (setPhase p s).store = s.store := by
  simp only [setPhase]; (repeat' split) <;> simp

@[simp] theorem formStep_frame (s : State) :
    (formStep s).1.functions = s.functions
      ∧ (formStep s).1.holds = s.holds
      ∧ (formStep s).1.monitor = s.monitor
      ∧ (formStep s).1.manifold = s.manifold
      ∧ (formStep s).1.budget = s.budget
      ∧ (formStep s).1.wind = s.wind
      ∧ (formStep s).1.link = s.link
      ∧ (formStep s).1.orders = s.orders
      ∧ (formStep s).1.assembly = s.assembly
      ∧ (formStep s).1.statusTimer = s.statusTimer
      ∧ (formStep s).1.store = s.store := by
  simp only [formStep]; (repeat' split) <;> simp

@[simp] theorem stepEnd_frame (s : State) :
    (stepEnd s).1.functions = s.functions
      ∧ (stepEnd s).1.holds = s.holds
      ∧ (stepEnd s).1.monitor = s.monitor
      ∧ (stepEnd s).1.manifold = s.manifold
      ∧ (stepEnd s).1.budget = s.budget
      ∧ (stepEnd s).1.wind = s.wind
      ∧ (stepEnd s).1.link = s.link
      ∧ (stepEnd s).1.orders = s.orders
      ∧ (stepEnd s).1.assembly = s.assembly
      ∧ (stepEnd s).1.statusTimer = s.statusTimer
      ∧ (stepEnd s).1.store = s.store := by
  simp only [stepEnd]; (repeat' split) <;> simp

@[simp] theorem setLevelled_frame (s : State) :
    (setLevelled s).functions = s.functions
      ∧ (setLevelled s).holds = s.holds
      ∧ (setLevelled s).manifold = s.manifold
      ∧ (setLevelled s).budget = s.budget
      ∧ (setLevelled s).sequence = s.sequence
      ∧ (setLevelled s).wind = s.wind
      ∧ (setLevelled s).matching = s.matching
      ∧ (setLevelled s).path = s.path
      ∧ (setLevelled s).link = s.link
      ∧ (setLevelled s).orders = s.orders
      ∧ (setLevelled s).assembly = s.assembly
      ∧ (setLevelled s).statusTimer = s.statusTimer
      ∧ (setLevelled s).store = s.store := by
  simp only [setLevelled]; (repeat' split) <;> simp

@[simp] theorem endSequenceAs_frame (r : SeqResult) (s : State) :
    (endSequenceAs r s).assembly = s.assembly
      ∧ (endSequenceAs r s).statusTimer = s.statusTimer
      ∧ (endSequenceAs r s).store = s.store := by
  simp only [endSequenceAs]; (repeat' split) <;> simp

@[simp] theorem evaluate_frame (gp gr : Int) (s : State) :
    (evaluate gp gr s).1.assembly = s.assembly
      ∧ (evaluate gp gr s).1.statusTimer = s.statusTimer
      ∧ (evaluate gp gr s).1.store = s.store := by
  simp only [evaluate]; (repeat' split) <;> simp

@[simp] theorem takeReading_frame (pitch roll : Int) (stable : Bool) (s : State) :
    (takeReading pitch roll stable s).1.assembly = s.assembly
      ∧ (takeReading pitch roll stable s).1.statusTimer = s.statusTimer
      ∧ (takeReading pitch roll stable s).1.store = s.store := by
  simp only [takeReading]; (repeat' split) <;> simp

@[simp] theorem endStow_frame (s : State) :
    (endStow s).assembly = s.assembly
      ∧ (endStow s).statusTimer = s.statusTimer
      ∧ (endStow s).store = s.store := by
  simp only [endStow]; (repeat' split) <;> simp

@[simp] theorem jackRested_frame (i : Slot) (s : State) :
    (jackRested i s).1.holds = s.holds
      ∧ (jackRested i s).1.monitor = s.monitor
      ∧ (jackRested i s).1.manifold = s.manifold
      ∧ (jackRested i s).1.budget = s.budget
      ∧ (jackRested i s).1.wind = s.wind
      ∧ (jackRested i s).1.matching = s.matching
      ∧ (jackRested i s).1.assembly = s.assembly
      ∧ (jackRested i s).1.statusTimer = s.statusTimer
      ∧ (jackRested i s).1.store = s.store := by
  simp only [jackRested]; (repeat' split) <;> simp

/-! ### Machine/Supply.lean -/

@[simp] theorem computeLimit_frame (s : State) :
    (computeLimit s).functions = s.functions
      ∧ (computeLimit s).holds = s.holds
      ∧ (computeLimit s).monitor = s.monitor
      ∧ (computeLimit s).manifold = s.manifold
      ∧ (computeLimit s).sequence = s.sequence
      ∧ (computeLimit s).wind = s.wind
      ∧ (computeLimit s).matching = s.matching
      ∧ (computeLimit s).path = s.path
      ∧ (computeLimit s).link = s.link
      ∧ (computeLimit s).orders = s.orders
      ∧ (computeLimit s).assembly = s.assembly
      ∧ (computeLimit s).statusTimer = s.statusTimer
      ∧ (computeLimit s).store = s.store := by
  simp only [computeLimit]; (repeat' split) <;> simp

@[simp] theorem judgeLowSupply_frame (s : State) :
    (judgeLowSupply s).functions = s.functions
      ∧ (judgeLowSupply s).holds = s.holds
      ∧ (judgeLowSupply s).manifold = s.manifold
      ∧ (judgeLowSupply s).sequence = s.sequence
      ∧ (judgeLowSupply s).wind = s.wind
      ∧ (judgeLowSupply s).link = s.link
      ∧ (judgeLowSupply s).orders = s.orders
      ∧ (judgeLowSupply s).assembly = s.assembly
      ∧ (judgeLowSupply s).statusTimer = s.statusTimer
      ∧ (judgeLowSupply s).store = s.store := by
  simp only [judgeLowSupply]; (repeat' split) <;> simp

@[simp] theorem supplyChanged_frame (s : State) :
    (supplyChanged s).functions = s.functions
      ∧ (supplyChanged s).holds = s.holds
      ∧ (supplyChanged s).manifold = s.manifold
      ∧ (supplyChanged s).sequence = s.sequence
      ∧ (supplyChanged s).wind = s.wind
      ∧ (supplyChanged s).link = s.link
      ∧ (supplyChanged s).orders = s.orders
      ∧ (supplyChanged s).assembly = s.assembly
      ∧ (supplyChanged s).statusTimer = s.statusTimer
      ∧ (supplyChanged s).store = s.store := by
  simp only [supplyChanged]; (repeat' split) <;> simp

@[simp] theorem lowSupplyExpired_frame (s : State) :
    (lowSupplyExpired s).assembly = s.assembly
      ∧ (lowSupplyExpired s).statusTimer = s.statusTimer
      ∧ (lowSupplyExpired s).store = s.store := by
  simp only [lowSupplyExpired]; (repeat' split) <;> simp

@[simp] theorem abortHolder_frame (s : State) :
    (abortHolder s).assembly = s.assembly
      ∧ (abortHolder s).statusTimer = s.statusTimer
      ∧ (abortHolder s).store = s.store := by
  simp only [abortHolder]; (repeat' split) <;> simp

@[simp] theorem dutyExpired_frame (s : State) :
    (dutyExpired s).assembly = s.assembly
      ∧ (dutyExpired s).statusTimer = s.statusTimer
      ∧ (dutyExpired s).store = s.store := by
  simp only [dutyExpired]; (repeat' split) <;> simp

@[simp] theorem pumpPressure_frame (pressure : Nat) (s : State) :
    (pumpPressure pressure s).assembly = s.assembly
      ∧ (pumpPressure pressure s).statusTimer = s.statusTimer
      ∧ (pumpPressure pressure s).store = s.store := by
  simp only [pumpPressure]; (repeat' split) <;> simp

@[simp] theorem primeExpired_frame (s : State) :
    (primeExpired s).assembly = s.assembly
      ∧ (primeExpired s).statusTimer = s.statusTimer
      ∧ (primeExpired s).store = s.store := by
  simp only [primeExpired]; (repeat' split) <;> simp

@[simp] theorem coolDownOver_frame (s : State) :
    (coolDownOver s).functions = s.functions
      ∧ (coolDownOver s).holds = s.holds
      ∧ (coolDownOver s).budget = s.budget
      ∧ (coolDownOver s).sequence = s.sequence
      ∧ (coolDownOver s).wind = s.wind
      ∧ (coolDownOver s).link = s.link
      ∧ (coolDownOver s).orders = s.orders
      ∧ (coolDownOver s).assembly = s.assembly
      ∧ (coolDownOver s).statusTimer = s.statusTimer
      ∧ (coolDownOver s).store = s.store := by
  simp only [coolDownOver]; (repeat' split) <;> simp

/-! ### Machine/Awnings.lean -/

@[simp] theorem windJudged_frame (s : State) :
    (windJudged s).functions = s.functions
      ∧ (windJudged s).holds = s.holds
      ∧ (windJudged s).monitor = s.monitor
      ∧ (windJudged s).manifold = s.manifold
      ∧ (windJudged s).budget = s.budget
      ∧ (windJudged s).sequence = s.sequence
      ∧ (windJudged s).matching = s.matching
      ∧ (windJudged s).path = s.path
      ∧ (windJudged s).link = s.link
      ∧ (windJudged s).orders = s.orders
      ∧ (windJudged s).assembly = s.assembly
      ∧ (windJudged s).statusTimer = s.statusTimer
      ∧ (windJudged s).store = s.store := by
  simp only [windJudged]; (repeat' split) <;> simp

@[simp] theorem clearFault_frame (i : Slot) (s : State) :
    (clearFault i s).holds = s.holds
      ∧ (clearFault i s).manifold = s.manifold
      ∧ (clearFault i s).budget = s.budget
      ∧ (clearFault i s).sequence = s.sequence
      ∧ (clearFault i s).link = s.link
      ∧ (clearFault i s).orders = s.orders
      ∧ (clearFault i s).assembly = s.assembly
      ∧ (clearFault i s).statusTimer = s.statusTimer
      ∧ (clearFault i s).store = s.store := by
  simp only [clearFault]; (repeat' split) <;> simp

@[simp] theorem windRetract_frame (i : Slot) (s : State) :
    (windRetract i s).1.assembly = s.assembly
      ∧ (windRetract i s).1.statusTimer = s.statusTimer
      ∧ (windRetract i s).1.store = s.store := by
  simp only [windRetract]; (repeat' split) <;> simp

@[simp] theorem travelRetract_frame (i : Slot) (s : State) :
    (travelRetract i s).1.assembly = s.assembly
      ∧ (travelRetract i s).1.statusTimer = s.statusTimer
      ∧ (travelRetract i s).1.store = s.store := by
  simp only [travelRetract]; (repeat' split) <;> simp

@[simp] theorem retryObstructed_frame (i : Slot) (s : State) :
    (retryObstructed i s).1.assembly = s.assembly
      ∧ (retryObstructed i s).1.statusTimer = s.statusTimer
      ∧ (retryObstructed i s).1.store = s.store := by
  simp only [retryObstructed]; (repeat' split) <;> simp

@[simp] theorem gustRetract_frame (i : Slot) (s : State) :
    (gustRetract i s).1.assembly = s.assembly
      ∧ (gustRetract i s).1.statusTimer = s.statusTimer
      ∧ (gustRetract i s).1.store = s.store := by
  simp only [gustRetract]; (repeat' split) <;> simp

@[simp] theorem gustExpired_frame (s : State) :
    (gustExpired s).1.functions = s.functions
      ∧ (gustExpired s).1.holds = s.holds
      ∧ (gustExpired s).1.manifold = s.manifold
      ∧ (gustExpired s).1.budget = s.budget
      ∧ (gustExpired s).1.sequence = s.sequence
      ∧ (gustExpired s).1.link = s.link
      ∧ (gustExpired s).1.orders = s.orders
      ∧ (gustExpired s).1.assembly = s.assembly
      ∧ (gustExpired s).1.statusTimer = s.statusTimer
      ∧ (gustExpired s).1.store = s.store := by
  simp only [gustExpired]; (repeat' split) <;> simp

@[simp] theorem calmExpired_frame (s : State) :
    (calmExpired s).functions = s.functions
      ∧ (calmExpired s).holds = s.holds
      ∧ (calmExpired s).manifold = s.manifold
      ∧ (calmExpired s).budget = s.budget
      ∧ (calmExpired s).sequence = s.sequence
      ∧ (calmExpired s).link = s.link
      ∧ (calmExpired s).orders = s.orders
      ∧ (calmExpired s).assembly = s.assembly
      ∧ (calmExpired s).statusTimer = s.statusTimer
      ∧ (calmExpired s).store = s.store := by
  simp only [calmExpired]; (repeat' split) <;> simp

@[simp] theorem owedRetract_frame (i : Slot) (s : State) :
    (owedRetract i s).1.assembly = s.assembly
      ∧ (owedRetract i s).1.statusTimer = s.statusTimer
      ∧ (owedRetract i s).1.store = s.store := by
  simp only [owedRetract]; (repeat' split) <;> simp

/-! ### Machine/Link.lean -/

@[simp] theorem setPosture_frame (p : Posture) (s : State) :
    (setPosture p s).functions = s.functions
      ∧ (setPosture p s).holds = s.holds
      ∧ (setPosture p s).manifold = s.manifold
      ∧ (setPosture p s).budget = s.budget
      ∧ (setPosture p s).sequence = s.sequence
      ∧ (setPosture p s).wind = s.wind
      ∧ (setPosture p s).link = s.link
      ∧ (setPosture p s).orders = s.orders
      ∧ (setPosture p s).assembly = s.assembly
      ∧ (setPosture p s).statusTimer = s.statusTimer
      ∧ (setPosture p s).store = s.store := by
  simp only [setPosture]; (repeat' split) <;> simp

@[simp] theorem enterFault_frame (s : State) :
    (enterFault s).assembly = s.assembly
      ∧ (enterFault s).statusTimer = s.statusTimer
      ∧ (enterFault s).store = s.store := by
  simp only [enterFault]; (repeat' split) <;> simp

@[simp] theorem setOutcome_frame (o : CensusOutcome) (s : State) :
    (setOutcome o s).functions = s.functions
      ∧ (setOutcome o s).holds = s.holds
      ∧ (setOutcome o s).monitor = s.monitor
      ∧ (setOutcome o s).manifold = s.manifold
      ∧ (setOutcome o s).budget = s.budget
      ∧ (setOutcome o s).sequence = s.sequence
      ∧ (setOutcome o s).wind = s.wind
      ∧ (setOutcome o s).orders = s.orders
      ∧ (setOutcome o s).assembly = s.assembly
      ∧ (setOutcome o s).statusTimer = s.statusTimer
      ∧ (setOutcome o s).store = s.store := by
  simp only [setOutcome]; (repeat' split) <;> simp

@[simp] theorem judgePowerLine_frame (s : State) :
    (judgePowerLine s).functions = s.functions
      ∧ (judgePowerLine s).holds = s.holds
      ∧ (judgePowerLine s).monitor = s.monitor
      ∧ (judgePowerLine s).manifold = s.manifold
      ∧ (judgePowerLine s).budget = s.budget
      ∧ (judgePowerLine s).sequence = s.sequence
      ∧ (judgePowerLine s).wind = s.wind
      ∧ (judgePowerLine s).matching = s.matching
      ∧ (judgePowerLine s).path = s.path
      ∧ (judgePowerLine s).orders = s.orders
      ∧ (judgePowerLine s).assembly = s.assembly
      ∧ (judgePowerLine s).statusTimer = s.statusTimer
      ∧ (judgePowerLine s).store = s.store := by
  simp only [judgePowerLine]; (repeat' split) <;> simp

@[simp] theorem clearFunctions_frame (s : State) :
    (clearFunctions s).manifold = s.manifold
      ∧ (clearFunctions s).budget = s.budget
      ∧ (clearFunctions s).sequence = s.sequence
      ∧ (clearFunctions s).link = s.link
      ∧ (clearFunctions s).orders = s.orders
      ∧ (clearFunctions s).assembly = s.assembly
      ∧ (clearFunctions s).statusTimer = s.statusTimer
      ∧ (clearFunctions s).store = s.store := by
  simp [clearFunctions]

@[simp] theorem closeCensus_frame (s : State) :
    (closeCensus s).functions = s.functions
      ∧ (closeCensus s).holds = s.holds
      ∧ (closeCensus s).monitor = s.monitor
      ∧ (closeCensus s).manifold = s.manifold
      ∧ (closeCensus s).budget = s.budget
      ∧ (closeCensus s).sequence = s.sequence
      ∧ (closeCensus s).wind = s.wind
      ∧ (closeCensus s).matching = s.matching
      ∧ (closeCensus s).orders = s.orders
      ∧ (closeCensus s).assembly = s.assembly
      ∧ (closeCensus s).statusTimer = s.statusTimer
      ∧ (closeCensus s).store = s.store := by
  simp only [closeCensus]; (repeat' split) <;> simp

@[simp] theorem clearNodes_frame (s : State) :
    (clearNodes s).functions = s.functions
      ∧ (clearNodes s).holds = s.holds
      ∧ (clearNodes s).monitor = s.monitor
      ∧ (clearNodes s).manifold = s.manifold
      ∧ (clearNodes s).budget = s.budget
      ∧ (clearNodes s).sequence = s.sequence
      ∧ (clearNodes s).wind = s.wind
      ∧ (clearNodes s).matching = s.matching
      ∧ (clearNodes s).path = s.path
      ∧ (clearNodes s).orders = s.orders
      ∧ (clearNodes s).assembly = s.assembly
      ∧ (clearNodes s).statusTimer = s.statusTimer
      ∧ (clearNodes s).store = s.store := by
  simp only [clearNodes]; (repeat' split) <;> simp

@[simp] theorem abandonCensus_frame (s : State) :
    (abandonCensus s).functions = s.functions
      ∧ (abandonCensus s).holds = s.holds
      ∧ (abandonCensus s).monitor = s.monitor
      ∧ (abandonCensus s).manifold = s.manifold
      ∧ (abandonCensus s).budget = s.budget
      ∧ (abandonCensus s).sequence = s.sequence
      ∧ (abandonCensus s).wind = s.wind
      ∧ (abandonCensus s).orders = s.orders
      ∧ (abandonCensus s).assembly = s.assembly
      ∧ (abandonCensus s).statusTimer = s.statusTimer
      ∧ (abandonCensus s).store = s.store := by
  simp only [abandonCensus]; (repeat' split) <;> simp

@[simp] theorem startCensus_frame (s : State) :
    (startCensus s).assembly = s.assembly
      ∧ (startCensus s).statusTimer = s.statusTimer
      ∧ (startCensus s).store = s.store := by
  simp only [startCensus]; (repeat' split) <;> simp

@[simp] theorem becomeIdle_frame (i : Slot) (s : State) :
    (becomeIdle i s).1.holds = s.holds
      ∧ (becomeIdle i s).1.manifold = s.manifold
      ∧ (becomeIdle i s).1.budget = s.budget
      ∧ (becomeIdle i s).1.sequence = s.sequence
      ∧ (becomeIdle i s).1.link = s.link
      ∧ (becomeIdle i s).1.orders = s.orders
      ∧ (becomeIdle i s).1.assembly = s.assembly
      ∧ (becomeIdle i s).1.statusTimer = s.statusTimer
      ∧ (becomeIdle i s).1.store = s.store := by
  simp only [becomeIdle]; (repeat' split) <;> simp

@[simp] theorem checkBinding_frame (i : Slot) (s : State) :
    (checkBinding i s).holds = s.holds
      ∧ (checkBinding i s).manifold = s.manifold
      ∧ (checkBinding i s).budget = s.budget
      ∧ (checkBinding i s).sequence = s.sequence
      ∧ (checkBinding i s).link = s.link
      ∧ (checkBinding i s).orders = s.orders
      ∧ (checkBinding i s).assembly = s.assembly
      ∧ (checkBinding i s).statusTimer = s.statusTimer
      ∧ (checkBinding i s).store = s.store := by
  simp only [checkBinding]; (repeat' split) <;> simp

/-- What a becoming IDLE changes: the functions, the C-port's queue with its losses, and the monitor and wind marks
that go with a function record. -/
@[simp] theorem becomeIdleAll_frame (is : List Slot) (s : State) :
    (becomeIdleAll is s).1.holds = s.holds
      ∧ (becomeIdleAll is s).1.manifold = s.manifold
      ∧ (becomeIdleAll is s).1.budget = s.budget
      ∧ (becomeIdleAll is s).1.sequence = s.sequence
      ∧ (becomeIdleAll is s).1.link = s.link
      ∧ (becomeIdleAll is s).1.orders = s.orders
      ∧ (becomeIdleAll is s).1.assembly = s.assembly
      ∧ (becomeIdleAll is s).1.statusTimer = s.statusTimer
      ∧ (becomeIdleAll is s).1.store = s.store := by
  unfold becomeIdleAll
  suffices h : ∀ (r : State × List Task), (r.1.holds = s.holds ∧ r.1.manifold = s.manifold ∧ r.1.budget = s.budget
      ∧ r.1.sequence = s.sequence ∧ r.1.link = s.link ∧ r.1.orders = s.orders ∧ r.1.assembly = s.assembly
      ∧ r.1.statusTimer = s.statusTimer ∧ r.1.store = s.store) →
      let t := is.foldl (fun r i => let t := becomeIdle i r.1; (t.1, r.2 ++ t.2)) r
      (t.1.holds = s.holds ∧ t.1.manifold = s.manifold ∧ t.1.budget = s.budget
      ∧ t.1.sequence = s.sequence ∧ t.1.link = s.link ∧ t.1.orders = s.orders ∧ t.1.assembly = s.assembly
      ∧ t.1.statusTimer = s.statusTimer ∧ t.1.store = s.store) from h (s, []) (by simp)
  induction is with
  | nil => exact fun _ h => h
  | cons i is ih => exact fun r h => ih _ (by simpa using h)

@[simp] theorem recheck_frame (is : List Slot) (s : State) :
    (recheck is s).1.holds = s.holds
      ∧ (recheck is s).1.manifold = s.manifold
      ∧ (recheck is s).1.budget = s.budget
      ∧ (recheck is s).1.sequence = s.sequence
      ∧ (recheck is s).1.link = s.link
      ∧ (recheck is s).1.orders = s.orders
      ∧ (recheck is s).1.assembly = s.assembly
      ∧ (recheck is s).1.statusTimer = s.statusTimer
      ∧ (recheck is s).1.store = s.store := by
  simp only [recheck]; (repeat' split) <;> simp

@[simp] theorem unbindFn_frame (i : Slot) (s : State) :
    (unbindFn i s).assembly = s.assembly
      ∧ (unbindFn i s).statusTimer = s.statusTimer
      ∧ (unbindFn i s).store = s.store := by
  simp only [unbindFn]; (repeat' split) <;> simp

@[simp] theorem endCensus_frame (o : CensusOutcome) (count : Nat) (s : State) :
    (endCensus o count s).1.holds = s.holds
      ∧ (endCensus o count s).1.manifold = s.manifold
      ∧ (endCensus o count s).1.budget = s.budget
      ∧ (endCensus o count s).1.sequence = s.sequence
      ∧ (endCensus o count s).1.orders = s.orders
      ∧ (endCensus o count s).1.assembly = s.assembly
      ∧ (endCensus o count s).1.statusTimer = s.statusTimer
      ∧ (endCensus o count s).1.store = s.store := by
  simp only [endCensus]; (repeat' split) <;> simp

@[simp] theorem enrolmentExpired_frame (s : State) :
    (enrolmentExpired s).1.holds = s.holds
      ∧ (enrolmentExpired s).1.manifold = s.manifold
      ∧ (enrolmentExpired s).1.budget = s.budget
      ∧ (enrolmentExpired s).1.sequence = s.sequence
      ∧ (enrolmentExpired s).1.orders = s.orders
      ∧ (enrolmentExpired s).1.assembly = s.assembly
      ∧ (enrolmentExpired s).1.statusTimer = s.statusTimer
      ∧ (enrolmentExpired s).1.store = s.store := by
  simp only [enrolmentExpired]; (repeat' split) <;> simp

@[simp] theorem stray_frame (s : State) :
    (stray s).functions = s.functions
      ∧ (stray s).holds = s.holds
      ∧ (stray s).monitor = s.monitor
      ∧ (stray s).manifold = s.manifold
      ∧ (stray s).budget = s.budget
      ∧ (stray s).sequence = s.sequence
      ∧ (stray s).wind = s.wind
      ∧ (stray s).matching = s.matching
      ∧ (stray s).path = s.path
      ∧ (stray s).orders = s.orders
      ∧ (stray s).assembly = s.assembly
      ∧ (stray s).statusTimer = s.statusTimer
      ∧ (stray s).store = s.store := by
  simp only [stray]; (repeat' split) <;> simp

@[simp] theorem enrolAnswer_frame (n kindCode channels hardware : Nat) (s : State) :
    (enrolAnswer n kindCode channels hardware s).1.holds = s.holds
      ∧ (enrolAnswer n kindCode channels hardware s).1.manifold = s.manifold
      ∧ (enrolAnswer n kindCode channels hardware s).1.budget = s.budget
      ∧ (enrolAnswer n kindCode channels hardware s).1.sequence = s.sequence
      ∧ (enrolAnswer n kindCode channels hardware s).1.assembly = s.assembly
      ∧ (enrolAnswer n kindCode channels hardware s).1.statusTimer = s.statusTimer
      ∧ (enrolAnswer n kindCode channels hardware s).1.store = s.store := by
  simp only [enrolAnswer]; (repeat' split) <;> simp

@[simp] theorem hearNode_frame (n : Nat) (s : State) :
    (hearNode n s).holds = s.holds
      ∧ (hearNode n s).monitor = s.monitor
      ∧ (hearNode n s).manifold = s.manifold
      ∧ (hearNode n s).budget = s.budget
      ∧ (hearNode n s).sequence = s.sequence
      ∧ (hearNode n s).wind = s.wind
      ∧ (hearNode n s).matching = s.matching
      ∧ (hearNode n s).path = s.path
      ∧ (hearNode n s).link = s.link
      ∧ (hearNode n s).orders = s.orders
      ∧ (hearNode n s).assembly = s.assembly
      ∧ (hearNode n s).statusTimer = s.statusTimer
      ∧ (hearNode n s).store = s.store := by
  simp only [hearNode]
  exact ⟨foldl_part (·.holds) (by intros; rfl) _ _,
    foldl_part (·.monitor) (by intros; rfl) _ _,
    foldl_part (·.manifold) (by intros; rfl) _ _,
    foldl_part (·.budget) (by intros; rfl) _ _,
    foldl_part (·.sequence) (by intros; rfl) _ _,
    foldl_part (·.wind) (by intros; rfl) _ _,
    foldl_part (·.matching) (by intros; rfl) _ _,
    foldl_part (·.path) (by intros; rfl) _ _,
    foldl_part (·.link) (by intros; rfl) _ _,
    foldl_part (·.orders) (by intros; rfl) _ _,
    foldl_part (·.assembly) (by intros; rfl) _ _,
    foldl_part (·.statusTimer) (by intros; rfl) _ _,
    foldl_part (·.store) (by intros; rfl) _ _⟩

@[simp] theorem recordReport_frame (n ch : Nat) (r : ChannelRecord) (s : State) :
    (recordReport n ch r s).functions = s.functions
      ∧ (recordReport n ch r s).holds = s.holds
      ∧ (recordReport n ch r s).monitor = s.monitor
      ∧ (recordReport n ch r s).manifold = s.manifold
      ∧ (recordReport n ch r s).budget = s.budget
      ∧ (recordReport n ch r s).sequence = s.sequence
      ∧ (recordReport n ch r s).wind = s.wind
      ∧ (recordReport n ch r s).matching = s.matching
      ∧ (recordReport n ch r s).path = s.path
      ∧ (recordReport n ch r s).orders = s.orders
      ∧ (recordReport n ch r s).assembly = s.assembly
      ∧ (recordReport n ch r s).statusTimer = s.statusTimer
      ∧ (recordReport n ch r s).store = s.store := by
  simp only [recordReport]; (repeat' split) <;> simp

@[simp] theorem takeReport_frame (f : Frame) (s : State) :
    (takeReport f s).1.holds = s.holds
      ∧ (takeReport f s).1.monitor = s.monitor
      ∧ (takeReport f s).1.manifold = s.manifold
      ∧ (takeReport f s).1.budget = s.budget
      ∧ (takeReport f s).1.sequence = s.sequence
      ∧ (takeReport f s).1.wind = s.wind
      ∧ (takeReport f s).1.matching = s.matching
      ∧ (takeReport f s).1.path = s.path
      ∧ (takeReport f s).1.orders = s.orders
      ∧ (takeReport f s).1.assembly = s.assembly
      ∧ (takeReport f s).1.statusTimer = s.statusTimer
      ∧ (takeReport f s).1.store = s.store := by
  simp only [takeReport]; (repeat' split) <;> simp

@[simp] theorem takeTilt_frame (f : Frame) (s : State) :
    (takeTilt f s).1.assembly = s.assembly
      ∧ (takeTilt f s).1.statusTimer = s.statusTimer
      ∧ (takeTilt f s).1.store = s.store := by
  simp only [takeTilt]; (repeat' split) <;> simp

@[simp] theorem silentNode_frame (n : Nat) (s : State) :
    (silentNode n s).assembly = s.assembly
      ∧ (silentNode n s).statusTimer = s.statusTimer
      ∧ (silentNode n s).store = s.store := by
  simp only [silentNode]; (repeat' split) <;> simp

@[simp] theorem cancelSilence_frame (s : State) :
    (cancelSilence s).functions = s.functions
      ∧ (cancelSilence s).holds = s.holds
      ∧ (cancelSilence s).monitor = s.monitor
      ∧ (cancelSilence s).manifold = s.manifold
      ∧ (cancelSilence s).budget = s.budget
      ∧ (cancelSilence s).sequence = s.sequence
      ∧ (cancelSilence s).wind = s.wind
      ∧ (cancelSilence s).matching = s.matching
      ∧ (cancelSilence s).path = s.path
      ∧ (cancelSilence s).orders = s.orders
      ∧ (cancelSilence s).assembly = s.assembly
      ∧ (cancelSilence s).statusTimer = s.statusTimer
      ∧ (cancelSilence s).store = s.store := by
  simp only [cancelSilence]; (repeat' split) <;> simp

@[simp] theorem enterDoze_frame (s : State) :
    (enterDoze s).functions = s.functions
      ∧ (enterDoze s).holds = s.holds
      ∧ (enterDoze s).monitor = s.monitor
      ∧ (enterDoze s).manifold = s.manifold
      ∧ (enterDoze s).budget = s.budget
      ∧ (enterDoze s).sequence = s.sequence
      ∧ (enterDoze s).wind = s.wind
      ∧ (enterDoze s).assembly = s.assembly := by
  simp only [enterDoze]; (repeat' split) <;> simp

@[simp] theorem wake_frame (s : State) :
    (wake s).assembly = s.assembly := by
  simp only [wake]; (repeat' split) <;> simp

@[simp] theorem touchDoze_frame (s : State) :
    (touchDoze s).assembly = s.assembly := by
  simp only [touchDoze]; (repeat' split) <;> simp

/-! ### Machine/Posture.lean -/

@[simp] theorem handOver_frame (g : Signal) (s : State) :
    (handOver g s).functions = s.functions
      ∧ (handOver g s).holds = s.holds
      ∧ (handOver g s).manifold = s.manifold
      ∧ (handOver g s).sequence = s.sequence
      ∧ (handOver g s).link = s.link
      ∧ (handOver g s).orders = s.orders
      ∧ (handOver g s).assembly = s.assembly
      ∧ (handOver g s).statusTimer = s.statusTimer
      ∧ (handOver g s).store = s.store := by
  simp only [handOver]; (repeat' split) <;> simp

@[simp] theorem ignitionOn_frame (s : State) :
    (ignitionOn s).1.assembly = s.assembly := by
  simp only [ignitionOn]; (repeat' split) <;> simp

@[simp] theorem deliver_frame (g : Signal) (value : Nat) (source : EntryIndex) (s : State) :
    (deliver g value source s).1.assembly = s.assembly := by
  simp only [deliver]; (repeat' split) <;> simp

@[simp] theorem staleExpired_frame (g : Signal) (s : State) :
    (staleExpired g s).functions = s.functions
      ∧ (staleExpired g s).holds = s.holds
      ∧ (staleExpired g s).manifold = s.manifold
      ∧ (staleExpired g s).sequence = s.sequence
      ∧ (staleExpired g s).link = s.link
      ∧ (staleExpired g s).orders = s.orders
      ∧ (staleExpired g s).assembly = s.assembly
      ∧ (staleExpired g s).statusTimer = s.statusTimer
      ∧ (staleExpired g s).store = s.store := by
  simp only [staleExpired]; (repeat' split) <;> simp

@[simp] theorem judgeMove_frame (i : Slot) (s : State) :
    (judgeMove i s).assembly = s.assembly
      ∧ (judgeMove i s).statusTimer = s.statusTimer
      ∧ (judgeMove i s).store = s.store := by
  simp only [judgeMove]; (repeat' split) <;> simp

@[simp] theorem judgeSequence_frame (s : State) :
    (judgeSequence s).assembly = s.assembly
      ∧ (judgeSequence s).statusTimer = s.statusTimer
      ∧ (judgeSequence s).store = s.store := by
  simp only [judgeSequence]; (repeat' split) <;> simp

@[simp] theorem changePosture_frame (p : Posture) (s : State) :
    (changePosture p s).1.assembly = s.assembly
      ∧ (changePosture p s).1.statusTimer = s.statusTimer
      ∧ (changePosture p s).1.store = s.store := by
  simp only [changePosture]; (repeat' split) <;> simp

@[simp] theorem exchangeBanks_frame (s : State) :
    (exchangeBanks s).functions = s.functions
      ∧ (exchangeBanks s).holds = s.holds
      ∧ (exchangeBanks s).manifold = s.manifold
      ∧ (exchangeBanks s).budget = s.budget
      ∧ (exchangeBanks s).sequence = s.sequence
      ∧ (exchangeBanks s).wind = s.wind
      ∧ (exchangeBanks s).link = s.link
      ∧ (exchangeBanks s).orders = s.orders
      ∧ (exchangeBanks s).assembly = s.assembly
      ∧ (exchangeBanks s).statusTimer = s.statusTimer
      ∧ (exchangeBanks s).store = s.store := by
  simp only [exchangeBanks]; (repeat' split) <;> simp

@[simp] theorem writeCell_frame (v : Byte) (s : State) :
    (writeCell v s).functions = s.functions
      ∧ (writeCell v s).holds = s.holds
      ∧ (writeCell v s).manifold = s.manifold
      ∧ (writeCell v s).budget = s.budget
      ∧ (writeCell v s).sequence = s.sequence
      ∧ (writeCell v s).wind = s.wind
      ∧ (writeCell v s).matching = s.matching
      ∧ (writeCell v s).path = s.path
      ∧ (writeCell v s).link = s.link
      ∧ (writeCell v s).orders = s.orders
      ∧ (writeCell v s).assembly = s.assembly
      ∧ (writeCell v s).statusTimer = s.statusTimer
      ∧ (writeCell v s).store = s.store := by
  simp only [writeCell]; (repeat' split) <;> simp

@[simp] theorem writeCellList_frame (bs : List Byte) (s : State) :
    (writeCellList bs s).functions = s.functions
      ∧ (writeCellList bs s).holds = s.holds
      ∧ (writeCellList bs s).manifold = s.manifold
      ∧ (writeCellList bs s).budget = s.budget
      ∧ (writeCellList bs s).sequence = s.sequence
      ∧ (writeCellList bs s).wind = s.wind
      ∧ (writeCellList bs s).matching = s.matching
      ∧ (writeCellList bs s).path = s.path
      ∧ (writeCellList bs s).link = s.link
      ∧ (writeCellList bs s).orders = s.orders
      ∧ (writeCellList bs s).assembly = s.assembly
      ∧ (writeCellList bs s).statusTimer = s.statusTimer
      ∧ (writeCellList bs s).store = s.store := by
  simp only [writeCellList]; (repeat' split) <;> simp

/-! ### Machine/Matching.lean -/

@[simp] theorem capture_frame (i : EntryIndex) (f : Frame) (g : Signal) (offset width multiplier divisor : Nat) (addend : Int) (s : State) :
    (capture i f g offset width multiplier divisor addend s).1.assembly = s.assembly := by
  simp only [capture]; (repeat' split) <;> simp

@[simp] theorem forward_frame (port : Port) (f : Frame) (rewrite : Option (Form × Ident)) (s : State) :
    (forward port f rewrite s).functions = s.functions
      ∧ (forward port f rewrite s).holds = s.holds
      ∧ (forward port f rewrite s).monitor = s.monitor
      ∧ (forward port f rewrite s).manifold = s.manifold
      ∧ (forward port f rewrite s).budget = s.budget
      ∧ (forward port f rewrite s).sequence = s.sequence
      ∧ (forward port f rewrite s).wind = s.wind
      ∧ (forward port f rewrite s).assembly = s.assembly
      ∧ (forward port f rewrite s).statusTimer = s.statusTimer
      ∧ (forward port f rewrite s).store = s.store := by
  simp only [forward]; (repeat' split) <;> simp

@[simp] theorem act_frame (i : EntryIndex) (port : Port) (f : Frame) (a : Action) (s : State) :
    (act i port f a s).1.assembly = s.assembly := by
  simp only [act]; (repeat' split) <;> simp

@[simp] theorem countHit_frame (i : EntryIndex) (s : State) :
    (countHit i s).functions = s.functions
      ∧ (countHit i s).holds = s.holds
      ∧ (countHit i s).monitor = s.monitor
      ∧ (countHit i s).manifold = s.manifold
      ∧ (countHit i s).budget = s.budget
      ∧ (countHit i s).sequence = s.sequence
      ∧ (countHit i s).wind = s.wind
      ∧ (countHit i s).path = s.path
      ∧ (countHit i s).link = s.link
      ∧ (countHit i s).orders = s.orders
      ∧ (countHit i s).assembly = s.assembly
      ∧ (countHit i s).statusTimer = s.statusTimer
      ∧ (countHit i s).store = s.store := by
  simp only [countHit]; (repeat' split) <;> simp

@[simp] theorem chain_frame (port : Port) (f : Frame) (k : Nat) (s : State) :
    (chain port f k s).1.assembly = s.assembly := by
  simp only [chain]; (repeat' split) <;> simp

@[simp] theorem stopRequest_frame (i : Slot) (s : State) :
    (stopRequest i s).assembly = s.assembly
      ∧ (stopRequest i s).statusTimer = s.statusTimer
      ∧ (stopRequest i s).store = s.store := by
  simp only [stopRequest]; (repeat' split) <;> simp

@[simp] theorem clearRequest_frame (i : Slot) (s : State) :
    (clearRequest i s).holds = s.holds
      ∧ (clearRequest i s).manifold = s.manifold
      ∧ (clearRequest i s).budget = s.budget
      ∧ (clearRequest i s).sequence = s.sequence
      ∧ (clearRequest i s).link = s.link
      ∧ (clearRequest i s).orders = s.orders
      ∧ (clearRequest i s).assembly = s.assembly
      ∧ (clearRequest i s).statusTimer = s.statusTimer
      ∧ (clearRequest i s).store = s.store := by
  simp only [clearRequest]; (repeat' split) <;> simp

@[simp] theorem moveRequest_frame (i : Slot) (d : Direction) (s : State) :
    (moveRequest i d s).1.assembly = s.assembly
      ∧ (moveRequest i d s).1.statusTimer = s.statusTimer
      ∧ (moveRequest i d s).1.store = s.store := by
  simp only [moveRequest]; (repeat' split) <;> simp

@[simp] theorem operatorTask_frame (i : Slot) (v : RequestVerb) (s : State) :
    (operatorTask i v s).1.assembly = s.assembly
      ∧ (operatorTask i v s).1.statusTimer = s.statusTimer
      ∧ (operatorTask i v s).1.store = s.store := by
  simp only [operatorTask]; (repeat' split) <;> simp

@[simp] theorem renewHold_frame (i : Slot) (s : State) :
    (renewHold i s).functions = s.functions
      ∧ (renewHold i s).monitor = s.monitor
      ∧ (renewHold i s).manifold = s.manifold
      ∧ (renewHold i s).budget = s.budget
      ∧ (renewHold i s).sequence = s.sequence
      ∧ (renewHold i s).wind = s.wind
      ∧ (renewHold i s).matching = s.matching
      ∧ (renewHold i s).path = s.path
      ∧ (renewHold i s).link = s.link
      ∧ (renewHold i s).orders = s.orders
      ∧ (renewHold i s).assembly = s.assembly
      ∧ (renewHold i s).statusTimer = s.statusTimer
      ∧ (renewHold i s).store = s.store := by
  simp only [renewHold]; (repeat' split) <;> simp

@[simp] theorem newPress_frame (i : Slot) (d : Direction) (source : EntryIndex) (s : State) :
    (newPress i d source s).1.assembly = s.assembly
      ∧ (newPress i d source s).1.statusTimer = s.statusTimer
      ∧ (newPress i d source s).1.store = s.store := by
  simp only [newPress]; (repeat' split) <;> simp

@[simp] theorem press_frame (i : Slot) (d : Direction) (source : EntryIndex) (s : State) :
    (press i d source s).1.assembly = s.assembly
      ∧ (press i d source s).1.statusTimer = s.statusTimer
      ∧ (press i d source s).1.store = s.store := by
  simp only [press]; (repeat' split) <;> simp

/-! ### Machine/Reports.lean -/

@[simp] theorem jackReport_frame (i : Slot) (pressure : Nat) (s : State) :
    (jackReport i pressure s).assembly = s.assembly
      ∧ (jackReport i pressure s).statusTimer = s.statusTimer
      ∧ (jackReport i pressure s).store = s.store := by
  simp only [jackReport]; (repeat' split) <;> simp

@[simp] theorem hydReport_frame (i : Slot) (pressure : Nat) (s : State) :
    (hydReport i pressure s).assembly = s.assembly
      ∧ (hydReport i pressure s).statusTimer = s.statusTimer
      ∧ (hydReport i pressure s).store = s.store := by
  simp only [hydReport]; (repeat' split) <;> simp

@[simp] theorem twinReport_frame (i : Slot) (e : Side) (current : Nat) (flags : Byte) (s : State) :
    (twinReport i e current flags s).assembly = s.assembly
      ∧ (twinReport i e current flags s).statusTimer = s.statusTimer
      ∧ (twinReport i e current flags s).store = s.store := by
  simp only [twinReport]; (repeat' split) <;> simp

@[simp] theorem kindReport_frame (i : Slot) (d : DriveRef) (load : Nat) (flags : Byte) (s : State) :
    (kindReport i d load flags s).assembly = s.assembly
      ∧ (kindReport i d load flags s).statusTimer = s.statusTimer
      ∧ (kindReport i d load flags s).store = s.store := by
  simp only [kindReport]; (repeat' split) <;> simp

@[simp] theorem activityReport_frame (i : Slot) (d : DriveRef) (load : Nat) (flags : Byte) (s : State) :
    (activityReport i d load flags s).1.assembly = s.assembly
      ∧ (activityReport i d load flags s).1.statusTimer = s.statusTimer
      ∧ (activityReport i d load flags s).1.store = s.store := by
  simp only [activityReport]; (repeat' split) <;> simp

@[simp] theorem slotReport_frame (i : Slot) (d : DriveRef) (s : State) :
    (slotReport i d s).1.assembly = s.assembly
      ∧ (slotReport i d s).1.statusTimer = s.statusTimer
      ∧ (slotReport i d s).1.store = s.store := by
  simp only [slotReport]; (repeat' split) <;> simp

/-! ### Machine/Records.lean -/

@[simp] theorem queueRecord_frame (bs : List Byte) (s : State) :
    (queueRecord bs s).functions = s.functions
      ∧ (queueRecord bs s).holds = s.holds
      ∧ (queueRecord bs s).monitor = s.monitor
      ∧ (queueRecord bs s).manifold = s.manifold
      ∧ (queueRecord bs s).budget = s.budget
      ∧ (queueRecord bs s).sequence = s.sequence
      ∧ (queueRecord bs s).wind = s.wind
      ∧ (queueRecord bs s).link = s.link
      ∧ (queueRecord bs s).orders = s.orders
      ∧ (queueRecord bs s).assembly = s.assembly
      ∧ (queueRecord bs s).statusTimer = s.statusTimer
      ∧ (queueRecord bs s).store = s.store := by
  simp [queueRecord]

end Sys2Proof.Laws
end

