-- ==== Sys2Proof/Laws/Ops.lean ====
section
/-! SUPPORT. What the shared operations write, said once for each: the record of a slot, the stop and the fault of
a function, the alarm set, the claim set, and the queues with their capacities. -/

namespace Sys2Proof.Laws
open Sys2Proof.Machine

/-! ### A function's record -/

theorem fn_congr {s t : State} (h : t.functions = s.functions) (i : Slot) : t.fn i = s.fn i := by
  simp [State.fn, h]

theorem putFn_functions (i : Slot) (f : Function) (s : State) :
    (putFn i f s).functions = s.functions.set i f := by
  simp only [putFn]
  split <;> simp <;> rfl

@[simp] theorem putFn_fn (i : Slot) (f : Function) (s : State) : (putFn i f s).fn i = f := by
  simp [State.fn, putFn_functions]

theorem putFn_fn_ne {i j : Slot} (f : Function) (s : State) (h : i ≠ j) : (putFn i f s).fn j = s.fn j := by
  have h' : i.val ≠ j.val := fun e => h (Fin.ext e)
  simp [State.fn, putFn_functions, h']

/-- A write that changes none of the reported fields queues no frame (R191). -/
theorem putFn_quiet {i : Slot} {f : Function} {s : State} (h : reported (s.fn i) = reported f) :
    putFn i f s = judgeOwedStowed i (s.fn i) f (judgeLevelled i (s.fn i) f (s.storeFn i f)) := by
  simp [putFn, h]

/-! ### The stop of a function (R18) -/

theorem stopFn_rest (place : Bool) {i : Slot} (r : StopReason) {s : State}
    (h : (s.fn i).activity.isBusy = false) : stopFn place i r s = s := by
  simp [stopFn, h]

theorem stopFn_functions (place : Bool) (i : Slot) (r : StopReason) (s : State) :
    (stopFn place i r s).functions =
      if (s.fn i).activity.isBusy then s.functions.set i ((s.fn i).stopped r) else s.functions := by
  simp only [stopFn]
  (repeat' split) <;> simp [putFn_functions]

/-- A stop leaves a busy function IDLE at rest with its reason, and every other function as it was. -/
theorem stopFn_fn (place : Bool) (i : Slot) (r : StopReason) (s : State) (h : (s.fn i).activity.isBusy = true) :
    (stopFn place i r s).fn i = (s.fn i).stopped r := by
  simp [State.fn, stopFn_functions] at h ⊢
  simp [h]

theorem stopFn_fn_ne (place : Bool) {i j : Slot} (r : StopReason) (s : State) (h : i ≠ j) :
    (stopFn place i r s).fn j = s.fn j := by
  have h' : i.val ≠ j.val := fun e => h (Fin.ext e)
  by_cases hb : (s.fn i).activity.isBusy = true
  · simp [State.fn, stopFn_functions] at hb ⊢
    simp [hb, h']
  · rw [stopFn_rest place r (by simpa using hb)]

/-- After a stop the slot is not busy. -/
theorem stopFn_notBusy (place : Bool) (i : Slot) (r : StopReason) (s : State) :
    ((stopFn place i r s).fn i).activity.isBusy = false := by
  cases h : (s.fn i).activity.isBusy with
  | true => rw [stopFn_fn place i r s h]; rfl
  | false => rw [stopFn_rest place r h, h]

/-- A slot that is not busy is left as it was by the stop of any list of slots. -/
theorem stopAll_fn_rest (place : Bool) (r : StopReason) (is : List Slot) (s : State) {j : Slot}
    (h : (s.fn j).activity.isBusy = false) : (stopAll place r is s).fn j = s.fn j := by
  induction is generalizing s with
  | nil => rfl
  | cons i is ih =>
    have key : (stopFn place i r s).fn j = s.fn j := by
      by_cases e : i = j
      · subst e; rw [stopFn_rest place r h]
      · exact stopFn_fn_ne place r s e
    have := ih (stopFn place i r s) (by rw [key]; exact h)
    simp only [stopAll, List.foldl_cons] at this ⊢
    rw [this, key]

/-- The stop of a list leaves each busy slot of it IDLE at rest with the reason. -/
theorem stopAll_fn (place : Bool) (r : StopReason) (is : List Slot) (s : State) {j : Slot}
    (h : (s.fn j).activity.isBusy = true) (hj : j ∈ is) :
    (stopAll place r is s).fn j = (s.fn j).stopped r := by
  induction is generalizing s with
  | nil => simp at hj
  | cons i is ih =>
    by_cases e : i = j
    · subst e
      have hs := stopFn_fn place i r s h
      have := stopAll_fn_rest place r is (stopFn place i r s) (j := i) (stopFn_notBusy place i r s)
      simp only [stopAll, List.foldl_cons] at this ⊢
      rw [this, hs]
    · have key := stopFn_fn_ne place r s e
      have := ih (stopFn place i r s) (by rw [key]; exact h) (by simpa [Ne.symm e] using hj)
      simp only [stopAll, List.foldl_cons] at this ⊢
      rw [this, key]

theorem mem_slots (i : Slot) : i ∈ slots := by
  revert i; decide

/-! ### The fault of a function (R16) -/

theorem failFn_rest {i : Slot} (c : FaultCode) {s : State} (h : (s.fn i).activity.canFault = false) :
    failFn i c s = s := by
  simp [failFn, h]

theorem failFn_functions (i : Slot) (c : FaultCode) (s : State) :
    (failFn i c s).functions =
      if (s.fn i).activity.canFault then s.functions.set i ((s.fn i).failed c) else s.functions := by
  simp only [failFn]
  split <;> simp [putFn_functions]

/-- A fault leaves the function FAULTED with its code, its last stop reason as it was, and every other function as
it was. -/
theorem failFn_fn (i j : Slot) (c : FaultCode) (s : State) : (failFn i c s).fn j =
    if j = i ∧ (s.fn i).activity.canFault = true then (s.fn i).failed c else s.fn j := by
  cases h : (s.fn i).activity.canFault with
  | false => rw [failFn_rest c h]; simp
  | true =>
    by_cases e : j = i
    · subst e
      simp [State.fn, failFn_functions] at h ⊢
      simp [h]
    · have h' : i.val ≠ j.val := fun e' => e (Fin.ext e'.symm)
      simp [State.fn, failFn_functions] at h ⊢
      simp [e, h, h']

/-- A fault whose slots no sequence took faults each of them and ends nothing. -/
theorem faultFns_free {is : List Slot} (c : FaultCode) {s : State} (h : ∀ i ∈ is, s.isTaken i = false) :
    faultFns is c s = is.foldl (fun s i => failFn i c s) s := by
  have : (is.any fun i => (s.fn i).activity.canFault && s.isTaken i) = false := by
    simp only [List.any_eq_false]
    intro i hi
    simp [h i hi]
  simp [faultFns, this]

theorem faultFn_free {i : Slot} (c : FaultCode) {s : State} (h : s.isTaken i = false) :
    faultFn i c s = failFn i c s := by
  rw [faultFn, faultFns_free c (by simpa using h)]; rfl

theorem faultFn_rest {i : Slot} (c : FaultCode) {s : State} (h : (s.fn i).activity.canFault = false) :
    faultFn i c s = s := by
  simp [faultFn, faultFns, h, failFn_rest c h]

/-! ### The alarm set (R41) -/

theorem setAlarm_monitor (k : Alarm) (v : Bool) (s : State) :
    (setAlarm k v s).monitor = { s.monitor with alarms := s.monitor.alarms.put k v } := by
  by_cases h : s.monitor.alarms.has k = v
  · subst h
    have e : s.monitor.alarms.put k (s.monitor.alarms.has k) = s.monitor.alarms := by cases k <;> rfl
    rw [e]
    simp [setAlarm]
  · simp [setAlarm, h, alarmFrame, queueStatus]

@[simp] theorem alarms_put_has (a : AlarmSet) (k : Alarm) (v : Bool) : (a.put k v).has k = v := by
  cases k <;> rfl

/-! ### The image and the refresh period (R172, R173, R192, R193) -/

/-- An image that a store has built agrees with its CRC (R193). -/
@[simp] theorem image_agrees (c : Settings) : c.image.agrees = true := by simp [Image.agrees, Settings.image]

@[simp] theorem image_settings (c : Settings) : c.image.settings = c := rfl

/-- A start that finds an image built by a store loads its settings (R192). -/
@[simp] theorem image_load (c : Settings) : c.image.load = c := by simp [Image.load]

theorem load_cut {m : Image} (h : m.agrees = false) : m.load = Settings.factory := by simp [Image.load, h]

/-- A writing that is cut leaves a CRC that does not agree (R193). -/
theorem cutImage_agrees {c : ConfigStore} (h : c.storing.isSome = true) : c.cutImage.agrees = false := by
  simp only [ConfigStore.cutImage, h, if_true, Image.agrees, beq_eq_false_iff_ne]
  intro e
  have := congrArg (·.getLsbD 0) e
  simp at this

theorem cutImage_whole {c : ConfigStore} (h : c.storing = none) : c.cutImage = c.image := by
  simp [ConfigStore.cutImage, h]

@[simp] theorem restarted_timer (o : OrderScheduler) (now period : Nat) :
    (o.restarted now period).refreshTimer = some (now + period) := rfl
@[simp] theorem restarted_period (o : OrderScheduler) (now period : Nat) :
    (o.restarted now period).period = period := rfl
@[simp] theorem restarted_records (o : OrderScheduler) (now period : Nat) :
    (o.restarted now period).records = o.records := rfl
@[simp] theorem restarted_queue (o : OrderScheduler) (now period : Nat) :
    (o.restarted now period).queue = o.queue := rfl
@[simp] theorem restarted_cycle (o : OrderScheduler) (now period : Nat) :
    (o.restarted now period).cycle = o.cycle := rfl

/-! ### The claim set (R64) -/

@[simp] theorem claimSum_nil : claimSum [] = 0 := rfl

@[simp] theorem claimSum_append (a b : List Claim) : claimSum (a ++ b) = claimSum a + claimSum b := by
  simp [claimSum]

theorem claimSum_filter_le (p : Claim → Bool) (cs : List Claim) : claimSum (cs.filter p) ≤ claimSum cs := by
  induction cs with
  | nil => simp
  | cons c cs ih =>
    simp only [claimSum, List.filter_cons, List.map_cons, List.sum_cons] at *
    split
    · simp only [List.map_cons, List.sum_cons]; omega
    · omega

/-- The effective limit never exceeds the supply limit (R65). -/
theorem limitAt_le (c : SupplyConfig) (v : Nat) : limitAt c v ≤ c.supplyLimit := by
  simp only [limitAt]
  split
  · exact Nat.le_refl _
  · split
    · exact Nat.zero_le _
    · have h1 : v - c.vCut ≤ c.vLow - c.vCut := by omega
      have h2 : 0 < c.vLow - c.vCut := by omega
      calc c.supplyLimit * (v - c.vCut) / (c.vLow - c.vCut)
          ≤ c.supplyLimit * (c.vLow - c.vCut) / (c.vLow - c.vCut) :=
            Nat.div_le_div_right (Nat.mul_le_mul_left _ h1)
        _ = c.supplyLimit := Nat.mul_div_cancel _ h2

/-! ### The C-port transmit queue (R147 to R149) -/

theorem mergeInto_length {new : TxEntry} {q r : List TxEntry} (h : mergeInto new q = some r) :
    r.length = q.length := by
  induction q generalizing r with
  | nil => simp [mergeInto] at h
  | cons e q ih =>
    simp only [mergeInto] at h
    split at h
    · simp only [Option.some.injEq] at h; subst h; rfl
    · simp only [Option.map_eq_some_iff] at h
      obtain ⟨x, hx, rfl⟩ := h
      simp [ih hx]

theorem evictClass_length {c : TxClass} {q r : List TxEntry} (h : evictClass c q = some r) :
    r.length + 1 = q.length := by
  induction q generalizing r with
  | nil => simp [evictClass] at h
  | cons e q ih =>
    simp only [evictClass] at h
    split at h
    · simp only [Option.some.injEq] at h; subst h; rfl
    · simp only [Option.map_eq_some_iff] at h
      obtain ⟨x, hx, rfl⟩ := h
      simp [ih hx]

/-- The queue keeps its capacity (R147, R149). -/
theorem placeC_length {new : TxEntry} {s : State} (h : s.path.cQueue.length ≤ cQueueCapacity) :
    (placeC new s).path.cQueue.length ≤ cQueueCapacity := by
  simp only [placeC]
  split
  · rename_i q hq; simp only [mergeInto_length hq]; exact h
  · split
    · simp only [List.length_append, List.length_cons, List.length_nil]; omega
    · split
      · rename_i q hq
        have := evictClass_length hq
        simp only [List.length_append, List.length_cons, List.length_nil]; omega
      · split
        · rename_i q hq
          have := evictClass_length hq
          simp only [List.length_append, List.length_cons, List.length_nil]; omega
        · split <;> exact h

theorem pumpC_length {s : State} : (pumpC s).path.cQueue.length ≤ s.path.cQueue.length := by
  simp only [pumpC]
  split
  · rename_i h; simp [h]
  · exact Nat.le_refl _

theorem queueC_length {new : TxEntry} {s : State} (h : s.path.cQueue.length ≤ cQueueCapacity) :
    (queueC new s).path.cQueue.length ≤ cQueueCapacity :=
  Nat.le_trans pumpC_length (placeC_length h)

/-- A frame handed to the C-port changes its queue, its transmit buffer and its counts, and nothing else. -/
theorem queueC_shape (new : TxEntry) (s : State) : ∃ b q d o,
    queueC new s = { s with
      path := { s.path with cTransmit := b, cQueue := q, cDiscard := d }
      matching := { s.matching with forwardOverflow := o } } := by
  have hp : ∀ u : State, ∃ b q, pumpC u = { u with path := { u.path with cTransmit := b, cQueue := q } } := by
    intro u
    simp only [pumpC]
    split
    · exact ⟨_, _, rfl⟩
    · exact ⟨u.path.cTransmit, u.path.cQueue, rfl⟩
  have hq : ∃ q d o, placeC new s = { s with
      path := { s.path with cQueue := q, cDiscard := d }
      matching := { s.matching with forwardOverflow := o } } := by
    simp only [placeC]
    (repeat' split) <;>
      first
        | exact ⟨_, s.path.cDiscard, s.matching.forwardOverflow, rfl⟩
        | exact ⟨_, s.path.cDiscard, _, rfl⟩
        | exact ⟨_, _, s.matching.forwardOverflow, rfl⟩
  obtain ⟨q, d, o, h⟩ := hq
  obtain ⟨b, q', h'⟩ := hp (placeC new s)
  refine ⟨b, q', d, o, ?_⟩
  rw [queueC, h', h]

/-! ### The order queue (R170, R171) -/

theorem evictDriving_length {q r : List OrderEntry} {e : OrderEntry} (h : evictDriving q = some (e, r)) :
    r.length + 1 = q.length := by
  induction q generalizing r e with
  | nil => simp [evictDriving] at h
  | cons x q ih =>
    simp only [evictDriving] at h
    split at h
    · simp only [Option.map_eq_some_iff, Prod.mk.injEq, Prod.exists] at h
      obtain ⟨a, b, hx, rfl, rfl⟩ := h
      simp [ih hx]
    · simp only [Option.some.injEq, Prod.mk.injEq] at h
      obtain ⟨rfl, rfl⟩ := h
      rfl

/-- The order queue keeps its capacity (R170, R171). -/
theorem placeOrder_length {r : OrderRecord} {s : State} (h : s.orders.queue.length ≤ orderCapacity) :
    (placeOrder r s).orders.queue.length ≤ orderCapacity := by
  simp only [placeOrder]
  split
  · simpa [clearMarks] using h
  · split
    · simp only [clearMarks, mapOrder_queue, setQueue_queue, List.length_append, List.length_cons,
        List.length_nil]
      omega
    · simp only [placeFull]
      split
      · split
        · rename_i hq
          have := evictDriving_length hq
          simp only [clearMarks, mapOrder_queue, setQueue_queue, List.length_append, List.length_cons,
            List.length_nil]
          omega
        · simpa [clearMarks] using h
      · simpa [clearMarks] using h

end Sys2Proof.Laws
end

