-- ==== Sys2Proof/Laws/Run.lean ====
section
/-! SUPPORT. The running of a cascade, said once: when the machine's judgements hold, how a task is run, that a
cascade ends settled or is marked as cut, what it leaves as it was, and what a command that sets nothing off
comes to. -/

namespace Sys2Proof.Laws
open Sys2Proof.Machine

/-- Waiting tasks that delay no swap do not change the judgements. -/
theorem react_nil {ts : List Task} (h : ts.any Task.delaysSwap = false) (s : State) :
    react ts s = react [] s := by
  unfold react
  rw [show ts.any Task.delaysSwap = ([] : List Task).any Task.delaysSwap from h]

/-- The machine's judgements all hold exactly where none of them has anything to do. -/
theorem react_none_iff (s : State) : react [] s = none ↔
    derivePosture s = s.monitor.posture ∧ s.link.powerLine = powerLineHolds s
      ∧ s.monitor.alarms.notStowed = notStowedHolds s ∧ dutyReached s = false ∧ pumpUnused s = false
      ∧ grantOrphaned s = false ∧ ¬ (s.monitor.swapPending = true ∧ s.anyBusy = false)
      ∧ groundDone s = false ∧ stowDone s = false ∧ s.store.dozeTimer.isSome = dozeHolds s := by
  unfold react
  (repeat' split) <;> simp_all

theorem run_zero (ts : List Task) (s : State) :
    run 0 ts s = if ts.isEmpty && (react ts s).isNone then s else { s with overrun := true } := rfl

theorem run_nil {n : Nat} {s : State} (h : react [] s = none) : run n [] s = s := by
  cases n with
  | zero => simp [run, h]
  | succ n => simp [run, h]

theorem run_cons {n : Nat} {t : Task} {ts : List Task} {s : State} (h : react (t :: ts) s = none) :
    run (n + 1) (t :: ts) s = run n (followTask t s (handle t s) ++ ts) (handle t s).1 := by
  simp [run, h]

theorem run_react {n : Nat} {ts : List Task} {s : State} {r : State × List Task} (h : react ts s = some r) :
    run (n + 1) ts s = run n (follow s r ++ ts) r.1 := by
  simp [run, h]

/-- A cascade ends with every judgement holding, or is marked as cut (log entry 4). -/
theorem run_settled (n : Nat) (ts : List Task) (s : State) :
    (run n ts s).overrun = true ∨ react [] (run n ts s) = none := by
  induction n generalizing ts s with
  | zero =>
    simp only [run]
    split
    · rename_i h
      simp only [Bool.and_eq_true, Option.isNone_iff_eq_none] at h
      obtain ⟨rfl, h⟩ := And.imp_left List.isEmpty_iff.mp h
      exact .inr h
    · exact .inl rfl
  | succ n ih =>
    simp only [run]
    split
    · exact ih _ _
    · split
      · exact .inr (by assumption)
      · exact ih _ _

/-- What no judgement and no task changes, but for the mark of a cut cascade. -/
@[reducible] def KeptLines (t s : State) : Prop :=
  t.inputs = s.inputs ∧ t.now = s.now ∧ t.pending = s.pending ∧ t.store.image = s.store.image
    ∧ t.store.factoryLoaded = s.store.factoryLoaded ∧ t.store.straps = s.store.straps

theorem KeptOutside.lines {t s : State} (h : KeptOutside t s) : KeptLines t s :=
  ⟨h.1, h.2.1, h.2.2.1, h.2.2.2.2.1, h.2.2.2.2.2.1, h.2.2.2.2.2.2⟩

theorem KeptLines.trans {u t s : State} (h : KeptLines u t) (k : KeptLines t s) : KeptLines u s :=
  ⟨h.1.trans k.1, h.2.1.trans k.2.1, h.2.2.1.trans k.2.2.1, h.2.2.2.1.trans k.2.2.2.1,
    h.2.2.2.2.1.trans k.2.2.2.2.1, h.2.2.2.2.2.trans k.2.2.2.2.2⟩

theorem react_kept {ts : List Task} {s : State} {r : State × List Task} (h : react ts s = some r) : KeptOutside r.1 s := by
  revert h
  simp only [react]
  (repeat' split) <;> simp only [Option.some.injEq, reduceCtorEq, false_implies] <;> rintro rfl <;>
    simp [KeptOutside]

theorem run_kept (n : Nat) (ts : List Task) (s : State) : KeptLines (run n ts s) s := by
  induction n generalizing ts s with
  | zero => simp only [run]; split <;> simp [KeptLines]
  | succ n ih =>
    simp only [run]
    split
    · exact (ih _ _).trans (react_kept (by assumption)).lines
    · split
      · simp [KeptLines]
      · rename_i t rest _
        exact (ih _ _).trans (handle_kept t s).lines

theorem perform_next {first : State → State × List Task} {s : State} (h : s.isRunning = true)
    (h' : s.overrun = false) : perform first s = .next (complete s (first s)) := by
  simp [perform, h, h']

/-- A command that sets nothing off comes to its first change. -/
theorem complete_quiet {old : State} {r : State × List Task} (h : follow old r = [])
    (h' : react [] r.1 = none) : complete old r = r.1 := by
  simp [complete, h, run_nil h']

/-- A change calls for nothing where the functions, the clearance partners, the wait list, the claims, the grant,
the effective limit and the pump are as they were. -/
theorem follow_nil {old : State} {r : State × List Task} (ht : r.2 = [])
    (hf : r.1.functions = old.functions) (hw : r.1.manifold.waitList = old.manifold.waitList)
    (hc : r.1.budget.claims = old.budget.claims) (hh : r.1.manifold.holder = old.manifold.holder)
    (hl : r.1.budget.effectiveLimit = old.budget.effectiveLimit)
    (hp : r.1.manifold.pump = old.manifold.pump) : follow old r = [] := by
  have hfn : ∀ i, r.1.fn i = old.fn i := fun i => by simp [State.fn, hf]
  have h1 : clearanceTasks old r.1 = [] := by
    simp only [clearanceTasks, List.map_eq_nil_iff, List.filter_eq_nil_iff]
    intro i _
    split <;> simp [hfn]
  have h2 : passDue old r.1 = false := by
    simp only [passDue, hw, hc, hh, hl, hp, Bool.or_eq_false_iff]
    refine ⟨⟨⟨⟨?_, ?_⟩, ?_⟩, ?_⟩, ?_⟩
    · simp only [List.any_eq_false]
      intro e he
      have : (old.manifold.waitList.any fun x => x.slot == e.slot) = true :=
        List.any_eq_true.mpr ⟨e, he, by simp⟩
      simp [this]
    · simp only [List.any_eq_false]
      intro c hc
      simpa using hc
    · cases old.manifold.holder <;> rfl
    · simp
    · cases old.manifold.pump <;> rfl
  simp [follow, h1, h2, ht]

end Sys2Proof.Laws
end

