-- ==== Sys2Proof/Laws/Commands.lean ====
section
/-! SUPPORT. How a command comes to its end where little follows from it: what the judgements read, when they
are as they were, and what a command and a management transaction come to then. -/

namespace Sys2Proof.Laws
open Sys2Proof.Machine

/-! ### What the judgements read -/

/-- Everything the machine's judgements read is the same. -/
structure SameJudged (t s : State) : Prop where
  stopAll : t.inputs.stopAll = s.inputs.stopAll
  kind : ∀ i, (t.cfg i).kind = (s.cfg i).kind
  dutyLimit : t.settings.manifold.dutyLimit = s.settings.manifold.dutyLimit
  travelSpeed : t.settings.travelSpeed = s.settings.travelSpeed
  functions : t.functions = s.functions
  signals : t.monitor.signals.map (·.value) = s.monitor.signals.map (·.value)
  posture : t.monitor.posture = s.monitor.posture
  levelled : t.monitor.levelled = s.monitor.levelled
  notStowed : t.monitor.alarms.notStowed = s.monitor.alarms.notStowed
  swapPending : t.monitor.swapPending = s.monitor.swapPending
  pump : t.manifold.pump = s.manifold.pump
  runTime : t.manifold.runTime = s.manifold.runTime
  holder : t.manifold.holder = s.manifold.holder
  phase : t.sequence.phase = s.sequence.phase
  taken : t.sequence.taken = s.sequence.taken
  finished : t.sequence.finished = s.sequence.finished
  outcome : t.link.outcome = s.link.outcome
  powerLine : t.link.powerLine = s.link.powerLine
  mState : t.path.mState = s.path.mState
  factoryLoaded : t.store.factoryLoaded = s.store.factoryLoaded
  doze : t.store.doze = s.store.doze
  dozeTimer : t.store.dozeTimer.isSome = s.store.dozeTimer.isSome

theorem SameJudged.refl (s : State) : SameJudged s s := by constructor <;> intros <;> rfl

theorem SameJudged.trans {u t s : State} (h : SameJudged u t) (k : SameJudged t s) : SameJudged u s := by
  constructor
  case kind => exact fun i => (h.kind i).trans (k.kind i)
  all_goals first
    | exact h.stopAll.trans k.stopAll | exact h.dutyLimit.trans k.dutyLimit
    | exact h.travelSpeed.trans k.travelSpeed | exact h.functions.trans k.functions
    | exact h.signals.trans k.signals | exact h.posture.trans k.posture | exact h.levelled.trans k.levelled
    | exact h.notStowed.trans k.notStowed | exact h.swapPending.trans k.swapPending
    | exact h.pump.trans k.pump | exact h.runTime.trans k.runTime | exact h.holder.trans k.holder
    | exact h.phase.trans k.phase | exact h.taken.trans k.taken | exact h.finished.trans k.finished
    | exact h.outcome.trans k.outcome | exact h.powerLine.trans k.powerLine | exact h.mState.trans k.mState
    | exact h.factoryLoaded.trans k.factoryLoaded | exact h.doze.trans k.doze
    | exact h.dozeTimer.trans k.dozeTimer

theorem SameJudged.fn {t s : State} (h : SameJudged t s) (i : Slot) : t.fn i = s.fn i := by
  simp [State.fn, h.functions]

theorem SameJudged.value {t s : State} (h : SameJudged t s) (g : Signal) : t.value g = s.value g := by
  have := congrArg (fun v : Vector Nat 7 => v[signalIndex g]) h.signals
  simpa [State.value, State.signal] using this

/-- The judgements hold of a state exactly where they hold of one with the same readings. -/
theorem SameJudged.react {t s : State} (h : SameJudged t s) : react [] t = none ↔ react [] s = none := by
  have hfn : ∀ i, t.fn i = s.fn i := h.fn
  have hv : ∀ g, t.value g = s.value g := h.value
  have hb : t.anyBusy = s.anyBusy := by simp [State.anyBusy, hfn]
  have hj : ∀ i, t.isJack i = s.isJack i := fun i => by simp [State.isJack, h.kind]
  have h1 : derivePosture t = derivePosture s := by
    simp [derivePosture, State.faultHolds, State.stabilisedHolds, State.availableJack, hfn, hv, hj, h.stopAll,
      h.factoryLoaded, h.outcome, h.mState, h.levelled, h.travelSpeed]
  have h2 : powerLineHolds t = powerLineHolds s := by
    simp [powerLineHolds, h.outcome, h.posture, h.stopAll, h.doze]
  have h3 : notStowedHolds t = notStowedHolds s := by simp [notStowedHolds, h.posture, h.kind, hfn]
  have h4 : dutyReached t = dutyReached s := by simp [dutyReached, h.pump, h.dutyLimit, h.runTime]
  have h5 : pumpUnused t = pumpUnused s := by simp [pumpUnused, h.pump, h.kind, hfn]
  have h6 : grantOrphaned t = grantOrphaned s := by simp [grantOrphaned, h.holder, h.kind, hfn]
  have hf : t.isFinished = s.isFinished := by
    funext i
    simp [State.isFinished, h.finished]
  have h7 : groundDone t = groundDone s := by simp [groundDone, h.phase, h.taken, hf]
  have h8 : stowDone t = stowDone s := by simp [stowDone, h.phase, h.taken, hf]
  have h9 : dozeHolds t = dozeHolds s := by
    simp [dozeHolds, State.seqRuns, hv, hb, h.phase, h.doze]
  simp only [react_none_iff, h1, h2, h3, h4, h5, h6, h7, h8, h9, hb, h.posture, h.powerLine, h.notStowed,
    h.swapPending, h.dozeTimer]

/-! ### Ready parts -/

theorem isReady_iff (s : State) :
    s.isReady = true ↔ s.isRunning = true ∧ s.overrun = false ∧ react [] s = none := by
  simp [State.isReady, and_assoc]

theorem takesCommands_iff (s : State) : s.takesCommands = true ↔
    s.isReady = true ∧ s.store.doze = false ∧ s.assembly = none ∧ takesNoCommand s = false := by
  simp [State.takesCommands, and_assoc]

theorem nothingFollows_iff (old new : State) : nothingFollows old new = true ↔
    clearanceTasks old new = [] ∧ (passDue old new = false ∨ new.manifold.waitList = []) ∧ react [] new = none := by
  simp [nothingFollows, and_assoc]

/-- A service pass that finds nothing waiting changes nothing. -/
theorem servicePass_nil {s : State} (h : s.manifold.waitList = []) : servicePass s = s := by
  have h1 : serveHolder s = s := by
    simp only [serveHolder]
    split
    · split
      · simp [freeGranted, h]
      · rfl
    · rfl
  simp [servicePass, h1, h, walkList, writeReasons]

theorem clearanceTasks_self (s : State) : clearanceTasks s s = [] := by
  simp only [clearanceTasks, List.map_eq_nil_iff, List.filter_eq_nil_iff]
  intro i _
  split <;> simp

/-- Nothing follows from no change. -/
theorem follow_self (s : State) : follow s (s, []) = [] := follow_nil rfl rfl rfl rfl rfl rfl rfl

/-- A cascade of a change from which nothing follows ends at that change. -/
theorem run_quiet {n : Nat} {old new : State} (h : nothingFollows old new = true) :
    run (n + 1) (follow old (new, [])) new = new := by
  obtain ⟨h1, h2, h3⟩ := (nothingFollows_iff old new).mp h
  cases hp : passDue old new with
  | false =>
    have : follow old (new, []) = [] := by simp [follow, h1, hp]
    rw [this, run_nil h3]
  | true =>
    have hw : new.manifold.waitList = [] := by simpa [hp] using h2
    have : follow old (new, []) = [.servicePass] := by simp [follow, h1, hp]
    rw [this, run_cons (by rwa [react_nil rfl])]
    have hh : handle .servicePass new = (new, []) := by simp [handle, servicePass_nil hw]
    have ha : followTask .servicePass new (new, []) = [] := by
      simp [followTask, passAgain, clearanceTasks_self, hw]
    rw [hh, ha, List.nil_append, run_nil h3]

/-- A command that leaves no task, and from whose change nothing follows, comes to that change. -/
theorem perform_quiet {first : State → State × List Task} {s t : State} (hr : s.isReady = true)
    (hf : first s = (t, [])) (hn : nothingFollows s t = true) : perform first s = .next t := by
  rw [isReady_iff] at hr
  rw [perform_next hr.1 hr.2.1, hf, complete, show cascadeBound = 1048575 + 1 from rfl, run_quiet hn]

/-- Nothing follows from a change that leaves what the judgements read, the wait list, the claims and the
effective limit. -/
theorem nothingFollows_same {s t : State} (hr : react [] s = none) (h : SameJudged t s)
    (hw : t.manifold.waitList = s.manifold.waitList) (hc : t.budget.claims = s.budget.claims)
    (hl : t.budget.effectiveLimit = s.budget.effectiveLimit) : nothingFollows s t = true := by
  have hf : follow s (t, []) = [] := follow_nil rfl h.functions hw hc h.holder hl h.pump
  simp only [follow, List.append_nil, List.append_eq_nil_iff] at hf
  have hp : passDue s t = false := by
    by_contra hne
    simp [Bool.not_eq_false _ |>.mp hne] at hf
  exact (nothingFollows_iff s t).mpr ⟨hf.1, .inl hp, h.react.mpr hr⟩

/-- A part out of DOZE restarts a running doze timer. -/
theorem touchDoze_renewed {s : State} (h : s.store.doze = false) : touchDoze s = s.renewed := by
  simp only [touchDoze, State.renewed, dozeExpiry, startTimer, h, Bool.false_eq_true, if_false]
  split
  · rfl
  · rename_i hn
    obtain ⟨_, _, _, _, _, _, _, _, _, _, _, _, _, _, _, _, ⟨_, _, _, _, _, _, _⟩, _, _⟩ := s
    simp_all

theorem renewed_same (s : State) : SameJudged s.renewed s := by
  constructor <;> intros <;> first | rfl | (simp only [State.renewed]; split <;> simp_all)

/-! ### Management transactions -/

/-- A whole transaction of a part that takes commands: where it carries its effect out in one change from which
nothing follows, the part comes to that change. -/
theorem perform_transaction {code : CommandCode} {tag : Byte} {ps : List Byte} {s t : State}
    (hs : s.takesCommands = true) (ht : transact code tag ps s.renewed = (t, []))
    (hn : nothingFollows s.renewed t = true) :
    perform (takeTransaction code tag ps) s = .next t := by
  obtain ⟨hr, hd, ha, -⟩ := (takesCommands_iff s).mp hs
  obtain ⟨h1, h2, h3⟩ := (isReady_iff s).mp hr
  have hren : react [] s.renewed = none := (renewed_same s).react.mpr h3
  have hfirst : takeTransaction code tag ps s = (s.renewed, [.transact code tag ps]) := by
    simp only [takeTransaction, touchDoze_renewed hd]
    have : s.renewed.assembly = none := ha
    simp [breakAssembly, this]
  have hfollow : follow s (s.renewed, [.transact code tag ps]) = [.transact code tag ps] := by
    have h0 : follow s (s.renewed, []) = [] := follow_nil rfl rfl rfl rfl rfl rfl rfl
    simp only [follow, List.append_eq_nil_iff, List.append_nil] at h0 ⊢
    have hp : passDue s s.renewed = false := by
      by_contra hne
      have : passDue s s.renewed = true := by simpa using hne
      simp [this] at h0
    simp [h0.1, hp]
  have hrun : run cascadeBound [.transact code tag ps] s.renewed = t := by
    rw [show cascadeBound = 1048574 + 1 + 1 from rfl,
      run_cons (show react [.transact code tag ps] s.renewed = none by rwa [react_nil rfl])]
    have hh : handle (.transact code tag ps) s.renewed = (t, []) := ht
    rw [hh, List.append_nil]
    exact run_quiet hn
  rw [perform_next h1 h2, hfirst, complete, hfollow, hrun]

/-- A whole command that is taken, other than STORE and WRITE_CELLS, is answered as it judges its bytes. -/
theorem transact_answer {code : CommandCode} {tag : Byte} {ps : List Byte} {s : State}
    (hs : takesNoCommand s = false) (hl : lengthFits code ps.length = true) (hc : code ≠ .store)
    (hw : code ≠ .writeCells) :
    transact code tag ps s
      = (queueReply code.toByte tag (answerTo code ps s).outcome (answerTo code ps s).result
          (answerTo code ps s).state, (answerTo code ps s).tasks) := by
  have h : startRefusal code ps.length (min 4 ps.length) s = none := by
    simp [startRefusal, hs, hl, hw]
  simp [transact, h, gather, hw, carryOut, hc, reply]

/-- A frame handed to the C-port changes nothing that the judgements read. -/
theorem queueC_same (new : TxEntry) (s : State) : SameJudged (queueC new s) s := by
  obtain ⟨b, q, d, o, h⟩ := queueC_shape new s
  rw [h]
  constructor <;> intros <;> rfl

theorem queueReply_same (code tag : Byte) (o : ReplyOutcome) (r : List Byte) (s : State) :
    SameJudged (queueReply code tag o r s) s := queueC_same _ _

/-- The answer of a command that leaves no task and nothing that the judgements read, the wait list, the claims
and the effective limit otherwise than they were. -/
theorem perform_answer {code : CommandCode} {tag : Byte} {ps : List Byte} {s u : State} {o : ReplyOutcome}
    {r : List Byte} (hs : s.takesCommands = true) (hl : lengthFits code ps.length = true)
    (hc : code ≠ .store) (hw : code ≠ .writeCells) (ha : answerTo code ps s.renewed = ⟨u, o, r, []⟩)
    (hj : SameJudged u s) (hwl : u.manifold.waitList = s.manifold.waitList)
    (hcl : u.budget.claims = s.budget.claims) (hel : u.budget.effectiveLimit = s.budget.effectiveLimit) :
    perform (takeTransaction code tag ps) s = .next (queueReply code.toByte tag o r u) := by
  obtain ⟨hr, -, -, hn⟩ := (takesCommands_iff s).mp hs
  have hn' : takesNoCommand s.renewed = false := hn
  refine perform_transaction hs (by rw [transact_answer hn' hl hc hw, ha]) ?_
  have hreact : react [] s.renewed = none := (renewed_same s).react.mpr ((isReady_iff s).mp hr).2.2
  obtain ⟨b, q, d, o', h⟩ := queueC_shape ⟨.reply, none, dataFrame (replyIdent u.store.straps)
    ([0x81, code.toByte, tag, byteOf o.code] ++ (r ++ [0, 0, 0, 0]).take 4)⟩ u
  have e1 : (queueReply code.toByte tag o r u).manifold = u.manifold := by rw [queueReply, h]
  have e2 : (queueReply code.toByte tag o r u).budget = u.budget := by rw [queueReply, h]
  have hsame : SameJudged s.renewed s := renewed_same s
  refine nothingFollows_same hreact ?_ ?_ ?_ ?_
  · have hsym : SameJudged s s.renewed := by
      constructor
      all_goals first | exact (hsame.kind · |>.symm) | skip
      all_goals first | rfl | exact hsame.dozeTimer.symm
    exact ((queueReply_same _ _ _ _ u).trans hj).trans hsym
  · rw [e1]; exact hwl
  · rw [e2]; exact hcl
  · rw [e2]; exact hel

end Sys2Proof.Laws
end

