-- ==== Sys2Proof/Tests/Slice0.lean ====
section
/-! SUPPORT. Tests: the checks of well-formedness, small steps with results worked out by hand from the rules and
from the worked sequences of spec/, and for every statement with hypotheses a state and operands that meet them. -/

namespace Sys2Proof.Tests
open Sys2Proof Sys2Proof.Machine

/- The kernel evaluates whole steps here; one theorem at a time keeps the memory small. -/
set_option Elab.async false
set_option synthInstance.maxSize 2000

/-! ### Well-formedness refuses ill-formed commands -/

/-- A data frame. -/
def frame (form : Form) (ident : Nat) (bytes : List Byte) : Frame :=
  ⟨form, BitVec.ofNat 29 ident, false, bytes.length, bytes⟩

/-- That many fields. -/
def manyFields (n : Nat) : List FieldWrite := List.replicate n ⟨1, 0⟩

theorem test_wellFormed_takes_a_frame :
    (Instr.cPortFrameReceived (frame .standard 0x7FF [1, 2])).wellFormed = true := by decide

theorem test_wellFormed_refuses_a_wide_standard_identifier :
    (Instr.cPortFrameReceived (frame .standard 0x800 [])).wellFormed = false := by decide

theorem test_wellFormed_refuses_a_wide_length_code :
    (Instr.mPortFrameReceived ⟨.extended, 0, true, 16, []⟩).wellFormed = false := by decide

theorem test_wellFormed_refuses_missing_bytes :
    (Instr.mPortFrameReceived ⟨.extended, 0, false, 2, [1]⟩).wellFormed = false := by decide

theorem test_wellFormed_refuses_bytes_of_a_remote_frame :
    (Instr.cPortFrameReceived ⟨.extended, 0, true, 1, [1]⟩).wellFormed = false := by decide

theorem test_wellFormed_refuses_node_0 : (Instr.silenceTimerExpiry 0).wellFormed = false := by decide

theorem test_wellFormed_refuses_node_25 :
    (Instr.silenceTimerExpiry 24).wellFormed = true ∧ (Instr.silenceTimerExpiry 25).wellFormed = false := by decide

theorem test_wellFormed_refuses_201_cells :
    (Instr.writeCells 0 (List.replicate 200 0)).wellFormed = true
      ∧ (Instr.writeCells 0 (List.replicate 201 0)).wellFormed = false := by decide +kernel

theorem test_wellFormed_refuses_67_fields :
    (Instr.setFunction 0 0 (manyFields 66)).wellFormed = true
      ∧ (Instr.setFunction 0 0 (manyFields 67)).wellFormed = false
      ∧ (Instr.setGeometry 0 0 (manyFields 67)).wellFormed = false
      ∧ (Instr.setSignal 0 0 (manyFields 67)).wellFormed = false
      ∧ (Instr.setLevelling 0 (manyFields 67)).wellFormed = false
      ∧ (Instr.setManifold 0 (manyFields 67)).wellFormed = false
      ∧ (Instr.setSupply 0 (manyFields 67)).wellFormed = false
      ∧ (Instr.setTiming 0 (manyFields 67)).wellFormed = false := by decide +kernel

/-- No row of spec/opcode_table.json gives bits. -/
theorem test_no_word_spells_a_command : decodeTableWord 16 0xFFFF = none := by decide

/-! ### Small states -/

/-- The state that a command leaves; the state itself where the command does not complete. -/
def after (c : Instr) (s : State) : State :=
  match exec c s with
  | .next t => t
  | _ => s

/-- The newest frame that waits on the C-port, or is being sent there. -/
def newest (s : State) : List Byte :=
  match s.path.cQueue.getLast? with
  | some e => e.frame.data
  | none => (s.path.cTransmit.map (·.frame.data)).getD []

/-- A slot's function and configuration put in place; a busy function has the doze timer idle. -/
def withSlot (i : Slot) (c : FunctionConfig) (f : Function) (s : State) : State :=
  { s with
    settings := { s.settings with functions := s.settings.functions.set i c }
    functions := s.functions.set i f
    store := { s.store with dozeTimer := if f.activity.isBusy then none else s.store.dozeTimer } }

/-- Every cell of the active bank allows everything. -/
def allowAll (s : State) : State :=
  { s with settings := { s.settings with bankA := Vector.replicate 7 (Vector.replicate 16 7) } }

/-- A part whose configuration was loaded and whose census is complete, with the ignition on: posture PARKED, power
line on, doze timer idle. -/
def parked (s : State) : State :=
  { s with
    store := { s.store with factoryLoaded := false, dozeTimer := none }
    monitor := { s.monitor with
      posture := .parked
      signals := ((s.monitor.signals.set (signalIndex .parkBrake) ⟨1, true, some 4, some 2000⟩).set
        (signalIndex .roadSpeed) ⟨0, true, some 5, some 2000⟩).set
        (signalIndex .ignition) ⟨1, true, some 6, some 2000⟩ }
    link := { s.link with outcome := .complete, powerLine := true, outstanding := none, chainLine := false }
    path := { s.path with control := none } }

/-- The state after reset, with every judgement made. -/
def ready : State := State.reset

/-- A part at rest in PARKED. -/
def rested : State := parked (allowAll ready)

/-- The configuration of the twin slide of the worked sequence of 05_slide_rooms.md. -/
def twin : FunctionConfig :=
  { FunctionConfig.factory with
    kind := .slideTwin, endA := some ⟨7, 0⟩, endB := some ⟨7, 1⟩, stroke := 24000, stowWindow := 300
    endWindow := 300, offsetA := 1000, senseA := 1, offsetB := 61000, senseB := -1, draw := 40, rampCode := 2
    fullSpeed := 80, creepSpeed := 20, creepDistance := 2000, stallCurrent := 250 }

/-- An awning of stroke 1000 on node 5. -/
def awning : FunctionConfig :=
  { FunctionConfig.factory with
    kind := .awning, mode := .latch, endA := some ⟨5, 0⟩, stroke := 1000, stowWindow := 20, endWindow := 20
    fullSpeed := 80, creepSpeed := 20, draw := 60 }

/-- A jack of the worked sequence of 04_levelling.md. -/
def jack (channel : Nat) : FunctionConfig :=
  { FunctionConfig.factory with
    kind := .jack, endA := some ⟨1, channel⟩, stroke := 400, stowWindow := 8, endWindow := 10 }

/-- A function at a position, IDLE with the class given. -/
def idleAt (p : Nat) (cls : PosClass) : Function :=
  { Function.start with activity := .idle, posClass := cls, chA := { Channel.start with position := some p } }

/-- The same function at work, with an owner. -/
def busyAt (p : Nat) (a : Activity) (o : Owner) : Function :=
  { idleAt p .midway with activity := a, owner := o, verb := some .extend, moveSpeed := some 80 }

/-! ### Values of the worked sequences -/

/-- R47: the CRC over the nine characters 1 to 9 is 29B1. -/
theorem test_crc_of_123456789 :
    crc16 [0x31, 0x32, 0x33, 0x34, 0x35, 0x36, 0x37, 0x38, 0x39] = 0x29B1 := by decide +kernel

/-- 05_slide_rooms.md, the twin slide out: order speeds 20, 26, 48, 50, 56 and 80 at 0, 100, 480, 500, 600 and 1000 ms. -/
theorem test_ramp_of_the_twin_slide :
    let f : Function := { Function.start with
      activity := .moving, verb := some .extend, moveSpeed := some 80, moveBegan := some 0
      chA := { Channel.start with position := some 1900 }, chB := { Channel.start with position := some 1850 } }
    [0, 100, 480, 500, 600, 1000].map (orderSpeed twin f) = [20, 26, 48, 50, 56, 80] := by decide +kernel

/-- The same slide in its creep zone: 1990 counts from its end at 9200 ms it is ordered 20. -/
theorem test_creep_of_the_twin_slide :
    orderSpeed twin { Function.start with
      activity := .moving, verb := some .extend, moveSpeed := some 80, moveBegan := some 0
      chA := { Channel.start with position := some 22010 }
      chB := { Channel.start with position := some 22000 } } 9200 = 20 := by decide +kernel

/-- R5: end B's raw count is 61000 less its position. -/
theorem test_position_of_end_b : positionOf twin .b 59150 = 1850 ∧ positionOf twin .a 2900 = 1900 := by
  decide +kernel

/-- The four-jack coach of 04_levelling.md at given positions, in an AUTO_LEVEL. -/
def levelCoach (p : Vector Nat 4) : State :=
  { ready with
    settings := { ready.settings with
      functions := (((ready.settings.functions.set 0 (jack 0)).set 1 (jack 1)).set 2 (jack 2)).set 3 (jack 3)
      geometry := (((ready.settings.geometry.set 0 ⟨5200, -1100, some 1⟩).set 1 ⟨5200, 1100, some 0⟩).set 2
        ⟨-3400, -1100, some 3⟩).set 3 ⟨-3400, 1100, some 2⟩ }
    functions := (((ready.functions.set 0 (idleAt p[0] .midway)).set 1 (idleAt p[1] .midway)).set 2
      (idleAt p[2] .midway)).set 3 (idleAt p[3] .midway)
    sequence := { Sequence.start with kind := some .autoLevel, owner := some .level, phase := .lift, taken := [0, 1, 2, 3] } }

/-- The first reading of the worked sequence, +180 and -95: targets 82, 99, 285 and 317. -/
theorem test_solve_of_pass_1 :
    solve (levelCoach #v[62, 58, 110, 121]) 1 180 (-95) = ([(0, 82), (1, 99), (2, 285), (3, 317)], false) := by
  decide +kernel

/-- The second reading, +12 and -31 on pass 2: targets 82, 105, 296 and 334. -/
theorem test_solve_of_pass_2 :
    solve (levelCoach #v[82, 98, 285, 317]) 2 12 (-31) = ([(0, 82), (1, 105), (2, 296), (3, 334)], false) := by
  decide +kernel

/-- Step 2 of pass 1: J3 to 190 and J4 to 201, J1 and J2 within 2 mm of their targets. -/
theorem test_step_2_of_pass_1 :
    let s := levelCoach #v[82, 98, 150, 161]
    nextStep { s with sequence := { s.sequence with targets := some [(0, 82), (1, 99), (2, 285), (3, 317)] } }
      = [(2, 190), (3, 201)] := by decide +kernel

/-- The match table of the worked sequence of 07_the_match_table.md. -/
def chassisTable : Vector EntryConfig 128 :=
  let key : EntryConfig := { EntryConfig.factory with
    state := .valid, form := .extended, ident := 0x0C4B2017, mask := 2, continues := true }
  (((ready.settings.entries.set 4 { key with minLength := 1, action := .capture .parkBrake 0 1 1 1 0 }).set 5
    { key with minLength := 4, action := .capture .roadSpeed 24 16 10 256 0 }).set 6
    { key with port := .either, continues := false, action := .count }).set 40
    { key with continues := false, action := .forward none }

/-- The table, and a mask 2 that cares for the identifier alone. -/
def chassis : State :=
  { ready with settings := { ready.settings with
      entries := chassisTable, masks := ready.settings.masks.set 2 ⟨BitVec.allOnes 29, 0, 0⟩ } }

/-- A chassis frame at the head of the C-port buffer. -/
def chassisFrame (bytes : List Byte) (s : State) : State :=
  { s with path := { s.path with cReceive := [frame .extended 0x0C4B2017 bytes] } }

/-- The first frame: PARK_BRAKE 1 and ROAD_SPEED 26.0 km/h, and entries 4, 5 and 6 count. -/
theorem test_chain_of_the_chassis_frame :
    let t := after (.matchArrival .coach) (chassisFrame [1, 0, 0x1A, 0, 0, 0, 0, 0] chassis)
    t.value .parkBrake = 1 ∧ t.value .roadSpeed = 260 ∧ t.matching.hits[4] = 1 ∧ t.matching.hits[5] = 1
      ∧ t.matching.hits[6] = 1 ∧ t.matching.hits[40] = 0 ∧ t.path.cReceive = [] := by decide +kernel

/-- A frame of three bytes passes entry 5 by: entries 4 and 6 count, and nothing is malformed. -/
theorem test_chain_of_a_short_frame :
    let t := after (.matchArrival .coach) (chassisFrame [1, 0, 2] chassis)
    t.value .parkBrake = 1 ∧ t.value .roadSpeed = 2000 ∧ t.matching.hits[4] = 1 ∧ t.matching.hits[5] = 0
      ∧ t.matching.hits[6] = 1 ∧ t.matching.malformed = 0 := by decide +kernel

/-- The PROBE of the worked sequence: lowest index 4, and 4 entries. -/
theorem test_probe_of_the_chassis_table :
    newest (after (.probe 9 1 0x0C4B2017 0 0 8 0) chassis) = [0x81, 0x14, 9, 0, 4, 4, 0, 0] := by decide +kernel

/-! ### Small steps -/

/-- R137 and R124: entry 0 made VALID leaves index 1 as the next free one. -/
theorem test_set_entry_state :
    let t := after (.setEntryStateEntry 7 0 1) ready
    t.settings.entries[0].state = .valid ∧ t.matching.nextFree = 1
      ∧ newest t = [0x81, 0x12, 7, 0, 0, 1, 0, 0] := by decide +kernel

/-- R138: the default action of the C-port becomes FORWARD. -/
theorem test_set_port_default :
    (after (.setEntryStatePort 7 0 0) ready).settings.coachDefault = .forward := by decide +kernel

/-- R44 and R45: a value above 7 is written as 7 at the window's first cell of the standby bank. -/
theorem test_write_cells_clamps :
    let t := after (.writeCells 3 [9]) (after (.setWindow 2 1 2 3 4 0) ready)
    (t.settings.bankB[1])[3] = 7 ∧ t.monitor.cursor = ⟨1, 4⟩ ∧ newest t = [0x81, 0x21, 3, 1, 1, 1, 4, 0] := by
  decide +kernel

set_option maxRecDepth 100000 in
/-- R48: a wrong CRC leaves the banks as they are. -/
theorem test_swap_matrix_refuses_a_wrong_crc :
    (after (.swapMatrix 1 0) ready).settings.activeBank = .a := by decide +kernel

set_option maxRecDepth 100000 in
/-- R48 and R50: the right CRC exchanges them; 787E is what the steps of R47 give for 112 zero bytes. -/
theorem test_swap_matrix_exchanges_the_banks :
    (after (.swapMatrix 1 0x787E) ready).settings.activeBank = .b := by decide +kernel

/-- R68: a cut threshold at the low threshold goes 10 below it. -/
theorem test_set_supply_settles_the_thresholds :
    let t := after (.setSupply 1 [⟨2, 1000⟩, ⟨3, 1000⟩]) ready
    t.settings.supply.vLow = 1000 ∧ t.settings.supply.vCut = 990 ∧ newest t = [0x81, 0x34, 1, 1, 2, 0, 0, 0] := by
  decide +kernel

/-- R65: half way between the thresholds half the supply limit is available. -/
theorem test_effective_limit_half_way : limitAt ⟨200, 1180, 1080, 5000⟩ 1130 = 100 := by decide

/-- An image of no bytes, whose CRC is the register's initial value (R47). -/
def goodImage : Image := ⟨Settings.factory, [], 0xFFFF⟩

/-- A part that writes that image for a STORE of tag 2A. -/
def storing : State := { ready with store := { ready.store with storing := some ⟨0x2A, goodImage, some 400⟩ } }

/-- R188 and R193: STORE begins a writing, and its completion answers DONE with its tag. -/
theorem test_store_completes :
    (after (.store 0x2A) ready).store.storing.isSome = true
      ∧ (after .storeCompletion storing).store.image.agrees = true
      ∧ newest (after .storeCompletion storing) = [0x81, 0x44, 0x2A, 0, 0, 0, 0, 0] := by decide +kernel

/-- R193: a power-off during the writing leaves an image whose CRC does not agree. -/
theorem test_power_off_cuts_a_store :
    goodImage.agrees = true
      ∧ (after .powerOff { storing with store := { storing.store with image := goodImage } }).store.image.agrees = false := by decide +kernel

/-- R189: a RESTART takes place when its reply is sent: the posture is FAULT and a census runs. -/
theorem test_restart_at_its_reply :
    let t := after .cPortTransmitDone (after (.restart 5) { ready with path := { ready.path with
      cTransmit := none, cQueue := [] } })
    t.store.restart = none ∧ t.link.outcome = .running ∧ t.now = 0 := by decide +kernel

/-- R180: BUSY while a STORE is in progress. -/
theorem test_busy_during_a_store :
    newest (after (.halt 9) (after (.store 1) ready)) = [0x81, 0x42, 9, 4, 0, 0, 0, 0] := by decide +kernel

/-- R117: the gust expiry sets the lockout and the WIND alarm. -/
theorem test_gust_sets_the_lockout :
    let t := after .gustTimerExpiry ready
    t.wind.lockout = true ∧ t.monitor.alarms.wind = true := by decide +kernel

/-- R159: no answer to the first ASSIGN: the census ends EMPTY with the CENSUS_FAULT alarm. -/
theorem test_empty_link :
    let t := after .enrolmentTimerExpiry (after .mPortTransmitDone ready)
    t.link.outcome = .empty ∧ t.monitor.alarms.censusFault = true := by decide +kernel

/-- R158: an answer to ASSIGN(1) enrols node 1, and PASS(1) is offered. -/
theorem test_first_answer :
    let s := after .mPortTransmitDone ready
    let t := after .enrolAck { s with path := { s.path with mReceive := [dataFrame (linkIdent 8 0) [1, 2, 1, 0]] } }
    (t.node 1).state = .enrolled ∧ (t.node 1).kind = .pump ∧ t.path.control = some (.enrol (.pass 1)) := by
  decide +kernel

/-- R196: the doze timer's expiry enters DOZE, and the census is abandoned. -/
theorem test_doze :
    let t := after .dozeTimerExpiry ready
    t.store.doze = true ∧ t.link.outcome = .notRun ∧ t.orders.refreshTimer = none := by decide +kernel

/-- R175: the stop-all line stops a moving function with HALTED. -/
theorem test_stop_all_halts :
    let t := after .stopAllActive (withSlot 3 awning (busyAt 500 .moving .operator) ready)
    (t.fn 3).activity = .idle ∧ (t.fn 3).lastStop = some .halted := by decide +kernel

/-- R143 and R194: strap 0 selects the C-port's bit rate; the M-port's is 500 kbit/s. -/
theorem test_bit_rates :
    let rates := fun strap0 => let t := after (.powerOn ⟨strap0, true, true⟩) ready; (t.bitRate .coach, t.bitRate .motion)
    rates false = (250, 500) ∧ rates true = (500, 500) := by decide +kernel

/-- R162: a slot whose node was SILENT at its check stays UNAVAILABLE until that node reports. -/
theorem test_awaits_a_silent_node :
    let s := withSlot 3 awning Function.start (rested.setNode 5 ⟨.silent, .motorPair, 0,
      List.replicate 2 ⟨some 500, some 0, some 0, some 7, some 0⟩, 0, none⟩)
    let f := (checkBinding 3 s).fn 3
    let known := fun a => { f with chA := { f.chA with position := some 500, awaited := a } }
    let t := fun a => (becomeIdle 3 (putFn 3 (known a) s)).1
    f.chA.awaited = true ∧ ((t true).fn 3).activity = .unavailable ∧ ((t false).fn 3).activity = .idle := by
  decide +kernel

/-- R153: the M-port off the bus empties the forward queue and counts it. -/
theorem test_bus_off_empties_the_forward_queue :
    let t := after .mPortBusOff { ready with path := { ready.path with forward := [frame .standard 1 [], frame .standard 2 []] } }
    t.path.forward = [] ∧ t.matching.forwardOverflow = 2 ∧ t.link.outcome = .notRun := by decide +kernel

/-- The step of the machine runs the command at the front of its queue. -/
theorem test_step_runs_the_front :
    (match step { ready with pending := [.cPortBusOff, .cPortRecovery] } with
      | .next t => decide (t.path.cState = .busOff ∧ t.pending = [.cPortRecovery])
      | _ => false) = true := by decide +kernel

/-- A powered part with nothing to do lets a millisecond pass. -/
theorem test_time_passes :
    (match step ready with
      | .next t => t.now
      | _ => 0) = 1 := by decide +kernel

/-- R49: a TRAVEL stow that starts delays the swap until its jacks have asked. -/
theorem test_stow_requests_delay_the_swap :
    Task.delaysSwap (.stowRequest 0) = true ∧ Task.delaysSwap .servicePass = false := by decide

/-- R95: STOP_SEQUENCE leaves the hold record of a jack that the sequence took as it is. -/
theorem test_stop_sequence_keeps_hold_records :
    let s := { withSlot 0 { FunctionConfig.factory with kind := .jack } { Function.start with
        activity := .waiting, owner := .level, verb := some .extend, moveSpeed := some 60
        waitReason := some .budget } rested with
      holds := rested.holds.set 0 ⟨.active, some .extend, some 0, some 9, some 300⟩
      sequence := { rested.sequence with
        kind := some .autoLevel, owner := some .level, phase := .ground, taken := [0] } }
    (stopSequence s).hold 0 = s.hold 0 ∧ ((stopSequence s).fn 0).activity = .idle
      ∧ ((abortSequence true .stopped s).hold 0).state = .refused := by decide +kernel

/-! ### Every statement's hypotheses can be met

For each statement with hypotheses, one theorem whose parts are the hypotheses of its clauses, at concrete states
and operands: the state after reset, a part at rest in PARKED, and small changes of the two. -/

/-- The part without power. -/
def unpowered : State := blank ⟨false, false, false⟩ Image.blank ⟨false, false, false⟩ []

/-- With its frame path changed. -/
def onPath (f : FramePath → FramePath) (s : State) : State := { s with path := f s.path }

/-- An awning that moves out under its operator, held ACTIVE. -/
def moving : State :=
  let s := withSlot 3 { awning with mode := .hold } { busyAt 500 .moving .operator with
    chA := { (busyAt 500 .moving .operator).chA with direction := some .extend, stallTimer := some 300 } } rested
  { s with holds := s.holds.set 3 ⟨.active, some .extend, some 0, some 9, some 300⟩ }

/-- An awning that waits. -/
def waiting : State :=
  let s := withSlot 3 awning { busyAt 500 .waiting .operator with waitReason := some .budget } rested
  { s with manifold := { s.manifold with waitList := [⟨3, 1, some 10000⟩] } }

/-- An awning that settles after a move that ended as given. -/
def settling (e : Ending) (p : Nat) : State :=
  withSlot 3 awning { busyAt p .settling .operator with
    ending := some e, settleTimer := some 500, target := some 500
    posClass := if p = 0 then .stowed else .midway } rested

/-- A part whose pump runs, with nothing that uses it. -/
def pumping (p : PumpState) : State :=
  { rested with manifold := { rested.manifold with pump := p, primeTimer := some 2000, holdOnTimer := some 2000 } }

/-- An AUTO_LEVEL in a phase, with one jack at rest. -/
def levelling (p : Phase) : State :=
  let s := withSlot 0 (jack 0) (idleAt 100 .midway) rested
  { s with sequence := { s.sequence with
      kind := some .autoLevel, owner := some .level, phase := p, taken := [0]
      settleTimer := some 3000, sampleTimer := some 5000 } }

/-- A part whose census has come to a number. -/
def enrolling (n : Nat) : State :=
  { ready with link := { ready.link with outstanding := some n, enrolTimer := some 50 } }

/-- A part with one LIVE node of a kind, with two channels. -/
def withNode (k : NodeKind) (s : State) : State :=
  s.setNode 2 ⟨.live, k, 0, List.replicate 2 ⟨some 0, some 0, some 0, some 7, some 0⟩, 0, some 500⟩

/-- One entry 5 that matches the standard identifier 0x123 at both ports, in a full C-port buffer's place. -/
def tabled (a : Action) (s : State) : State :=
  { s with
    settings := { s.settings with entries := s.settings.entries.set 5 { EntryConfig.factory with
      state := .valid, port := .either, ident := 0x123, mask := 1, action := a }
                                  masks := s.settings.masks.set 1 ⟨BitVec.allOnes 29, 0, 0⟩ }
    path := { s.path with
      cReceive := [frame .standard 0x123 [1, 2]], mReceive := [frame .standard 0x123 [1, 2]] } }

/-- A request frame in the C-port buffer. -/
def requested (bytes : List Byte) (s : State) : State :=
  onPath (fun p => { p with cReceive := [dataFrame (requestIdent ⟨false, false, false⟩) bytes] }) s

/-- A link frame in the M-port buffer. -/
def linked (kind node : Nat) (bytes : List Byte) (s : State) : State :=
  onPath (fun p => { p with mReceive := [dataFrame (linkIdent kind node) bytes] }) s

/-- A last report of a channel. -/
def reported (raw load : Nat) (flags : Byte) : ChannelRecord := ⟨some raw, some load, some flags, some 1, some 0⟩

/-- A LIVE node with the channels given. -/
def live (k : NodeKind) (channels : List ChannelRecord) : Node := ⟨.live, k, 0, channels, 0, some 500⟩

/-- With nothing in the M-port transmit buffer. -/
def quiet (s : State) : State := onPath (fun p => { p with mTransmit := none, control := none }) s

/-- With a sequence in a phase, with its taken jacks. -/
def sequencing (p : Phase) (taken : List Slot) (s : State) : State :=
  { s with sequence := { s.sequence with kind := some .autoLevel, owner := some .level, phase := p, taken := taken } }

/-! #### The machine, power and the lines -/

theorem witness_AnEmptyQueueLetsTimePass :
    (unpowered.pending = [] ∧ unpowered.isRunning = false)
      ∧ (ready.pending = [] ∧ ready.isRunning = true ∧ dueExpiries ready = [] ∧ arrivals ready = [])
      ∧ (let s := { ready with now := 3000 }
        s.isRunning = true
          ∧ dueExpiries s ++ arrivals s = [.gustTimerExpiry, .refreshTimerExpiry, .statusTimerExpiry]) := by
  decide +kernel

theorem witness_EveryCommandCompletes :
    unpowered.isRunning = false ∧ (ready.isRunning = true ∧ ready.overrun = false)
      ∧ (∀ straps, Instr.census 1 ≠ .powerOn straps) ∧ (∀ straps, Instr.census 1 ≠ .resetLineRelease straps)
      ∧ Instr.census 1 ≠ .powerOff ∧ Instr.census 1 ≠ .resetLineAssert ∧ Instr.census 1 ≠ .stopAllActive
      ∧ Instr.census 1 ≠ .stopAllInactive :=
  ⟨by decide +kernel, by decide +kernel, nofun, nofun, nofun, nofun, nofun, nofun⟩

theorem witness_EveryStartGivesTheStartState :
    unpowered.inputs.resetActive = false
      ∧ (let s := { ready with inputs := ⟨true, true, false⟩ }
        s.inputs.resetActive = true ∧ s.inputs.powered = true)
      ∧ (let s := { ready with store := { ready.store with restart := some 200 } }
        s.isRunning = true ∧ s.overrun = false ∧ s.store.restart.isSome = true)
      ∧ (let s := after (.restart 5) (onPath (fun p => { p with cTransmit := none, cQueue := [] }) ready)
        s.isRunning = true ∧ s.overrun = false ∧ s.store.restart.isSome = true ∧ s.path.cState = .active
          ∧ s.path.cTransmit.any isRestartReply = true)
      ∧ crc16 goodImage.bytes = goodImage.crc ∧ crc16 Image.blank.bytes ≠ Image.blank.crc := by decide +kernel

theorem witness_APartThatDoesNotRunTakesNoCommand :
    unpowered.isRunning = false ∧ { ready with inputs := ⟨true, true, false⟩ }.isRunning = false
      ∧ (∀ straps, Instr.census 1 ≠ .powerOn straps) ∧ (∀ straps, Instr.census 1 ≠ .resetLineRelease straps)
      ∧ Instr.census 1 ≠ .resetLineAssert ∧ Instr.census 1 ≠ .powerOff ∧ Instr.census 1 ≠ .stopAllActive
      ∧ Instr.census 1 ≠ .stopAllInactive :=
  ⟨by decide +kernel, by decide +kernel, nofun, nofun, nofun, nofun, nofun, nofun⟩

theorem witness_HaltBringsEverythingToRest :
    (moving.isReady = true ∧ moving.inputs.stopAll = false) ∧ moving.takesCommands = true
      ∧ waiting.takesCommands = true ∧ ready.takesCommands = true
      ∧ (ready.path.mTransmit.isSome = true
        ∧ (onPath (fun p => { p with control := some (.enrol (.assign 4)) }) ready).isReady = true)
      ∧ (moving.path.mState = .active ∧ moving.store.doze = false ∧ moving.path.control ≠ some .halt)
      ∧ (onPath (fun p => { p with mTransmit := none, control := none }) moving).isReady = true := by decide +kernel

theorem witness_StopAllInactiveChangesTheLine :
    let s := { ready with inputs := { ready.inputs with stopAll := true } }
    s.isReady = true ∧ s.inputs.stopAll = true ∧ s.store.factoryLoaded = true := by decide +kernel

/-! #### The frame path -/

theorem witness_ReceivedFramesJoinTheirBuffer :
    ready.isReady = true ∧ ready.path.cState = .active
      ∧ (let s := onPath (fun p => { p with
          cReceive := List.replicate 16 (frame .standard 1 [])
          mReceive := List.replicate 32 (frame .standard 1 []), cState := .active }) ready
        s.isReady = true ∧ ¬ s.path.cReceive.length < 16 ∧ ¬ s.path.mReceive.length < 32)
      ∧ (onPath (fun p => { p with cState := .busOff, mState := .busOff }) ready).isReady = true := by
  decide +kernel

theorem witness_CPortSendsItsQueueInOrder :
    (ready.isReady = true ∧ ready.path.cState = .active ∧ ready.store.restart = none
        ∧ ready.path.cQueue = [resetPostureFrame])
      ∧ (let s := onPath (fun p => { p with cQueue := [] }) ready
        s.isReady = true ∧ s.path.cState = .active ∧ s.store.restart = none ∧ s.path.cQueue = [])
      ∧ (let s := onPath (fun p => { p with cState := .busOff }) ready
        s.isReady = true ∧ s.path.cState = .busOff ∧ s.path.cTransmit.isSome = true)
      ∧ (let s := onPath (fun p => { p with cState := .busOff, cTransmit := none }) ready
        s.isReady = true ∧ s.path.cState = .busOff ∧ s.path.cTransmit = none
          ∧ s.path.cQueue = [resetPostureFrame]) := by decide +kernel

theorem witness_MPortSendsControlThenOrdersThenForwards :
    let with_ := fun (c : Option ControlFrame) (q : List OrderEntry) (f : List Frame) =>
      { onPath (fun p => { p with control := c, forward := f }) rested with
        orders := { rested.orders with queue := q } }
    let e : OrderEntry := ⟨5, 0, .extend, 20, 1⟩
    (∀ c ∈ [none, some .halt, some (.beat 1 100), some (.enrol (.assign 24)), some (.enrol .forget)],
      ∀ q ∈ [[], [e]], ∀ f ∈ [[], [frame .standard 1 []]],
      let s := with_ c q f
      s.isReady = true ∧ s.path.mState = .active ∧ s.store.doze = false ∧ s.link.offers = []
        ∧ s.path.control = c ∧ s.orders.queue = q ∧ s.path.forward = f
        ∧ ∀ r ∈ s.orders.records, r.due = false) := by decide +kernel

theorem witness_MPortBusOffAndRecovery :
    (let s := { ready with link := { ready.link with outcome := .empty } };
      s.isReady = true ∧ s.path.mState = .active ∧ s.monitor.posture = .fault ∧ s.link.outcome ≠ .running)
      ∧ (let s := onPath (fun p => { p with mState := .busOff }) ready
        s.isReady = true ∧ s.path.mState = .busOff ∧ s.isAtRest = true)
      ∧ (moving.isReady = true ∧ moving.path.mState = .active ∧ moving.monitor.posture ≠ .fault)
      ∧ (ready.isReady = true ∧ ready.path.mState = .active ∧ ready.link.outcome = .running) := by decide +kernel

theorem witness_FullCPortQueueEvictsByClass :
    let entry := fun (k : TxClass) => (⟨k, none, frame .standard 7 []⟩ : TxEntry)
    let full := fun (k : TxClass) => onPath (fun p => { p with
      cQueue := List.replicate 3 (entry .reply) ++ entry k :: List.replicate 12 (entry .change) }) ready
    (ready.path.cQueue.length < 16)
      ∧ (∀ k : TxClass, (full k).path.cQueue.length = 16)
      ∧ (∀ k : TxClass, (full k).path.cQueue
        = List.replicate 3 (entry .reply) ++ entry k :: List.replicate 12 (entry .change))
      ∧ (∀ x ∈ List.replicate 3 (entry .reply), x.cls ≠ .forwarded ∧ x.cls ≠ .periodic)
      ∧ (∀ x ∈ (full .periodic).path.cQueue, x.cls ≠ .forwarded)
      ∧ (∀ x ∈ (full .reply).path.cQueue, x.cls ≠ .forwarded ∧ x.cls ≠ .periodic)
      ∧ (∀ k : TxClass, ∀ x ∈ (full k).path.cQueue, (entry .change).subject = none)
      ∧ (let new : TxEntry := { resetPostureFrame with cls := .periodic }
        ready.path.cQueue = [] ++ resetPostureFrame :: [] ∧ new.subject.isSome = true
          ∧ resetPostureFrame.subject = new.subject) := by
  refine ⟨by decide +kernel, fun k => ?_, fun k => rfl, by decide +kernel, by decide +kernel, by decide +kernel,
    fun k x _ => rfl, by decide +kernel⟩
  cases k <;> decide +kernel

/-! #### Arrivals handed to the match engine -/

theorem witness_LowestMatchingEntryTakesTheArrival :
    let f := frame .standard 0x123 [1, 2]
    (let s := tabled .drop ready;
      let t := { s with settings := { s.settings with entries := ready.settings.entries } }
      t.isReady = true ∧ t.received .coach = [f] ∧ isMatched t .coach f = true
        ∧ (∀ i : EntryIndex, t.matchesFrame .coach f t.settings.entries[i] = false)
        ∧ t.settings.defaultOf .coach = .drop)
      ∧ (let s := tabled .drop ready
        let t := { s with settings := { s.settings with
          entries := ready.settings.entries, motionDefault := .forward } }
        t.isReady = true ∧ t.received .motion = [f] ∧ isMatched t .motion f = true
          ∧ (∀ i : EntryIndex, t.matchesFrame .motion f t.settings.entries[i] = false)
          ∧ t.settings.defaultOf .motion = .forward)
      ∧ (∀ a ∈ [Action.drop, .count, .forward none, .forward (some (.extended, 0x0BFFFFFF)),
            .forward (some (.extended, 0x0C000000))], ∀ port ∈ [Port.coach, .motion],
        let s := tabled a ready
        s.isReady = true ∧ s.received port = [f] ∧ isMatched s port f = true
          ∧ s.matchesFrame port f s.settings.entries[(5 : EntryIndex)] = true
          ∧ (∀ j : EntryIndex, j < 5 → s.matchesFrame port f s.settings.entries[j] = false)
          ∧ s.settings.entries[(5 : EntryIndex)].continues = false ∧ s.path.forward.length < 8)
      ∧ linkKind 0x0BFFFFFF < 24 ∧ 24 ≤ linkKind 0x0C000000
      ∧ (onPath (fun p => { p with forward := List.replicate 8 f }) (tabled (.forward none) ready)).isReady = true
      ∧ (let f := frame .extended 0x0C4B2017 [1, 0, 0x1A, 0]
        firstMatch chassis .coach f 0 = some 4 ∧ firstMatch chassis .coach f 6 = some 6
          ∧ chassis.settings.entries[(4 : EntryIndex)].continues = true
          ∧ chassis.settings.entries[(6 : EntryIndex)].continues = false ∧ firstMatch ready .coach f 0 = none)
      ∧ ready.store.doze = false := by
  decide +kernel

theorem witness_CaptureDeliversAClampedValue :
    (frame .standard 1 [1, 2, 3]).length ≤ 24 / 8 ∧ 16 / 8 < (frame .standard 1 [1, 2, 3]).length := by decide

/-- An IDLE awning with its hold record as given, where everything is allowed. -/
def pressed (h : Hold) : State :=
  let s := withSlot 3 awning (idleAt 500 .midway) rested
  { s with holds := s.holds.set 3 h }

/-- Both sides of the equivalence of AcceptedRequestsPassEveryCheck occur. -/
theorem witness_AcceptedRequestsPassEveryCheck :
    verdict (pressed Hold.start) ⟨3, .extend, .operator, none, none, true, false⟩ = none
      ∧ verdict ready ⟨3, .extend, .operator, none, none, false, false⟩ = some .notReady := by decide +kernel

/-- A jack at rest with a hold record ACTIVE, taken by a sequence that runs. -/
def takenJack : State :=
  let s := withSlot 0 (jack 0) { busyAt 100 .waiting .level with waitReason := some .budget } (levelling .lift)
  { s with holds := s.holds.set 0 ⟨.active, some .extend, some 0, some 9, some 300⟩ }

theorem witness_RequestsAndPressesMoveFunctions :
    let faulted := fun c : FaultCode =>
      withSlot 3 awning { idleAt 500 .midway with activity := .faulted, fault := some c } rested
    let request : Direction → Bool → Request := fun d latched => ⟨3, d, .operator, none, none, latched, false⟩
    let active : Hold := ⟨.active, some .extend, some 0, some 9, some 300⟩
    let cleared := (faulted .obstruction).setNode 5 (live .motorPair [])
    let deployed := withSlot 3 awning (idleAt 1000 .deployed) rested
    let f := frame .standard 0x123 [1, 2]
    let e := (tabled .drop ready).settings.entries[(5 : EntryIndex)]
    let fits := fun (port : Port) (x : EntryConfig) => (tabled .drop ready).matchesFrame port f x
    (fits .coach e = true ∧ fits .motion e = true ∧ fits .motion { e with port := .coach } = false
        ∧ fits .coach { e with minLength := 2 } = true ∧ fits .coach { e with minLength := 3 } = false
        ∧ fits .coach { e with ident := 0x523 } = false ∧ fits .coach { e with form := .extended } = false
        ∧ fits .coach { e with mask := 0, byte0 := 1, byte1 := 2 } = true
        ∧ fits .coach { e with mask := 0, byte0 := 0x81, byte1 := 2 } = false
        ∧ fits .coach { e with state := .empty } = false)
      ∧ (∀ s ∈ [takenJack, rested, faulted .nodeSilent, cleared, moving, deployed, pressed active, quiet moving],
        s.LinkDrained ∧ s.OwnersHold)
      ∧ ((takenJack.fn 0).activity.isBusy = true ∧ (takenJack.hold 0).state = .active ∧ takenJack.isTaken 0 = true
        ∧ 0 ∈ takenJack.sequence.taken)
      ∧ (rested.isTaken 3 = false ∧ (rested.fn 3).activity.isBusy = false ∧ (rested.fn 3).activity = .unavailable)
      ∧ ((cleared.fn 3).activity = .faulted ∧ causeGone cleared 3 = true)
      ∧ (((faulted .nodeSilent).fn 3).activity = .faulted ∧ causeGone (faulted .nodeSilent) 3 = false)
      ∧ ((moving.fn 3).activity ≠ .unavailable ∧ (moving.fn 3).activity ≠ .faulted
        ∧ reverses moving 3 .retract = true ∧ reverses moving 3 .extend = false)
      ∧ (reverses deployed 3 .extend = false ∧ verdict deployed (request .extend true) = some .atEnd
          ∧ reverses deployed 3 .retract = false ∧ verdict deployed (request .retract true) = none
          ∧ deployed.isTaken 3 = false)
      ∧ (((pressed active).hold 3).state = .active ∧ ((pressed active).hold 3).verb = some .extend
        ∧ ((pressed active).hold 3).verb ≠ some .retract)
      ∧ ((pressed { active with state := .refused }).hold 3).state = .refused
      ∧ ((quiet { moving with holds := rested.holds }).hold 3).state = .none
      ∧ reverses (quiet { moving with holds := rested.holds }) 3 .retract = true
      ∧ ((deployed.hold 3).state = .none ∧ verdict deployed (request .extend false) = some .atEnd)
      ∧ (let s := pressed Hold.start
        (s.hold 3).state = .none ∧ reverses s 3 .extend = false ∧ verdict s (request .extend false) = none
          ∧ s.isTaken 3 = false) := by
  unfold State.LinkDrained State.OwnersHold
  decide +kernel

/-! #### Frames handed to the management decoder -/

theorem witness_CommandFrameCarriesAWholeCommand :
    (let s := requested ([0x01, 0x43, 7, 4] ++ [3, 0, 1, 2] ++ []) ready;
      transactionOf (.jog 7 3 0 0x0102) = some (.jog, 7, [3, 0, 1, 2]) ∧ s.isReady = true ∧ s.store.doze = false
        ∧ s.assembly = none
        ∧ s.path.cReceive = [dataFrame (requestIdent s.store.straps)
          ([0x01, CommandCode.jog.toByte, 7, BitVec.ofNat 8 4] ++ [3, 0, 1, 2] ++ [])])
      ∧ (let s := requested ([0x01, 0x41, 7, 0] ++ [] ++ [0, 0, 0, 0]) ready
        transactionOf (.census 7) = some (.census, 7, []) ∧ s.isReady = true
          ∧ s.path.cReceive = [dataFrame (requestIdent s.store.straps)
            ([0x01, CommandCode.census.toByte, 7, BitVec.ofNat 8 0] ++ [] ++ [0, 0, 0, 0])])
      ∧ (∀ b n, (b, n) ∈ [((0x7F : Byte), (255 : Nat)), (0x43, 5), (0x10, 23)] →
        (requested ([0x01, b, 7, BitVec.ofNat 8 n] ++ [1, 2, 3, 4]) ready).takesCommands = true)
      ∧ CommandCode.ofByte 0x7F = none
      ∧ (CommandCode.ofByte 0x43 = some .jog ∧ lengthFits .jog 5 = false)
      ∧ (CommandCode.ofByte 0x10 = some .writeEntry ∧ lengthFits .writeEntry 23 = true) := by
  refine ⟨by decide +kernel, by decide +kernel, ?_, by decide +kernel, by decide +kernel, by decide +kernel⟩
  intro b n h
  simp only [List.mem_cons, List.not_mem_nil, or_false, Prod.mk.injEq] at h
  rcases h with ⟨rfl, rfl⟩ | ⟨rfl, rfl⟩ | ⟨rfl, rfl⟩ <;> decide +kernel

theorem witness_ContinueFrameAddsItsBytes :
    let s := requested ([0x02, 1] ++ [1, 2, 3, 4, 5, 6]) ready
    let a : Assembly := ⟨.writeEntry, 7, 23, 1, [1, 2, 3, 4]⟩
    let b : Assembly := ⟨.writeEntry, 7, 23, 2, [1, 2, 3, 4, 5, 6, 7, 8, 9, 10]⟩
    (s.isReady = true ∧ s.store.doze = false ∧ s.assembly = none)
      ∧ ({ s with assembly := some a }.isReady = true ∧ (1 : Byte).toNat = a.nextIndex
        ∧ a.params.length + 6 < a.declared ∧ a.code ≠ .writeCells)
      ∧ ({ s with assembly := some b }.isReady = true ∧ (1 : Byte).toNat ≠ b.nextIndex
        ∧ b.code.shape = .whole 23)
      ∧ (∀ n ∈ [1, 6], let ps : List Byte := [3, 0, 0, 0, 7, 1, 2]
        let a : Assembly := ⟨.writeMask, 7, 7, 1, ps.take (7 - n)⟩
        let tail : List Byte := (ps.drop (7 - n) ++ List.replicate 5 0).take 6
        let t := { requested ([0x02, 1] ++ tail) ready with assembly := some a }
        t.isReady = true ∧ takesNoCommand t = false ∧ a.params.length < a.declared
          ∧ a.declared ≤ a.params.length + 6 ∧ a.code ≠ .writeCells ∧ lengthFits a.code a.declared = true
          ∧ transactionOf (.writeMask 7 3 7 1 2)
            = some (a.code, a.tag, a.params ++ tail.take (a.declared - a.params.length)))
      ∧ (∀ n ∈ [10, 11, 15, 16], let c : Assembly := ⟨.writeCells, 7, n, 1, List.replicate 4 1⟩
        { s with assembly := some c }.isReady = true ∧ c.code = .writeCells ∧ (1 : Byte).toNat = c.nextIndex
          ∧ decide (c.params.length + 6 < c.declared) = decide (10 < n))
      ∧ (transactionOf (.census 8) = some (.census, 8, []) ∧ { ready with assembly := some a }.isReady = true
        ∧ ready.store.doze = false ∧ a.code.shape = .whole 23) := by decide +kernel

/-- Two jacks at rest, contacted and not, with a LIVE level sensor node, where everything is allowed. -/
def jackCoach (p : Nat) (cls : PosClass) : State :=
  let s := withSlot 1 (jack 1) { idleAt p cls with contact := true }
    (withSlot 0 (jack 0) (idleAt 100 .midway) (withNode .levelSensor rested))
  { s with settings := { s.settings with levelling := { s.settings.levelling with sensorNode := some 2 } } }

/-- Nothing is allowed in any posture. -/
def forbidAll (s : State) : State :=
  { s with settings := { s.settings with
      bankA := Vector.replicate 7 (Vector.replicate 16 0), bankB := Vector.replicate 7 (Vector.replicate 16 0) } }

theorem witness_SequenceRequestsAndPostureChanges :
    let dark := fun s : State => s.setSignal .ignition ⟨0, true, some 6, some 2000⟩
    let stowing := fun s : State => { s with settings := { s.settings with levelling := { s.settings.levelling with
      travelStowJacks := true, travelStowAwnings := true } } }
    (∀ s ∈ [jackCoach 0 .stowed, rested, levelling .lift, takenJack, forbidAll moving, forbidAll takenJack,
        quiet (jackCoach 0 .stowed)], s.LinkDrained)
      ∧ (levelVerdict (jackCoach 0 .stowed) = none
        ∧ ∀ i ∈ (jackCoach 0 .stowed).jacks, ((jackCoach 0 .stowed).fn i).activity.isBusy = false)
      ∧ levelVerdict rested = some .notReady ∧ stowVerdict .level rested = some .notReady
      ∧ (let s := jackCoach 0 .stowed
        stowVerdict .level s = none ∧ stowVerdict .travel s = none ∧ s.seqRuns = false
          ∧ ∀ i ∈ s.stowable, (s.fn i).activity.isBusy = false)
      ∧ (stowVerdict .travel (levelling .lift) = none ∧ (levelling .lift).seqRuns = true)
      ∧ (takenJack.seqRuns = true ∧ 0 ∈ takenJack.sequence.taken ∧ (takenJack.fn 0).activity.isBusy = true
        ∧ (takenJack.hold 0).state = .active)
      ∧ (rested.seqRuns = false ∧ Posture.levelled ≠ .fault ∧ Posture.levelled ≠ rested.monitor.posture
        ∧ rested.monitor.posture ≠ .fault)
      ∧ (let s := forbidAll moving
        (s.fn 3).target = none ∧ (s.fn 3).activity.isBusy = true ∧ (s.fn 3).owner = .operator
          ∧ (s.fn 3).verb = some .extend ∧ cellAllows (s.cell s.monitor.posture 3) .extend = false
          ∧ s.isTaken 3 = false ∧ cellAllows (moving.cell moving.monitor.posture 3) .extend = true)
      ∧ (let s := forbidAll takenJack
        (s.fn 0).activity.isBusy = true ∧ (s.fn 0).owner = .level ∧ cellAuto (s.cell s.monitor.posture 0) = false
          ∧ s.isTaken 0 = true ∧ s.seqRuns = true ∧ s.sequence.owner = some .level
          ∧ (s.sequence.taken.any fun i => !cellAuto (s.cell s.monitor.posture i)) = true)
      ∧ (let s := stowing (dark (jackCoach 100 .midway))
        s.value .ignition ≠ 1 ∧ s.store.doze = false ∧ s.monitor.posture ≠ .fault
          ∧ s.settings.levelling.travelStowJacks = true ∧ (s.cfg 0).kind = .jack ∧ (s.fn 0).posClass ≠ .stowed
          ∧ s.settings.levelling.travelStowAwnings = true)
      ∧ (let s := dark rested
        s.value .ignition ≠ 1 ∧ s.monitor.posture ≠ .fault ∧ s.settings.levelling.travelStowJacks = false
          ∧ s.settings.levelling.travelStowAwnings = false ∧ rested.value .ignition = 1)
      ∧ ((dark ready).value .ignition ≠ 1 ∧ (dark ready).store.doze = false
        ∧ (dark ready).monitor.posture = .fault) := by
  unfold State.LinkDrained
  decide +kernel

/-! #### Frames handed to the link manager -/

theorem witness_ReportAndTiltUpdateTheNode :
    (∀ (i : Slot) (e : Side), ((ready.fn i).chan e).awaited = false)
      ∧ (let s := linked 12 2 [1, 0, 5, 0, 6, 0, 8, 3] (withNode .valveBank ready);
      s.isReady = true ∧ s.store.doze = false ∧ (s.node 2).state ≠ .absent ∧ (s.node 2).kind = .valveBank
        ∧ (1 : Byte).toNat < (s.node 2).channels.length
        ∧ (∀ i : Slot, (s.cfg i).kind ≠ .unused → ⟨2, (1 : Byte).toNat⟩ ∉ (s.cfg i).drives)
        ∧ s.settings.manifold.pump ≠ some ⟨2, (1 : Byte).toNat⟩ ∧ s.orderRecord 2 (1 : Byte).toNat = none)
      ∧ (let s := linked 13 2 [0, 5, 0, 6, 1, 8] (withNode .levelSensor ready)
        s.isReady = true ∧ s.store.doze = false ∧ (s.node 2).state ≠ .absent ∧ (s.node 2).kind = .levelSensor
          ∧ s.settings.levelling.sensorNode ≠ some 2) := by
  refine ⟨fun i e => ?_, by decide +kernel, by decide +kernel⟩
  cases e <;> revert i <;> decide +kernel

theorem witness_ReportsMoveAndJudgeHydraulics :
    let at_ := fun (c : FunctionConfig) (p : Phase) (f : Function) (raw load : Nat) (flags : Byte) =>
      sequencing p [0] (withSlot 0 c f (rested.setNode 1 (live .valveBank [reported raw load flags])))
    let j := { jack 0 with overload := 1000 }
    let h := { j with kind := .slideHyd, endPressure := 800 }
    let move := fun (v : MoveVerb) (x : Option Nat) (d : Direction) => { busyAt 100 .moving .level with
      verb := some v, target := x
      chA := { (busyAt 100 .moving .level).chA with direction := some d, startTime := some 0 } }
    let fits := fun (s : State) (raw load : Nat) (flags : Byte) =>
      s.channelRecord ⟨1, 0⟩ = some (reported raw load flags) ∧ (s.cfg 0).drive .a = some ⟨1, 0⟩
        ∧ (s.cfg 0).sides = [.a] ∧ (s.cfg 0).kind.isMotor = false
    ((at_ j .idle (move .extend none .extend) 100 0 0).LinkDrained
        ∧ (quiet (at_ j .idle (move .extend none .extend) 100 0 0)).LinkDrained)
      ∧ (∀ a ∈ [Activity.unavailable, .idle, .waiting, .settling, .faulted], ∀ contact ∈ [false, true],
          ∀ load ∈ [99, 100, 149, 150],
        let s := at_ j .ground { busyAt 100 a .operator with contact := contact } 500 load 0
        fits s 500 load 0 ∧ (s.fn 0).activity = a ∧ (s.fn 0).contact = contact
          ∧ s.settings.levelling.contactPressure = 150
          ∧ s.settings.levelling.contactPressure - s.settings.levelling.contactHysteresis = 100)
      ∧ (∀ flags ∈ [(1 : Byte), 2, 3], fits (at_ j .idle (idleAt 100 .midway) 100 0 flags) 100 0 flags)
      ∧ (∀ p ∈ [Phase.idle, .ground], ∀ raw ∈ [8, 9, 389, 390], ∀ load ∈ [149, 150, 999, 1000],
        ∀ v ∈ [MoveVerb.extend, .retract],
        let s := at_ j p (move v none .extend) raw load 0
        fits s raw load 0 ∧ (s.fn 0).activity = .moving ∧ (s.fn 0).verb = some v ∧ (s.cfg 0).overload = 1000
          ∧ (s.cfg 0).stowWindow = 8 ∧ (s.cfg 0).stroke - (s.cfg 0).endWindow = 390
          ∧ decide (s.sequence.phase = .ground ∧ s.isTaken 0 = true ∧ 0 ∉ s.sequence.finished)
            = decide (p = .ground))
      ∧ (∀ raw ∈ [202, 203], let s := at_ j .idle (move .goto (some 200) .extend) raw 0 0
        fits s raw 0 0 ∧ (s.fn 0).verb = some .goto ∧ decide (gap 200 (min raw 400) ≤ 2) = decide (raw = 202))
      ∧ (∀ now ∈ [249, 250], ∀ load ∈ [799, 800, 999, 1000], ∀ raw ∈ [389, 390],
        let s := { at_ h .idle (move .extend none .extend) raw load 0 with now := now }
        fits s raw load 0 ∧ (s.cfg 0).kind = .slideHyd ∧ (s.fn 0).chA.direction = some .extend
          ∧ (s.fn 0).chA.startTime = some 0 ∧ decide (s.now < 0 + 250) = decide (now = 249)
          ∧ (s.cfg 0).endPressure = 800)
      ∧ (let s := withSlot 3 awning Function.start (ready.setNode 5 (live .motorPair [reported 500 200 0]))
        s.channelRecord ⟨5, 0⟩ = some (reported 500 200 0) ∧ (s.fn 3).activity = .unavailable
          ∧ (s.cfg 3).drive .a = some ⟨5, 0⟩ ∧ (s.cfg 3).kind.isMotor = true
          ∧ (s.cfg 3).partner ≠ some 4) := by
  unfold State.LinkDrained
  decide +kernel

theorem witness_ReadingsAreSolvedIntoLiftSteps :
    let coach := fun (p : Phase) (pass : Nat) =>
      let s := levelCoach #v[62, 58, 110, 121]
      { s with sequence := { s.sequence with phase := p, pass := pass, settleTimer := none } }
    let lifting := fun (l : List (Slot × Nat)) =>
      let s := parked (allowAll (coach .lift 1))
      { s with sequence := { s.sequence with targets := some l, stepTargets := some l } }
    let request : Request := ⟨0, .extend, .level, some 82, some 100, false, true⟩
    (∀ pass ∈ [0, 1, 3], let s := coach .sample pass
      s.seqRuns = true ∧ s.sequence.kind = some .autoLevel ∧ s.sequence.phase = .sample
        ∧ s.sequence.settleTimer = none ∧ s.sequence.pass = pass)
      ∧ (ready.settings.levelling.maxStartGrade = 800 ∧ ready.settings.levelling.tolerance = 30
        ∧ ready.settings.levelling.maxPasses = 3 ∧ ready.settings.levelling.liftStep = 40 ∧ ready.seqRuns = false
        ∧ (800 : Int) < |(-801 : Int)| ∧ |(-30 : Int)| ≤ 30 ∧ ¬ |(31 : Int)| ≤ 30 ∧ ¬ (800 : Int) < |(800 : Int)|)
      ∧ (heightOf 5200 1 1 (-200) = 1 ∧ heightOf (-5000) 0 1 0 = -1 ∧ heightOf 4999 0 1 0 = 0)
      ∧ (let s := coach .sample 0
        ∃ j ∈ s.sequence.taken, ∀ k ∈ s.sequence.taken,
          heightOf s.settings.geometry[k].x s.settings.geometry[k].y 180 (-95)
            ≤ heightOf s.settings.geometry[j].x s.settings.geometry[j].y 180 (-95))
      ∧ (let s := lifting [(0, 82)]
        s.sequence.phase = .lift ∧ (s.fn 0).activity = .idle ∧ s.isTaken 0 = true
          ∧ s.sequence.targets = some [(0, 82)] ∧ nextStep s ≠ [] ∧ s.LinkDrained
          ∧ ([(0, 82)] : List (Slot × Nat)).find? (fun x => x.1 == 0) = some (0, 82)
          ∧ verdict s request = none)
      ∧ (nextStep (lifting [(0, 64)]) = [] ∧ nextStep (lifting [(0, 65)]) ≠ [])
      ∧ (let s := withSlot 0 (jack 0) { idleAt 62 .midway with activity := .faulted } (lifting [(0, 82)])
        (s.fn 0).activity ≠ .idle ∧ s.LinkDrained ∧ verdict s request = some .faulted)
      ∧ (verdict (forbidAll (lifting [(0, 82)])) request = some .notPermitted
        ∧ (forbidAll (lifting [(0, 82)])).isTaken 0 = true) := by
  unfold State.LinkDrained
  decide +kernel

theorem witness_EnrolAckAdvancesOrEndsTheCensus :
    (let s := linked 8 0 [BitVec.ofNat 8 24, 1, 4, 0] (enrolling 24);
      s.isReady = true ∧ s.link.outcome = .running ∧ (s.node 24).state = .absent
        ∧ s.link.outstanding = some 24)
      ∧ (let s := linked 8 0 [BitVec.ofNat 8 2, 1, 4, 0] (withNode .pump (enrolling 3))
        s.isReady = true ∧ s.link.outcome = .running ∧ (s.node 2).state ≠ .absent)
      ∧ (let s := linked 8 0 [BitVec.ofNat 8 0, 1, 4, 0] (enrolling 0)
        s.isReady = true ∧ s.link.outcome = .running ∧ s.link.outstanding = some 0) := by decide +kernel

theorem witness_StraysAreOnlyCounted :
    let stands := fun (f : Frame) (s : State) =>
      (onPath (fun p => { p with mReceive := [f] }) s).isReady = true ∧ f.form = .extended ∧ linkKind f.ident < 24
    let asks := fun (f : Frame) =>
      (onPath (fun p => { p with cReceive := [f] }) ready).isReady = true ∧ f.form = .extended
        ∧ f.ident = requestIdent ready.store.straps
    (let f := dataFrame (linkIdent 4 1) [0]; stands f ready ∧ linkKind f.ident = 4)
      ∧ (let f := dataFrame (linkIdent 12 9) [0]
        stands f ready ∧ linkKind f.ident = 12 ∧ (ready.node (linkNode f.ident)).state = .absent)
      ∧ (let f := dataFrame (linkIdent 13 9) [0]
        stands f ready ∧ linkKind f.ident = 13 ∧ (ready.node (linkNode f.ident)).state = .absent)
      ∧ (let f := dataFrame (linkIdent 8 0) [1, 1, 1, 1]
        stands f rested ∧ linkKind f.ident = 8 ∧ rested.link.outcome ≠ .running)
      ∧ (let f : Frame := ⟨.extended, linkIdent 12 2, true, 8, []⟩; stands f ready ∧ f.remote = true)
      ∧ ready.store.doze = false
      ∧ (let f : Frame := ⟨.extended, 0x0C5E1A00, true, 8, []⟩; asks f ∧ f.remote = true)
      ∧ (let f := frame .extended 0x0C5E1A00 [1, 2, 3]; asks f ∧ f.length < 4)
      ∧ (let f := frame .extended 0x0C5E1A00 [3, 2, 3, 4]; asks f ∧ frameByte f 0 ≠ 1 ∧ frameByte f 0 ≠ 2) := by
  decide +kernel

/-! #### Orders and the service pass -/

theorem witness_OrdersArePlacedEvictedAndRepeated :
    let record := fun (n c : Nat) (d : DriveCode) (due : Bool) => (⟨n, c, d, 20, 1, due, false, none⟩ : OrderRecord)
    let entry := fun (n : Nat) (d : DriveCode) => (⟨n, 0, d, 20, 1⟩ : OrderEntry)
    let with_ := fun (rs : List OrderRecord) (q : List OrderEntry) => { rested with
      orders := { rested.orders with records := rs, queue := q } }
    let full := fun d => (List.range 7).map (fun n => entry (n + 2) .holdStill) ++ [entry 9 d]
    let stopping := record 1 0 .holdStill false
    (let s := with_ [stopping] [entry 1 .extend];
        (∃ e ∈ s.orders.queue, e.node = 1 ∧ e.channel = 0) ∧ s.orders.queue.length < 8)
      ∧ (∀ q ∈ [full .extend, full .holdStill], ¬ (∃ e ∈ q, e.node = 1 ∧ e.channel = 0) ∧ 8 ≤ q.length)
      ∧ (full .extend = (full .extend).take 7 ++ entry 9 .extend :: []
        ∧ (∀ e ∈ (full .extend).take 7, e.drive = .holdStill ∨ e.drive = .pumpStop)
        ∧ ∀ e ∈ full .holdStill, e.drive = .holdStill)
      ∧ (with_ [stopping] []).path.mTransmit.isSome = true
      ∧ (with_ [stopping] []).orderRecord 1 0 = some stopping ∧ (with_ [stopping] []).orderRecord 2 0 = none
      ∧ (let rs := [record 2 0 .extend true, record 3 1 .holdStill true, record 3 2 .holdStill true]
        let a := [record 2 0 .extend true]
        let r := record 3 1 .holdStill true
        rs = a ++ r :: [record 3 2 .holdStill true] ∧ r.due = true
          ∧ (∀ x ∈ a, r.drive = .holdStill ∧ x.drive = .extend)
          ∧ (r.node = 3 ∧ r.channel < 2) ∧ (with_ rs (full .extend).tail).orders.queue.length < 8)
      ∧ (let s := with_ [stopping, record 5 0 .extend false] []
        s.isReady = true ∧ s.orders.refreshTimer.isSome = true ∧ (∀ i, (s.fn i).activity ≠ .moving)
          ∧ s.orders.records[0]? = some stopping)
      ∧ ((moving.fn 3).activity = .moving ∧ (⟨5, 0⟩ : DriveRef) ∈ (moving.cfg 3).drives)
      ∧ (7 ≠ stopping.sequence ∧ stopping.resend ≠ some rested.orders.cycle
        ∧ { stopping with resend := some 0 }.resend = some rested.orders.cycle) := by decide +kernel

theorem witness_ServicePassGrantsInOrder :
    let place := fun (i : Slot) (c : FunctionConfig) (s : State) =>
      { withSlot i c { busyAt 200 .waiting .operator with waitReason := some .budget } s with
        manifold := { s.manifold with waitList := s.manifold.waitList ++ [⟨i, 0, some 10000⟩] } }
    let slide := { jack 4 with kind := .slideHyd }
    let limited := fun (n : Nat) (s : State) => { s with budget := { s.budget with effectiveLimit := n } }
    let claimed := fun s : State => { s with settings := { s.settings with
      manifold := { s.settings.manifold with pump := some ⟨2, 0⟩, pumpClaim := 150 } } }
    let granted := fun (o : Owner) (s : State) => { s with manifold := { s.manifold with holder := some ⟨o, .slides, false⟩ } }
    let motor := place 3 { awning with endA := some ⟨7, 1⟩ } rested
    let hydraulic := fun p => claimed (place 4 slide (pumping p))
    let both := fun p => place 5 { slide with endA := some ⟨1, 5⟩ } (hydraulic p)
    let head := fun (s : State) (i : Slot) => s.manifold.waitList.head?.map (·.slot) = some i
    (∀ s ∈ [rested, motor, limited 60 motor, hydraulic .stopped, both .ready, quiet (both .priming),
        granted .operator (both .ready)],
      s.LinkDrained ∧ s.OwnersHold ∧ s.WaitListHolds ∧ ∀ i, (s.cfg i).kind.isMotor = true → s.isTaken i = false)
      ∧ (head motor 3 ∧ (motor.cfg 3).kind.isHydraulic = false ∧ motor.manifold.holder = none
        ∧ (motor.cfg 3).draw = 60 ∧ (limited 60 motor).claimsHeld + 60 ≤ (limited 60 motor).budget.effectiveLimit
        ∧ ¬ (limited 59 motor).claimsHeld + 60 ≤ (limited 59 motor).budget.effectiveLimit)
      ∧ (∀ p ∈ [PumpState.stopped, .priming, .ready, .holdOn, .coolDown], let s := both p
        head s 4 ∧ (s.cfg 4).kind.isHydraulic = true ∧ s.manifold.holder = none ∧ s.manifold.pump = p
          ∧ (s.cfg 5).kind = (s.cfg 4).kind ∧ (s.fn 5).owner = (s.fn 4).owner
          ∧ (5 : Slot) ∈ s.manifold.waitList.map (·.slot))
      ∧ ((limited 150 (hydraulic .stopped)).claimsHeld + 150 ≤ 150 ∧ ¬ (limited 149 (hydraulic .stopped)).claimsHeld + 150 ≤ 149
        ∧ (hydraulic .stopped).settings.manifold.pumpClaim = 150
        ∧ (hydraulic .stopped).settings.manifold.pump = some ⟨2, 0⟩)
      ∧ (let s := granted .operator (both .ready)
        s.manifold.holder = some ⟨.operator, .slides, false⟩ ∧ s.manifold.pump.isOn = true
          ∧ s.underGrant ⟨.operator, .slides, false⟩ 4 = true)
      ∧ (granted .travel (both .ready)).underGrant ⟨.travel, .slides, false⟩ 4 = false
      ∧ (motor.isTaken 3 = false ∧ (motor.fn 3).activity = .waiting ∧ motor.skewTooHard 3 = false
        ∧ (motor.cfg 3).drives.Nodup ∧ (motor.cfg 3).drive .a = some ⟨7, 1⟩
        ∧ ((motor.fn 3).chan .a).position = some 200 ∧ (motor.fn 3).verb = some .extend)
      ∧ (∀ k ∈ [120, 121], let f := { busyAt 200 .waiting .operator with
            waitReason := some .budget, chB := { Channel.start with position := some (200 + k) } }
        (withSlot 3 { twin with hardSkew := 120 } f rested).skewTooHard 3 = decide (k = 121)) := by
  unfold State.LinkDrained State.OwnersHold State.WaitListHolds
  decide +kernel

/-! #### Timers -/

theorem witness_IdleTimersHaveNoExpiry :
    timerOf ready .primeTimerExpiry = some none ∧ timerOf ready (.silenceTimerExpiry 24) = some none
      ∧ ready.isReady = true := by decide +kernel

theorem witness_HoldWaitStaleContactAndSilenceTimersAct :
    (∀ s ∈ [rested, moving, waiting, withNode .valveBank rested, quiet rested], s.isReady = true ∧ s.LinkDrained)
      ∧ (let s := pressed ⟨.refused, some .extend, some 0, some 9, some 300⟩
      s.isReady = true ∧ (s.hold 3).timer.isSome = true ∧ (s.hold 3).state ≠ .active)
      ∧ (let s := moving
        let released := putHold 3 { s.hold 3 with state := .none, verb := none, timer := none } s
        (s.hold 3).timer.isSome = true ∧ (s.hold 3).state = .active ∧ (s.cfg 3).mode = .hold
          ∧ (s.fn 3).owner = .operator ∧ (s.fn 3).activity = .moving
          ∧ nothingFollows s (stopFn true 3 .holdReleased released) = true)
      ∧ ((waiting.waitTimer 3).isSome = true ∧ waiting.isTaken 3 = false
        ∧ (waiting.fn 3).activity.isBusy = true ∧ nothingFollows waiting (waitExpired 3 waiting) = true)
      ∧ (let s := { takenJack with manifold := { takenJack.manifold with waitList := [⟨0, 1, some 10000⟩] } }
        (s.waitTimer 0).isSome = true ∧ s.isTaken 0 = true ∧ (s.fn 0).activity.isBusy = true)
      ∧ (let f := { idleAt 100 .midway with contactTimer := some 1000 }
        let s := withSlot 0 (jack 0) f rested
        nothingFollows s (putFn 0 { s.fn 0 with contact := false, contactTimer := none } s) = true
          ∧ (s.fn 0).contactTimer.isSome = true ∧ s.isReady = true ∧ s.isJack 0 = true
          ∧ s.sequence.phase ≠ .ground)
      ∧ (let s := sequencing .ground [0] (withSlot 0 (jack 0) { idleAt 100 .midway with
            contact := true, contactTimer := some 1000 } rested)
        let u := { s with sequence := { s.sequence with finished := [0] } }
        u.sequence.phase = .ground ∧ u.isTaken 0 = true ∧ 0 ∈ u.sequence.finished ∧ (u.fn 0).contact = true)
      ∧ ((rested.signal .parkBrake).timer.isSome = true
        ∧ rested.settings.signals[signalIndex .parkBrake].policy = .safe
        ∧ rested.settings.signals[signalIndex .parkBrake].safeValue ≠ (rested.signal .parkBrake).value
        ∧ (rested.signal .ignition).timer.isSome = true
        ∧ rested.settings.signals[signalIndex .ignition].policy = .hold)
      ∧ (let s := rested.setSignal .windSpeed ⟨100, true, some 7, some 2000⟩
        let t := s.setSignal .windSpeed ⟨600, false, some 7, none⟩
        s.isReady = true ∧ (s.signal .windSpeed).timer.isSome = true
          ∧ s.settings.signals[signalIndex .windSpeed].safeValue = 600
          ∧ nothingFollows s (handOver .windSpeed t) = true)
      ∧ (let s := withNode .valveBank rested
        ((s.node 2).silenceTimer.isSome = true ∧ nothingFollows s (silentNode 2 s) = true)
          ∧ (s.setNode 24 (live .pump [])).isReady = true
          ∧ ((s.setNode 24 (live .pump [])).node 24).silenceTimer.isSome = true)
      ∧ (let s := withSlot 4 { jack 1 with kind := .slideHyd, endA := some ⟨2, 1⟩ } (idleAt 200 .midway)
          (withNode .valveBank rested)
        s.isReady = true ∧ (s.node 2).silenceTimer.isSome = true ∧ 2 ∈ s.boundNodes 4
          ∧ (s.fn 4).activity.canFault = true ∧ (s.fn 5).activity.canFault = false ∧ 2 ∉ s.boundNodes 5)
      ∧ (let s := withNode .pump (pumping .holdOn)
        let u := { s with settings := { s.settings with manifold := { s.settings.manifold with pump := some ⟨2, 0⟩ } } }
        u.isReady = true ∧ (u.node 2).silenceTimer.isSome = true
          ∧ u.settings.manifold.pump = some ⟨2, 0⟩) := by
  unfold State.LinkDrained
  decide +kernel

/-- A twin slide at two positions that moves as given. -/
def twinAt (pa pb : Nat) (v : MoveVerb) (x : Option Nat) (g : Function → Function) : State :=
  let ch := fun p => { Channel.start with position := some p, startTime := some 0, direction := some .extend }
  withSlot 3 twin (g { busyAt pa .moving .operator with
    verb := some v, target := x, chA := ch pa, chB := ch pb }) rested

theorem witness_SettleAndStallTimersAndMotorReports_settle :
    (∀ e : Ending, ∀ p ∈ [0, 450, 451, 549, 550, 551, 990], let s := settling e p
      s.isReady = true ∧ (s.fn 3).settleTimer.isSome = true ∧ s.isTaken 3 = false
        ∧ (s.fn 3).activity = .settling ∧ (s.fn 3).byStall = false ∧ (s.fn 3).ending = some e ∧ s.LinkDrained)
      ∧ (∀ e : Ending, nothingFollows (settling e 0) (verify 3 (settling e 0)) = true)
      ∧ (let within := fun p => let s := settling .target p
          allWithin (s.cfg 3) (s.fn 3) ((s.fn 3).target.getD 0) (if (s.cfg 3).kind.isMotor then 50 else 5)
        within 450 = true ∧ within 550 = true ∧ within 551 = false)
      ∧ ((settling .retractEnd 0).allStowed 3 = true ∧ (settling .retractEnd 990).allStowed 3 = false)
      ∧ (let s := (settling .retractEnd 10).setNode 5 (live .motorPair [reported 70 0 0])
        let u := s.storeFn 3 { s.fn 3 with byStall := true }
        (u.cfg 3).kind = .awning ∧ (u.cfg 3).sides = [.a] ∧ u.lastRaw 3 .a = some 70 ∧ u.isReady = true)
      ∧ (∀ k ∈ [40, 41], let s := twinAt 10 (10 + k) .retract none fun f =>
            { f with activity := .settling, ending := some .retractEnd, byStall := true, settleTimer := some 500 }
        let u := s.setNode 7 (live .motorPair [reported 1010 0 0, reported 60990 0 0])
        (u.cfg 3).kind = .slideTwin ∧ (u.cfg 3).sides = [.a, .b] ∧ u.lastRaw 3 .a = some 1010
          ∧ u.lastRaw 3 .b = some 60990 ∧ (u.fn 3).chA.position = some 10 ∧ (u.fn 3).chB.position = some (10 + k)
          ∧ u.isReady = true ∧ decide (gap 10 (10 + k) ≤ (u.cfg 3).softSkew) = decide (k = 40)) := by
  unfold State.LinkDrained
  refine ⟨fun e => ?_, fun e => ?_, by decide +kernel, by decide +kernel, by decide +kernel, by decide +kernel⟩ <;>
    cases e <;> decide +kernel

theorem witness_SettleAndStallTimersAndMotorReports :
    (∀ p ∈ [979, 980], let s := withSlot 3 awning { busyAt p .moving .operator with
          chA := { (busyAt p .moving .operator).chA with direction := some .extend, stallTimer := some 300 } } rested
        s.isReady = true ∧ ((s.fn 3).chan .a).stallTimer.isSome = true ∧ ((s.fn 3).chan .a).position = some p
          ∧ ((s.fn 3).chan .a).direction = some .extend ∧ (s.fn 3).activity = .moving ∧ s.isTaken 3 = false
          ∧ (s.cfg 3).sides = [.a] ∧ nothingFollows s (stallExpired 3 .a s) = true
          ∧ inWindow (s.cfg 3) .extend p = decide (980 ≤ p)
          ∧ (s.cfg 3).kind.isMotor = true ∧ s.channelHeld 3 .a = false)
      ∧ (∀ pb ∈ [2000, 2020, 2021, 2040, 2041, 2120, 2121], ∀ x ∈ [none, some 2020, some 2021],
        let s := twinAt 2000 pb (if x.isSome then .goto else .extend) x id
        s.isReady = true ∧ s.LinkDrained ∧ s.isTaken 3 = false ∧ (s.cfg 3).kind.isMotor = true
          ∧ (s.cfg 3).sides = (if (s.cfg 3).kind = .slideTwin then [.a, .b] else [.a])
          ∧ (s.fn 3).activity = .moving ∧ ((s.fn 3).chan .a).position = some 2000
          ∧ ((s.fn 3).chan .a).direction = some .extend ∧ skewOf (s.fn 3) = some (pb - 2000)
          ∧ (s.cfg 3).softSkew = 40 ∧ (s.cfg 3).hardSkew = 120)
      ∧ (∀ g ∈ [Side.a, .b], ∀ pb ∈ [2020, 2021, 2040, 2041],
        let s := twinAt 2000 pb .extend none fun f => { f with skewHold := some g }
        s.isReady = true ∧ (s.fn 3).skewHold = some g ∧ leaderOf (s.cfg 3) (s.fn 3) = .b
          ∧ s.channelHeld 3 g = true)
      ∧ (let s := twinAt 2000 2010 .goto (some 2000) fun f => { f with chA := { f.chA with arrivalMark := true } }
        s.isReady = true ∧ (s.fn 3).chA.arrivalMark = true ∧ (s.fn 3).chB.endMark = false
          ∧ gap 2000 2010 ≤ 20 ∧ (s.fn 3).skewHold = none)
      ∧ (let s := twinAt 2000 2010 .goto (some 2021) fun f => { f with chA := { f.chA with arrivalMark := true } }
        s.isReady = true ∧ (s.fn 3).chA.arrivalMark = true ∧ (s.fn 3).chA.endMark = false ∧ ¬ gap 2021 2000 ≤ 20)
      ∧ (let s := twinAt 23700 23700 .extend none fun f => { f with chB := { f.chB with endMark := true } }
        s.isReady = true ∧ (s.fn 3).chB.endMark = true ∧ (s.fn 3).chB.direction = some .extend
          ∧ inWindow (s.cfg 3) .extend 23700 = true ∧ inWindow (s.cfg 3) .extend 23699 = false)
      ∧ (let a := { awning with partner := some 4, clearance := 300 }
        let t := { twin with partner := some 3, endA := some ⟨7, 0⟩ }
        ∀ p ∈ [299, 300], ∀ q ∈ [Activity.waiting, .moving, .idle],
          let s := withSlot 4 t { busyAt 1000 q .operator with owner := if q = .idle then .none else .operator }
            (withSlot 3 a { busyAt p .moving .operator with
              chA := { (busyAt p .moving .operator).chA with direction := some .extend } } rested)
          let u := s.setNode 5 (live .motorPair [⟨some (-(p : Int)), some 0, some 0, some 1, some 0⟩])
          s.isReady = true ∧ s.LinkDrained ∧ s.slideAllows 4 = false ∧ (s.cfg 3).partner = some 4
            ∧ (s.cfg 3).clearance = 300 ∧ (u.cfg 4).kind.isSlide = true ∧ (u.fn 4).activity = q
            ∧ (u.cfg 3).drive .a = some ⟨5, 0⟩ ∧ (u.cfg 3).sides = [.a]) := by
  unfold State.LinkDrained
  decide +kernel

theorem witness_LevellingTimersAdvanceOrEndTheSequence :
    (let s := levelling .settle;
      s.isReady = true ∧ s.sequence.settleTimer.isSome = true ∧ s.sequence.phase = .settle)
      ∧ (let s := levelling .sample
        s.isReady = true ∧ s.sequence.settleTimer.isSome = true ∧ s.sequence.phase ≠ .settle
          ∧ s.sequence.sampleTimer.isSome = true ∧ s.sequence.phase = .sample
          ∧ (∀ i ∈ s.sequence.taken, (s.fn i).activity.isBusy = false) ∧ s.manifold.holder = none
          ∧ nothingFollows s (levelFrame { s with
            sequence := { s.sequence with
              phase := .idle, result := some .sensorTimeout, settleTimer := none, sampleTimer := none, taken := []
              starts := none, finished := [], twistHeld := [], targets := none, stepTargets := none }
            manifold := { s.manifold with holder := none } }) = true) := by decide +kernel

/-- An awning of a class and an activity, where everything is allowed. -/
def awningAt (p : Nat) (cls : PosClass) (a : Activity) (c : Option FaultCode) : State :=
  withSlot 3 awning { idleAt p cls with activity := a, fault := c } rested

theorem witness_PumpSupplyAndWindTimersAct :
    let low := fun s : State => { s with budget := { s.budget with lowTimer := .running 5000 } }
    let request : Request := ⟨3, .retract, .wind, none, none, false, false⟩
    let hyd := { jack 4 with kind := .slideHyd }
    let primed := fun p => withSlot 4 hyd { busyAt 200 .waiting .operator with waitReason := some .prime } (pumping p)
    let held := fun p => { primed p with manifold := { (primed p).manifold with
      holder := some ⟨.operator, .slides, false⟩ } }
    (∀ p ∈ [PumpState.priming, .holdOn], let s := pumping p
      s.isReady = true ∧ s.LinkDrained ∧ s.manifold.primeTimer.isSome = true ∧ s.manifold.holdOnTimer.isSome = true
        ∧ s.manifold.pump.isOn = true ∧ nothingFollows s (primeExpired s) = true
        ∧ nothingFollows s (stopPump true s) = true
        ∧ nothingFollows s (dutyExpired { s with manifold := { s.manifold with
            runTime := s.settings.manifold.dutyLimit * 1000 } }) = true)
      ∧ ((quiet (pumping .ready)).LinkDrained ∧ (held .priming).isReady = true
        ∧ ((held .priming).fn 4).activity = .waiting ∧ ((held .priming).fn 4).waitReason = some .prime
        ∧ (held .priming).manifold.pump.isOn = true)
      ∧ (let s := { rested with manifold := { rested.manifold with restTimer := some 90000 } }
        s.isReady = true ∧ s.manifold.restTimer.isSome = true)
      ∧ (let cooling := fun l => { rested with manifold := { rested.manifold with
            pump := .coolDown, coolTimer := some 90000, waitList := l } }
        let s := cooling []
        let w := withSlot 3 awning { busyAt 500 .waiting .operator with waitReason := some .budget } (cooling [⟨3, 1, some 10000⟩])
        let t := setAlarm .pumpDuty false { w with manifold := { w.manifold with
          pump := .stopped, runTime := 0, coolTimer := none } }
        (s.isReady = true ∧ s.manifold.coolTimer.isSome = true ∧ s.manifold.waitList = [])
          ∧ w.isReady = true ∧ w.manifold.pump = .coolDown ∧ (react [] t).isNone = true ∧ passSettles t = true)
      ∧ (let s := withSlot 4 hyd (busyAt 200 .moving .operator) (pumping .ready)
        s.isReady = true ∧ (s.cfg 4).kind.isHydraulic = true ∧ (s.fn 4).activity = .moving)
      ∧ ((low rested).isReady = true ∧ (low rested).budget.lowTimer.expiry.isSome = true
        ∧ nothingFollows (low rested) (lowSupplyExpired (low rested)) = true
        ∧ (low moving).isReady = true ∧ ((low moving).fn 3).activity = .moving
        ∧ (low (held .priming)).isReady = true)
      ∧ (rested.settings.wind.gustThreshold ≤ rested.settings.wind.gustThreshold
        ∧ rested.settings.wind.gustThreshold - 1 < rested.settings.wind.gustThreshold
        ∧ rested.settings.wind.gustThreshold ≠ rested.value .windSpeed)
      ∧ (ready.isReady = true ∧ ready.LinkDrained ∧ ready.wind.gustTimer.isSome = true
        ∧ ∀ i, (ready.cfg i).kind = .awning → (ready.fn i).posClass = .stowed)
      ∧ (let s := { rested with wind := { rested.wind with calmTimer := some 600000 } }
        s.isReady = true ∧ s.wind.calmTimer.isSome = true)
      ∧ ((awningAt 0 .stowed .idle none).fn 3).posClass = .stowed
      ∧ (let f := (awningAt 500 .midway .faulted (some .skew)).fn 3
        f.posClass ≠ .stowed ∧ f.activity = .faulted ∧ f.fault ≠ some .obstruction)
      ∧ (let s := withSlot 3 awning (idleAt 500 .midway) ready
        (s.fn 3).posClass ≠ .stowed ∧ (s.fn 3).activity ≠ .faulted ∧ s.monitor.posture = .fault)
      ∧ (let s := awningAt 500 .midway .unavailable none
        s.isReady = true ∧ s.store.doze = false ∧ s.monitor.posture ≠ .fault ∧ verdict s request = some .notReady)
      ∧ (let s := withSlot 3 awning { busyAt 500 .moving .wind with verb := some .retract } rested
        s.isReady = true ∧ s.store.doze = false ∧ s.monitor.posture ≠ .fault ∧ verdict s request = some .busy)
      ∧ (let s := awningAt 500 .midway .idle none
        s.isReady = true ∧ s.store.doze = false ∧ s.monitor.posture ≠ .fault ∧ verdict s request = none
          ∧ s.isTaken 4 = false) := by
  unfold State.LinkDrained
  decide +kernel

theorem witness_EnrolmentTimerEndsTheCensus :
    ∀ n ∈ [0, 1, 2, 24], let s := enrolling n
      s.isReady = true ∧ s.link.enrolTimer.isSome = true ∧ s.link.outcome = .running
        ∧ s.link.outstanding = some n := by decide +kernel

theorem witness_RefreshAndStatusTimersRepeat :
    (ready.isReady = true ∧ ready.orders.refreshTimer.isSome = true ∧ (∀ i, (ready.fn i).activity ≠ .moving)
        ∧ ready.manifold.pump.isOn = false
        ∧ (∀ r ∈ ready.orders.records, r.refresh = false ∧ r.due = false) ∧ ready.path.mTransmit.isSome = true)
      ∧ ready.statusTimer.isSome = true := by decide +kernel

theorem witness_DozeQuietensAndWakeStartsACensus :
    (let s := { ready with link := { ready.link with outcome := .empty } };
      s.isReady = true ∧ s.store.dozeTimer.isSome = true ∧ s.link.outcome ≠ .running)
      ∧ (let s := after .dozeTimerExpiry ready
        s.isReady = true ∧ s.store.doze = true) := by decide +kernel

theorem witness_StoreCompletionWritesTheImage :
    storing.isReady = true ∧ storing.store.storing.isSome = true ∧ ∀ i : Slot, storing.wind.owed[i] = false := by
  decide +kernel

/-! #### Management commands -/

/-- An entry block that forwards every frame of one identifier. -/
def block (state : Byte) : EntryBlock := ⟨state, 2, 0, 0x7FF, 0, 0, 1, 9, 0, 1, Vector.replicate 9 0⟩

theorem witness_WriteAndAppendEntryReplaceAnEntry :
    (ready.takesCommands = true
        ∧ (∃ e, entryOfBlock (block 1) = some (e, true) ∧ e.state ≠ .empty)
        ∧ ready.matching.nextFree = (0 : EntryIndex).val)
      ∧ (let s := { ready with matching := { ready.matching with nextFree := 127 } }
        s.takesCommands = true ∧ s.matching.nextFree = (127 : EntryIndex).val)
      ∧ (∃ e, entryOfBlock (block 0) = some (e, true) ∧ e.state = .empty)
      ∧ (let s := { ready with matching := { ready.matching with nextFree := 128 } }
        s.takesCommands = true ∧ s.matching.nextFree = 128) := by
  refine ⟨⟨by decide +kernel, ⟨?_, by decide +kernel⟩⟩, by decide +kernel, ?_, by decide +kernel⟩
  case refine_2 => exact ⟨⟨.empty, .either, .standard, 0x7FF, 0, 0, 1, 8, false, .drop⟩, by decide +kernel, by decide⟩
  exact ⟨⟨.valid, .either, .standard, 0x7FF, 0, 0, 1, 8, false, .drop⟩, by decide +kernel, by decide⟩

theorem witness_SetEntryStateWritesStateOrDefault :
    ready.takesCommands = true ∧ 127 < (128 : Byte).toNat ∧ 2 < (3 : Byte).toNat ∧ 1 < (2 : Byte).toNat := by
  decide +kernel

theorem witness_MarkWritesTheStatesOfMatchingKeys :
    ready.takesCommands = true ∧ (0x1FFFFFFF : Word32).toNat < 536870912 ∧ 1 < (2 : Byte).toNat
      ∧ 7 < (8 : Byte).toNat ∧ 2 < (3 : Byte).toNat := by decide +kernel

theorem witness_ProbeOnlyReadsTheTable :
    ready.takesCommands = true ∧ 8 ≤ 8 ∧ (0x1FFFFFFF : Word32).toNat < 536870912
      ∧ (0x7FF : Word32).toNat ≤ 2047 ∧ 2047 < (0x800 : Word32).toNat ∧ 8 < (9 : Byte).toNat := by decide +kernel

theorem witness_ClearHitsAndWriteMaskWriteTheirRecords :
    ready.takesCommands = true ∧ (127 ≤ 127 ∧ 127 < (128 : Byte).toNat) ∧ (1 : Byte).toNat < (2 : Byte).toNat
      ∧ (1 : Fin 8) ≠ 0 ∧ (7 : Fin 8) ≠ 0 ∧ (0 : Byte).toNat = 0 ∧ 7 < (8 : Byte).toNat := by decide +kernel

/-- A part that waits for its awning to stop before it swaps its banks. -/
def swapping : State := { moving with monitor := { moving.monitor with swapPending := true } }

theorem witness_SetWindowWritesWindowAndCursor :
    swapping.takesCommands = true ∧ swapping.monitor.swapPending = true ∧ ready.takesCommands = true
      ∧ ready.monitor.swapPending = false ∧ (6 : Fin 7) ≤ 6 ∧ (0 : Fin 16) ≤ 15 ∧ 6 < (7 : Byte).toNat
      ∧ 15 < (16 : Byte).toNat ∧ (1 : Byte).toNat < (2 : Byte).toNat := by decide +kernel

theorem witness_WriteCellsWritesTheStandbyBank :
    ready.takesCommands = true ∧ ready.monitor.swapPending = false ∧ swapping.takesCommands = true
      ∧ swapping.monitor.swapPending = true ∧ (List.replicate 200 (9 : Byte)).length ≤ 200
      ∧ (⟨0, 6, 0, 15, .rowWise⟩ : Window).next ⟨6, 15⟩ = ⟨0, 0⟩
      ∧ (⟨0, 6, 0, 15, .columnWise⟩ : Window).next ⟨6, 0⟩ = ⟨0, 1⟩ := by decide +kernel

set_option maxRecDepth 100000 in
theorem witness_SwapMatrixComparesTheStandbyCrc :
    (ready.takesCommands = true ∧ ready.monitor.swapPending = false ∧ ready.anyBusy = false
        ∧ ready.seqRuns = false ∧ crc16 (bankBytes ready.standby) = 0x787E)
      ∧ (moving.takesCommands = true ∧ moving.monitor.swapPending = false ∧ moving.anyBusy = true
        ∧ crc16 (bankBytes moving.standby) = 0x787E)
      ∧ swapping.takesCommands = true ∧ swapping.monitor.swapPending = true := by decide +kernel

theorem witness_FieldWiseCommandsWriteTheirOwner :
    rested.takesCommands = true ∧ ([⟨1, 5⟩] : List FieldWrite).length ≤ 66
      ∧ ([⟨1, 300⟩, ⟨2, 900⟩] : List FieldWrite).all supplyFieldNamed = true ∧ rested.manifold.waitList = []
      ∧ (([⟨1, 500⟩] : List FieldWrite).all signalFieldNamed = true
        ∧ writes ([⟨1, 500⟩] : List FieldWrite) 4 = false ∧ (rested.signal .ignition).fresh = true)
      ∧ (([⟨1, 500⟩] : List FieldWrite).all timingFieldNamed = true
        ∧ (applyAll putTimingField [⟨1, 500⟩] (rested.settings.timing, rested.settings.wind)).1.2.gustThreshold
          = rested.settings.wind.gustThreshold)
      ∧ (([⟨4, 500⟩] : List FieldWrite).all manifoldFieldNamed = true ∧ rested.manifold.pump = .stopped
        ∧ (applyAll putManifoldField [⟨4, 500⟩] rested.settings.manifold).1.pump = rested.settings.manifold.pump)
      ∧ (([⟨4, 50⟩] : List FieldWrite).all levellingFieldNamed = true ∧ rested.seqRuns = false
        ∧ (applyAll putLevellingField [⟨4, 50⟩] rested.settings.levelling).1.sensorNode
          = rested.settings.levelling.sensorNode)
      ∧ (let fs : List FieldWrite := [⟨1, 0x0200⟩]
        let c := { jack 0 with kind := .slideHyd }
        let at_ := fun a => withSlot 3 c { idleAt 100 .midway with activity := a } rested
        fs.all manifoldFieldNamed = true
          ∧ (applyAll putManifoldField fs rested.settings.manifold).1.pump ≠ rested.settings.manifold.pump
          ∧ (∀ a ∈ [Activity.waiting, .settling], (at_ a).takesCommands = true ∧ ((at_ a).cfg 3).kind.isHydraulic = true
            ∧ ((at_ a).fn 3).activity = a)
          ∧ (pumping .ready).manifold.pump ≠ .stopped
          ∧ (at_ .idle).takesCommands = true ∧ (at_ .idle).manifold.pump = .stopped
          ∧ (∀ i, ((at_ .idle).cfg i).kind.isHydraulic = true →
            ((at_ .idle).fn i).activity ≠ .waiting ∧ ((at_ .idle).fn i).activity ≠ .settling)
          ∧ (at_ .idle).sequence.taken = []
          ∧ nothingFollows (at_ .idle).renewed (queueReply 0x33 1 .done [1] (applyManifold fs (at_ .idle).renewed).1) = true)
      ∧ (let fs : List FieldWrite := [⟨1, 9⟩]
        let at_ := fun a => withSlot 3 (jack 0) { idleAt 100 .midway with activity := a } rested
        fs.all levellingFieldNamed = true
          ∧ (applyAll putLevellingField fs rested.settings.levelling).1.sensorNode
            ≠ rested.settings.levelling.sensorNode
          ∧ (levelling .lift).takesCommands = true ∧ (levelling .lift).seqRuns = true
          ∧ (at_ .settling).takesCommands = true ∧ (at_ .settling).isJack 3 = true
          ∧ ((at_ .settling).fn 3).activity.isBusy = true ∧ (at_ .idle).takesCommands = true
          ∧ (at_ .idle).seqRuns = false ∧ (∀ i, ((at_ .idle).fn i).activity.isBusy = false)
          ∧ nothingFollows (at_ .idle).renewed (queueReply 0x32 1 .done [1] (applyLevelling fs (at_ .idle).renewed).1) = true) := by
  decide +kernel

/-- The part at rest with an awning and, beside it, a slot that may be its clearance partner, and two jacks. -/
def partnered : State :=
  withSlot 4 { twin with endA := some ⟨7, 0⟩, endB := some ⟨7, 1⟩ } (idleAt 1000 .midway)
    (withSlot 0 (jack 0) (idleAt 100 .midway) (withSlot 1 (jack 1) (idleAt 100 .midway)
      (pressed Hold.start)))

/-- The fields change the kind or the drive channels of slot 3. -/
def rebinds (fs : List FieldWrite) (s : State) : Bool :=
  let c := (functionAfter fs (s.cfg 3)).1
  decide (c.kind ≠ (s.cfg 3).kind ∨ c.drives ≠ (s.cfg 3).drives)

/-- What SET_FUNCTION of slot 3 leaves before its slot may become IDLE. -/
def answered (fs : List FieldWrite) (s : State) : State :=
  let r := applyFunction 3 fs s.renewed
  queueReply 0x30 9 (if r.2.1 then .doneClamped else .done) [BitVec.ofNat 8 fs.length] r.1

/-- SET_FUNCTION of slot 3 is applied, and nothing follows but what the statement names. -/
def applies (fs : List FieldWrite) (s : State) : Bool :=
  s.takesCommands && decide (fs.length ≤ 66) && fs.all functionFieldNamed && !(s.fn 3).activity.isBusy
    && nothingFollows s.renewed (answered fs s)

/-- The awning at rest, with a LIVE node 6 whose channel 0 has reported. -/
def renoded : State := (pressed Hold.start).setNode 6
  ⟨.live, .motorPair, 0, [⟨some 500, some 0, some 0, some 7, some 0⟩], 0, some 500⟩

/-- The awning's channel written as channel 0 of node 6, and its offset. -/
def newChannel : List FieldWrite := [⟨4, 0x0600⟩, ⟨9, 3⟩]

theorem witness_SetFunctionAndSetGeometryWriteTheirSlot :
    (moving.takesCommands = true ∧ (moving.fn 3).activity.isBusy = true
        ∧ (levelling .lift).takesCommands = true ∧ (levelling .lift).seqRuns = true)
      ∧ (applies [⟨16, 90⟩] renoded = true ∧ rebinds [⟨16, 90⟩] renoded = false
        ∧ (renoded.fn 3).activity ≠ .unavailable)
      ∧ (applies newChannel renoded = true ∧ rebinds newChannel renoded = true
        ∧ (applyFunction 3 newChannel renoded.renewed).1.lastRaw 3 .a = some 500
        ∧ nothingFollows (answered newChannel renoded) (becomeIdle 3 (answered newChannel renoded)).1 = true
        ∧ ((becomeIdle 3 (answered newChannel renoded)).1.fn 3).activity = .idle
        ∧ renoded.wind.owed[(3 : Slot)] = false)
      ∧ (applies [⟨4, 0x0600⟩] renoded = true ∧ rebinds [⟨4, 0x0600⟩] renoded = true
        ∧ (applyFunction 3 [⟨4, 0x0600⟩] renoded.renewed).1.allPositions 3 = false)
      ∧ (applies [⟨25, 4⟩] partnered = true ∧ applies [⟨25, 3⟩] partnered = true
        ∧ applies [⟨25, 15⟩] partnered = true ∧ applies [⟨25, 16⟩] partnered = true
        ∧ applies [⟨25, 255⟩] partnered = true ∧ (lastWrite [⟨25, 255⟩] 25).isSome = true)
      ∧ (partnersFit .awning (partnered.cfg 4).kind = true ∧ partnersFit .awning (partnered.cfg 5).kind = false)
      ∧ (partnered.isJack 0 = true ∧ partnered.isJack 1 = true ∧ partnered.isJack 3 = false
        ∧ (lastWrite [⟨3, 1⟩] 3).isSome = true ∧ ([⟨3, 1⟩] : List FieldWrite).all geometryFieldNamed = true
        ∧ writes ([⟨1, 5⟩] : List FieldWrite) 3 = false ∧ (partnered.fn 0).activity.isBusy = false
        ∧ partnered.seqRuns = false) := by decide +kernel

/-- Each clause of SetSupplySettlesItsThresholds at its boundary. -/
theorem witness_SetSupplySettlesItsThresholds :
    ((1079 : Nat) < 1080 ∧ (1080 : Nat) ≤ 1080 ∧ 810 ≤ 810 ∧ (800 : Nat) ≤ 809 ∧ 809 < 810)
      ∧ (settleSupply 0 ⟨0, 810, 810, 5000⟩).vCut = 800 ∧ (settleSupply 0 ⟨0, 809, 809, 5000⟩).vLow = 810
      ∧ limitAt ⟨200, 1180, 1080, 5000⟩ 1180 = 200 ∧ limitAt ⟨200, 1180, 1080, 5000⟩ 1080 = 0 := by
  decide +kernel

/-- A part at rest with an IDLE awning, a field-wise assembly, and a CONTINUE frame of an index at the head of its C-port buffer. -/
def assembling (code : CommandCode) (params : List Byte) (index : Byte) : State :=
  { requested ([0x02, index] ++ [1, 2, 3, 4, 5, 6]) (pressed Hold.start) with
    assembly := some ⟨code, 7, 12, 2, params⟩ }

/-- What an assembly left applied, as the statement writes it. -/
def leftBy (why : ReplyOutcome) (k : Nat) (rest : List Frame) (s : State) : State × List Task :=
  match s.assembly with
  | none => (s, [])
  | some a =>
    let base : State := { s.renewed with path := { s.path with cReceive := rest }, assembly := none }
    let fields := fieldsOf (a.params.drop k)
    let r := applyFields a.code (if k = 0 then 0 else a.params.getD 0 0) fields base
    let answer := fun (why : ReplyOutcome) (n : Nat) (u : State) =>
      queueReply a.code.toByte a.tag why [BitVec.ofNat 8 n] u
    (if a.params.length < k then answer why 0 base
      else if r.outcome = .done ∨ r.outcome = .doneClamped then answer why fields.length r.state
      else answer r.outcome 0 base, r.tasks)

theorem witness_ReadCensusAndBrokenFieldsAreAnswered :
    (ready.takesCommands = true ∧ (recordOf ready.renewed 0 15).isSome = true
        ∧ recordOf ready.renewed 0 16 = none ∧ recordOf ready.renewed 255 0 = none)
      ∧ (moving.takesCommands = true ∧ moving.anyBusy = true ∧ moving.LinkDrained ∧ moving.link.outcome = .complete
        ∧ moving.link.offers = [] ∧ moving.path.control = none ∧ moving.link.outstanding = none
        ∧ moving.link.enrolTimer = none ∧ moving.link.chainLine = false)
      ∧ (ready.takesCommands = true ∧ ready.isAtRest = true ∧ ready.monitor.posture ≠ .travel
        ∧ ready.link.outcome = .running ∧ ready.LinkDrained)
      ∧ (∀ x ∈ [(CommandCode.setTiming, ([0x01, 0x01, 0x2C, 0x02] : List Byte), 0),
          (.setTiming, [0x63, 0x01, 0x2C, 0x02], 0), (.setTiming, [], 0), (.setSignal, [], 1),
          (.setFunction, [0x03, 0x02, 0x00, 0x07, 0x10], 1), (.setFunction, [0x10, 0x02, 0x00, 0x07], 1)],
        let s := assembling x.1 x.2.1 1
        let rest : List Frame := []
        s.isReady = true ∧ s.store.doze = false ∧ x.1.shape = .fieldWise x.2.2
          ∧ (1 : Byte).toNat ≠ 2
          ∧ s.path.cReceive = dataFrame (requestIdent s.store.straps) ([0x02, 1] ++ [1, 2, 3, 4, 5, 6]) :: rest
          ∧ (leftBy .length x.2.2 rest s).2 = []
          ∧ (let base : State := { s.renewed with path := { s.path with cReceive := rest }, assembly := none }
            nothingFollows base (leftBy .length x.2.2 rest s).1 = true)
          ∧ (let u := (leftBy .incomplete x.2.2 s.path.cReceive s).1
            let base : State := { s.renewed with path := { s.path with cReceive := s.path.cReceive }, assembly := none }
            (leftBy .incomplete x.2.2 s.path.cReceive s).2 = [] ∧ clearanceTasks base u = []
              ∧ passDue base u = false ∧ (react [] u).isNone = true
              ∧ u.settings.timing.dozeTime = s.settings.timing.dozeTime))
      ∧ transactionOf (.census 8) = some (.census, 8, []) := by
  unfold State.LinkDrained
  decide +kernel

/-- A part at rest in SERVICE, with an IDLE awning. -/
def serviced : State :=
  let s := (pressed Hold.start).setSignal .serviceMode ⟨1, true, some 8, some 2000⟩
  { s with monitor := { s.monitor with posture := .service } }

theorem witness_JogIsJudgedAsAServiceGoto :
    (ready.takesCommands = true ∧ ready.monitor.posture ≠ .service)
      ∧ (serviced.takesCommands = true ∧ serviced.monitor.posture = .service
        ∧ (serviced.fn 3).position = some 500 ∧ (60000 : Word16).toNat ≤ 60000
        ∧ verdict serviced ⟨3, .extend, .service, some (500 + 0), none, false, false⟩ = some .atEnd)
      ∧ (let request : Request := ⟨3, .extend, .service, some (min 1000 (500 + 200)), none, false, false⟩
        let t := queueReply 0x43 9 .done [BitVec.ofNat 8 (700 / 256), BitVec.ofNat 8 700]
          (accept request serviced.renewed)
        verdict serviced request = none ∧ nothingFollows serviced.renewed t = true ∧ passSettles t = true) := by
  decide +kernel

theorem witness_StoreAndRestartAreTaken :
    (moving.takesCommands = true ∧ moving.anyBusy = true) ∧ ready.takesCommands = true
      ∧ ready.anyBusy = false := by decide +kernel

theorem witness_EveryCommandIsBusyDuringStoreAndRestart :
    let s := after (.store 1) ready
    let t := after (.restart 1) ready
    transactionOf (.halt 9) = some (.halt, 9, [])
      ∧ (s.isReady = true ∧ s.store.doze = false ∧ s.assembly = none ∧ takesNoCommand s = true)
      ∧ (t.isReady = true ∧ t.store.doze = false ∧ t.assembly = none ∧ takesNoCommand t = true) := by
  decide +kernel

theorem witness_OutOfRangeCommandsChangeNothing :
    ready.takesCommands = true ∧ 127 < (128 : Byte).toNat ∧ entryOfBlock (block 3) = none
      ∧ 15 < (16 : Byte).toNat ∧ 6 < (7 : Byte).toNat ∧ 1 < (2 : Byte).toNat
      ∧ ([] : List FieldWrite).length ≤ 66 := by decide +kernel

/-! #### Invariants -/

/-- The step of a state answers next. -/
def completes (s : State) : Bool :=
  match step s with
  | .next _ => true
  | _ => false

/-- The premises of every statement that a step keeps an invariant hold of the state after reset, whose step answers
next; the invariants there are the statement ResetMeetsEveryInvariant. -/
theorem witness_EveryStepKeepsTheInvariants : completes ready = true := by decide +kernel

theorem witness_EveryStepKeepsTheClaimsWithinTheLimit :
    let s := { rested with
      settings := { rested.settings with supply := { rested.settings.supply with supplyLimit := 60 } }
      budget := { rested.budget with claims := [⟨.motor 3, 60⟩], effectiveLimit := 60 } }
    s.claimsHeld ≤ s.settings.supply.supplyLimit ∧ s.budget.effectiveLimit ≤ s.settings.supply.supplyLimit
      ∧ completes s = true := by decide +kernel

/-- An awning that moves out under its operator with its claim. -/
def rolling : State :=
  let s := withSlot 3 awning (busyAt 500 .moving .operator) rested
  { s with budget := { s.budget with claims := [⟨.motor 3, 60⟩], effectiveLimit := 60 } }

theorem witness_EveryStepKeepsLinkAndRanges :
    completes rested = true ∧ rested.LinkDrained ∧ rested.EnrolWhileRunning ∧ rested.RawsFit
      ∧ rested.ClaimsWithinLimit ∧ rested.EveryConfiguration Settings.InRange := by
  have node : ∀ k : Fin 24, rested.link.nodes[k].channels = [] := by decide +kernel
  have empty : rested.path.control = none := by decide +kernel
  have sensor : rested.settings.levelling.sensorNode = none := by decide +kernel
  have unwritten : rested.store.storing = none := by decide +kernel
  refine ⟨by decide +kernel, by unfold State.LinkDrained; decide +kernel, fun _ => ⟨by decide +kernel,
    fun f h => by simp [empty] at h, by decide +kernel⟩, ?_, by unfold State.ClaimsWithinLimit; decide +kernel,
    ⟨by unfold Settings.SlotsInRange; decide +kernel, ⟨fun n h => by simp [sensor] at h, by decide +kernel⟩, ?_⟩,
    fun h => absurd h (by decide +kernel), fun w h => by simp [unwritten] at h⟩
  · intro n r h
    unfold State.node at h
    split at h
    · rw [node] at h; simp at h
    · simp [Node.absent] at h
  · repeat' apply And.intro
    all_goals first | decide +kernel | (intro g; cases g <;> decide +kernel)

theorem witness_EveryStepKeepsTheMotionLaws :
    completes rolling = true ∧ rolling.EveryConfiguration Settings.Agrees ∧ rolling.MotionLaws := by
  have none : rolling.manifold.holder = none := by decide +kernel
  refine ⟨by decide +kernel, ⟨?_, ?_, ?_⟩, ?_, ?_, ?_, ?_, ?_, ?_, ⟨?_, ?_⟩, ?_, ?_⟩
  case refine_1 =>
    unfold Settings.Agrees Settings.FieldsSettled Settings.PartnersAgree Settings.PairsAgree Settings.MaskZeroFull
      Settings.CutBelowLow
    decide +kernel
  · exact fun h => absurd h (by decide +kernel)
  · exact fun w h => absurd h (by rw [show rolling.store.storing = .none by decide +kernel]; simp)
  · unfold State.OwnersHold; decide +kernel
  · unfold State.UnusedRests; decide +kernel
  · unfold State.TimersHold
    refine ⟨fun i => ⟨by revert i; decide +kernel, fun e => ?_⟩, by decide +kernel⟩
    cases e <;> revert i <;> decide +kernel
  · unfold State.WaitListHolds; decide +kernel
  · unfold State.ClaimsHold; decide +kernel
  · unfold State.JacksTaken; decide +kernel
  · intro i h; exact absurd h (by revert i; decide +kernel)
  · intro g h; exact absurd h (by rw [none]; simp)
  · unfold State.SkewHolds; decide +kernel
  · unfold State.ClearanceHolds; decide +kernel

end Sys2Proof.Tests
end

section
/-! PROOFS. SET_WINDOW (R44): which five bytes name a window, how the command answers, and what the part comes to. -/

namespace Sys2Proof.Proofs
open Sys2Proof.Machine Sys2Proof.Laws

/-! ### The window that five bytes name -/

theorem finOf_eq_some_iff {n k : Nat} {i : Fin n} : finOf n k = some i ↔ k = i.val := by
  constructor
  · intro h
    by_cases hk : k < n
    · rw [finOf_lt hk, Option.some.injEq] at h
      rw [← h]
    · simp [finOf_ge (Nat.le_of_not_lt hk)] at h
  · rintro rfl
    exact finOf_lt i.isLt

theorem windowOf_eq_some_iff {r0 r1 c0 c1 order : Byte} {w : Window} :
    windowOf r0 r1 c0 c1 order = some w ↔
      r0.toNat = w.firstRow.val ∧ r1.toNat = w.lastRow.val ∧ c0.toNat = w.firstColumn.val
        ∧ c1.toNat = w.lastColumn.val ∧ WindowOrder.ofCode order.toNat = some w.order
        ∧ w.firstRow ≤ w.lastRow ∧ w.firstColumn ≤ w.lastColumn := by
  obtain ⟨a, z, b, y, o⟩ := w
  simp only [windowOf, Option.bind_eq_bind, Option.bind_eq_some_iff, finOf_eq_some_iff]
  constructor
  · rintro ⟨a', ha, z', hz, b', hb, y', hy, o', ho, h⟩
    split at h
    · cases h
      exact ⟨ha, hz, hb, hy, ho, ‹_›⟩
    · cases h
  · rintro ⟨ha, hz, hb, hy, ho, hle⟩
    exact ⟨a, ha, z, hz, b, hb, y, hy, o, ho, if_pos hle⟩

/-- R44's refusals: a row above 6, a column above 15 or a first above its last names no window. -/
theorem windowOf_eq_none {r0 r1 c0 c1 : Byte} (order : Byte)
    (h : 6 < r0.toNat ∨ 6 < r1.toNat ∨ 15 < c0.toNat ∨ 15 < c1.toNat ∨ r1.toNat < r0.toNat
      ∨ c1.toNat < c0.toNat) : windowOf r0 r1 c0 c1 order = none := by
  rw [Option.eq_none_iff_forall_not_mem]
  intro w hw
  obtain ⟨h0, h1, h2, h3, -, hrow, hcol⟩ := windowOf_eq_some_iff.mp hw
  rw [Fin.le_def] at hrow hcol
  omega

theorem windowOf_codes {r0 r1 : Fin 7} {c0 c1 : Fin 16} (order : WindowOrder) (hr : r0 ≤ r1) (hc : c0 ≤ c1) :
    windowOf (BitVec.ofNat 8 r0.val) (BitVec.ofNat 8 r1.val) (BitVec.ofNat 8 c0.val) (BitVec.ofNat 8 c1.val)
      (BitVec.ofNat 8 order.code) = some ⟨r0, r1, c0, c1, order⟩ :=
  windowOf_eq_some_iff.mpr ⟨byte_toNat (by omega), byte_toNat (by omega), byte_toNat (by omega),
    byte_toNat (by omega), windowOrder_round order, hr, hc⟩

/-! ### How SET_WINDOW answers -/

section
variable {r0 r1 c0 c1 order : Byte} {s : State}

theorem setWindow_of_swapPending (h : s.monitor.swapPending = true) :
    setWindow r0 r1 c0 c1 order s = ⟨s, .swapPending, [], []⟩ := by
  simp [setWindow, h, refuse]

theorem setWindow_of_windowOf_none (h : s.monitor.swapPending = false)
    (hw : windowOf r0 r1 c0 c1 order = none) : setWindow r0 r1 c0 c1 order s = ⟨s, .range, [], []⟩ := by
  simp [setWindow, h, hw, refuse]

theorem setWindow_of_windowOf_some {w : Window} (h : s.monitor.swapPending = false)
    (hw : windowOf r0 r1 c0 c1 order = some w) :
    setWindow r0 r1 c0 c1 order s
      = ⟨{ s with monitor := { s.monitor with window := w, cursor := ⟨w.firstRow, w.firstColumn⟩ } },
        .done, [], []⟩ := by
  simp [setWindow, h, hw]

end

/-- The judgements read neither the window nor the cursor. -/
theorem window_same (w : Window) (c : Cursor) (s : State) :
    SameJudged { s with monitor := { s.monitor with window := w, cursor := c } } s := by
  constructor <;> intros <;> rfl

/-- The part comes to the reply of SET_WINDOW's answer, where that leaves what the judgements and the service pass
read. -/
theorem exec_setWindow {tag r0 r1 c0 c1 order : Byte} {s u : State} {o : ReplyOutcome}
    (hs : s.takesCommands = true) (ha : setWindow r0 r1 c0 c1 order s.renewed = ⟨u, o, [], []⟩)
    (hj : SameJudged u s.renewed) (hm : u.manifold = s.manifold) (hb : u.budget = s.budget) :
    exec (.setWindow tag r0 r1 c0 c1 order) s = .next (queueReply 0x20 tag o [] u) :=
  perform_answer (code := .setWindow) (ps := [r0, r1, c0, c1, order]) hs rfl nofun nofun ha
    (hj.trans (renewed_same s)) (congrArg _ hm) (congrArg _ hb) (congrArg _ hb)

/-- Settles O42, by the three answers of SET_WINDOW: each leaves no task and changes at most the window and the
cursor, so nothing follows from it but its reply. -/
theorem setWindowWritesWindowAndCursor : Obligations.SetWindowWritesWindowAndCursor := by
  intro s tag hs
  refine ⟨fun hp r0 r1 c0 c1 order => ?pending, fun hp r0 r1 c0 c1 order hbad => ?range,
    fun hp r0 r1 c0 c1 order hr hc => ?done⟩
  case pending => exact exec_setWindow hs (setWindow_of_swapPending hp) (.refl _) rfl rfl
  case range =>
    have hnone := windowOf_eq_none order hbad
    exact exec_setWindow hs (setWindow_of_windowOf_none hp hnone) (.refl _) rfl rfl
  case done =>
    have hsome := windowOf_codes order hr hc
    exact exec_setWindow hs (setWindow_of_windowOf_some hp hsome) (window_same _ _ _) rfl rfl

end Sys2Proof.Proofs
end

section
/-! PROOFS. The match table's SET_ENTRY_STATE, MARK and PROBE (R137 to R140): how each answers its bytes, which
entries MARK selects, and what the part comes to. -/

namespace Sys2Proof.Proofs
open Sys2Proof.Machine Sys2Proof.Laws

/-! ### Codes and identifiers of a command on the table -/

theorem entryState_ofCode_none {n : Nat} (h : 2 < n) : EntryState.ofCode n = none := by
  obtain ⟨k, rfl⟩ := Nat.exists_eq_add_of_le' h
  rfl

theorem entryPort_ofCode_none {n : Nat} (h : 2 < n) : EntryPort.ofCode n = none := by
  obtain ⟨k, rfl⟩ := Nat.exists_eq_add_of_le' h
  rfl

theorem formOfCode_none {n : Nat} (h : 1 < n) : formOfCode n = none := by
  obtain ⟨k, rfl⟩ := Nat.exists_eq_add_of_le' h
  rfl

theorem defaultAction_ofCode_none {n : Nat} (h : 1 < n) : DefaultAction.ofCode n = none := by
  obtain ⟨k, rfl⟩ := Nat.exists_eq_add_of_le' h
  rfl

theorem portOfCode_none {n : Nat} (h : 1 < n) : portOfCode n = none := by
  obtain ⟨k, rfl⟩ := Nat.exists_eq_add_of_le' h
  rfl

theorem portOfCode_round (p : Port) : portOfCode (if p = .coach then (0 : Byte) else 1).toNat = some p := by
  cases p <;> rfl

theorem identifierField_of_lt {w : Word32} (h : w.toNat < 536870912) : identifierField w = w.setWidth 29 :=
  if_pos h

theorem formIdent_of_fits {form : Form} {w : Word32} (h : w.toNat < 536870912)
    (hs : form = .standard → w.toNat ≤ 2047) : formIdent form w = some (w.setWidth 29) := by
  rw [formIdent, if_neg fun ⟨hf, hw⟩ => Nat.not_lt.mpr (hs hf) hw, identifierField_of_lt h]

theorem formIdent_standard_none {w : Word32} (h : 2047 < w.toNat) : formIdent .standard w = none :=
  if_pos ⟨rfl, h⟩

/-! ### Answers from which nothing follows -/

/-- What the judgements, the clearance tests and the service pass read is the same. -/
structure SameRead (t s : State) : Prop extends SameJudged t s where
  manifold : t.manifold = s.manifold
  budget : t.budget = s.budget

theorem SameRead.refl (s : State) : SameRead s s := ⟨.refl s, rfl, rfl⟩

theorem setEntries_sameRead (es : Vector EntryConfig 128) (s : State) : SameRead (setEntries es s) s :=
  ⟨by constructor <;> intros <;> rfl, rfl, rfl⟩

theorem portDefaults_sameRead (coach motion : DefaultAction) (s : State) :
    SameRead { s with settings := { s.settings with coachDefault := coach, motionDefault := motion } } s :=
  ⟨by constructor <;> intros <;> rfl, rfl, rfl⟩

/-- The part comes to the reply of an answer that leaves what the judgements, the clearance tests and the service
pass read. -/
theorem perform_sameRead {code : CommandCode} {tag : Byte} {ps : List Byte} {s u : State} {o : ReplyOutcome}
    {r : List Byte} (hs : s.takesCommands = true) (hl : lengthFits code ps.length = true)
    (hc : code ≠ .store) (hw : code ≠ .writeCells) (ha : answerTo code ps s.renewed = ⟨u, o, r, []⟩)
    (hu : SameRead u s.renewed) :
    perform (takeTransaction code tag ps) s = .next (queueReply code.toByte tag o r u) :=
  perform_answer hs hl hc hw ha (hu.toSameJudged.trans (renewed_same s)) (congrArg _ hu.manifold)
    (congrArg _ hu.budget) (congrArg _ hu.budget)

/-! ### SET_ENTRY_STATE (R137, R138) -/

section
variable {s u : State} {tag index state port action : Byte} {o : ReplyOutcome} {r : List Byte}

theorem setEntryState_of_codes {i : EntryIndex} {st : EntryState} (hi : finOf 128 index.toNat = some i)
    (hst : EntryState.ofCode state.toNat = some st) :
    let es := s.settings.entries.set i { s.settings.entries[i] with state := st }
    setEntryState index state s = ⟨setEntries es s, .done, [0, byteOf (lowestEmpty es)], []⟩ := by
  simp only [setEntryState, hi, hst]
  rfl

theorem setEntryState_range (h : 127 < index.toNat ∨ 2 < state.toNat) :
    setEntryState index state s = refuse .range s := by
  rcases h with hi | hst
  · simp only [setEntryState, finOf_ge hi]
  · simp [setEntryState, entryState_ofCode_none hst]

theorem setPortDefault_coach {a : DefaultAction} (h : DefaultAction.ofCode action.toNat = some a) :
    setPortDefault 0 action s
      = ⟨{ s with settings := { s.settings with coachDefault := a } }, .done, [], []⟩ := by
  simp [setPortDefault, h]

theorem setPortDefault_motion {a : DefaultAction} (h : DefaultAction.ofCode action.toNat = some a) :
    setPortDefault 1 action s
      = ⟨{ s with settings := { s.settings with motionDefault := a } }, .done, [], []⟩ := by
  simp [setPortDefault, h]

theorem setPortDefault_range (h : 1 < port.toNat ∨ 1 < action.toNat) :
    setPortDefault port action s = refuse .range s := by
  rcases h with hp | ha
  · obtain ⟨k, hk⟩ := Nat.exists_eq_add_of_le' hp
    simp only [setPortDefault, hk]
  · simp [setPortDefault, defaultAction_ofCode_none ha]

theorem exec_setEntryStateEntry (hs : s.takesCommands = true)
    (ha : setEntryState index state s.renewed = ⟨u, o, r, []⟩) (hu : SameRead u s.renewed) :
    exec (.setEntryStateEntry tag index state) s = .next (queueReply 0x12 tag o r u) :=
  perform_sameRead (code := .setEntryState) (ps := [0, index, state]) hs rfl nofun nofun ha hu

theorem exec_setEntryStatePort (hs : s.takesCommands = true)
    (ha : setPortDefault port action s.renewed = ⟨u, o, r, []⟩) (hu : SameRead u s.renewed) :
    exec (.setEntryStatePort tag port action) s = .next (queueReply 0x12 tag o r u) :=
  perform_sameRead (code := .setEntryState) (ps := [1, port, action]) hs rfl nofun nofun ha hu

end

/-- Settles O38, by the answers of the two forms: each writes the entries or a port default alone, or is refused, so
nothing follows from it but its reply. -/
theorem setEntryStateWritesStateOrDefault : Obligations.SetEntryStateWritesStateOrDefault := by
  intro s tag hs
  refine ⟨fun i st => ?entry, ?coachForward, ?coachDrop, ?motionForward, ?motionDrop,
    fun index st hbad => ?entryRange, fun port action hbad => ?portRange⟩
  case entry =>
    have hi : finOf 128 (BitVec.ofNat 8 i.val).toNat = some i := finOf_eq_some_iff.mpr (byte_toNat (by omega))
    exact exec_setEntryStateEntry hs (setEntryState_of_codes hi (entryState_round st)) (setEntries_sameRead _ _)
  case coachForward => exact exec_setEntryStatePort hs (setPortDefault_coach rfl) (portDefaults_sameRead _ _ _)
  case coachDrop => exact exec_setEntryStatePort hs (setPortDefault_coach rfl) (portDefaults_sameRead _ _ _)
  case motionForward => exact exec_setEntryStatePort hs (setPortDefault_motion rfl) (portDefaults_sameRead _ _ _)
  case motionDrop => exact exec_setEntryStatePort hs (setPortDefault_motion rfl) (portDefaults_sameRead _ _ _)
  case entryRange => exact exec_setEntryStateEntry hs (setEntryState_range hbad) (.refl _)
  case portRange => exact exec_setEntryStatePort hs (setPortDefault_range hbad) (.refl _)

/-! ### Which entries MARK selects (R139) -/

theorem identAgrees_iff {form : Form} {care key ident : Ident} : identAgrees form care key ident = true ↔
    (key ^^^ ident) &&& (if form = .standard then care &&& 0x7FF else care) = 0 := by
  simp [identAgrees]

theorem byteAgrees_iff {care key v : Byte} : byteAgrees care key v = true ↔ (key ^^^ v) &&& care = 0 := by
  simp [byteAgrees]

theorem fitsMark_iff {a b : EntryPort} : a.fitsMark b = true ↔ b = .either ∨ a = .either ∨ a = b := by
  cases a <;> cases b <;> decide

/-- MARK's selection with the entry's identifier and bytes on the left of each comparison, as R139 reads them. -/
theorem isMarked_iff {m : MaskRecord} {form : Form} {ident : Ident} {v0 v1 : Byte} {port : EntryPort}
    {e : EntryConfig} : isMarked m form ident v0 v1 port e = true ↔
      e.state ≠ .empty ∧ e.form = form
        ∧ (e.ident ^^^ ident) &&& (if form = .standard then m.ident &&& 0x7FF else m.ident) = 0
        ∧ (e.byte0 ^^^ v0) &&& m.byte0 = 0 ∧ (e.byte1 ^^^ v1) &&& m.byte1 = 0
        ∧ (port = .either ∨ e.port = .either ∨ e.port = port) := by
  simp only [isMarked, Bool.and_eq_true, bne_iff_ne, beq_iff_eq, identAgrees_iff, byteAgrees_iff, fitsMark_iff,
    BitVec.xor_comm ident, BitVec.xor_comm v0, BitVec.xor_comm v1, and_assoc]

/-! ### MARK (R139) -/

section
variable {s u : State} {tag form b0 b1 mask port state : Byte} {ident : Word32} {o : ReplyOutcome} {r : List Byte}

theorem markEntries_of_codes {f : Form} {k : Fin 8} {p : EntryPort} {st : EntryState}
    (hf : formOfCode form.toNat = some f) (hk : finOf 8 mask.toNat = some k)
    (hp : EntryPort.ofCode port.toNat = some p) (hst : EntryState.ofCode state.toNat = some st) :
    let sel := isMarked s.settings.masks[k] f (identifierField ident) b0 b1 p
    let es := s.settings.entries.map fun e => if sel e then { e with state := st } else e
    let changed := s.settings.entries.toList.countP fun e => sel e && e.state != st
    markEntries form ident b0 b1 mask port state s
      = ⟨setEntries es s, .done, [byteOf changed, byteOf (lowestEmpty es)], []⟩ := by
  simp only [markEntries, hf, hk, hp, hst]
  rfl

theorem markEntries_range (h : 1 < form.toNat ∨ 7 < mask.toNat ∨ 2 < port.toNat ∨ 2 < state.toNat) :
    markEntries form ident b0 b1 mask port state s = refuse .range s := by
  rcases h with hf | hk | hp | hst
  · simp only [markEntries, formOfCode_none hf]
  · simp [markEntries, finOf_ge hk]
  · simp [markEntries, entryPort_ofCode_none hp]
  · simp [markEntries, entryState_ofCode_none hst]

theorem answerTo_mark : answerTo .mark ([form] ++ bytesOf32 ident ++ [b0, b1, mask, port, state]) s
    = markEntries form ident b0 b1 mask port state s :=
  congrArg (markEntries form · b0 b1 mask port state s) (word32_bytes ident)

theorem exec_mark (hs : s.takesCommands = true)
    (ha : markEntries form ident b0 b1 mask port state s.renewed = ⟨u, o, r, []⟩) (hu : SameRead u s.renewed) :
    exec (.mark tag form ident b0 b1 mask port state) s = .next (queueReply 0x13 tag o r u) :=
  perform_sameRead (code := .mark) (ps := [form] ++ bytesOf32 ident ++ [b0, b1, mask, port, state]) hs rfl nofun
    nofun (answerTo_mark.trans ha) hu

end

/-- Settles O39, by the two answers of MARK: it writes the entries alone, those that isMarked_iff names, or is
refused. -/
theorem markWritesTheStatesOfMatchingKeys : Obligations.MarkWritesTheStatesOfMatchingKeys := by
  intro s tag ident b0 b1 hs
  refine ⟨fun form mask port st hident => ?done, fun form mask port st hbad => ?range⟩
  case done =>
    intro m care marked es changed
    have hk : finOf 8 (BitVec.ofNat 8 mask.val).toNat = some mask := finOf_eq_some_iff.mpr (byte_toNat (by omega))
    have hsel : isMarked s.settings.masks[mask] form (identifierField ident) b0 b1 port = marked := by
      funext e
      rw [identifierField_of_lt hident, Bool.eq_iff_iff, isMarked_iff, decide_eq_true_iff]
    have ha := markEntries_of_codes (s := s.renewed) (ident := ident) (b0 := b0) (b1 := b1) (form_round form) hk
      (entryPort_round port) (entryState_round st)
    rw [show s.renewed.settings = s.settings from rfl, hsel] at ha
    exact exec_mark hs ha (setEntries_sameRead _ _)
  case range => exact exec_mark hs (markEntries_range hbad) (.refl _)

/-! ### PROBE (R140) -/

section
variable {s : State} {tag form b0 b1 length port : Byte} {ident : Word32} {o : ReplyOutcome} {r : List Byte}

theorem probe_of_codes {f : Form} {k : Ident} {p : Port} (hf : formOfCode form.toNat = some f)
    (hk : formIdent f ident = some k) (hp : portOfCode port.toNat = some p) (hl : length.toNat ≤ 8) :
    let v0 := if length.toNat = 0 then 0 else b0
    let v1 := if length.toNat ≤ 1 then 0 else b1
    let hit := fun e => entryMatches s.settings.masks e p f k length.toNat v0 v1
    probe form ident b0 b1 length port s
      = ⟨s, .done, [byteOf ((s.settings.entries.toList.findIdx? hit).getD 255),
          byteOf (s.settings.entries.toList.countP hit)], []⟩ := by
  simp only [probe, hf, hk, hp, Option.bind_some, Option.map_some, if_neg (Nat.not_lt.mpr hl)]

theorem probe_range
    (h : 1 < form.toNat ∨ 8 < length.toNat ∨ 1 < port.toNat ∨ (form = 0 ∧ 2047 < ident.toNat)) :
    probe form ident b0 b1 length port s = refuse .range s := by
  rcases h with hf | hl | hp | ⟨rfl, hident⟩
  · simp only [probe, formOfCode_none hf, Option.bind_none]
  · simp only [probe, if_pos hl]
    split <;> rfl
  · simp [probe, portOfCode_none hp]
  · have hf : formOfCode (0 : Byte).toNat = some .standard := rfl
    simp only [probe, hf, Option.bind_some, formIdent_standard_none hident, Option.map_none]

theorem answerTo_probe : answerTo .probe ([form] ++ bytesOf32 ident ++ [b0, b1, length, port]) s
    = probe form ident b0 b1 length port s :=
  congrArg (probe form · b0 b1 length port s) (word32_bytes ident)

theorem exec_probe (hs : s.takesCommands = true)
    (ha : probe form ident b0 b1 length port s.renewed = ⟨s.renewed, o, r, []⟩) :
    exec (.probe tag form ident b0 b1 length port) s = .next (queueReply 0x14 tag o r s.renewed) :=
  perform_sameRead (code := .probe) (ps := [form] ++ bytesOf32 ident ++ [b0, b1, length, port]) hs rfl nofun nofun
    (answerTo_probe.trans ha) (.refl _)

end

/-- Settles O40, by the two answers of PROBE: both leave the part as it was. -/
theorem probeOnlyReadsTheTable : Obligations.ProbeOnlyReadsTheTable := by
  intro s tag ident b0 b1 hs
  refine ⟨fun form n port hn hident hstd => ?done, fun form length port hbad => ?range⟩
  case done =>
    have hlen : (BitVec.ofNat 8 n).toNat = n := byte_toNat (by omega)
    have ha := probe_of_codes (s := s.renewed) (b0 := b0) (b1 := b1) (form_round form)
      (formIdent_of_fits hident hstd) (portOfCode_round port) (hlen.trans_le hn)
    rw [hlen] at ha
    exact exec_probe hs ha
  case range => exact exec_probe hs (probe_range hbad)

end Sys2Proof.Proofs
end

section
/-! PROOFS. What one step can be: the first change of each command, the ways in which a step reaches its next
state, and what a step of each way leaves of the lines and the judgements. -/

namespace Sys2Proof.Proofs
open Sys2Proof.Machine Sys2Proof.Laws

/-! ### The first change of each command -/

/-- The first change of a command of the running part; of power, the reset line and a restart, which make a start
and no change, none. -/
def firstOf (c : Instr) (s : State) : State × List Task :=
  match transactionOf c with
  | some (code, tag, ps) => takeTransaction code tag ps s
  | none =>
    match c with
    | .stopAllActive => change stopAllRises s
    | .stopAllInactive => change (setStopAll false) s
    | .cPortFrameReceived f => change (receiveC f) s
    | .mPortFrameReceived f => change (receiveM f) s
    | .matchArrival port => takeHead port (isMatched · port) (chain port · 0) s
    | .commandFrame => takeHead .coach isCommandFrame takeCommand s
    | .continueFrame => takeHead .coach isContinueFrame takeContinue s
    | .managementFrameDiscard => takeHead .coach isDiscardedFrame takeDiscarded s
    | .report => takeHead .motion (fun _ f => isReportFrame f) takeReport s
    | .tilt => takeHead .motion (fun _ f => isTiltFrame f) takeTilt s
    | .enrolAck => takeHead .motion (fun _ f => isEnrolAckFrame f) takeEnrolAck s
    | .linkStray => takeHead .motion isStrayFrame takeStray s
    | .cPortTransmitDone => change sentC s
    | .mPortTransmitDone => change sentM s
    | .cPortBusOff => change offC s
    | .cPortRecovery => change onC s
    | .mPortBusOff => change offM s
    | .mPortRecovery => change onM s
    | .holdTimerExpiry i => whenRuns (s.hold i).timer (change (holdExpired i)) s
    | .settleTimerExpiry i => whenRuns (s.fn i).settleTimer (settleExpired i) s
    | .staleTimerExpiry g => whenRuns (s.signal g).timer (change (staleExpired g)) s
    | .contactLossTimerExpiry i => whenRuns (s.fn i).contactTimer (contactLost i) s
    | .waitTimerExpiry i => whenRuns (s.waitTimer i) (change (waitExpired i)) s
    | .primeTimerExpiry => whenRuns s.manifold.primeTimer (change primeExpired) s
    | .holdOnTimerExpiry => whenRuns s.manifold.holdOnTimer (change (stopPump true)) s
    | .restTimerExpiry => whenRuns s.manifold.restTimer (change restExpired) s
    | .pumpDutyLimitReached => change dutyReachedNow s
    | .coolDownTimerExpiry => whenRuns s.manifold.coolTimer (change coolDownOver) s
    | .lowSupplyTimerExpiry => whenRuns s.budget.lowTimer.expiry (change lowSupplyExpired) s
    | .levelSettleTimerExpiry => whenRuns s.sequence.settleTimer (change levelSettled) s
    | .sampleTimerExpiry => whenRuns s.sequence.sampleTimer (change (endSequenceAs .sensorTimeout)) s
    | .stallTimerExpiry i e => whenRuns ((s.fn i).chan e).stallTimer (change (stallExpired i e)) s
    | .gustTimerExpiry => whenRuns s.wind.gustTimer gustExpired s
    | .calmTimerExpiry => whenRuns s.wind.calmTimer (change calmExpired) s
    | .enrolmentTimerExpiry => whenRuns s.link.enrolTimer enrolmentExpired s
    | .silenceTimerExpiry n => whenRuns (s.node n).silenceTimer (change (silentNode n)) s
    | .refreshTimerExpiry => whenRuns s.orders.refreshTimer (change refreshExpired) s
    | .statusTimerExpiry => whenRuns s.statusTimer (change statusExpired) s
    | .dozeTimerExpiry => whenRuns s.store.dozeTimer (change enterDoze) s
    | .storeCompletion => endStore s
    | _ => (s, [])

/-- A management command is the taking of its transaction. -/
theorem exec_transaction {c : Instr} {code : CommandCode} {tag : Byte} {ps : List Byte}
    (h : transactionOf c = some (code, tag, ps)) (s : State) :
    exec c s = perform (takeTransaction code tag ps) s := by
  cases c <;> simp only [transactionOf, reduceCtorEq, Option.some.injEq, Prod.mk.injEq] at h <;>
    obtain ⟨rfl, rfl, rfl⟩ := h <;> rfl

/-- The commands that the supply and the lines give: they are taken without power and in reset too. -/
def ofLines : Instr → Bool
  | .powerOn _ | .powerOff | .resetLineAssert | .resetLineRelease _ | .stopAllActive | .stopAllInactive => true
  | _ => false

/-- A RESTART takes place in two ways: at the end of its reply's sending and at its own moment. -/
def restartsAt (c : Instr) (s : State) : Bool :=
  s.isRunning && !s.overrun &&
    match c with
    | .cPortTransmitDone => restartSent s
    | .restartTakesPlace => s.store.restart.isSome
    | _ => false

/-- Every command but those of the supply and the lines, where it takes no RESTART to its place, performs its first
change. -/
theorem exec_eq_perform {c : Instr} {s : State} (hl : ofLines c = false) (hr : restartsAt c s = false) :
    exec c s = perform (firstOf c) s := by
  cases ht : transactionOf c with
  | some x =>
    rw [exec_transaction ht]
    simp only [perform, firstOf, ht]
  | none =>
    cases c
    case cPortTransmitDone =>
      have : (s.isRunning && !s.overrun && restartSent s) = false := hr
      simp only [exec, execCPortTransmitDone, this, Bool.false_eq_true, if_false]
      rfl
    case restartTakesPlace =>
      have : (s.isRunning && !s.overrun && s.store.restart.isSome) = false := hr
      simp only [exec, execRestartTakesPlace, this, Bool.false_eq_true, if_false]
      rfl
    all_goals first | (cases hl; done) | (simp only [transactionOf, reduceCtorEq] at ht; done) | rfl

/-- A RESTART that takes place is a start that keeps the straps. -/
theorem exec_restarts {c : Instr} {s : State} (hr : restartsAt c s = true) : exec c s = .next (restartNow s) := by
  simp only [restartsAt, Bool.and_eq_true] at hr
  obtain ⟨⟨h1, h2⟩, h3⟩ := hr
  cases c <;> simp only [Bool.false_eq_true] at h3
  case cPortTransmitDone => simp only [exec, execCPortTransmitDone, h1, h2, h3, Bool.and_self, if_true]
  case restartTakesPlace => simp only [exec, execRestartTakesPlace, h1, h2, h3, Bool.and_self, if_true]

/-- The part does not run without power and in reset. -/
theorem isRunning_eq (s : State) : s.isRunning = (s.inputs.powered && !s.inputs.resetActive) := rfl

theorem next_inj {s t : State} (h : (Host.Outcome.next s : Host.Outcome State Fault Refusal) = .next t) : s = t :=
  Host.Outcome.next.inj h

/-- The ways in which a command reaches its next state: the part stays as it was; a part that does not run changes
in its lines and straps alone; all runtime state ends; a start; or the part's own first change and what follows
from it. -/
inductive Reached (s : State) : State → Prop
  | same : Reached s s
  | lines (inputs : Inputs) (straps : Straps)
      (off : State.isRunning { s with inputs := inputs, store := { s.store with straps := straps } } = false) :
      Reached s { s with inputs := inputs, store := { s.store with straps := straps } }
  | off (inputs : Inputs) (off : (quench inputs s).isRunning = false) : Reached s (quench inputs s)
  | start (inputs : Inputs) (straps : Straps) : Reached s (bootDone inputs s.store.cutImage straps s.pending)
  | change (c : Instr) (running : s.isRunning = true) (whole : s.overrun = false) :
      Reached s (complete s (firstOf c s))

theorem Reached.of_perform {c : Instr} {s t : State} (h : perform (firstOf c) s = .next t) : Reached s t := by
  simp only [perform] at h
  (repeat' split at h) <;> cases h
  case isTrue => exact .same
  case isFalse.isFalse hr ho => exact .change c (by simpa using hr) (by simpa using ho)

/-- Each command of the supply and the lines reaches its next state in one of these ways. -/
theorem Reached.of_lines {c : Instr} {s t : State} (hc : ofLines c = true) (h : exec c s = .next t) :
    Reached s t := by
  cases c <;> simp only [ofLines, Bool.false_eq_true] at hc
  case powerOn straps =>
    simp only [exec, execPowerOn] at h
    split at h <;> obtain rfl := next_inj h
    case isTrue hr => exact .lines _ _ (by simp [isRunning_eq, hr])
    case isFalse => exact .start _ _
  case powerOff => cases h; exact .off _ (by simp [isRunning_eq, quench, blank])
  case resetLineAssert => cases h; exact .off _ (by simp [isRunning_eq, quench, blank])
  case resetLineRelease straps =>
    simp only [exec, execResetLineRelease] at h
    (repeat' split at h) <;> obtain rfl := next_inj h
    case isTrue => exact .same
    case isFalse.isTrue => exact .start _ _
    case isFalse.isFalse hp => exact .lines _ s.store.straps (by simp [isRunning_eq, hp])
  case stopAllActive =>
    simp only [exec, execStopAllActive] at h
    (repeat' split at h)
    case isTrue => cases h; exact .same
    case isFalse.isTrue hr => cases h; exact .lines _ s.store.straps ((Bool.not_eq_true' _).mp hr)
    case isFalse.isFalse => exact .of_perform (c := .stopAllActive) h
  case stopAllInactive =>
    simp only [exec, execStopAllInactive] at h
    (repeat' split at h)
    case isTrue => cases h; exact .same
    case isFalse.isTrue hr => cases h; exact .lines _ s.store.straps ((Bool.not_eq_true' _).mp hr)
    case isFalse.isFalse => exact .of_perform (c := .stopAllInactive) h

theorem Reached.of_exec {c : Instr} {s t : State} (h : exec c s = .next t) : Reached s t := by
  cases hl : ofLines c with
  | true => exact .of_lines hl h
  | false =>
    cases hr : restartsAt c s with
    | true => rw [exec_restarts hr] at h; obtain rfl := next_inj h; exact .start _ _
    | false => exact .of_perform (exec_eq_perform hl hr ▸ h)

/-- A step carries out the command at the front of the queue, or lets time pass. -/
theorem step_cases {s t : State} (h : step s = .next t) :
    (∃ c rest, s.pending = c :: rest ∧ exec c { s with pending := rest } = .next t)
      ∨ s.pending = [] ∧ t = idle s := by
  cases hp : s.pending with
  | nil =>
    simp only [step, hp] at h
    cases h
    exact .inr ⟨rfl, rfl⟩
  | cons c rest =>
    simp only [step, hp] at h
    exact .inl ⟨c, rest, rfl, h⟩

/-- What the part does of itself: nothing, one command joins its queue, or a millisecond passes. -/
theorem idle_cases (s : State) : idle s = s ∨ (∃ c, idle s = { s with pending := [c] }) ∨ idle s = tick s := by
  simp only [idle]
  (repeat' split)
  case isTrue => exact .inl rfl
  case h_1 c _ _ => exact .inr (.inl ⟨c, rfl⟩)
  case h_2 => exact .inr (.inr rfl)

/-! ### Commands that set nothing off -/

/-- A command other than those of the supply and the lines, with no RESTART taken to its place, whose first change
leaves no task and from which nothing follows, comes to that change. -/
theorem exec_quiet {c : Instr} {s t : State} (hs : s.isReady = true) (hl : ofLines c = false)
    (hr : restartsAt c s = false) (hf : firstOf c s = (t, [])) (hn : nothingFollows s t = true) :
    exec c s = .next t := by
  rw [exec_eq_perform hl hr]
  exact perform_quiet hs hf hn

theorem ready_quiet {s : State} (hs : s.isReady = true) : react [] s = none := ((isReady_iff s).mp hs).2.2

/-- The change reads as before to the judgements, and to the tests that a change calls for. -/
structure SameFollowed (t s : State) : Prop where
  judged : SameJudged t s
  waitList : t.manifold.waitList = s.manifold.waitList
  claims : t.budget.claims = s.budget.claims
  limit : t.budget.effectiveLimit = s.budget.effectiveLimit

theorem SameFollowed.refl (s : State) : SameFollowed s s := ⟨.refl s, rfl, rfl, rfl⟩

theorem SameFollowed.trans {u t s : State} (h : SameFollowed u t) (k : SameFollowed t s) : SameFollowed u s :=
  ⟨h.judged.trans k.judged, h.waitList.trans k.waitList, h.claims.trans k.claims, h.limit.trans k.limit⟩

theorem SameFollowed.nothing {t s : State} (hs : s.isReady = true) (h : SameFollowed t s) :
    nothingFollows s t = true := nothingFollows_same (ready_quiet hs) h.judged h.waitList h.claims h.limit

theorem exec_same {c : Instr} {s t : State} (hs : s.isReady = true) (hl : ofLines c = false)
    (hr : restartsAt c s = false) (hf : firstOf c s = (t, [])) (hj : SameFollowed t s) : exec c s = .next t :=
  exec_quiet hs hl hr hf (hj.nothing hs)

end Sys2Proof.Proofs
end

section
/-! PROOFS. The judgements after a step, and the statements about the step, the lines and idle timers that follow
from the ways in which a step reaches its next state. -/

namespace Sys2Proof.Proofs
open Sys2Proof.Machine Sys2Proof.Laws

/-! ### The judgements hold after a step -/

/-- A state whose cascade ran to its end, or that does not run, holds every judgement. -/
theorem judgements_of_settled {s : State} (h : s.isRunning = false ∨ s.overrun = true ∨ react [] s = none) :
    s.PostureHolds ∧ s.WorkSettled := by
  rcases h with h | h | h
  · exact ⟨fun hr => absurd hr (by simp [h]), fun hr => absurd hr (by simp [h])⟩
  · exact ⟨fun _ ho => absurd ho (by simp [h]), fun _ ho => absurd ho (by simp [h])⟩
  · obtain ⟨hposture, hline, halarm, -, hpump, hgrant, hswap, hground, hstow, hdoze⟩ := (react_none_iff s).mp h
    refine ⟨fun _ _ => ⟨hposture.symm, hline, halarm⟩, fun _ _ => ⟨hpump, hgrant, ?_, hground, hstow, hdoze⟩⟩
    exact fun hp => Bool.not_eq_false _ |>.mp fun hb => hswap ⟨hp, hb⟩

/-- A command leaves its cascade settled, or the state's judgements as they were. -/
theorem judgements_of_reached {s t : State} (hp : s.PostureHolds) (hw : s.WorkSettled) (h : Reached s t) :
    t.PostureHolds ∧ t.WorkSettled := by
  cases h with
  | same => exact ⟨hp, hw⟩
  | lines inputs straps off => exact judgements_of_settled (.inl off)
  | off inputs off => exact judgements_of_settled (.inl off)
  | start inputs straps => exact judgements_of_settled (.inr (run_settled ..))
  | change c => exact judgements_of_settled (.inr (run_settled ..))

/-- Neither the clock nor the queue of commands is read by the judgements of PostureHolds and WorkSettled. -/
theorem judgements_of_idle {s : State} (hp : s.PostureHolds) (hw : s.WorkSettled) :
    (idle s).PostureHolds ∧ (idle s).WorkSettled := by
  rcases idle_cases s with h | ⟨c, h⟩ | h <;> rw [h] <;> exact ⟨hp, hw⟩

/-- Settles O54: a command ends with its cascade settled, and what the part does of itself is not judged. -/
theorem everyStepKeepsTheJudgements : Obligations.EveryStepKeepsTheJudgements := by
  intro s t hp hw h
  rcases step_cases h with ⟨c, rest, -, hc⟩ | ⟨-, rfl⟩
  · exact judgements_of_reached (s := { s with pending := rest }) hp hw (.of_exec hc)
  · exact judgements_of_idle hp hw

/-! ### The step and the clock -/

/-- Settles O1: the step takes the front of the queue. -/
theorem stepRunsTheFrontCommand : Obligations.StepRunsTheFrontCommand := fun _ _ _ => rfl

/-- Settles O2, by the three things that the part does of itself. -/
theorem anEmptyQueueLetsTimePass : Obligations.AnEmptyQueueLetsTimePass := by
  intro s hp
  have hstep : step s = .next (idle s) := by simp only [step, hp]
  refine ⟨fun hr => ?_, fun c rest hr hd => ?_, fun hr hd ha => ?_⟩ <;> rw [hstep, idle]
  · simp [hr]
  · simp [hr, hd]
  · simp [hr, hd, ha, tick]

/-! ### The lines -/

theorem perform_completes (first : State → State × List Task) {s : State}
    (h : s.isRunning = false ∨ s.overrun = false) : ∃ t, perform first s = .next t := by
  simp only [perform]
  (repeat' split) <;> simp_all

theorem exec_completes (c : Instr) {s : State} (h : s.isRunning = false ∨ s.overrun = false) :
    ∃ t, exec c s = .next t := by
  cases hl : ofLines c with
  | false =>
    cases hr : restartsAt c s with
    | true => exact ⟨_, exec_restarts hr⟩
    | false => rw [exec_eq_perform hl hr]; exact perform_completes _ h
  | true =>
    cases c <;> simp only [ofLines, Bool.false_eq_true] at hl
    case powerOn straps => simp only [exec, execPowerOn]; split <;> exact ⟨_, rfl⟩
    case powerOff => exact ⟨_, rfl⟩
    case resetLineAssert => exact ⟨_, rfl⟩
    case resetLineRelease straps => simp only [exec, execResetLineRelease]; (repeat' split) <;> exact ⟨_, rfl⟩
    case stopAllActive =>
      simp only [exec, execStopAllActive]
      (repeat' split)
      · exact ⟨_, rfl⟩
      · exact ⟨_, rfl⟩
      · exact perform_completes _ h
    case stopAllInactive =>
      simp only [exec, execStopAllInactive]
      (repeat' split)
      · exact ⟨_, rfl⟩
      · exact ⟨_, rfl⟩
      · exact perform_completes _ h

/-- A part without power or in reset is left as it was. -/
theorem exec_at_rest {c : Instr} {s : State} (hs : s.isRunning = false) (hl : ofLines c = false) :
    exec c s = .next s := by
  rw [exec_eq_perform hl (by simp [restartsAt, hs])]
  simp [perform, hs]

/-- The commands of the supply and the lines, told apart by their names. -/
theorem ofLines_eq_false {c : Instr} (h1 : ∀ straps, c ≠ .powerOn straps) (h2 : ∀ straps, c ≠ .resetLineRelease straps)
    (h3 : c ≠ .resetLineAssert) (h4 : c ≠ .powerOff) (h5 : c ≠ .stopAllActive) (h6 : c ≠ .stopAllInactive) :
    ofLines c = false := by
  cases c
  case powerOn straps => exact absurd rfl (h1 straps)
  case resetLineRelease straps => exact absurd rfl (h2 straps)
  all_goals first | rfl | contradiction

/-- Settles O6. -/
theorem aPartThatDoesNotRunTakesNoCommand : Obligations.APartThatDoesNotRunTakesNoCommand :=
  fun _ _ hs h1 h2 h3 h4 h5 h6 => exec_at_rest hs (ofLines_eq_false h1 h2 h3 h4 h5 h6)

end Sys2Proof.Proofs
end

section
/-! PROOFS. What every command leaves of the lines and the queue of waiting commands, and what power-off, the reset
line, a received frame and the expiry of an idle timer come to. -/

namespace Sys2Proof.Proofs
open Sys2Proof.Machine Sys2Proof.Laws

/-! ### Taking a head and acting on an expiry -/

/-- What holds of a state and of each action on a head of its buffer holds after the taking of the head. -/
theorem takeHead_rule {Q : State → Prop} {port : Port} {fits : State → Frame → Bool}
    {act : Frame → State → State × List Task} {s : State} (hs : Q s)
    (ha : ∀ f rest, s.received port = f :: rest → fits s f = true → Q (act f (dropHead port s)).1) :
    Q (takeHead port fits act s).1 := by
  simp only [takeHead]
  split
  case h_1 f rest hf =>
    split
    case isTrue hfit => exact ha f rest hf hfit
    case isFalse => exact hs
  case h_2 => exact hs

/-- What holds of a state and of the action of a timer that runs holds after the expiry. -/
theorem whenRuns_rule {Q : State → Prop} {t : Timer} {act : State → State × List Task} {s : State} (hs : Q s)
    (ha : t.isSome = true → Q (act s).1) : Q (whenRuns t act s).1 := by
  simp only [whenRuns]
  split
  case isTrue h => exact ha h
  case isFalse => exact hs

/-! ### The lines and the queue of waiting commands -/

/-- The levels of the lines and the queue of waiting commands are as they were. -/
@[reducible] def SameOutside (t s : State) : Prop := t.inputs = s.inputs ∧ t.pending = s.pending

@[simp] theorem dropHead_kept (port : Port) (s : State) : Kept (dropHead port s) s := by
  cases port <;> exact Kept.rfl' s

@[simp] theorem receiveC_kept (f : Frame) (s : State) : Kept (receiveC f s) s := by
  simp only [receiveC]; (repeat' split) <;> exact Kept.rfl' s

@[simp] theorem receiveM_kept (f : Frame) (s : State) : Kept (receiveM f s) s := by
  simp only [receiveM]; (repeat' split) <;> exact Kept.rfl' s

@[simp] theorem sentC_kept (s : State) : Kept (sentC s) s := by
  simp only [sentC]; split <;> simp [Kept, KeptOutside]

@[simp] theorem sentM_kept (s : State) : Kept (sentM s) s := by
  simp only [sentM]; split <;> simp [Kept, KeptOutside]

@[simp] theorem offC_kept (s : State) : Kept (offC s) s := Kept.rfl' s

@[simp] theorem onC_kept (s : State) : Kept (onC s) s := by
  simp only [onC]; split <;> simp [Kept, KeptOutside]

@[simp] theorem offM_kept (s : State) : Kept (offM s) s := by
  simp only [offM]; split <;> simp [Kept, KeptOutside]

@[simp] theorem onM_kept (s : State) : Kept (onM s) s := by
  simp only [onM]; split <;> simp [Kept, KeptOutside]

theorem endStore_outside (s : State) : SameOutside (endStore s).1 s := by
  simp only [endStore]; split <;> simp [SameOutside]

theorem takeHead_outside {port : Port} {fits : State → Frame → Bool} {act : Frame → State → State × List Task}
    (h : ∀ f s, SameOutside (act f s).1 s) (s : State) : SameOutside (takeHead port fits act s).1 s :=
  takeHead_rule (Q := (SameOutside · s)) ⟨rfl, rfl⟩ fun f _ _ _ => by
    have hd := dropHead_kept port s
    exact ⟨(h f _).1.trans hd.1.1, (h f _).2.trans hd.1.2.2.1⟩

theorem whenRuns_outside {t : Timer} {act : State → State × List Task} {s : State}
    (h : SameOutside (act s).1 s) : SameOutside (whenRuns t act s).1 s :=
  whenRuns_rule (Q := (SameOutside · s)) ⟨rfl, rfl⟩ fun _ => h

/-- The first change of a command other than those of the lines leaves the lines and the queue of waiting commands
as they were. -/
theorem firstOf_outside {c : Instr} (hc : ofLines c = false) (s : State) : SameOutside (firstOf c s).1 s := by
  cases ht : transactionOf c with
  | some x => simp [firstOf, ht, SameOutside]
  | none =>
    cases c <;> simp only [ofLines, Bool.true_eq_false] at hc <;> simp only [firstOf, ht]
    case matchArrival | commandFrame | continueFrame | report | tilt =>
      exact takeHead_outside (fun f s => by simp [SameOutside]) s
    case managementFrameDiscard => exact takeHead_outside (fun f s => by simp [SameOutside, takeDiscarded]) s
    case enrolAck => exact takeHead_outside (fun f s => by simp [SameOutside, takeEnrolAck]) s
    case linkStray => exact takeHead_outside (fun f s => by simp [SameOutside, takeStray]) s
    case cPortFrameReceived | mPortFrameReceived | cPortTransmitDone | mPortTransmitDone | cPortBusOff | cPortRecovery
        | mPortBusOff | mPortRecovery | pumpDutyLimitReached => simp [SameOutside, change]
    case storeCompletion => exact endStore_outside s
    case restartTakesPlace => exact ⟨rfl, rfl⟩
    all_goals first | exact whenRuns_outside (by simp [SameOutside, change]) | (cases ht; done)

theorem complete_outside (old : State) (r : State × List Task) : SameOutside (complete old r) r.1 :=
  ⟨(run_kept ..).1, (run_kept ..).2.2.1⟩

theorem boot_outside (inputs : Inputs) (image : Image) (straps : Straps) (pending : List Instr) :
    (bootDone inputs image straps pending).inputs = inputs ∧ (bootDone inputs image straps pending).pending = pending := by
  have h := run_kept cascadeBound [] (boot inputs image straps pending)
  have hb : (boot inputs image straps pending).inputs = inputs ∧ (boot inputs image straps pending).pending = pending := by
    simp only [boot, startAlarm]
    split <;> simp [judgeDozeTimer, startTimers, blank]
  exact ⟨h.1.trans hb.1, h.2.2.1.trans hb.2⟩

theorem exec_outside {c : Instr} {s t : State} (hc : ofLines c = false) (h : exec c s = .next t) : SameOutside t s := by
  cases hr : restartsAt c s with
  | true =>
    rw [exec_restarts hr] at h
    obtain rfl := next_inj h
    exact boot_outside ..
  | false =>
    rw [exec_eq_perform hc hr, perform] at h
    (repeat' split at h) <;> cases h
    · exact ⟨rfl, rfl⟩
    · have hd := complete_outside s (firstOf c s)
      have hf := firstOf_outside hc s
      exact ⟨hd.1.trans hf.1, hd.2.trans hf.2⟩

theorem perform_pending {first : State → State × List Task} {s t : State} (hf : (first s).1.pending = s.pending)
    (h : perform first s = .next t) : t.pending = s.pending := by
  rw [perform] at h
  (repeat' split at h) <;> cases h
  case isTrue => rfl
  case isFalse.isFalse => exact (complete_outside s (first s)).2.trans hf

/-- A command of the lines leaves the queue of waiting commands as it was. -/
theorem exec_lines_pending {c : Instr} {s t : State} (hc : ofLines c = true) (h : exec c s = .next t) :
    t.pending = s.pending := by
  cases c <;> simp only [ofLines, Bool.false_eq_true] at hc
  case powerOn straps =>
    simp only [exec, execPowerOn] at h
    split at h <;> obtain rfl := next_inj h
    case isTrue => rfl
    case isFalse => exact (boot_outside ..).2
  case powerOff => obtain rfl := next_inj h; rfl
  case resetLineAssert => obtain rfl := next_inj h; rfl
  case resetLineRelease straps =>
    simp only [exec, execResetLineRelease] at h
    (repeat' split at h) <;> obtain rfl := next_inj h
    case isTrue => rfl
    case isFalse.isTrue => exact (boot_outside ..).2
    case isFalse.isFalse => rfl
  case stopAllActive =>
    simp only [exec, execStopAllActive] at h
    (repeat' split at h)
    case isTrue => cases h; rfl
    case isFalse.isTrue => cases h; rfl
    case isFalse.isFalse => exact perform_pending (by simp [change, stopAllRises, setStopAll]) h
  case stopAllInactive =>
    simp only [exec, execStopAllInactive] at h
    (repeat' split at h)
    case isTrue => cases h; rfl
    case isFalse.isTrue => cases h; rfl
    case isFalse.isFalse => exact perform_pending rfl h

/-- Settles O3: a command completes in one of the ways that a step can take, and each keeps the queue. -/
theorem everyCommandCompletes : Obligations.EveryCommandCompletes := by
  intro c s hs
  obtain ⟨t, ht⟩ := exec_completes c hs
  refine ⟨t, ht, ?_, fun h1 h2 h3 h4 h5 h6 => (exec_outside (ofLines_eq_false h1 h2 h4 h3 h5 h6) ht).1⟩
  cases hc : ofLines c with
  | true => exact exec_lines_pending hc ht
  | false => exact (exec_outside hc ht).2

/-! ### Power-off and the reset line -/

theorem ifDue_none (now : Nat) (c : Instr) : ifDue now none c = [] := rfl

/-- A state of which no timer runs, and whose pump has not reached its duty limit, has no expiry that is due. -/
theorem dueExpiries_idle {s : State} (hhold : ∀ i, (s.hold i).timer = none) (hsettle : ∀ i, (s.fn i).settleTimer = none)
    (hstale : ∀ g, (s.signal g).timer = none) (hcontact : ∀ i, (s.fn i).contactTimer = none)
    (hstall : ∀ i e, ((s.fn i).chan e).stallTimer = none) (hsilence : ∀ n, (s.node n).silenceTimer = none)
    (hduty : dutyReached s = false) (hmanifold : s.manifold = Manifold.start) (hlow : s.budget.lowTimer = .idle)
    (hsequence : s.sequence = Sequence.start) (hwind : s.wind = WindRecord.start) (hlink : s.link = LinkManager.start)
    (horders : s.orders = OrderScheduler.start) (hstatus : s.statusTimer = none)
    (hdoze : s.store.dozeTimer = none) (hstoring : s.store.storing = none) (hrestart : s.store.restart = none) :
    dueExpiries s = [] := by
  have hempty : ∀ {α : Type} (l : List α), (l.flatMap fun _ => ([] : List Instr)) = [] := fun l => by simp
  have hwait : ∀ i, s.waitTimer i = none := fun i => by rw [State.waitTimer, hmanifold]; rfl
  have h1 : s.manifold.primeTimer = none := by rw [hmanifold]; rfl
  have h2 : s.manifold.holdOnTimer = none := by rw [hmanifold]; rfl
  have h3 : s.manifold.restTimer = none := by rw [hmanifold]; rfl
  have h4 : s.manifold.coolTimer = none := by rw [hmanifold]; rfl
  unfold dueExpiries
  rw [hduty, h1, h2, h3, h4, hlow, hsequence, hwind, hlink, horders, hstatus, hdoze, hstoring, hrestart]
  simp only [hhold, hsettle, hstale, hcontact, hstall, hsilence, hwait]
  simp only [ifDue_none, hempty]
  simp only [LowTimer.expiry, ifDue_none]
  rfl

section
variable (inputs : Inputs) (image : Image) (straps : Straps) (pending : List Instr)

theorem blank_fn (i : Slot) : (blank inputs image straps pending).fn i = Function.start := by
  simp [State.fn, blank]

theorem blank_hold (i : Slot) : (blank inputs image straps pending).hold i = Hold.start := by
  simp [State.hold, blank]

theorem blank_signal_timer (g : Signal) : ((blank inputs image straps pending).signal g).timer = none := by
  simp [State.signal, blank, PostureMonitor.start, startSignals]

theorem blank_node (n : Nat) : (blank inputs image straps pending).node n = Node.absent := by
  simp only [State.node]
  split
  · simp [blank, LinkManager.start]
  · rfl

/-- With every runtime state at its start value no timer runs. -/
theorem dueExpiries_blank : dueExpiries (blank inputs image straps pending) = [] :=
  dueExpiries_idle (fun i => by rw [blank_hold]; rfl) (fun i => by rw [blank_fn]; rfl) (blank_signal_timer _ _ _ _)
    (fun i => by rw [blank_fn]; rfl) (fun i e => by rw [blank_fn]; cases e <;> rfl) (fun n => by rw [blank_node]; rfl)
    rfl rfl rfl rfl rfl rfl rfl rfl rfl rfl rfl

end

/-- Settles O5: both leave the part as blank as a start finds it. -/
theorem powerOffAndResetEndAllRuntimeState : Obligations.PowerOffAndResetEndAllRuntimeState := by
  intro s
  refine ⟨⟨_, rfl, ?_⟩, ⟨_, rfl, ?_⟩⟩ <;>
    exact ⟨by simp [isRunning_eq, quench, blank], rfl, rfl, rfl, rfl, rfl, rfl, rfl, rfl, rfl, rfl, rfl, rfl, rfl, rfl,
      rfl, rfl, rfl, rfl, dueExpiries_blank .., rfl, cutImage_agrees⟩

/-! ### Received frames -/

theorem SameFollowed.of_path {s : State} {p : FramePath} (h : p.mState = s.path.mState) :
    SameFollowed { s with path := p } s :=
  ⟨{ SameJudged.refl s with mState := h }, rfl, rfl, rfl⟩

theorem receiveC_same (f : Frame) (s : State) : SameFollowed (receiveC f s) s := by
  simp only [receiveC]
  (repeat' split) <;> first | exact .refl s | exact .of_path rfl

theorem receiveM_same (f : Frame) (s : State) : SameFollowed (receiveM f s) s := by
  simp only [receiveM]
  (repeat' split) <;> first | exact .refl s | exact .of_path rfl

/-- Settles O9: nothing follows from a frame's joining. -/
theorem receivedFramesJoinTheirBuffer : Obligations.ReceivedFramesJoinTheirBuffer := fun s f hs =>
  ⟨exec_same (c := .cPortFrameReceived f) hs rfl (by simp [restartsAt]) rfl (receiveC_same f s),
    exec_same (c := .mPortFrameReceived f) hs rfl (by simp [restartsAt]) rfl (receiveM_same f s)⟩

/-! ### Idle timers -/

theorem whenRuns_none (act : State → State × List Task) (s : State) : whenRuns none act s = (s, []) := rfl

/-- The expiry of an idle timer is no change. -/
theorem firstOf_idle {c : Instr} {s : State} (h : timerOf s c = some none) : firstOf c s = (s, []) := by
  cases c <;> simp only [timerOf, reduceCtorEq, Option.some.injEq] at h <;>
    simp only [firstOf, transactionOf, h, whenRuns_none]

theorem exec_idle_timer {c : Instr} {s : State} (h : timerOf s c = some none) :
    ofLines c = false ∧ restartsAt c s = false := by
  cases c <;> simp only [timerOf, reduceCtorEq, Option.some.injEq] at h <;> simp [ofLines, restartsAt, *]

/-- Settles O28: an expiry acts where its timer runs. -/
theorem idleTimersHaveNoExpiry : Obligations.IdleTimersHaveNoExpiry := fun _ s h hs =>
  exec_same hs (exec_idle_timer h).1 (exec_idle_timer h).2 (firstOf_idle h) (.refl s)

/-! ### The ten checks of a request -/

theorem needsPermission_eq_false {o : Owner} : o.needsPermission = false ↔ o = .none ∨ o = .travel ∨ o = .wind := by
  cases o <;> simp [Owner.needsPermission]

theorem permitted_iff {s : State} {i : Slot} {o : Owner} {d : Direction} : permitted s i o d = true ↔
    (o = .level → cellAuto (s.cell s.monitor.posture i) = true)
      ∧ (o = .operator ∨ o = .service → cellAllows (s.cell s.monitor.posture i) d = true) := by
  cases o <;> simp [permitted]

theorem atEnd_eq_false {s : State} {r : Request} : atEnd s r = false ↔
    (r.target = none → r.verb = .extend → (s.fn r.slot).posClass ≠ .deployed)
      ∧ (r.target = none → r.verb = .retract → (s.fn r.slot).posClass ≠ .stowed)
      ∧ ∀ t, r.target = some t →
        allWithin (s.cfg r.slot) (s.fn r.slot) t (arrivalWidth (s.cfg r.slot).kind) = false := by
  cases ht : r.target <;> cases hv : r.verb <;> simp [atEnd, ht, hv]

/-- A check lets a request through where its condition does not hold. -/
theorem check_eq_none {c : Prop} [Decidable c] {reason : RefusalReason} {rest : Option RefusalReason} :
    (if c then some reason else rest) = none ↔ ¬ c ∧ rest = none := by
  split <;> simp_all

/-- Settles O17: each check is one conjunct, or the conjuncts of permitted_iff and atEnd_eq_false. -/
theorem acceptedRequestsPassEveryCheck : Obligations.AcceptedRequestsPassEveryCheck := by
  intro s r
  simp only [verdict, check_eq_none, Bool.not_eq_true, and_true]
  have hswap : ¬ (s.monitor.swapPending = true ∧ r.owner.needsPermission = true)
      ↔ (s.monitor.swapPending = true → r.owner = .none ∨ r.owner = .travel ∨ r.owner = .wind) := by
    rw [← needsPermission_eq_false]
    simp
  have hbusy : ¬ (currentOwner s r ≠ .none ∧ r.owner.rank ≤ (currentOwner s r).rank)
      ↔ (currentOwner s r = .none ∨ (currentOwner s r).rank < r.owner.rank) := by
    rw [not_and_or, not_not, Nat.not_le]
  have hlatch : ¬ (r.latched = true ∧ (s.cfg r.slot).mode = .hold)
      ↔ (r.latched = true → (s.cfg r.slot).mode = .latch) := by
    cases (s.cfg r.slot).mode <;> simp
  rw [hswap, hbusy, hlatch, Bool.not_eq_false', permitted_iff, atEnd_eq_false]
  simp only [ne_eq, Option.isSome_eq_false_iff, Option.isNone_iff_eq_none, not_and, Bool.not_eq_true, and_assoc]

end Sys2Proof.Proofs
end

section
/-! PROOFS. What every operation of the machine keeps: the claims within the limit, the queues within capacity, the
next-free index, the link protect, the agreement and the ranges of the configuration, the M-port drained, and the
census's traces only while it runs. Each operation is shown once to keep them all; the statements about every step
are put together from these. -/

namespace Sys2Proof.Proofs
open Sys2Proof.Machine Sys2Proof.Laws

/-! ### Keeping the invariants -/

/-- From one state to another every invariant but the drained M-port is kept. -/
structure KeepsOpen (s t : State) : Prop where
  claims : s.ClaimsWithinLimit → t.ClaimsWithinLimit
  capacity : s.WithinCapacity → t.WithinCapacity
  subjects : s.SubjectsOnce → t.SubjectsOnce
  channels : s.ChannelsOnce → t.ChannelsOnce
  nextFree : s.NextFreeIsLowest → t.NextFreeIsLowest
  linkProtect : s.LinkProtected → t.LinkProtected
  agreed : s.EveryConfiguration Settings.Agrees → t.EveryConfiguration Settings.Agrees
  enrol : s.EnrolWhileRunning → t.EnrolWhileRunning
  raws : s.RawsFit → t.RawsFit
  ranged : s.ClaimsWithinLimit → s.RawsFit → s.EveryConfiguration Settings.InRange →
    t.EveryConfiguration Settings.InRange

/-- From one state to another every invariant is kept. -/
structure Keeps (s t : State) : Prop extends KeepsOpen s t where
  drained : s.LinkDrained → t.LinkDrained

theorem KeepsOpen.trans {s t u : State} (h : KeepsOpen s t) (k : KeepsOpen t u) : KeepsOpen s u where
  claims := k.claims ∘ h.claims
  capacity := k.capacity ∘ h.capacity
  subjects := k.subjects ∘ h.subjects
  channels := k.channels ∘ h.channels
  nextFree := k.nextFree ∘ h.nextFree
  linkProtect := k.linkProtect ∘ h.linkProtect
  agreed := k.agreed ∘ h.agreed
  enrol := k.enrol ∘ h.enrol
  raws := k.raws ∘ h.raws
  ranged hc hr hs := k.ranged (h.claims hc) (h.raws hr) (h.ranged hc hr hs)

theorem Keeps.trans {s t u : State} (h : Keeps s t) (k : Keeps t u) : Keeps s u :=
  ⟨h.toKeepsOpen.trans k.toKeepsOpen, k.drained ∘ h.drained⟩

theorem Keeps.refl (s : State) : Keeps s s := ⟨⟨id, id, id, id, id, id, id, id, id, fun _ _ h => h⟩, id⟩

theorem KeepsOpen.refl (s : State) : KeepsOpen s s := (Keeps.refl s).toKeepsOpen

/-- Everything that the invariants read is the same. -/
structure SameHeld (t s : State) : Prop where
  settings : t.settings = s.settings := by rfl
  claims : t.budget.claims = s.budget.claims := by rfl
  limit : t.budget.effectiveLimit = s.budget.effectiveLimit := by rfl
  cReceive : t.path.cReceive = s.path.cReceive := by rfl
  mReceive : t.path.mReceive = s.path.mReceive := by rfl
  cQueue : t.path.cQueue = s.path.cQueue := by rfl
  forward : t.path.forward = s.path.forward := by rfl
  control : t.path.control = s.path.control := by rfl
  mTransmit : t.path.mTransmit = s.path.mTransmit := by rfl
  mState : t.path.mState = s.path.mState := by rfl
  queue : t.orders.queue = s.orders.queue := by rfl
  nextFree : t.matching.nextFree = s.matching.nextFree := by rfl
  outcome : t.link.outcome = s.link.outcome := by rfl
  offers : t.link.offers = s.link.offers := by rfl
  outstanding : t.link.outstanding = s.link.outstanding := by rfl
  enrolTimer : t.link.enrolTimer = s.link.enrolTimer := by rfl
  chainLine : t.link.chainLine = s.link.chainLine := by rfl
  channels : ∀ n, (t.node n).channels = (s.node n).channels := by intro; rfl
  doze : t.store.doze = s.store.doze := by rfl
  image : t.store.image = s.store.image := by rfl
  storing : t.store.storing = s.store.storing := by rfl

theorem EveryConfiguration.congr {P : Settings → Prop} {s t : State} (hs : t.settings = s.settings)
    (hi : t.store.image = s.store.image) (hw : t.store.storing = s.store.storing) (h : s.EveryConfiguration P) :
    t.EveryConfiguration P := by
  simpa only [State.EveryConfiguration, hs, hi, hw] using h

theorem SameHeld.keeps {s t : State} (h : SameHeld t s) : Keeps s t where
  claims := by simp only [State.ClaimsWithinLimit, State.claimsHeld, h.settings, h.claims, h.limit, imp_self]
  capacity := by
    simp only [State.WithinCapacity, h.cReceive, h.mReceive, h.cQueue, h.forward, h.queue, imp_self]
  subjects := by simp only [State.SubjectsOnce, h.cQueue, imp_self]
  channels := by simp only [State.ChannelsOnce, h.queue, imp_self]
  nextFree := by simp only [State.NextFreeIsLowest, h.nextFree, h.settings, imp_self]
  linkProtect := by simp only [State.LinkProtected, h.forward, imp_self]
  agreed := EveryConfiguration.congr h.settings h.image h.storing
  enrol := by
    simp only [State.EnrolWhileRunning, h.outcome, h.offers, h.control, h.outstanding, h.enrolTimer, h.chainLine,
      imp_self]
  raws := by simp only [State.RawsFit, h.channels, imp_self]
  ranged _ _ := EveryConfiguration.congr h.settings h.image h.storing
  drained := by
    simp only [State.LinkDrained, h.mTransmit, h.mState, h.doze, h.control, h.queue, h.forward, imp_self]

theorem Keeps.same {s t u : State} (h : Keeps s t) (k : SameHeld u t) : Keeps s u := h.trans k.keeps

theorem KeepsOpen.same {s t u : State} (h : KeepsOpen s t) (k : SameHeld u t) : KeepsOpen s u :=
  h.trans k.keeps.toKeepsOpen

/-- An operation that keeps the invariants of every state keeps them after what came before. -/
theorem Keeps.fold {α : Type} {f : State → α → State} (hf : ∀ s a, Keeps s (f s a)) (l : List α) {s t : State}
    (h : Keeps s t) : Keeps s (l.foldl f t) := by
  induction l generalizing t with
  | nil => exact h
  | cons a l ih => exact ih (h.trans (hf t a))

theorem Keeps.ite {c : Prop} [Decidable c] {s t u : State} (h : Keeps s t) (k : Keeps s u) :
    Keeps s (if c then t else u) := by
  split
  · exact h
  · exact k

/-! ### Writes that no invariant reads -/

section
variable {s t : State} (h : Keeps s t)
include h

theorem Keeps.storeFn {i : Slot} {f : Function} : Keeps s (t.storeFn i f) := h.same {}
theorem Keeps.putHold {i : Slot} {x : Hold} : Keeps s (Machine.putHold i x t) := h.same {}
theorem Keeps.setManifold {m : Manifold} : Keeps s (t.setManifold m) := h.same {}
theorem Keeps.setSeq {q : Sequence} : Keeps s (t.setSeq q) := h.same {}
theorem Keeps.setWind {w : WindRecord} : Keeps s (t.setWind w) := h.same {}
theorem Keeps.setOwed {i : Slot} {v : Bool} : Keeps s (t.setOwed i v) := h.same {}
theorem Keeps.setSignal {g : Signal} {r : SignalRecord} : Keeps s (t.setSignal g r) := h.same {}
theorem Keeps.mapOrder {n ch : Nat} {g : OrderRecord → OrderRecord} : Keeps s (t.mapOrder n ch g) := h.same {}
theorem Keeps.monitor {m : PostureMonitor} : Keeps s { t with monitor := m } := h.same {}
theorem Keeps.sequence {q : Sequence} : Keeps s { t with sequence := q } := h.same {}
theorem Keeps.wind {w : WindRecord} : Keeps s { t with wind := w } := h.same {}
theorem Keeps.holds {w : Vector Hold 16} : Keeps s { t with holds := w } := h.same {}
theorem Keeps.assembly {a : Option Assembly} : Keeps s { t with assembly := a } := h.same {}
theorem Keeps.statusTimer {a : Timer} : Keeps s { t with statusTimer := a } := h.same {}

end

end Sys2Proof.Proofs
end

section
/-! PROOFS. The queues keep the invariants: the C-port transmit queue, the order queue, the control slot and the
sending of the M-port, which leaves it drained. -/

namespace Sys2Proof.Proofs
open Sys2Proof.Machine Sys2Proof.Laws

/-! ### The C-port transmit queue (R147 to R149) -/

/-- How many status frames of a subject a queue holds. -/
def countOf (k : Subject) (q : List TxEntry) : Nat := q.countP fun e => e.subject == some k

theorem mergeInto_count {new : TxEntry} {q q' : List TxEntry} (h : mergeInto new q = some q') (k : Subject) :
    countOf k q' = countOf k q := by
  induction q generalizing q' with
  | nil => simp [mergeInto] at h
  | cons e rest ih =>
    simp only [mergeInto] at h
    split at h
    case isTrue hm => cases h; simp [countOf, List.countP_cons, hm.2]
    case isFalse =>
      obtain ⟨r, hr, rfl⟩ := Option.map_eq_some_iff.mp h
      have := ih hr
      simp only [countOf, List.countP_cons] at this ⊢
      rw [this]

/-- A frame that merges into no queued one is no status frame, or none of its subject is queued. -/
theorem mergeInto_eq_none {new : TxEntry} {q : List TxEntry} :
    mergeInto new q = none ↔ new.subject = none ∨ ∀ e ∈ q, e.subject ≠ new.subject := by
  induction q with
  | nil => simp [mergeInto]
  | cons e rest ih =>
    simp only [mergeInto]
    split
    case isTrue hm =>
      obtain ⟨h1, h2⟩ := hm
      simp [h2, Option.isSome_iff_ne_none.mp h1]
    case isFalse hm =>
      rw [Option.map_eq_none_iff, ih]
      rcases hn : new.subject with _ | k
      · simp
      · have : e.subject ≠ some k := fun he => hm (by simp [hn, he])
        simp [this]

theorem countOf_append_new {new : TxEntry} {q : List TxEntry} (hm : mergeInto new q = none) {r : List TxEntry}
    (hr : ∀ k, countOf k r ≤ countOf k q) {k : Subject} (h : countOf k q ≤ 1) : countOf k (r ++ [new]) ≤ 1 := by
  have hk := hr k
  by_cases hn : new.subject = some k
  · have h0 : countOf k q = 0 := by
      rcases mergeInto_eq_none.mp hm with h' | h'
      · simp [hn] at h'
      · exact List.countP_eq_zero.mpr fun e he => by simpa [hn] using h' e he
    simp only [countOf, List.countP_append, List.countP_singleton] at *
    split <;> omega
  · simp only [countOf, List.countP_append, List.countP_singleton, hn, beq_iff_eq] at *
    simpa using Nat.le_trans hk h

theorem evictClass_sublist {c : TxClass} {q r : List TxEntry} (h : evictClass c q = some r) : r.Sublist q := by
  induction q generalizing r with
  | nil => simp [evictClass] at h
  | cons e rest ih =>
    simp only [evictClass] at h
    split at h
    case isTrue => cases h; exact List.sublist_cons_self _ _
    case isFalse =>
      obtain ⟨r', hr, rfl⟩ := Option.map_eq_some_iff.mp h
      exact (ih hr).cons_cons e

theorem placeC_subjects {new : TxEntry} {s : State} (h : s.SubjectsOnce) : (placeC new s).SubjectsOnce := by
  intro k
  have hk : countOf k s.path.cQueue ≤ 1 := h k
  change countOf k _ ≤ 1
  simp only [placeC]
  split
  case h_1 q hq => rw [mergeInto_count hq]; exact hk
  case h_2 hm =>
    have hev : ∀ {c q}, evictClass c s.path.cQueue = some q → ∀ k, countOf k q ≤ countOf k s.path.cQueue :=
      fun he _ => (evictClass_sublist he).countP_le
    split
    case isTrue => exact countOf_append_new hm (fun _ => Nat.le_refl _) hk
    case isFalse =>
      split
      case h_1 q hq => exact countOf_append_new hm (hev hq) hk
      case h_2 =>
        split
        case h_1 q hq => exact countOf_append_new hm (hev hq) hk
        case h_2 => split <;> exact hk

theorem pumpC_sublist (s : State) : (pumpC s).path.cQueue.Sublist s.path.cQueue := by
  simp only [pumpC]
  split
  case h_1 hq => simp [hq]
  case h_2 => exact .refl _

/-- A frame handed to the C-port changes nothing but its queue, its transmit buffer and its counts. -/
theorem Keeps.queueC {s t : State} (h : Keeps s t) {new : TxEntry} : Keeps s (queueC new t) := by
  refine h.trans ?_
  have hlen : t.path.cQueue.length ≤ 16 → (Machine.queueC new t).path.cQueue.length ≤ 16 := queueC_length
  have hsub : t.SubjectsOnce → (Machine.queueC new t).SubjectsOnce := fun ht k =>
    Nat.le_trans (pumpC_sublist (placeC new t)).countP_le (placeC_subjects ht k)
  obtain ⟨b, q, d, o, he⟩ := queueC_shape new t
  rw [he] at hlen hsub ⊢
  exact { KeepsOpen.refl t with
    capacity := fun ⟨h1, h2, h3, h4, h5⟩ => ⟨h1, h2, hlen h3, h4, h5⟩
    subjects := hsub
    drained := id }

/-- Resuming the C-port's sending. -/
theorem Keeps.pumpC {s t : State} (h : Keeps s t) : Keeps s (pumpC t) := by
  refine h.trans ?_
  have hlen := pumpC_length (s := t)
  have hsub := pumpC_sublist t
  revert hlen hsub
  simp only [Machine.pumpC]
  split
  case h_1 =>
    intro hlen hsub
    exact { KeepsOpen.refl t with
      capacity := fun ⟨h1, h2, h3, h4, h5⟩ => ⟨h1, h2, Nat.le_trans hlen h3, h4, h5⟩
      subjects := fun hs k => Nat.le_trans hsub.countP_le (hs k)
      drained := id }
  case h_2 => exact fun _ _ => .refl t

section
variable {s t : State} (h : Keeps s t)
include h

theorem Keeps.queueStatus {kind : Nat} {cls : TxClass} {k : Subject} {bs : List Byte} :
    Keeps s (queueStatus kind cls k bs t) := h.queueC
theorem Keeps.postureFrame {cls : TxClass} : Keeps s (postureFrame cls t) := h.queueC
theorem Keeps.functionFrame {cls : TxClass} {i : Slot} : Keeps s (functionFrame cls i t) := h.queueC
theorem Keeps.levelFrame : Keeps s (levelFrame t) := h.queueC
theorem Keeps.refusalFrame {i : Slot} {v : Nat} {r : RefusalReason} : Keeps s (refusalFrame i v r t) := h.queueC
theorem Keeps.refusalSeqFrame {k : SeqKind} {v : Nat} {r : RefusalReason} :
    Keeps s (refusalSeqFrame k v r t) := h.queueC
theorem Keeps.alarmFrame : Keeps s (alarmFrame t) := h.queueC
theorem Keeps.queueReply {code tag : Byte} {o : ReplyOutcome} {bs : List Byte} :
    Keeps s (queueReply code tag o bs t) := h.queueC
theorem Keeps.queueData {k : Nat} {bs : List Byte} : Keeps s (queueData k bs t) := h.queueC

theorem Keeps.setAlarm {k : Alarm} {v : Bool} : Keeps s (setAlarm k v t) := by
  simp only [Machine.setAlarm]
  split
  · exact h
  · exact h.monitor.alarmFrame

theorem Keeps.judgeLevelled {i : Slot} {old new : Function} : Keeps s (judgeLevelled i old new t) := by
  simp only [Machine.judgeLevelled]
  split <;> exact h.same {}

theorem Keeps.judgeOwedStowed {i : Slot} {old new : Function} : Keeps s (judgeOwedStowed i old new t) := by
  simp only [Machine.judgeOwedStowed]
  split <;> exact h.same {}

theorem Keeps.putFn {i : Slot} {f : Function} : Keeps s (putFn i f t) := by
  simp only [Machine.putFn]
  split
  · exact h.storeFn.judgeLevelled.judgeOwedStowed
  · exact h.storeFn.judgeLevelled.judgeOwedStowed.functionFrame

theorem Keeps.refuseHold {i : Slot} : Keeps s (refuseHold i t) := by
  simp only [Machine.refuseHold]
  split
  · exact h.putHold
  · exact h

end

/-! ### The order queue (R169 to R171) -/

/-- How many entries of a channel an order queue holds. -/
def ordersFor (n ch : Nat) (q : List OrderEntry) : Nat := q.countP (·.isFor n ch)

theorem entryOf_isFor (r : OrderRecord) (n ch : Nat) : (entryOf r).isFor n ch = r.isFor n ch := rfl

theorem ordersFor_replace (r : OrderRecord) (n ch : Nat) (q : List OrderEntry) :
    ordersFor n ch (q.map fun e => if e.isFor r.node r.channel then entryOf r else e) = ordersFor n ch q := by
  induction q with
  | nil => rfl
  | cons e q ih =>
    simp only [ordersFor, List.map_cons, List.countP_cons] at ih ⊢
    rw [ih]
    congr 2
    split
    case isTrue he =>
      simp only [OrderEntry.isFor, Bool.and_eq_true, beq_iff_eq] at he
      simp [entryOf, OrderEntry.isFor, he.1, he.2]
    case isFalse => rfl

theorem ordersFor_append_new {s : State} {r : OrderRecord} (hq : s.isQueued r.node r.channel = false)
    {q : List OrderEntry} (hle : ∀ n ch, ordersFor n ch q ≤ ordersFor n ch s.orders.queue) {n ch : Nat}
    (h : ordersFor n ch s.orders.queue ≤ 1) : ordersFor n ch (q ++ [entryOf r]) ≤ 1 := by
  have hk := hle n ch
  by_cases hr : (entryOf r).isFor n ch = true
  · have h0 : ordersFor n ch s.orders.queue = 0 := by
      simp only [entryOf, OrderEntry.isFor, Bool.and_eq_true, beq_iff_eq] at hr
      obtain ⟨rfl, rfl⟩ := hr
      exact List.countP_eq_zero.mpr fun e he hf => by
        have : s.isQueued r.node r.channel = true := List.any_eq_true.mpr ⟨e, he, hf⟩
        simp [this] at hq
    simp only [ordersFor, List.countP_append, List.countP_singleton, hr] at *
    simp only [if_true]
    omega
  · simp only [ordersFor, List.countP_append, List.countP_singleton, hr] at *
    simpa using Nat.le_trans hk h

theorem evictDriving_sublist {q r : List OrderEntry} {e : OrderEntry} (h : evictDriving q = some (e, r)) :
    r.Sublist q := by
  induction q generalizing r e with
  | nil => simp [evictDriving] at h
  | cons x q ih =>
    simp only [evictDriving] at h
    split at h
    case isTrue =>
      simp only [Option.map_eq_some_iff, Prod.mk.injEq, Prod.exists] at h
      obtain ⟨a, b, hx, rfl, rfl⟩ := h
      exact (ih hx).cons_cons x
    case isFalse => cases h; exact List.sublist_cons_self _ _

theorem placeOrder_channels {r : OrderRecord} {s : State} (h : s.ChannelsOnce) : (placeOrder r s).ChannelsOnce := by
  intro n ch
  have hn : ordersFor n ch s.orders.queue ≤ 1 := h n ch
  change ordersFor n ch _ ≤ 1
  simp only [placeOrder]
  split
  case isTrue => simpa only [clearMarks, mapOrder_queue, setQueue_queue, ordersFor_replace] using hn
  case isFalse hq =>
    have hq : s.isQueued r.node r.channel = false := by simpa using hq
    split
    case isTrue =>
      simpa only [clearMarks, mapOrder_queue, setQueue_queue]
        using ordersFor_append_new hq (fun _ _ => Nat.le_refl _) hn
    case isFalse =>
      simp only [placeFull]
      (repeat' split)
      case h_1 he =>
        simpa only [clearMarks, mapOrder_queue, setQueue_queue]
          using ordersFor_append_new hq (fun _ _ => (evictDriving_sublist he).countP_le) hn
      all_goals simpa only [clearMarks, mapOrder_queue] using hn

/-- A placing changes the order queue and the orders' records and counts, and nothing else. -/
theorem placeOrder_shape (r : OrderRecord) (s : State) : placeOrder r s = { s with orders := (placeOrder r s).orders } := by
  simp only [placeOrder, placeFull, clearMarks]
  (repeat' split) <;> rfl

theorem KeepsOpen.placeOrder {s t : State} (h : KeepsOpen s t) {r : OrderRecord} : KeepsOpen s (placeOrder r t) := by
  refine h.trans ?_
  have hlen : t.orders.queue.length ≤ 8 → (Machine.placeOrder r t).orders.queue.length ≤ 8 := placeOrder_length
  have hch : t.ChannelsOnce → (Machine.placeOrder r t).ChannelsOnce := placeOrder_channels
  rw [placeOrder_shape] at *
  exact { KeepsOpen.refl t with
    capacity := fun ⟨h1, h2, h3, h4, h5⟩ => ⟨h1, h2, h3, h4, hlen h5⟩
    channels := hch }

theorem KeepsOpen.placeDue {s t : State} (h : KeepsOpen s t) : KeepsOpen s (placeDue t) := by
  have hn : ∀ n t, KeepsOpen s t → KeepsOpen s (placeDueUpTo n t) := by
    intro n
    induction n with
    | zero => exact fun _ ht => ht
    | succ n ih =>
      intro t ht
      simp only [placeDueUpTo]
      (repeat' split)
      · exact ht
      · exact ih _ ht.placeOrder
      · exact ht
  exact hn _ t h

/-! ### The control slot and the sending of the M-port (R150, R151) -/

section
variable {s t : State}

/-- An M-port that has something in its transmit buffer is drained of what it could send. -/
theorem drained_of_sending {s : State} (h : s.path.mTransmit.isSome = true) : s.LinkDrained :=
  fun hn => by simp [hn] at h

/-- The census is running: nothing is asked of its traces. -/
theorem enrol_of_running {s : State} (h : s.link.outcome = .running) : s.EnrolWhileRunning :=
  fun hn => absurd h hn

theorem offerHeld_shape (s : State) : offerHeld s = s
    ∨ ∃ f rest, s.link.offers = f :: rest ∧ offerHeld s = { s with
        path := { s.path with control := some (.enrol f) }, link := { s.link with offers := rest } } := by
  simp only [offerHeld]
  split
  case h_1 => exact .inl rfl
  case h_2 f rest hf =>
    split
    case h_1 | h_2 => exact .inl rfl
    case h_3 | h_4 => exact .inr ⟨f, rest, hf, rfl⟩

theorem KeepsOpen.offerHeld (h : KeepsOpen s t) : KeepsOpen s (offerHeld t) := by
  refine h.trans ?_
  rcases offerHeld_shape t with he | ⟨f, rest, hf, he⟩ <;> rw [he]
  · exact .refl t
  · exact { KeepsOpen.refl t with enrol := fun ht hr => absurd (ht hr).1 (by simp [hf]) }

/-! The node table is changed in place, and a node's last raw values only by its reports. -/

/-- The last raw values of a node are at most those of two bytes. -/
def Node.RawsFit (x : Node) : Prop := ∀ r ∈ x.channels, ∀ v, r.raw = some v → v ≤ 65535

theorem node_setNode (n m : Nat) (x : Node) : (t.setNode n x).node m = x ∨ (t.setNode n x).node m = t.node m := by
  unfold State.setNode
  split
  case h_2 => exact .inr rfl
  case h_1 k _ =>
    unfold State.node
    split
    case h_2 => exact .inr rfl
    case h_1 j _ =>
      by_cases hk : k = j
      · subst hk; exact .inl (by simp)
      · exact .inr (by simp [Fin.val_ne_of_ne hk])

theorem rawsFit_setNode {n : Nat} {x : Node} (hx : t.RawsFit → Node.RawsFit x) (ht : t.RawsFit) :
    (t.setNode n x).RawsFit := by
  intro m
  rcases node_setNode (t := t) n m x with h | h <;> rw [h]
  · exact hx ht
  · exact ht m

theorem setNode_shape (n : Nat) (x : Node) :
    ∃ nodes, t.setNode n x = { t with link := { t.link with nodes := nodes } } := by
  simp only [State.setNode]
  split
  · exact ⟨_, rfl⟩
  · exact ⟨t.link.nodes, rfl⟩

theorem Keeps.setNode (h : Keeps s t) {n : Nat} {x : Node} (hx : t.RawsFit → Node.RawsFit x) :
    Keeps s (t.setNode n x) := by
  refine h.trans ?_
  have hr := rawsFit_setNode (n := n) hx
  obtain ⟨nodes, he⟩ := setNode_shape (t := t) n x
  rw [he] at hr ⊢
  exact { KeepsOpen.refl t with raws := hr, drained := id }

/-- A node's entry whose channel records stay. -/
theorem rawsFit_of_channels {n : Nat} {x : Node} (hx : x.channels = (t.node n).channels) (ht : t.RawsFit) :
    Node.RawsFit x := fun r hr => ht n r (hx ▸ hr)

/-- What the link manager brings about in a census that runs. -/
theorem KeepsOpen.raise (h : KeepsOpen s t) (hr : s.EnrolWhileRunning → t.link.outcome = .running)
    (offers : List EnrolFrame) (outstanding : Option Nat) (timer : Timer) (line : Bool) :
    KeepsOpen s { t with link := { t.link with
      offers := offers, outstanding := outstanding, enrolTimer := timer, chainLine := line } } :=
  { h with enrol := fun hs => enrol_of_running (hr hs) }

theorem KeepsOpen.censusAdvance (h : KeepsOpen s t) (hr : s.EnrolWhileRunning → t.link.outcome = .running)
    (f : EnrolFrame) : KeepsOpen s (censusAdvance f t) := by
  cases f with
  | forget => exact h.raise hr _ _ _ _
  | assign n => exact h.raise hr _ _ _ _
  | pass n =>
    have hk {x : Node} (hx : x.channels = (t.node n).channels) : KeepsOpen s (t.setNode n x) :=
      h.trans ((Keeps.refl t).setNode (rawsFit_of_channels hx)).toKeepsOpen
    have hr' {x : Node} : s.EnrolWhileRunning → (t.setNode n x).link.outcome = .running := by
      obtain ⟨nodes, he⟩ := setNode_shape (t := t) n x
      rwa [he]
    simp only [Machine.censusAdvance]
    split <;> exact (hk (by rfl)).raise hr' _ _ _ _

theorem KeepsOpen.pumpM (h : KeepsOpen s t) : KeepsOpen s (pumpM t) := by
  simp only [Machine.pumpM]
  split
  case isTrue => exact h
  case isFalse =>
    split
    case h_1 c hc =>
      have hsent : KeepsOpen s { t with path := { t.path with
          mTransmit := some (controlToFrame c), control := none } } :=
        { h with enrol := fun hs hr => ⟨(h.enrol hs hr).1, fun _ => nofun, (h.enrol hs hr).2.2⟩ }
      cases c with
      | enrol f =>
        refine KeepsOpen.offerHeld (hsent.censusAdvance (fun hs => ?_) f)
        by_contra hr
        exact (h.enrol hs hr).2.1 f hc
      | halt => exact hsent.offerHeld
      | beat n p => exact hsent.offerHeld
    case h_2 =>
      split
      case h_1 e rest hq =>
        exact KeepsOpen.placeDue { h with
          capacity := fun hs => by
            obtain ⟨h1, h2, h3, h4, h5⟩ := h.capacity hs
            rw [hq] at h5
            exact ⟨h1, h2, h3, h4, Nat.le_of_succ_le h5⟩
          channels := fun hs n ch => by
            have := h.channels hs n ch
            rw [hq, List.countP_cons] at this
            exact Nat.le_trans (Nat.le_add_right _ _) this }
      case h_2 =>
        split
        case h_1 f rest hf =>
          exact { h with
            capacity := fun hs => by
              obtain ⟨h1, h2, h3, h4, h5⟩ := h.capacity hs
              rw [hf] at h4
              exact ⟨h1, h2, h3, Nat.le_of_succ_le h4, h5⟩
            linkProtect := fun hs g hg => h.linkProtect hs g (hf ▸ List.mem_cons_of_mem f hg) }
        case h_2 => exact h

end

theorem placeDue_path (s : State) : (placeDue s).path = s.path := by simp

theorem offerHeld_mTransmit (s : State) : (offerHeld s).path.mTransmit = s.path.mTransmit := by
  rcases offerHeld_shape s with h | ⟨f, rest, -, h⟩ <;> rw [h]

/-- Nothing is left for an M-port that could send, whatever stood in its queues. -/
theorem pumpM_drained (s : State) : (pumpM s).LinkDrained := by
  simp only [Machine.pumpM]
  split
  case isTrue h =>
    simp only [Bool.or_eq_true, beq_iff_eq] at h
    rcases h with (h | h) | h
    · exact drained_of_sending h
    · exact fun _ => .inl h
    · exact fun _ => .inr (.inl h)
  case isFalse =>
    split
    case h_1 c _ =>
      refine drained_of_sending ?_
      cases c <;> simp [slotEmptied, offerHeld_mTransmit]
    case h_2 hc =>
      split
      case h_1 => exact drained_of_sending (by simp)
      case h_2 hq =>
        split
        case h_1 => exact drained_of_sending rfl
        case h_2 hf => exact fun _ => .inr (.inr ⟨hc, hq, hf⟩)

section
variable {s t : State}

/-- What was open is closed by the sending of what can be sent. -/
theorem KeepsOpen.pumped (h : KeepsOpen s t) : Keeps s (Machine.pumpM t) := ⟨h.pumpM, fun _ => pumpM_drained t⟩

theorem Keeps.pumpM (h : Keeps s t) : Keeps s (pumpM t) := h.toKeepsOpen.pumped

theorem Keeps.offerHalt (h : Keeps s t) : Keeps s (offerHalt t) := by
  simp only [Machine.offerHalt]
  split
  case h_1 => exact h
  case h_2 f hf =>
    refine KeepsOpen.pumped { h.toKeepsOpen with enrol := fun hs hr => absurd hf ((h.enrol hs hr).2.1 f) }
  case h_3 | h_4 =>
    exact KeepsOpen.pumped { h.toKeepsOpen with
      enrol := fun hs hr => ⟨(h.enrol hs hr).1, fun _ => nofun, (h.enrol hs hr).2.2⟩ }

theorem Keeps.offerBeat (h : Keeps s t) : Keeps s (offerBeat t) := by
  simp only [Machine.offerBeat]
  split
  case h_1 | h_2 => exact h
  case h_3 | h_4 =>
    exact KeepsOpen.pumped { h.toKeepsOpen with
      enrol := fun hs hr => ⟨(h.enrol hs hr).1, fun _ => nofun, (h.enrol hs hr).2.2⟩ }

/-- An enrolment frame is offered in a census that runs. -/
theorem KeepsOpen.offerEnrol (h : KeepsOpen s t) (hr : t.link.outcome = .running) {f : EnrolFrame} :
    Keeps s (offerEnrol f t) :=
  (h.raise (fun _ => hr) (t.link.offers ++ [f]) _ _ _).offerHeld.pumped

theorem Keeps.withdrawEnrol (h : Keeps s t) : Keeps s (withdrawEnrol t) where
  toKeepsOpen := { h.toKeepsOpen with
    enrol := fun hs hr => ⟨rfl, fun f => by simp only [Machine.withdrawEnrol]; split <;> simp_all, (h.enrol hs hr).2.2⟩ }
  drained hs hm := by
    rcases h.drained hs hm with hb | hd | ⟨hc, hq, hf⟩
    · exact .inl hb
    · exact .inr (.inl hd)
    · exact .inr (.inr ⟨by simp [Machine.withdrawEnrol, hc], hq, hf⟩)

/-! ### Handing orders (R169) -/

theorem KeepsOpen.mapOrder (h : KeepsOpen s t) {n ch : Nat} {g : OrderRecord → OrderRecord} :
    KeepsOpen s (t.mapOrder n ch g) := h.same {}

theorem Keeps.handOrder (h : Keeps s t) {place : Bool} {d : DriveRef} {code : DriveCode} {speed : Nat} :
    Keeps s (handOrder place d code speed t) := by
  simp only [Machine.handOrder]
  (repeat' split)
  case h_1.isTrue => exact (KeepsOpen.placeOrder (h.same {}).toKeepsOpen).pumped
  case h_1.isFalse => exact h.same {}
  case h_2.isTrue => exact h
  case h_2.isFalse.isTrue => exact (KeepsOpen.placeOrder h.mapOrder.toKeepsOpen).pumped
  case h_2.isFalse.isFalse => exact h.mapOrder

theorem Keeps.holdAll (h : Keeps s t) {place : Bool} {i : Slot} : Keeps s (holdAll place i t) :=
  .fold (fun u _ => (Keeps.refl u).handOrder) _ h

theorem Keeps.pumpOrder (h : Keeps s t) {place : Bool} {code : DriveCode} {speed : Nat} :
    Keeps s (pumpOrder place code speed t) := by
  simp only [Machine.pumpOrder]
  split
  · exact h.handOrder
  · exact h

/-- The order queue is emptied. -/
theorem Keeps.emptyQueue (h : Keeps s t) {o : OrderScheduler} (ho : o.queue = []) : Keeps s { t with orders := o } where
  toKeepsOpen := { h.toKeepsOpen with
    capacity := fun hs => by
      obtain ⟨h1, h2, h3, h4, -⟩ := h.capacity hs
      exact ⟨h1, h2, h3, h4, by simp [ho]⟩
    channels := fun hs n ch => by simp [ho] }
  drained hs hm := by
    rcases h.drained hs hm with hb | hd | ⟨hc, hq, hf⟩
    · exact .inl hb
    · exact .inr (.inl hd)
    · exact .inr (.inr ⟨hc, ho, hf⟩)

theorem Keeps.clearQueue (h : Keeps s t) : Keeps s (clearQueue t) := h.emptyQueue rfl

theorem Keeps.discardOrders (h : Keeps s t) : Keeps s (discardOrders t) := h.emptyQueue rfl

theorem Keeps.resendStop (h : Keeps s t) {n ch seen : Nat} : Keeps s (resendStop n ch seen t) := by
  simp only [Machine.resendStop]
  (repeat' split)
  · exact h
  · exact (KeepsOpen.placeOrder h.mapOrder.toKeepsOpen).pumped
  · exact h

end

/-! ### The claim set (R64, R66) -/

section
variable {s t : State}

theorem Keeps.dropClaim (h : Keeps s t) {who : Claimant} : Keeps s (dropClaim who t) :=
  { h with claims := fun hs => ⟨Nat.le_trans (claimSum_filter_le _ _) (h.claims hs).1, (h.claims hs).2⟩ }

/-- A claim that fits under the effective limit, or is of 0, is added. -/
theorem Keeps.addClaim (h : Keeps s t) {who : Claimant} {amps : Nat} (hf : amps = 0 ∨ t.fits amps = true) :
    Keeps s (addClaim who amps t) :=
  have hadd : claimSum (t.budget.claims ++ [⟨who, amps⟩]) = t.claimsHeld + amps := by
    simp [claimSum, State.claimsHeld]
  { h with
    claims := fun hs => by
      obtain ⟨hc, hl⟩ := h.claims hs
      refine ⟨hadd.trans_le ?_, hl⟩
      rcases hf with rfl | hf
      · exact hc
      · exact Nat.le_trans (of_decide_eq_true hf) hl }

end

end Sys2Proof.Proofs
end

section
/-! PROOFS. What the machine does to its functions in motion, the arbiter, the orders and the sequencer, as one
relation: whatever a stop, a fault, a grant, a request or a report brings about is a chain of a few elementary
changes. An invariant is kept by all of it where it is kept by each elementary change. -/

namespace Sys2Proof.Proofs
open Sys2Proof.Machine Sys2Proof.Laws

/-- A chain of elementary changes of motion: the runtime half of a function, a hold record, the arbiter, the claims,
the sequence, the wind record, the levelled flag, a frame handed to the C-port, an order handed or discarded, and a
HALT offered. A claim is added where it fits under the effective limit (R66). -/
inductive Acts (s : State) : State → Prop
  | refl : Acts s s
  | storeFn {t : State} (h : Acts s t) {i : Slot} {f : Function} : Acts s (t.storeFn i f)
  | holds {t : State} (h : Acts s t) {x : Vector Hold 16} : Acts s { t with holds := x }
  | setManifold {t : State} (h : Acts s t) {m : Manifold} : Acts s (t.setManifold m)
  | sequence {t : State} (h : Acts s t) {q : Sequence} : Acts s { t with sequence := q }
  | wind {t : State} (h : Acts s t) {w : WindRecord} : Acts s { t with wind := w }
  | levelled {t : State} (h : Acts s t) {b : Bool} : Acts s { t with monitor := { t.monitor with levelled := b } }
  | queueC {t : State} (h : Acts s t) {new : TxEntry} : Acts s (queueC new t)
  | handOrder {t : State} (h : Acts s t) {place : Bool} {d : DriveRef} {code : DriveCode} {speed : Nat} :
      Acts s (handOrder place d code speed t)
  | offerHalt {t : State} (h : Acts s t) : Acts s (offerHalt t)
  | clearQueue {t : State} (h : Acts s t) : Acts s (clearQueue t)
  | dropClaim {t : State} (h : Acts s t) {who : Claimant} : Acts s (dropClaim who t)
  | addClaim {t : State} (h : Acts s t) {who : Claimant} {amps : Nat} (hf : amps = 0 ∨ t.fits amps = true) :
      Acts s (addClaim who amps t)

theorem Acts.trans {s t u : State} (h : Acts s t) (k : Acts t u) : Acts s u := by
  induction k with
  | refl => exact h
  | storeFn _ ih => exact ih.storeFn
  | holds _ ih => exact ih.holds
  | setManifold _ ih => exact ih.setManifold
  | sequence _ ih => exact ih.sequence
  | wind _ ih => exact ih.wind
  | levelled _ ih => exact ih.levelled
  | queueC _ ih => exact ih.queueC
  | handOrder _ ih => exact ih.handOrder
  | offerHalt _ ih => exact ih.offerHalt
  | clearQueue _ ih => exact ih.clearQueue
  | dropClaim _ ih => exact ih.dropClaim
  | addClaim _ hf ih => exact ih.addClaim hf

theorem Acts.fold {α : Type} {f : State → α → State} (hf : ∀ s a, Acts s (f s a)) (l : List α) {s t : State}
    (h : Acts s t) : Acts s (l.foldl f t) := by
  induction l generalizing t with
  | nil => exact h
  | cons a l ih => exact ih (h.trans (hf t a))

theorem Acts.ite {c : Prop} [Decidable c] {s t u : State} (h : Acts s t) (k : Acts s u) :
    Acts s (if c then t else u) := by
  split
  · exact h
  · exact k

/-! ### The named operations -/

section
variable {s t : State} (h : Acts s t)
include h

theorem Acts.putHold {i : Slot} {x : Hold} : Acts s (putHold i x t) := h.holds

theorem Acts.setSeq {q : Sequence} : Acts s (t.setSeq q) := h.sequence

theorem Acts.setWind {w : WindRecord} : Acts s (t.setWind w) := h.wind

theorem Acts.setOwed {i : Slot} {v : Bool} : Acts s (t.setOwed i v) := h.wind

theorem Acts.functionFrame {cls : TxClass} {i : Slot} : Acts s (functionFrame cls i t) := h.queueC

theorem Acts.levelFrame : Acts s (levelFrame t) := h.queueC

theorem Acts.refusalFrame {i : Slot} {v : Nat} {r : RefusalReason} : Acts s (refusalFrame i v r t) := h.queueC

theorem Acts.refusalSeqFrame {k : SeqKind} {v : Nat} {r : RefusalReason} : Acts s (refusalSeqFrame k v r t) := h.queueC

theorem Acts.judgeLevelled {i : Slot} {old new : Function} : Acts s (judgeLevelled i old new t) := h.levelled.ite h

theorem Acts.judgeOwedStowed {i : Slot} {old new : Function} : Acts s (judgeOwedStowed i old new t) := h.wind.ite h

theorem Acts.putFn {i : Slot} {f : Function} : Acts s (putFn i f t) :=
  h.storeFn.judgeLevelled.judgeOwedStowed.ite h.storeFn.judgeLevelled.judgeOwedStowed.functionFrame

theorem Acts.refuseHold {i : Slot} : Acts s (refuseHold i t) := h.putHold.ite h

theorem Acts.holdAll {place : Bool} {i : Slot} : Acts s (holdAll place i t) :=
  .fold (fun _ _ => Acts.refl.handOrder) _ h

theorem Acts.pumpOrder {place : Bool} {code : DriveCode} {speed : Nat} : Acts s (pumpOrder place code speed t) := by
  unfold Machine.pumpOrder
  split
  · exact h.handOrder
  · exact h

end

/-! ### The manifold arbiter -/

section
variable {s t : State} (h : Acts s t)
include h

theorem Acts.releaseDraw {i : Slot} : Acts s (releaseDraw i t) := h.dropClaim.ite h

theorem Acts.startPump (hf : t.fits t.settings.manifold.pumpClaim = true) : Acts s (startPump t) :=
  (h.addClaim (.inr hf)).pumpOrder.setManifold

theorem Acts.stopPump {place : Bool} : Acts s (stopPump place t) := h.pumpOrder.dropClaim.setManifold.ite h

theorem Acts.holdOnPump : Acts s (holdOnPump t) := h.setManifold

theorem Acts.readyPump : Acts s (readyPump t) := h.setManifold.ite h

theorem Acts.leaveList {i : Slot} : Acts s (leaveList i t) := h.setManifold

theorem Acts.joinList {i : Slot} : Acts s (joinList i t) := h.setManifold

theorem Acts.windStopped {i : Slot} {r : StopReason} : Acts s (windStopped i r t) := by
  unfold Machine.windStopped
  split
  · exact h.setOwed
  · exact h.setOwed.wind.ite h.setOwed
  · exact h

theorem Acts.holdMoved {place : Bool} {i : Slot} : Acts s (holdMoved place i t) := h.holdAll.ite h

theorem Acts.stopFn {place : Bool} {i : Slot} {r : StopReason} : Acts s (stopFn place i r t) := by
  have h1 := (h.leaveList (i := i)).holdMoved (place := place) (i := i) |>.releaseDraw (i := i)
    |>.putFn (i := i) (f := (t.fn i).stopped r)
  exact ((h1.ite h1.refuseHold).windStopped.ite (h1.ite h1.refuseHold)).ite h

theorem Acts.stopAll {place : Bool} {r : StopReason} {is : List Slot} : Acts s (stopAll place r is t) :=
  .fold (fun _ _ => Acts.refl.stopFn) _ h

theorem Acts.releaseSequenceGrant : Acts s (releaseSequenceGrant t) := by
  unfold Machine.releaseSequenceGrant
  split
  · exact h.setManifold.ite h
  · exact h

theorem Acts.closeSequence {r : SeqResult} : Acts s (closeSequence r t) :=
  h.sequence.releaseSequenceGrant.levelFrame

theorem Acts.endSequence {place : Bool} {r : SeqResult} {why : StopReason} :
    Acts s (endSequence place r why t) := h.stopAll.closeSequence.ite h

theorem Acts.abortSequence {place : Bool} {r : AbortReason} : Acts s (abortSequence place r t) := h.endSequence

theorem Acts.failFn {i : Slot} {c : FaultCode} : Acts s (failFn i c t) :=
  h.holdMoved.leaveList.releaseDraw.putFn.refuseHold.ite h

theorem Acts.faultFns {is : List Slot} {c : FaultCode} : Acts s (faultFns is c t) :=
  have hf := Acts.fold (fun _ i => Acts.refl.failFn (i := i) (c := c)) is h
  hf.endSequence.ite hf

theorem Acts.faultFn {i : Slot} {c : FaultCode} : Acts s (faultFn i c t) := h.faultFns

theorem Acts.turnChannel {i : Slot} {e : Side} : Acts s (turnChannel i e t) := h.ite h.storeFn

theorem Acts.orderChannel {i : Slot} {e : Side} : Acts s (orderChannel i e t) := by
  unfold Machine.orderChannel
  (repeat' split)
  · exact h
  · exact h.handOrder
  · exact h
  · exact h.handOrder

theorem Acts.reorder {i : Slot} : Acts s (reorder i t) :=
  Acts.ite (.fold (fun _ _ => Acts.refl.turnChannel.orderChannel) _ h) h

theorem Acts.startMove {i : Slot} : Acts s (startMove i t) := h.putFn.faultFn.ite h.putFn.reorder

theorem Acts.startHydraulic {i : Slot} : Acts s (startHydraulic i t) := h.startMove.readyPump

theorem Acts.freeHydraulic {i : Slot} : Acts s (freeHydraulic i t) :=
  h.leaveList.putFn.ite h.leaveList.startHydraulic

theorem Acts.freeGranted {g : Grant} : Acts s (freeGranted g t) :=
  .fold (fun _ _ => Acts.refl.freeHydraulic) _ h

theorem Acts.grantTo {i : Slot} : Acts s (grantTo i t) := h.setManifold.freeGranted

theorem Acts.serveHolder : Acts s (serveHolder t) := by
  unfold Machine.serveHolder
  split
  · exact h.freeGranted.ite h
  · exact h

theorem Acts.admitMotor {i : Slot} (ha : t.admits (t.cfg i).draw = true) : Acts s (admitMotor i t) := by
  have hf : (t.cfg i).draw = 0 ∨ t.fits (t.cfg i).draw = true := by simpa [State.admits] using ha
  exact (h.leaveList.addClaim hf).startMove

end

theorem Acts.walkList {s t : State} (h : Acts s t) {is : List Slot} : Acts s (walkList is t) := by
  induction is generalizing t with
  | nil => exact h
  | cons i rest ih =>
    unfold Machine.walkList
    (repeat' split)
    · exact ih h
    · exact ih h
    · exact ih h.grantTo
    · exact ih (h.startPump ‹_›).grantTo
    · exact h
    · exact ih (h.admitMotor ‹_›)
    · exact h

section
variable {s t : State} (h : Acts s t)
include h

theorem Acts.writeReasons : Acts s (writeReasons t) := .fold (fun _ _ => Acts.refl.putFn) _ h

theorem Acts.servicePass : Acts s (servicePass t) := h.serveHolder.walkList.writeReasons

theorem Acts.preemptManifold {i : Slot} : Acts s (preemptManifold i t) := by
  unfold Machine.preemptManifold
  split
  · exact h
  · exact (h.stopAll.abortSequence.ite h.stopAll).setManifold.ite h

theorem Acts.clearArbiter : Acts s (clearArbiter t) := h.setManifold

theorem Acts.haltEffects : Acts s (haltEffects t) :=
  h.offerHalt.clearQueue.stopAll.clearArbiter.stopPump.abortSequence

theorem Acts.preempt {r : Request} : Acts s (preempt r t) := h.stopFn.abortSequence.ite h.stopFn

theorem Acts.windTaken {r : Request} : Acts s (windTaken r t) := h.setOwed.ite h

theorem Acts.accept {r : Request} : Acts s (accept r t) :=
  h.preempt.putFn.windTaken.joinList.preemptManifold

/-! ### Slides and the motor kinds -/

theorem Acts.settleFn {i : Slot} {r : StopReason} {e : Ending} {byStall : Bool} :
    Acts s (settleFn i r e byStall t) := h.holdAll.releaseDraw.putFn

theorem Acts.endReached {i : Slot} {d : Direction} {byStall : Bool} : Acts s (endReached i d byStall t) := h.settleFn

theorem Acts.targetReached {i : Slot} : Acts s (targetReached i t) := h.settleFn

theorem Acts.setChannel {i : Slot} {e : Side} {ch : Channel} : Acts s (setChannel i e ch t) := h.storeFn

theorem Acts.resumeChannel {i : Slot} {e : Side} : Acts s (resumeChannel i e t) := h.ite h.setChannel

theorem Acts.setMarker {i : Slot} {m : Option Side} : Acts s (setMarker i m t) := h.storeFn

theorem Acts.clearMarker {i : Slot} : Acts s (clearMarker i t) := by
  unfold Machine.clearMarker
  split
  · exact h
  · exact h.setMarker.resumeChannel

theorem Acts.takeEndMark {i : Slot} {e : Side} : Acts s (takeEndMark i e t) := h.setChannel.clearMarker

theorem Acts.takeArrivalMark {i : Slot} {e : Side} : Acts s (takeArrivalMark i e t) := h.setChannel.clearMarker

theorem Acts.finishMotor {i : Slot} : Acts s (finishMotor i t) :=
  (h.endReached.ite (h.endReached.ite h.targetReached)).ite h

theorem Acts.judgeStall {i : Slot} {e : Side} : Acts s (judgeStall i e t) := by
  unfold Machine.judgeStall
  simp only
  split
  · exact h.takeEndMark.finishMotor.ite h.faultFn
  · exact h

theorem Acts.stallTest {i : Slot} {e : Side} {current : Nat} {flags : Byte} :
    Acts s (stallTest i e current flags t) := h.setChannel.judgeStall.ite h.setChannel

theorem Acts.arrivalTest {i : Slot} {e : Side} : Acts s (arrivalTest i e t) := by
  unfold Machine.arrivalTest
  simp only
  split
  · exact (h.ite h.takeArrivalMark.finishMotor).ite (h.setChannel.resumeChannel.ite h)
  · exact h

theorem Acts.holdEnd {i : Slot} {e : Side} : Acts s (holdEnd i e t) := h.setMarker.setChannel

theorem Acts.softSkewTest {i : Slot} : Acts s (softSkewTest i t) := by
  unfold Machine.softSkewTest
  simp only
  (repeat' split)
  · exact h
  · exact h
  · exact h.holdEnd
  · exact h
  · exact h.clearMarker
  · exact h.holdEnd.resumeChannel
  · exact h

theorem Acts.hardSkewTest {i : Slot} : Acts s (hardSkewTest i t) := h.faultFn.ite h

theorem Acts.clearanceStop {i : Slot} : Acts s (clearanceStop i t) := by
  unfold Machine.clearanceStop
  split
  · exact h
  · exact h.stopFn.ite h

theorem Acts.whileMoving {i : Slot} {test : State → State} (ht : ∀ u, Acts s u → Acts s (test u)) :
    Acts s (whileMoving i test t) := (ht t h).ite h

theorem Acts.motorReport {i : Slot} {e : Side} {current : Nat} {flags : Byte} :
    Acts s (motorReport i e current flags t) := by
  unfold Machine.motorReport
  refine Acts.whileMoving (Acts.whileMoving (Acts.whileMoving h.hardSkewTest.clearanceStop ?stall) ?arrival) ?skew
  case stall => exact fun _ hu => hu.stallTest
  case arrival => exact fun _ hu => hu.arrivalTest.ite hu
  case skew => exact fun _ hu => hu.softSkewTest.ite hu

theorem Acts.slideHydReport {i : Slot} {pressure : Nat} : Acts s (slideHydReport i pressure t) := by
  unfold Machine.slideHydReport
  simp only
  split
  · exact (h.endReached.ite h.faultFn).ite (h.targetReached.ite h)
  · exact h

theorem Acts.passVerify {i : Slot} : Acts s (passVerify i t) := h.putFn

theorem Acts.verifyExtend {i : Slot} : Acts s (verifyExtend i t) := h.storeFn.passVerify

theorem Acts.verifyTarget {i : Slot} : Acts s (verifyTarget i t) := h.passVerify.ite h.faultFn

theorem Acts.slideTest {i : Slot} : Acts s (slideTest i t) := by
  unfold Machine.slideTest
  split
  · exact h
  · exact h.stopFn.ite h

/-! ### The sequencer -/

theorem Acts.seqRefused {r : RefusalReason} : Acts s (seqRefused r t) := by
  unfold Machine.seqRefused
  split
  · exact h.endSequence
  all_goals exact h.abortSequence

theorem Acts.releaseTwist {i : Slot} : Acts s (releaseTwist i t) := h.setSeq.reorder.ite h

theorem Acts.markFinished {i : Slot} : Acts s (markFinished i t) := by
  have h1 : Acts s (if t.isFinished i then t else t.setSeq { t.sequence with
      finished := t.sequence.finished ++ [i]
      twistHeld := t.sequence.twistHeld.filter (· != i) }) := h.ite h.setSeq
  unfold Machine.markFinished
  simp only
  split
  · exact h1.releaseTwist
  · exact h1

theorem Acts.sendSeqRequest {r : Request} {onEnd : State → State} (he : Acts s (onEnd t)) :
    Acts s (sendSeqRequest r onEnd t).1 := by
  unfold Machine.sendSeqRequest
  split
  · exact h.accept
  · exact he
  · exact h.seqRefused

theorem Acts.groundRequest {i : Slot} : Acts s (groundRequest i t).1 := by
  unfold Machine.groundRequest
  split
  · exact h.sendSeqRequest h.seqRefused
  · exact h

theorem Acts.liftRequest {i : Slot} : Acts s (liftRequest i t).1 := by
  unfold Machine.liftRequest
  (repeat' split)
  · exact h.sendSeqRequest h.seqRefused
  · exact h
  · exact h

theorem Acts.stowRequest {i : Slot} : Acts s (stowRequest i t).1 := by
  unfold Machine.stowRequest
  split
  · exact h.sendSeqRequest h.markFinished
  · exact h

theorem Acts.preemptJacks {o : Owner} {is : List Slot} : Acts s (preemptJacks o is t) :=
  .fold (fun _ _ => Acts.refl.stopFn.ite Acts.refl) _ h

theorem Acts.firstRequests {atOnce : Bool} {request : Slot → State → State × List Task} {task : Slot → Task}
    {is : List Slot} (hr : ∀ u i, Acts u (request i u).1) : Acts s (firstRequests atOnce request task is t).1 := by
  unfold Machine.firstRequests
  split
  · exact .fold (fun u i => hr u i) _ h
  · exact h

theorem Acts.startLevel : Acts s (startLevel t).1 :=
  h.preemptJacks.setSeq.levelFrame.firstRequests fun _ _ => Acts.refl.groundRequest

theorem Acts.startStow {o : Owner} : Acts s (startStow o t).1 :=
  h.preemptJacks.setSeq.levelFrame.firstRequests fun _ _ => Acts.refl.stowRequest

theorem Acts.stopSequence : Acts s (stopSequence t) := h.abortSequence.holds

theorem Acts.operatorSequence {which : SeqRequest} : Acts s (operatorSequence which t).1 := by
  unfold Machine.operatorSequence
  (repeat' split)
  · exact h.startLevel
  · exact h.refusalSeqFrame
  · exact h.startStow
  · exact h.refusalSeqFrame
  · exact h.stopSequence

theorem Acts.travelStow : Acts s (travelStow t).1 := by
  unfold Machine.travelStow
  (repeat' split)
  · exact h
  · exact h.abortSequence
  · exact h.startStow

theorem Acts.groundReport {i : Slot} : Acts s (groundReport i t) :=
  h.stopFn.markFinished.ite (h.faultFn.ite h)

theorem Acts.twistMember {limit : Nat} {i other : Slot} : Acts s (twistMember limit i other t) :=
  (h.releaseTwist.ite h).ite (h.setSeq.reorder.ite h)

theorem Acts.twistRule {i : Slot} : Acts s (twistRule i t) := by
  unfold Machine.twistRule
  (repeat' split)
  · exact h
  · exact h.twistMember.twistMember
  · exact h
  · exact h

theorem Acts.endGround : Acts s (endGround t) := h.setSeq.levelFrame

theorem Acts.setPhase {p : Phase} : Acts s (setPhase p t) := h.ite h.setSeq.levelFrame

theorem Acts.formStep : Acts s (formStep t).1 := by
  unfold Machine.formStep
  simp only
  split
  · exact h.setPhase.setSeq.setPhase
  · exact h.setPhase.setSeq

theorem Acts.stepEnd : Acts s (stepEnd t).1 := by
  unfold Machine.stepEnd
  split
  · exact h.setSeq.formStep
  · exact h

theorem Acts.endSequenceAs {r : SeqResult} : Acts s (endSequenceAs r t) := h.endSequence.levelled.ite h.endSequence

theorem Acts.evaluate {gp gr : Int} : Acts s (evaluate gp gr t).1 := by
  unfold Machine.evaluate
  simp only
  split
  · exact h.endSequenceAs (r := .tooSteep)
  · split
    · exact h.endSequenceAs (r := .levelOk)
    · split
      · exact h.endSequenceAs (r := if t.sequence.limited then .levelLimited else .outOfTolerance)
      · exact h.setSeq.formStep

theorem Acts.takeReading {pitch roll : Int} {stable : Bool} : Acts s (takeReading pitch roll stable t).1 := by
  unfold Machine.takeReading
  simp only
  (repeat' split)
  · exact h.setSeq.setSeq.evaluate
  · exact h.setSeq
  · exact h

theorem Acts.endStow : Acts s (endStow t) := h.endSequenceAs

theorem Acts.jackRested {i : Slot} : Acts s (jackRested i t).1 := by
  unfold Machine.jackRested
  (repeat' split)
  · exact h.markFinished
  · exact h
  · exact h
  · exact h

end

end Sys2Proof.Proofs
end

section
/-! PROOFS. The verify, the supply, the awnings, the link, the posture and the match engine keep the invariants. -/

namespace Sys2Proof.Proofs
open Sys2Proof.Machine Sys2Proof.Laws

/-! ### Motion keeps the invariants -/

/-- Every elementary change of motion keeps the invariants, so what is made of them does. -/
theorem Acts.keeps {s t : State} (h : Acts s t) : Keeps s t := by
  induction h with
  | refl => exact .refl s
  | storeFn _ ih => exact ih.storeFn
  | holds _ ih => exact ih.holds
  | setManifold _ ih => exact ih.setManifold
  | sequence _ ih => exact ih.sequence
  | wind _ ih => exact ih.wind
  | levelled _ ih => exact ih.monitor
  | queueC _ ih => exact ih.queueC
  | handOrder _ ih => exact ih.handOrder
  | offerHalt _ ih => exact ih.offerHalt
  | clearQueue _ ih => exact ih.clearQueue
  | dropClaim _ ih => exact ih.dropClaim
  | addClaim _ hf ih => exact ih.addClaim hf

theorem Keeps.acts {s t u : State} (h : Keeps s t) (k : Acts t u) : Keeps s u := h.trans k.keeps

/-! ### A configuration written over the one held -/

section
variable {s t : State}

/-- A configuration with the supply's limit and the match table of the one held takes its place. -/
theorem Keeps.configured (h : Keeps s t) {c : Settings} (hlimit : c.supply.supplyLimit = t.settings.supply.supplyLimit)
    (hentries : c.entries = t.settings.entries) (hagrees : t.settings.Agrees → c.Agrees)
    (hrange : t.RawsFit → t.settings.InRange → c.InRange) : Keeps s { t with settings := c } :=
  { h with
    claims := fun hs => by simpa only [State.ClaimsWithinLimit, State.claimsHeld, hlimit] using h.claims hs
    nextFree := fun hs => by simpa only [State.NextFreeIsLowest, hentries] using h.nextFree hs
    agreed := fun hs => ⟨hagrees (h.agreed hs).1, (h.agreed hs).2⟩
    ranged := fun hc hr hs => ⟨hrange (h.raws hr) (h.ranged hc hr hs).1, (h.ranged hc hr hs).2⟩ }

theorem getElem_set_slot {α : Type} (v : Vector α 16) (i k : Slot) (x : α) :
    (v.set i x)[k] = if k = i then x else v[k] := by
  by_cases h : k = i
  · subst h; simp
  · simp only [h, if_false]
    exact Vector.getElem_set_ne _ _ fun he => h (Fin.ext he.symm)

/-! ### The re-zero writes an offset (R107) -/

theorem setOffset_fields (c : FunctionConfig) (e : Side) (n : Nat) :
    c.setOffset e n = { c with offsetA := (c.setOffset e n).offsetA, offsetB := (c.setOffset e n).offsetB } := by
  cases e <;> rfl

/-- A slot's offsets are read by no agreement of the configuration. -/
theorem agrees_of_offsets {c : Settings} {i : Slot} {a b : Nat} (h : c.Agrees) :
    Settings.Agrees { c with functions := c.functions.set i { c.functions[i] with offsetA := a, offsetB := b } } := by
  obtain ⟨hf, hp, hq, hm, hv⟩ := h
  have hk : ∀ k : Slot, ((c.functions.set i { c.functions[i] with offsetA := a, offsetB := b })[k]).kind
      = (c.functions[k]).kind := fun k => by rw [getElem_set_slot]; split <;> simp_all
  have hpartner : ∀ k : Slot, ((c.functions.set i { c.functions[i] with offsetA := a, offsetB := b })[k]).partner
      = (c.functions[k]).partner := fun k => by rw [getElem_set_slot]; split <;> simp_all
  refine ⟨fun k => ?_, fun k l => ?_, fun k l => ?_, hm, hv⟩
  · rw [getElem_set_slot]
    split
    · exact hf i
    · exact hf k
  · simp only [hk, hpartner]
    exact hp k l
  · simp only [hk]
    exact hq k l

/-- An offset of two bytes is in its range. -/
theorem inRange_of_offsets {c : Settings} {i : Slot} {a b : Nat} (ha : a ≤ 65535) (hb : b ≤ 65535) (h : c.InRange) :
    Settings.InRange { c with functions := c.functions.set i { c.functions[i] with offsetA := a, offsetB := b } } := by
  obtain ⟨hs, hl, ht⟩ := h
  refine ⟨fun k => ?_, hl, ht⟩
  rw [getElem_set_slot]
  split
  case isFalse => exact hs k
  case isTrue hk =>
    subst hk
    have := hs k
    simp only at this ⊢
    exact ⟨this.1, this.2.1, this.2.2.1, this.2.2.2.1, this.2.2.2.2.1, ha, hb, this.2.2.2.2.2.2.2⟩

theorem lastRaw_le {i : Slot} {e : Side} {raw : Int} (ht : t.RawsFit) (h : t.lastRaw i e = some raw) : raw ≤ 65535 := by
  simp only [State.lastRaw, State.channelRecord] at h
  split at h
  · simp at h
  · obtain ⟨r, hr, hv⟩ := Option.bind_eq_some_iff.mp h
    exact ht _ r (List.mem_of_getElem? hr) raw hv

/-- The offset that a re-zero writes is a raw count of two bytes. -/
theorem Keeps.setOffset (h : Keeps s t) {i : Slot} {e : Side} {n : Nat} (hn : t.RawsFit → n ≤ 65535) :
    Keeps s (t.setCfg i ((t.cfg i).setOffset e n)) := by
  have hc : t.cfg i = t.settings.functions[i] := rfl
  rw [State.setCfg, setOffset_fields, hc]
  refine h.configured rfl rfl agrees_of_offsets fun hr hin => ?_
  obtain ⟨-, -, -, -, -, ha, hb, -⟩ := hin.1 i
  have := hn hr
  refine inRange_of_offsets ?_ ?_ hin <;> cases e <;> simp only [FunctionConfig.setOffset] <;> omega

theorem Keeps.rezeroChannel (h : Keeps s t) {i : Slot} {e : Side} : Keeps s (rezeroChannel i t e) := by
  unfold Machine.rezeroChannel
  split
  case h_1 => exact h
  case h_2 raw hraw =>
    have hn : t.RawsFit → raw.toNat ≤ 65535 := fun hr => by have := lastRaw_le hr hraw; omega
    exact (h.setOffset hn).storeFn

theorem Keeps.rezero (h : Keeps s t) {i : Slot} : Keeps s (rezero i t) :=
  Keeps.putFn (.fold (fun u _ => (Keeps.refl u).rezeroChannel) _ h)

/-! ### The verify (R17) -/

section
variable (h : Keeps s t)
include h

theorem Keeps.verifyRetract {i : Slot} : Keeps s (verifyRetract i t) :=
  have hz := h.rezero.ite h
  (hz.acts (.faultFn .refl)).ite ((hz.acts (.passVerify .refl)).ite (hz.acts (.faultFn .refl)))

theorem Keeps.verify {i : Slot} : Keeps s (verify i t) := by
  unfold Machine.verify
  split
  · exact h.verifyRetract
  · exact h.acts (.verifyExtend .refl)
  · exact h.acts (.verifyTarget .refl)
  · exact h

end

/-! ### The pump, the awnings, presses and reports are motion -/

section
variable (h : Acts s t)
include h

theorem Acts.abortHolder : Acts s (abortHolder t) := by
  unfold Machine.abortHolder
  split
  · exact h.abortSequence.ite h
  · exact h

theorem Acts.pumpPressure {pressure : Nat} : Acts s (pumpPressure pressure t) := by
  unfold Machine.pumpPressure
  (repeat' split)
  · exact h.holdOnPump
  · exact .fold (fun _ _ => Acts.refl.startMove) _ h.setManifold
  · exact h

theorem Acts.primeExpired : Acts s (primeExpired t) := h.faultFns.stopPump

theorem Acts.windJudged : Acts s (windJudged t) := h.setWind.ite h.setWind

theorem Acts.clearFault {i : Slot} : Acts s (clearFault i t) := h.putFn

theorem Acts.windRetract {i : Slot} : Acts s (windRetract i t).1 := by
  unfold Machine.windRetract
  split
  · exact h.accept
  · exact h.setOwed
  · exact h.setOwed
  · exact h

theorem Acts.travelRetract {i : Slot} : Acts s (travelRetract i t).1 := by
  unfold Machine.travelRetract
  split
  · exact h.accept
  · exact h

theorem Acts.retryObstructed {i : Slot} : Acts s (retryObstructed i t).1 := by
  unfold Machine.retryObstructed
  split
  · exact h
  · exact h.setWind.clearFault.windRetract

theorem Acts.gustRetract {i : Slot} : Acts s (gustRetract i t).1 := by
  unfold Machine.gustRetract
  simp only
  (repeat' split)
  · exact h
  · exact h.retryObstructed
  · exact h
  · exact h.setOwed
  · exact h.windRetract

theorem Acts.owedRetract {i : Slot} : Acts s (owedRetract i t).1 := by
  unfold Machine.owedRetract
  split
  · exact h.windRetract
  · exact h

theorem Acts.judgeMove {i : Slot} : Acts s (judgeMove i t) := (h.stopFn.abortSequence.ite h.stopFn).ite h

theorem Acts.judgeSequence : Acts s (judgeSequence t) := h.abortSequence.ite h

theorem Acts.stopRequest {i : Slot} : Acts s (stopRequest i t) := (h.stopFn.abortSequence.ite h.stopFn).refuseHold

theorem Acts.clearRequest {i : Slot} : Acts s (clearRequest i t) := by
  unfold Machine.clearRequest
  (repeat' split)
  · exact h.refusalFrame
  · exact h.clearFault
  · exact h.refusalFrame
  · exact h

theorem Acts.moveRequest {i : Slot} {d : Direction} : Acts s (moveRequest i d t).1 := by
  unfold Machine.moveRequest
  (repeat' split)
  · exact h.stopRequest
  · exact h.accept
  · exact h.refusalFrame

theorem Acts.operatorTask {i : Slot} {v : RequestVerb} : Acts s (operatorTask i v t).1 := by
  unfold Machine.operatorTask
  split
  · exact h.moveRequest
  · exact h.moveRequest
  · exact h.stopRequest
  · exact h.clearRequest

theorem Acts.renewHold {i : Slot} : Acts s (renewHold i t) := h.putHold

theorem Acts.newPress {i : Slot} {d : Direction} {src : EntryIndex} : Acts s (newPress i d src t).1 := by
  unfold Machine.newPress
  (repeat' split)
  · exact h.stopRequest.putHold
  · exact h.accept.putHold
  · exact h.putHold.refusalFrame

theorem Acts.press {i : Slot} {d : Direction} {src : EntryIndex} : Acts s (press i d src t).1 := by
  unfold Machine.press
  split
  · exact h.newPress
  · exact h.renewHold.ite h
  · exact h.renewHold

theorem Acts.jackReport {i : Slot} {p : Nat} : Acts s (jackReport i p t) := by
  refine h.faultFn.ite (h.groundReport.ite (Acts.ite ?moving h))
  split
  · exact h.targetReached.ite h
  · exact h.endReached.ite h
  · exact h.endReached.ite h
  · exact h

theorem Acts.hydReport {i : Slot} {p : Nat} : Acts s (hydReport i p t) := (h.faultFn.ite h.slideHydReport).ite h

theorem Acts.twinReport {i : Slot} {e : Side} {current : Nat} {flags : Byte} :
    Acts s (twinReport i e current flags t) := h.motorReport.ite (h.hardSkewTest.ite h)

theorem Acts.kindReport {i : Slot} {d : DriveRef} {load : Nat} {flags : Byte} :
    Acts s (kindReport i d load flags t) := by
  unfold Machine.kindReport
  split
  · exact h.jackReport.twistRule.reorder
  · exact h.hydReport.reorder
  · exact Acts.reorder (.fold (fun _ _ => Acts.refl.twinReport) _ h)
  · exact Acts.reorder (.fold (fun _ _ => Acts.refl.twinReport) _ h)
  · exact h

theorem Acts.activityReport {i : Slot} {d : DriveRef} {load : Nat} {flags : Byte} :
    Acts s (activityReport i d load flags t).1 := by
  unfold Machine.activityReport
  (repeat' split)
  · exact h.faultFn
  · exact h.faultFn
  · exact h.kindReport
  · exact h
  · exact h

theorem Acts.slotReport {i : Slot} {d : DriveRef} : Acts s (slotReport i d t).1 := by
  unfold Machine.slotReport
  split
  · exact h
  · exact h.putFn.activityReport.slideTest

theorem Acts.becomeIdle {i : Slot} : Acts s (becomeIdle i t).1 := by
  unfold Machine.becomeIdle
  simp only
  split
  · exact h.putFn
  · exact h

theorem Acts.checkBinding {i : Slot} : Acts s (checkBinding i t) := (h.putFn.ite h.putFn).ite h

theorem Acts.becomeIdleAll {is : List Slot} : Acts s (becomeIdleAll is t).1 := by
  have hall : ∀ (is : List Slot) (r : State × List Task), Acts s r.1 →
      Acts s (is.foldl (fun r i => let t := Machine.becomeIdle i r.1; (t.1, r.2 ++ t.2)) r).1 := by
    intro is
    induction is with
    | nil => exact fun _ hr => hr
    | cons i is ih => exact fun r hr => ih _ hr.becomeIdle
  exact hall is (t, []) h

theorem Acts.checkBindings {is : List Slot} : Acts s (is.foldl (fun s i => Machine.checkBinding i s) t) :=
  .fold (fun _ _ => Acts.refl.checkBinding) _ h

theorem Acts.recheck {is : List Slot} : Acts s (recheck is t).1 := h.checkBindings

theorem Acts.unbindFn {i : Slot} : Acts s (unbindFn i t) := h.leaveList.putFn.abortSequence.ite h.leaveList.putFn

theorem Acts.rebind {is : List Slot} : Acts s (rebind is t).1 := (Acts.fold (fun _ _ => Acts.refl.unbindFn) _ h).recheck

theorem Acts.clearFunctions : Acts s (clearFunctions t) := .fold (fun _ _ => Acts.refl.putFn.putHold) _ h

theorem Acts.holdExpired {i : Slot} : Acts s (holdExpired i t) := h.putHold.stopFn.ite h.putHold

theorem Acts.contactLost {i : Slot} : Acts s (contactLost i t).1 := by
  unfold Machine.contactLost
  simp only
  split
  · exact h.putFn.setSeq
  · exact h.putFn

theorem Acts.waitExpired {i : Slot} : Acts s (waitExpired i t) := h.stopFn.abortSequence.ite h.stopFn

theorem Acts.restExpired : Acts s (restExpired t) := h.setManifold

theorem Acts.levelSettled : Acts s (levelSettled t) := h.setSeq.setSeq.setPhase.ite h.setSeq

theorem Acts.stallExpired {i : Slot} {e : Side} : Acts s (stallExpired i e t) := h.setChannel.judgeStall.reorder

end

/-! ### The supply and the pump's alarms -/

section
variable (h : Keeps s t)
include h

/-- The low-supply timer is read by no invariant. -/
theorem Keeps.lowTimer {l : LowTimer} : Keeps s { t with budget := { t.budget with lowTimer := l } } := h.same {}

theorem Keeps.judgeLowSupply : Keeps s (judgeLowSupply t) := by
  unfold Machine.judgeLowSupply
  (repeat' split)
  · exact h.lowTimer
  · exact h
  · exact h
  · exact h
  · exact h.lowTimer
  · exact h.lowTimer.setAlarm

theorem Keeps.computeLimit : Keeps s (computeLimit t) :=
  { h with claims := fun hs => ⟨(h.claims hs).1, limitAt_le _ _⟩ }

theorem Keeps.supplyChanged : Keeps s (supplyChanged t) := h.computeLimit.judgeLowSupply

theorem Keeps.lowSupplyExpired : Keeps s (lowSupplyExpired t) :=
  h.lowTimer.setAlarm.acts (Acts.refl.stopAll.stopAll.abortSequence.stopPump)

theorem Keeps.coolPump : Keeps s (coolPump t) := (h.acts (Acts.refl.pumpOrder.dropClaim)).setManifold.setAlarm

theorem Keeps.dutyExpired : Keeps s (dutyExpired t) :=
  (h.acts (Acts.refl.stopAll.stopAll.abortHolder.setManifold)).coolPump

theorem Keeps.dutyReachedNow : Keeps s (dutyReachedNow t) := h.setManifold.dutyExpired.ite h

theorem Keeps.coolDownOver : Keeps s (coolDownOver t) := h.setManifold.setAlarm

theorem Keeps.gustExpired : Keeps s (gustExpired t).1 := h.setWind.setAlarm

theorem Keeps.calmExpired : Keeps s (calmExpired t) := h.setWind.setAlarm

/-! ### The posture and the power line -/

theorem Keeps.setPosture {p : Posture} : Keeps s (setPosture p t) := h.ite h.monitor.postureFrame

theorem Keeps.enterFault : Keeps s (enterFault t) := h.ite (h.setPosture.acts (.haltEffects .refl))

/-- The power line is read by no invariant. -/
theorem Keeps.judgePowerLine : Keeps s (judgePowerLine t) := h.same {}

theorem Keeps.changePosture {p : Posture} : Keeps s (changePosture p t).1 := by
  unfold Machine.changePosture
  split
  · exact h.enterFault
  · exact h.setPosture

theorem Keeps.handOver {g : Signal} : Keeps s (handOver g t) := by
  unfold Machine.handOver
  split
  · exact h.supplyChanged
  · exact h.acts (.windJudged .refl)
  all_goals exact h

theorem Keeps.staleExpired {g : Signal} : Keeps s (staleExpired g t) := h.setSignal.ite h.setSignal.handOver

end

end

end Sys2Proof.Proofs
end

section
/-! PROOFS. The census, DOZE, the ports, the match engine and the tables keep the invariants. -/

namespace Sys2Proof.Proofs
open Sys2Proof.Machine Sys2Proof.Laws

/-! ### The census outcome through motion -/

theorem offerHeld_outcome (s : State) : (offerHeld s).link.outcome = s.link.outcome := by
  rcases offerHeld_shape s with h | ⟨f, rest, -, h⟩ <;> rw [h]

theorem setNode_outcome (s : State) (n : Nat) (x : Node) : (s.setNode n x).link.outcome = s.link.outcome := by
  obtain ⟨nodes, h⟩ := setNode_shape (t := s) n x
  rw [h]

theorem censusAdvance_outcome (f : EnrolFrame) (s : State) : (censusAdvance f s).link.outcome = s.link.outcome := by
  cases f with
  | forget => rfl
  | assign n => rfl
  | pass n =>
    simp only [censusAdvance]
    split <;> exact setNode_outcome s n _

theorem pumpM_outcome (s : State) : (pumpM s).link.outcome = s.link.outcome := by
  simp only [pumpM]
  split
  · rfl
  · split
    case h_1 c _ => cases c <;> simp [slotEmptied, offerHeld_outcome, censusAdvance_outcome]
    case h_2 => (repeat' split) <;> simp

theorem handOrder_outcome (place : Bool) (d : DriveRef) (code : DriveCode) (speed : Nat) (s : State) :
    (handOrder place d code speed s).link.outcome = s.link.outcome := by
  simp only [handOrder]
  (repeat' split) <;> simp [pumpM_outcome]

theorem offerHalt_outcome (s : State) : (offerHalt s).link.outcome = s.link.outcome := by
  simp only [offerHalt]
  split <;> simp [pumpM_outcome]

/-- Motion leaves the census outcome. -/
theorem Acts.outcome {s t : State} (h : Acts s t) : t.link.outcome = s.link.outcome := by
  induction h with
  | queueC _ ih => simpa using ih
  | handOrder _ ih => exact (handOrder_outcome ..).trans ih
  | offerHalt _ ih => exact (offerHalt_outcome _).trans ih
  | refl => rfl
  | storeFn _ ih | holds _ ih | setManifold _ ih | sequence _ ih | wind _ ih | levelled _ ih | clearQueue _ ih
  | dropClaim _ ih | addClaim _ _ ih => exact ih

/-! ### The ends of a census (R156 to R161) -/

section
variable {s t : State}

/-- The census has left no trace: no enrolment frame held or in the slot, no number outstanding, its timer idle and
the chain line off. -/
def CensusClosed (s : State) : Prop :=
  s.link.offers = [] ∧ (∀ f, s.path.control ≠ some (.enrol f)) ∧ s.link.outstanding = none
    ∧ s.link.enrolTimer = none ∧ s.link.chainLine = false

theorem withdrawEnrol_control (s : State) (f : EnrolFrame) : (withdrawEnrol s).path.control ≠ some (.enrol f) := by
  simp only [withdrawEnrol]
  split <;> simp_all

theorem closeCensus_closed (s : State) : CensusClosed (closeCensus s) :=
  ⟨rfl, withdrawEnrol_control s, rfl, rfl, rfl⟩

theorem Keeps.closeCensus (h : Keeps s t) : Keeps s (closeCensus t) :=
  { h.withdrawEnrol with enrol := fun _ _ => closeCensus_closed t }

/-- The census's counts are read by no invariant. -/
theorem Keeps.counts (h : Keeps s t) {count strays : Nat} :
    Keeps s (t.setLink { t.link with count := count, strays := strays }) := h.same {}

theorem Keeps.setOutcome (h : Keeps s t) {o : CensusOutcome} (hc : o = .running ∨ CensusClosed t) :
    Keeps s (setOutcome o t) := by
  have hl : Keeps s (t.setLink { t.link with outcome := o }) :=
    { h with enrol := fun _ hr => hc.elim (fun ho => absurd ho hr) id }
  exact h.ite hl.postureFrame

theorem nodes_of_replicate {s : State} (hs : s.link.nodes = Vector.replicate 24 Node.absent) (n : Nat) :
    s.node n = Node.absent := by
  simp only [State.node, hs]
  split <;> simp

theorem rawsFit_of_absent {s : State} (h : ∀ n, s.node n = Node.absent) : s.RawsFit := fun n r hr => by
  rw [h n] at hr
  simp [Node.absent] at hr

theorem Keeps.clearNodes (h : Keeps s t) : Keeps s (clearNodes t) :=
  { h with raws := fun _ => rawsFit_of_absent (nodes_of_replicate rfl) }

theorem Keeps.abandonCensus (h : Keeps s t) : Keeps s (abandonCensus t) :=
  Keeps.ite (h.closeCensus.setOutcome (.inr (closeCensus_closed t))).clearNodes.counts h

theorem setOutcome_outcome (o : CensusOutcome) (s : State) : (setOutcome o s).link.outcome = o := by
  simp only [setOutcome]
  split <;> simp_all

/-- The census start up to the offer of its FORGET. -/
def censusCleared (s : State) : State :=
  let s := setOutcome .running s
  let s := setAlarm .censusFault false (s.setLink { s.link with count := 0, strays := 0 })
  let s := judgePowerLine (enterFault s)
  let s := abortSequence false .halted (stopAll false .halted slots s)
  let s := clearFunctions (stopPump false (clearArbiter s))
  discardOrders (clearNodes s)

/-- The state in which a census offers its FORGET. -/
def censusOpened (s : State) : State :=
  s.setLink { s.link with enrolTimer := none, outstanding := none, chainLine := false }

theorem startCensus_eq (s : State) : startCensus s = offerEnrol .forget (censusOpened (censusCleared s)) := by
  simp only [startCensus, censusCleared, censusOpened]

theorem Keeps.censusCleared (h : Keeps s t) : Keeps s (censusCleared t) :=
  (((h.setOutcome (.inl rfl)).counts.setAlarm.enterFault.judgePowerLine.acts
    (Acts.refl.stopAll.abortSequence.clearArbiter.stopPump.clearFunctions)).clearNodes).discardOrders

theorem enterFault_outcome (s : State) : (enterFault s).link.outcome = s.link.outcome := by
  simp only [enterFault]
  split
  · rfl
  · rw [(Acts.haltEffects .refl).outcome]
    simp only [setPosture]
    split <;> simp

theorem discardOrders_outcome (s : State) : (discardOrders s).link.outcome = s.link.outcome := rfl

theorem clearNodes_outcome (s : State) : (clearNodes s).link.outcome = s.link.outcome := rfl

theorem judgePowerLine_outcome (s : State) : (judgePowerLine s).link.outcome = s.link.outcome := rfl

theorem counts_outcome (s : State) (count strays : Nat) :
    (s.setLink { s.link with count := count, strays := strays }).link.outcome = s.link.outcome := rfl

theorem setAlarm_outcome (k : Alarm) (v : Bool) (s : State) : (setAlarm k v s).link.outcome = s.link.outcome := by
  simp

theorem censusCleared_outcome (s : State) : (censusCleared s).link.outcome = .running := by
  have ha : ∀ u : State, (clearFunctions (stopPump false (clearArbiter (abortSequence false .halted
      (stopAll false .halted slots u))))).link.outcome = u.link.outcome := fun u =>
    (Acts.refl.stopAll.abortSequence.clearArbiter.stopPump.clearFunctions).outcome
  rw [censusCleared, discardOrders_outcome, clearNodes_outcome, ha, judgePowerLine_outcome, enterFault_outcome,
    setAlarm_outcome, counts_outcome, setOutcome_outcome]

theorem censusOpened_outcome (s : State) : (censusOpened s).link.outcome = s.link.outcome := rfl

theorem KeepsOpen.censusOpened (h : KeepsOpen s t) (hr : t.link.outcome = .running) :
    KeepsOpen s (censusOpened t) := h.raise (fun _ => hr) _ none none false

theorem KeepsOpen.startCensus (h : KeepsOpen s t) : Keeps s (startCensus t) := by
  have hc := censusCleared_outcome t
  rw [startCensus_eq]
  exact ((h.trans (Keeps.refl t).censusCleared.toKeepsOpen).censusOpened hc).offerEnrol
    ((censusOpened_outcome _).trans hc)

theorem Keeps.startCensus (h : Keeps s t) : Keeps s (startCensus t) := h.toKeepsOpen.startCensus

theorem Keeps.endCensus (h : Keeps s t) {o : CensusOutcome} {count : Nat} : Keeps s (endCensus o count t).1 := by
  have hs := (h.closeCensus.counts (count := count) (strays := (Machine.closeCensus t).link.strays)).setOutcome
    (o := o) (.inr (closeCensus_closed t))
  unfold Machine.endCensus
  simp only
  split
  · exact hs.acts Acts.refl.checkBindings.becomeIdleAll
  · exact hs.setAlarm

theorem Keeps.enrolmentExpired (h : Keeps s t) : Keeps s (enrolmentExpired t).1 := by
  unfold Machine.enrolmentExpired
  split
  · exact h.endCensus
  · exact h.endCensus
  · exact h.endCensus
  · exact h

theorem Keeps.stray (h : Keeps s t) : Keeps s (stray t) := h.counts

theorem rawsFit_enrolled (kindCode channels hardware : Nat) :
    Node.RawsFit (Node.enrolled kindCode channels hardware) := fun r hr v hv => by
  rw [List.eq_of_mem_replicate hr] at hv
  cases hv

/-- A node has answered: the enrolment timer is cancelled, and the count is its number. -/
theorem KeepsOpen.acked (h : KeepsOpen s t) (hr : t.link.outcome = .running) {n : Nat} :
    KeepsOpen s (t.setLink { t.link with enrolTimer := none, count := n }) :=
  { h with enrol := fun _ => enrol_of_running hr }

theorem Keeps.enrolAnswer (h : Keeps s t) {n kindCode channels hardware : Nat} :
    Keeps s (enrolAnswer n kindCode channels hardware t).1 := by
  unfold Machine.enrolAnswer
  (repeat' split)
  case isTrue => exact h.stray
  case isFalse.isTrue => exact h.endCensus
  case isFalse.isFalse.isTrue.isTrue => exact h.endCensus
  case isFalse.isFalse.isTrue.isFalse hr _ _ _ =>
    have ho : (t.setNode n (Node.enrolled kindCode channels hardware)).link.outcome = .running :=
      (setNode_outcome ..).trans (not_not.mp hr)
    have hn := h.setNode (n := n) (fun _ => rawsFit_enrolled kindCode channels hardware)
    exact (hn.toKeepsOpen.acked ho).offerEnrol ho
  case isFalse.isFalse.isFalse => exact h.stray

/-! ### Reports, readings and silence (R163 to R166) -/

theorem Keeps.recordReport (h : Keeps s t) {n ch : Nat} {r : ChannelRecord} (hr : ∀ v, r.raw = some v → v ≤ 65535) :
    Keeps s (recordReport n ch r t) := by
  refine h.setNode fun ht r' hr' v hv => ?_
  rcases List.mem_or_eq_of_mem_set hr' with hm | rfl
  · exact ht n r' hm v hv
  · exact hr v hv

theorem Keeps.takeReport (h : Keeps s t) {f : Frame} : Keeps s (takeReport f t).1 := by
  unfold Machine.takeReport
  simp only
  split
  · exact h.stray
  · refine (h.recordReport fun v hv => ?_).acts (.fold (fun _ _ => Acts.refl.storeFn) _ .refl)
    cases hv
    have := (word16Of (frameByte f 1) (frameByte f 2)).isLt
    omega

theorem Keeps.takeTilt (h : Keeps s t) {f : Frame} : Keeps s (takeTilt f t).1 := by
  unfold Machine.takeTilt
  simp only
  have hr : ∀ old, Keeps s (Machine.recordReport (linkNode f.ident) 0
      ⟨some (word16Of (frameByte f 0) (frameByte f 1)).toInt, some (word16Of (frameByte f 2) (frameByte f 3)).toInt,
        some (flagByte ((frameByte f 4).getLsbD 0)), some (frameByte f 5).toNat, old⟩ t) := fun old =>
    h.recordReport fun v hv => by
      cases hv
      have := BitVec.toInt_lt (x := word16Of (frameByte f 0) (frameByte f 1))
      omega
  (repeat' split)
  · exact h.stray
  · exact (hr _).acts (.takeReading .refl)
  · exact hr _

theorem Keeps.silentNode (h : Keeps s t) {n : Nat} : Keeps s (silentNode n t) :=
  have hs := (h.setNode (rawsFit_of_channels (n := n) (by rfl))).acts (.faultFns .refl)
  (hs.acts (.stopPump .refl)).ite hs

/-! ### DOZE (R195, R196) -/

theorem node_mapTimers (g : Node → Node) (hg : ∀ x, (g x).channels = x.channels) (s : State) (n : Nat) :
    ((s.setLink { s.link with nodes := s.link.nodes.map g }).node n).channels = (s.node n).channels := by
  simp only [State.node, State.setLink]
  split
  · simp [hg]
  · rfl

theorem Keeps.cancelSilence (h : Keeps s t) : Keeps s (cancelSilence t) :=
  h.same { channels := fun n => node_mapTimers (fun x => { x with silenceTimer := none }) (fun _ => rfl) t n }

theorem Keeps.enterDoze (h : Keeps s t) : Keeps s (enterDoze t) := by
  have hd : Keeps s { t with
      store := { t.store with doze := true, dozeTimer := none }
      orders := { t.orders with refreshTimer := none }
      statusTimer := none } := { h with drained := fun _ _ => .inr (.inl rfl) }
  exact hd.cancelSilence.abandonCensus.judgePowerLine

/-- A part that wakes, before its census starts. -/
def awake (s : State) : State :=
  { s with
    store := { s.store with doze := false }
    orders := s.orders.restarted s.now s.settings.timing.refreshPeriod
    statusTimer := startTimer s.now s.settings.timing.statusPeriod }

theorem wake_eq (s : State) : wake s = startCensus (awake s) := rfl

theorem Keeps.awake (h : Keeps s t) : KeepsOpen s (awake t) := { h with }

theorem Keeps.wake (h : Keeps s t) : Keeps s (wake t) := by
  rw [wake_eq]
  exact h.awake.startCensus

theorem Keeps.dozeTimer (h : Keeps s t) {x : Timer} :
    Keeps s { t with store := { t.store with dozeTimer := x } } := h.same {}

theorem Keeps.touchDoze (h : Keeps s t) : Keeps s (touchDoze t) := h.wake.ite (h.dozeTimer.ite h)

/-! ### Captured values and the match engine (R26, R127 to R132) -/

theorem Keeps.ignitionOn (h : Keeps s t) : Keeps s (ignitionOn t).1 := by
  unfold Machine.ignitionOn
  (repeat' split) <;> simp only
  · exact h.wake
  · exact h
  · exact h

theorem Keeps.deliver (h : Keeps s t) {g : Signal} {v : Nat} {src : EntryIndex} : Keeps s (deliver g v src t).1 := by
  unfold Machine.deliver
  simp only
  (repeat' split)
  · exact h.setSignal
  · exact h.setSignal.handOver.ignitionOn
  · exact h.setSignal.handOver

/-- The match engine's counts are read by no invariant. -/
theorem Keeps.setMatching (h : Keeps s t) {m : MatchEngine} (hm : m.nextFree = t.matching.nextFree) :
    Keeps s (t.setMatching m) := h.same { nextFree := hm }

theorem Keeps.capture (h : Keeps s t) {i : EntryIndex} {f : Frame} {g : Signal} {o w m d : Nat} {k : Int} :
    Keeps s (capture i f g o w m d k t).1 := by
  unfold Machine.capture
  simp only
  split
  · exact h.setMatching rfl
  · split
    · exact h.deliver
    · exact Keeps.deliver (h.setMatching (by rfl))

/-- A frame that link protect lets pass joins a forward queue with room. -/
theorem KeepsOpen.joinForward (h : KeepsOpen s t) {f : Frame} (hf : isLinkFrame f.form f.ident = false)
    (hl : t.path.forward.length < forwardCapacity) :
    KeepsOpen s { t with path := { t.path with forward := t.path.forward ++ [f] } } :=
  { h with
    capacity := fun hs => by
      obtain ⟨h1, h2, h3, -, h5⟩ := h.capacity hs
      exact ⟨h1, h2, h3, by rw [List.length_append]; exact hl, h5⟩
    linkProtect := fun hs g hg => by
      rcases List.mem_append.mp hg with hg | hg
      · exact h.linkProtect hs g hg
      · exact List.mem_singleton.mp hg ▸ hf }

/-- What FORWARD does with the copy of a C-port arrival. -/
theorem Keeps.forwardCopy (h : Keeps s t) (copy : Frame) :
    Keeps s (if isLinkFrame copy.form copy.ident then
        t.setMatching { t.matching with linkProtect := bump t.matching.linkProtect }
      else if t.path.forward.length < forwardCapacity then
        Machine.pumpM { t with path := { t.path with forward := t.path.forward ++ [copy] } }
      else t.setMatching { t.matching with forwardOverflow := bump t.matching.forwardOverflow }) := by
  (repeat' split)
  case isTrue => exact h.setMatching rfl
  case isFalse.isTrue hf hl => exact (h.toKeepsOpen.joinForward (by simpa using hf) hl).pumped
  case isFalse.isFalse => exact h.setMatching rfl

theorem Keeps.forward (h : Keeps s t) {port : Port} {f : Frame} {rewrite : Option (Form × Ident)} :
    Keeps s (forward port f rewrite t) := by
  cases port with
  | motion => exact h.queueC
  | coach => exact h.forwardCopy _

theorem Keeps.act (h : Keeps s t) {i : EntryIndex} {port : Port} {f : Frame} {a : Action} :
    Keeps s (act i port f a t).1 := by
  unfold Machine.act
  split
  · exact h.forward
  · exact h
  · exact h
  · exact h.capture
  · exact h.touchDoze
  · exact h.touchDoze
  · exact h.touchDoze

theorem Keeps.countHit (h : Keeps s t) {i : EntryIndex} : Keeps s (countHit i t) := h.setMatching rfl

theorem Keeps.chain (h : Keeps s t) {port : Port} {f : Frame} {k : Nat} : Keeps s (chain port f k t).1 := by
  unfold Machine.chain
  split
  · exact h.countHit.act
  · split
    · exact Keeps.forward (rewrite := none) h
    · exact h

/-! ### The ports (R144, R151 to R153) -/

theorem Keeps.dropHead (h : Keeps s t) {port : Port} : Keeps s (dropHead port t) := by
  cases port with
  | coach =>
    exact { h with
      capacity := fun hs => by
        obtain ⟨h1, h2, h3, h4, h5⟩ := h.capacity hs
        exact ⟨by simp only [Machine.dropHead, List.length_tail]; omega, h2, h3, h4, h5⟩ }
  | motion =>
    exact { h with
      capacity := fun hs => by
        obtain ⟨h1, h2, h3, h4, h5⟩ := h.capacity hs
        exact ⟨h1, by simp only [Machine.dropHead, List.length_tail]; omega, h3, h4, h5⟩ }

theorem Keeps.receiveC (h : Keeps s t) {f : Frame} : Keeps s (receiveC f t) := by
  unfold Machine.receiveC
  (repeat' split)
  case isTrue => exact h
  case isFalse.isTrue hl =>
    exact { h with
      capacity := fun hs => by
        obtain ⟨-, h2, h3, h4, h5⟩ := h.capacity hs
        exact ⟨by rw [List.length_append]; exact hl, h2, h3, h4, h5⟩ }
  case isFalse.isFalse => exact h.same {}

theorem Keeps.receiveM (h : Keeps s t) {f : Frame} : Keeps s (receiveM f t) := by
  unfold Machine.receiveM
  (repeat' split)
  case isTrue => exact h
  case isFalse.isTrue hl =>
    exact { h with
      capacity := fun hs => by
        obtain ⟨h1, -, h3, h4, h5⟩ := h.capacity hs
        exact ⟨h1, by rw [List.length_append]; exact hl, h3, h4, h5⟩ }
  case isFalse.isFalse => exact h.same {}

theorem Keeps.sentC (h : Keeps s t) : Keeps s (sentC t) :=
  Keeps.ite (Keeps.pumpC (h.same {})) h

theorem Keeps.sentM (h : Keeps s t) : Keeps s (sentM t) :=
  Keeps.ite (KeepsOpen.pumped { h with }) h

theorem Keeps.offC (h : Keeps s t) : Keeps s (offC t) := h.same {}

theorem Keeps.onC (h : Keeps s t) : Keeps s (onC t) := Keeps.ite (Keeps.pumpC (h.same {})) h

theorem Keeps.offM (h : Keeps s t) : Keeps s (offM t) := by
  refine h.ite (Keeps.abandonCensus ?_)
  exact { h with
    capacity := fun hs => by
      obtain ⟨h1, h2, h3, -, h5⟩ := h.capacity hs
      exact ⟨h1, h2, h3, Nat.zero_le _, h5⟩
    linkProtect := fun _ => nofun
    drained := fun _ _ => .inl rfl }

theorem Keeps.onM (h : Keeps s t) : Keeps s (onM t) := by
  refine Keeps.ite (Keeps.pumpM (KeepsOpen.startCensus ?_)) h
  exact { h.withdrawEnrol with }

end

end Sys2Proof.Proofs
end

section
/-! PROOFS. The commands on the match table, the permission matrix and the records keep the invariants. -/

namespace Sys2Proof.Proofs
open Sys2Proof.Machine Sys2Proof.Laws

section
variable {s t : State} (h : Keeps s t)
include h

/-! ### The match table (R135 to R142) -/

/-- The next-free index is computed with the entries. -/
theorem Keeps.setEntries {es : Vector EntryConfig 128} : Keeps s (setEntries es t) :=
  { h with nextFree := fun _ => rfl }

theorem Keeps.putEntry {i : EntryIndex} {e : EntryConfig} : Keeps s (putEntry i e t) :=
  Keeps.setMatching h.setEntries rfl

theorem Keeps.writeEntry {index : Byte} {b : EntryBlock} : Keeps s (writeEntry index b t).state := by
  unfold Machine.writeEntry
  split
  · exact h.putEntry
  · exact h

theorem Keeps.appendEntry {b : EntryBlock} : Keeps s (appendEntry b t).state := by
  unfold Machine.appendEntry
  (repeat' split)
  · exact h
  · exact h
  · exact h
  · exact h.putEntry

theorem Keeps.setEntryState {index state : Byte} : Keeps s (setEntryState index state t).state := by
  unfold Machine.setEntryState
  split
  · exact h.setEntries
  · exact h

theorem Keeps.setPortDefault {port action : Byte} : Keeps s (setPortDefault port action t).state := by
  unfold Machine.setPortDefault
  split
  · exact h.configured rfl rfl id fun _ => id
  · exact h.configured rfl rfl id fun _ => id
  · exact h

theorem Keeps.entryStateCommand {ps : List Byte} : Keeps s (entryStateCommand ps t).state := by
  unfold Machine.entryStateCommand
  split
  · exact h.setEntryState
  · exact h.setPortDefault
  · exact h

theorem Keeps.markEntries {form : Byte} {ident : Word32} {v0 v1 mask port state : Byte} :
    Keeps s (markEntries form ident v0 v1 mask port state t).state := by
  unfold Machine.markEntries
  split
  · exact h.setEntries
  · exact h

omit h in
theorem probe_state (form : Byte) (ident : Word32) (v0 v1 length port : Byte) (s : State) :
    (probe form ident v0 v1 length port s).state = s := by
  unfold Machine.probe
  (repeat' split) <;> rfl

theorem Keeps.clearHits {first last engine : Byte} : Keeps s (clearHits first last engine t).state := by
  unfold Machine.clearHits
  simp only
  (repeat' split)
  · exact h
  · exact h.setMatching rfl
  · exact h.setMatching rfl

/-- The mask records 1 to 7 are read by no agreement of the configuration. -/
theorem Keeps.writeMask {index : Byte} {ident : Word32} {v0 v1 : Byte} :
    Keeps s (writeMask index ident v0 v1 t).state := by
  unfold Machine.writeMask
  (repeat' split)
  · exact h
  case isFalse k _ hk =>
    refine h.configured rfl rfl (fun ⟨hf, hp, hq, hm, hv⟩ => ⟨hf, hp, hq, ?_, hv⟩) fun _ => id
    have h0 : (k : Nat) ≠ 0 := fun he => hk (Fin.ext he)
    exact (Vector.getElem_set_ne k.isLt _ h0).trans hm
  · exact h

/-! ### The permission matrix (R44 to R50) -/

theorem Keeps.setWindow {r0 r1 c0 c1 order : Byte} : Keeps s (setWindow r0 r1 c0 c1 order t).state := by
  unfold Machine.setWindow
  (repeat' split)
  · exact h
  · exact h
  · exact h.monitor

/-- The permission banks are read by no agreement and no range. -/
theorem Keeps.setBank {which : Bank} {b : PermissionBank} :
    Keeps s { t with settings := t.settings.setBank which b } := by
  cases which <;> exact h.configured rfl rfl id fun _ => id

theorem Keeps.writeCell {v : Byte} : Keeps s (writeCell v t) := h.setBank.monitor

theorem Keeps.writeCellList {bs : List Byte} : Keeps s (writeCellList bs t) :=
  .fold (fun u _ => (Keeps.refl u).writeCell) _ h

theorem Keeps.exchangeBanks : Keeps s (exchangeBanks t) :=
  Keeps.postureFrame (Keeps.monitor (h.configured (c := { t.settings with activeBank := t.settings.activeBank.other })
    rfl rfl id fun _ => id))

theorem Keeps.swapMatrix {crc : Word16} : Keeps s (swapMatrix crc t).state := by
  unfold Machine.swapMatrix
  simp only
  (repeat' split)
  · exact h
  · exact h
  · exact h.monitor.postureFrame
  · exact h.exchangeBanks

theorem Keeps.gather {code : CommandCode} {bs : List Byte} : Keeps s (gather code bs t) := h.writeCellList.ite h

/-! ### The records (R185) -/

theorem Keeps.queueRecord {bs : List Byte} : Keeps s (queueRecord bs t) :=
  .fold (fun u _ => (Keeps.refl u).queueData) _ h

theorem Keeps.readRecord {kind index : Byte} : Keeps s (readRecord kind index t).state := by
  unfold Machine.readRecord
  split
  · exact h
  · exact h.queueRecord

end

end Sys2Proof.Proofs
end

section
/-! PROOFS. The field-wise configuration commands keep the ranges and the agreement of the configuration (R2, R3,
R68, R71, R182). -/

namespace Sys2Proof.Proofs
open Sys2Proof.Machine Sys2Proof.Laws

/-! ### Fields and their clamps -/

/-- What every field keeps, a whole command keeps (R182). -/
theorem applyAll_keeps {α : Type} {put : α → FieldWrite → α × Bool} {P : α → Prop}
    (hput : ∀ x f, P x → P (put x f).1) (fs : List FieldWrite) {x : α} (hx : P x) : P (applyAll put fs x).1 := by
  have hall : ∀ (fs : List FieldWrite) (p : α × Bool), P p.1 →
      P (fs.foldl (fun p f => let q := put p.1 f; (q.1, p.2 || q.2)) p).1 := by
    intro fs
    induction fs with
    | nil => exact fun _ hp => hp
    | cons f fs ih => exact fun p hp => ih _ (hput p.1 f hp)
  exact hall fs (x, false) hx

theorem clampNat_mem {lo hi n : Nat} (h : lo ≤ hi) : lo ≤ clampNat lo hi n ∧ clampNat lo hi n ≤ hi := by
  simp only [clampNat]
  omega

theorem clampNote_mem {lo hi n : Nat} (h : lo ≤ hi) : lo ≤ (clampNote lo hi n).1 ∧ (clampNote lo hi n).1 ≤ hi :=
  clampNat_mem h

theorem clampNote_le {hi n : Nat} : (clampNote 0 hi n).1 ≤ hi := (clampNote_mem (Nat.zero_le hi)).2

theorem nat_le (f : FieldWrite) : f.nat ≤ 65535 := by
  have := f.value.isLt
  simp only [FieldWrite.nat]
  omega

/-! ### The fields of a function (R1, R2) -/

/-- A drive channel in its range (R1). -/
def DriveInRange (d : DriveRef) : Prop := 1 ≤ d.node ∧ d.node ≤ 24 ∧ d.channel ≤ 7

/-- The fields of a function whose ranges depend on no other field. -/
structure OwnRanges (f : FunctionConfig) : Prop where
  nameTag : f.nameTag ≤ 255
  offsetA : f.offsetA ≤ 65535
  offsetB : f.offsetB ≤ 65535
  senseA : f.senseA = 1 ∨ f.senseA = -1
  senseB : f.senseB = 1 ∨ f.senseB = -1
  draw : f.draw ≤ 150
  rampCode : f.rampCode ≤ 3
  fullSpeed : 10 ≤ f.fullSpeed ∧ f.fullSpeed ≤ 100
  creepSpeed : 10 ≤ f.creepSpeed
  settleTime : f.settleTime ≤ 5000
  stallCurrent : f.stallCurrent ≤ 2000
  stallTime : 100 ≤ f.stallTime ∧ f.stallTime ≤ 2000
  endPressure : f.endPressure ≤ 2500
  overload : f.overload ≤ 2500
  softSkew : 10 ≤ f.softSkew ∧ f.softSkew ≤ 500
  hardSkew : 20 ≤ f.hardSkew ∧ f.hardSkew ≤ 1500
  endA : ∀ d, f.endA = some d → DriveInRange d
  endB : ∀ d, f.endB = some d → DriveInRange d

/-- The fields of a function whose ranges depend on its kind or on its other fields (R2). -/
structure DependentRanges (f : FunctionConfig) : Prop where
  stroke : (strokeRange f.kind).1 ≤ f.stroke ∧ f.stroke ≤ (strokeRange f.kind).2
  stowWindow : f.stowWindow ≤ windowMax f.kind
  endWindow : f.endWindow ≤ windowMax f.kind
  creepSpeed : f.creepSpeed ≤ f.fullSpeed
  creepDistance : f.creepDistance ≤ f.stroke
  clearance : f.clearance ≤ f.stroke

/-- A slot's place in its range (R71). -/
def PlaceInRange (g : Geometry) : Prop := -9000 ≤ g.x ∧ g.x ≤ 9000 ∧ -1600 ≤ g.y ∧ g.y ≤ 1600

theorem drives_inRange {f : FunctionConfig} :
    (∀ d ∈ f.drives, 1 ≤ d.node ∧ d.node ≤ 24 ∧ d.channel ≤ 7)
      ↔ (∀ d, f.endA = some d → DriveInRange d) ∧ ∀ d, f.endB = some d → DriveInRange d := by
  simp only [FunctionConfig.drives, List.mem_append, Option.mem_toList, DriveInRange]
  constructor
  · exact fun h => ⟨fun d hd => h d (.inl hd), fun d hd => h d (.inr hd)⟩
  · exact fun ⟨ha, hb⟩ d hd => hd.elim (ha d) (hb d)

theorem slotsInRange_iff (c : Settings) : c.SlotsInRange ↔ ∀ i : Slot,
    OwnRanges c.functions[i] ∧ DependentRanges c.functions[i] ∧ PlaceInRange c.geometry[i] := by
  simp only [Settings.SlotsInRange]
  refine forall_congr' fun i => ?_
  rw [drives_inRange]
  constructor
  · rintro ⟨h1, h2, h3, h4, h5, h6, h7, h8, h9, h10, h11, h12, h13, h14, h15, h16, h17, h18, h19, h20, h21, h22, h23,
      h24, h25, h26, h27, ⟨h28, h29⟩, h30⟩
    exact ⟨⟨h5, h6, h7, h8, h9, h10, h11, ⟨h12, h13⟩, h14, h17, h18, ⟨h19, h20⟩, h21, h22, ⟨h23, h24⟩, ⟨h25, h26⟩,
      h28, h29⟩, ⟨⟨h1, h2⟩, h3, h4, h15, h16, h27⟩, h30⟩
  · rintro ⟨⟨h5, h6, h7, h8, h9, h10, h11, ⟨h12, h13⟩, h14, h17, h18, ⟨h19, h20⟩, h21, h22, ⟨h23, h24⟩, ⟨h25, h26⟩,
      h28, h29⟩, ⟨⟨h1, h2⟩, h3, h4, h15, h16, h27⟩, h30⟩
    exact ⟨h1, h2, h3, h4, h5, h6, h7, h8, h9, h10, h11, h12, h13, h14, h15, h16, h17, h18, h19, h20, h21, h22, h23,
      h24, h25, h26, h27, ⟨h28, h29⟩, h30⟩

theorem driveField_inRange {f : FieldWrite} {d : DriveRef} (h : (driveField f).1 = some d) : DriveInRange d := by
  simp only [driveField] at h
  split at h
  · simp at h
  · cases h
    have hn := clampNote_mem (n := f.high) (show 1 ≤ 24 by decide)
    exact ⟨hn.1, hn.2, clampNote_le⟩

theorem senseField_unit (f : FieldWrite) : (senseField f).1 = 1 ∨ (senseField f).1 = -1 := by
  simp only [senseField]
  split
  · exact .inl rfl
  · exact .inr rfl

theorem OwnRanges.putFunctionField {k : Kind} {c : FunctionConfig} (h : OwnRanges c) (f : FieldWrite) :
    OwnRanges (putFunctionField k c f).1 := by
  unfold Machine.putFunctionField
  split
  · exact { h with }
  · exact { h with nameTag := clampNote_le }
  · exact { h with }
  · exact { h with endA := fun _ => driveField_inRange }
  · exact { h with endB := fun _ => driveField_inRange }
  · exact { h with }
  · exact { h with }
  · exact { h with }
  · exact { h with offsetA := nat_le f }
  · exact { h with senseA := senseField_unit f }
  · exact { h with offsetB := nat_le f }
  · exact { h with senseB := senseField_unit f }
  · exact { h with draw := clampNote_le }
  · exact { h with rampCode := clampNote_le }
  · exact { h with fullSpeed := clampNote_mem (by decide) }
  · exact { h with creepSpeed := (clampNote_mem (by decide)).1 }
  · exact { h with }
  · exact { h with settleTime := clampNote_le }
  · exact { h with stallCurrent := clampNote_le }
  · exact { h with stallTime := clampNote_mem (by decide) }
  · exact { h with endPressure := clampNote_le }
  · exact { h with overload := clampNote_le }
  · exact { h with softSkew := clampNote_mem (by decide) }
  · exact { h with hardSkew := clampNote_mem (by decide) }
  · exact { h with }
  · exact { h with }
  · exact h

theorem OwnRanges.firstKind {c : FunctionConfig} (h : OwnRanges c) (fs : List FieldWrite) (k : Kind) :
    OwnRanges (firstKind fs k c) :=
  { h with
    settleTime := by have := h.settleTime; simp only [Machine.firstKind]; split <;> omega
    stallTime := by have := h.stallTime; simp only [Machine.firstKind]; split <;> omega
    softSkew := by have := h.softSkew; simp only [Machine.firstKind]; split <;> omega
    hardSkew := by have := h.hardSkew; simp only [Machine.firstKind]; split <;> omega }

theorem OwnRanges.settleFields {c : FunctionConfig} (h : OwnRanges c) : OwnRanges (settleFields c) :=
  { h with
    creepSpeed := by have := h.creepSpeed; have := h.fullSpeed; simp only [Machine.settleFields]; omega
    hardSkew := by have := h.softSkew; have := h.hardSkew; simp only [Machine.settleFields]; omega }

/-- The fields that stand together (R2): creep speed, creep distance, clearance and the skew limits. -/
def Settled (f : FunctionConfig) : Prop :=
  f.creepSpeed ≤ f.fullSpeed ∧ f.creepDistance ≤ f.stroke ∧ f.clearance ≤ f.stroke ∧ 2 * f.softSkew ≤ f.hardSkew

theorem settleFields_settled (c : FunctionConfig) : Settled (settleFields c) := by
  simp only [Settled, settleFields]
  omega

theorem strokeRange_le (k : Kind) : (strokeRange k).1 ≤ (strokeRange k).2 := by
  cases k <;> decide

theorem settleFields_dependent (c : FunctionConfig) : DependentRanges (settleFields (rangeAgain c)) where
  stroke := clampNat_mem (strokeRange_le c.kind)
  stowWindow := (clampNat_mem (Nat.zero_le _)).2
  endWindow := (clampNat_mem (Nat.zero_le _)).2
  creepSpeed := Nat.min_le_right _ _
  creepDistance := Nat.min_le_right _ _
  clearance := Nat.min_le_right _ _

/-- A mode is read by no range and settles nothing. -/
theorem settleMode_eq (fs : List FieldWrite) (old : Kind) (c : FunctionConfig) :
    ∃ m, settleMode fs old c = { c with mode := m } := by
  simp only [settleMode]
  split
  · exact ⟨_, rfl⟩
  · exact ⟨c.mode, rfl⟩

/-- The kind that a SET_FUNCTION leaves. -/
def kindAfter (fs : List FieldWrite) (old : Kind) : Kind := ((lastWrite fs 1).bind fun f => Kind.ofCode f.nat).getD old

/-- The configuration that a SET_FUNCTION settles: the fields written, and the defaults of a first kind. -/
def fieldsAfter (fs : List FieldWrite) (old : FunctionConfig) : FunctionConfig :=
  let c := (applyAll (putFunctionField (kindAfter fs old.kind)) fs old).1
  if old.kind = .unused ∧ kindAfter fs old.kind ≠ .unused then firstKind fs (kindAfter fs old.kind) c else c

theorem functionAfter_eq (fs : List FieldWrite) (old : FunctionConfig) :
    ∃ m, (functionAfter fs old).1 = { settleFields (rangeAgain (fieldsAfter fs old)) with mode := m } :=
  settleMode_eq fs old.kind (settleFields (rangeAgain (fieldsAfter fs old)))

theorem fieldsAfter_own {fs : List FieldWrite} {old : FunctionConfig} (h : OwnRanges old) :
    OwnRanges (fieldsAfter fs old) := by
  have ho := applyAll_keeps (put := putFunctionField (kindAfter fs old.kind)) (fun _ f hx => hx.putFunctionField f) fs h
  unfold fieldsAfter
  simp only
  split
  · exact ho.firstKind fs _
  · exact ho

theorem fieldsAfter_partner (fs : List FieldWrite) (old : FunctionConfig) :
    (fieldsAfter fs old).partner = old.partner := by
  have hp := applyAll_keeps (put := putFunctionField (kindAfter fs old.kind)) (P := fun c => c.partner = old.partner)
    (fun x f hx => by unfold putFunctionField; split <;> exact hx) fs rfl
  unfold fieldsAfter
  simp only
  split
  · exact hp
  · exact hp

theorem functionAfter_settled (fs : List FieldWrite) (old : FunctionConfig) : Settled (functionAfter fs old).1 := by
  obtain ⟨m, he⟩ := functionAfter_eq fs old
  rw [he]
  exact settleFields_settled (rangeAgain (fieldsAfter fs old))

theorem functionAfter_dependent (fs : List FieldWrite) (old : FunctionConfig) :
    DependentRanges (functionAfter fs old).1 := by
  obtain ⟨m, he⟩ := functionAfter_eq fs old
  rw [he]
  exact { settleFields_dependent (fieldsAfter fs old) with }

theorem functionAfter_own {fs : List FieldWrite} {old : FunctionConfig} (h : OwnRanges old) :
    OwnRanges (functionAfter fs old).1 := by
  obtain ⟨m, he⟩ := functionAfter_eq fs old
  have ho : OwnRanges (rangeAgain (fieldsAfter fs old)) := { fieldsAfter_own h with }
  rw [he]
  exact { ho.settleFields with }

theorem functionAfter_partner (fs : List FieldWrite) (old : FunctionConfig) :
    (functionAfter fs old).1.partner = old.partner := by
  obtain ⟨m, he⟩ := functionAfter_eq fs old
  rw [he]
  exact fieldsAfter_partner fs old

/-! ### Partners (R3, R71) -/

/-- After a write both sides agree, and only relations that name neither the slot nor its new partner are left as
they were. -/
theorem partnerAfter_agrees {f : Slot → Option Slot} (hf : ∀ a b, f a = some b → f b = some a) {i : Slot}
    {p : Option Slot} (hp : p ≠ some i) {a b : Slot} (h : partnerAfter i p a (f a) = some b) :
    partnerAfter i p b (f b) = some a
      ∧ (a = i ∧ p = some b ∨ b = i ∧ p = some a ∨ a ≠ i ∧ b ≠ i ∧ f a = some b) := by
  have := hf a b
  have := hf b a
  simp only [partnerAfter] at h ⊢
  grind

theorem partnersFit_comm (a b : Kind) : partnersFit a b = partnersFit b a := by
  cases a <;> cases b <;> rfl

/-- Only the partners of slots differ, clearance partners and pair partners. -/
structure ButPartners (a b : Settings) : Prop where
  rest : b = { a with functions := b.functions, geometry := b.geometry }
  functions : ∀ k : Slot, b.functions[k] = { a.functions[k] with partner := b.functions[k].partner }
  geometry : ∀ k : Slot, b.geometry[k] = { a.geometry[k] with partner := b.geometry[k].partner }

theorem ButPartners.refl (a : Settings) : ButPartners a a := ⟨rfl, fun _ => rfl, fun _ => rfl⟩

theorem ButPartners.trans {a b c : Settings} (h : ButPartners a b) (k : ButPartners b c) : ButPartners a c where
  rest := by rw [k.rest, h.rest]
  functions i := by rw [k.functions i, h.functions i]
  geometry i := by rw [k.geometry i, h.geometry i]

theorem ButPartners.kind {a b : Settings} (h : ButPartners a b) (i : Slot) :
    b.functions[i].kind = a.functions[i].kind := by rw [h.functions i]

theorem ButPartners.supply {a b : Settings} (h : ButPartners a b) : b.supply = a.supply := by rw [h.rest]

theorem ButPartners.masks {a b : Settings} (h : ButPartners a b) : b.masks = a.masks := by rw [h.rest]

theorem ButPartners.entries {a b : Settings} (h : ButPartners a b) : b.entries = a.entries := by rw [h.rest]

theorem ButPartners.fieldsSettled {a b : Settings} (h : ButPartners a b) (ha : a.FieldsSettled) : b.FieldsSettled :=
  fun i => by rw [h.functions i]; exact ha i

theorem ButPartners.inRange {a b : Settings} (h : ButPartners a b) (ha : a.InRange) : b.InRange := by
  obtain ⟨hs, hl, ht⟩ := ha
  have hr := h.rest
  refine ⟨(slotsInRange_iff b).mpr fun i => ?_, by rw [hr]; exact hl, by rw [hr]; exact ht⟩
  obtain ⟨ho, hd, hp⟩ := (slotsInRange_iff a).mp hs i
  rw [h.functions i, h.geometry i]
  exact ⟨{ ho with }, { hd with }, hp⟩

theorem setPartner_partners (i : Slot) (p : Option Slot) (s : State) : ButPartners s.settings (setPartner i p s).settings :=
  ⟨rfl, fun k => by simp [setPartner], fun _ => rfl⟩

theorem setPair_partners (i : Slot) (p : Option Slot) (s : State) : ButPartners s.settings (setPair i p s).settings :=
  ⟨rfl, fun _ => rfl, fun k => by simp [setPair]⟩

/-- The clearance partners agree but for the kind of one slot, which is being written. -/
def PartnersAgreeBut (i : Slot) (c : Settings) : Prop :=
  ∀ a b : Slot, c.functions[a].partner = some b → c.functions[b].partner = some a
    ∧ (a ≠ i → b ≠ i → partnersFit c.functions[a].kind c.functions[b].kind = true)

theorem setPartner_agrees {s : State} {i : Slot} {p : Option Slot} (h : PartnersAgreeBut i s.settings)
    (hp : ∀ q, p = some q → q ≠ i ∧ partnersFit (s.cfg i).kind (s.cfg q).kind = true) :
    (setPartner i p s).settings.PartnersAgree := by
  intro a b hab
  have hk := (setPartner_partners i p s).kind
  have hpart : ∀ k : Slot, ((setPartner i p s).settings.functions[k]).partner
      = partnerAfter i p k (s.settings.functions[k]).partner := fun k => by simp [setPartner]
  have hpi : p ≠ some i := fun he => (hp i he).1 rfl
  rw [hpart] at hab ⊢
  obtain ⟨hba, hcase⟩ := partnerAfter_agrees (f := fun k => (s.settings.functions[k]).partner)
    (fun a b hf => (h a b hf).1) hpi hab
  refine ⟨hba, ?_⟩
  rw [hk a, hk b]
  rcases hcase with ⟨rfl, hq⟩ | ⟨rfl, hq⟩ | ⟨ha, hb, hf⟩
  · exact (hp b hq).2
  · exact (partnersFit_comm _ _).trans (hp a hq).2
  · exact (h a b hf).2 ha hb

theorem applyPartner_cases (i : Slot) (fs : List FieldWrite) (s : State) :
    (∃ p, (applyPartner i fs s).1 = setPartner i p s
        ∧ ∀ q, p = some q → q ≠ i ∧ partnersFit (s.cfg i).kind (s.cfg q).kind = true)
      ∨ (applyPartner i fs s).1 = s
        ∧ ∀ q, (s.cfg i).partner = some q → partnersFit (s.cfg i).kind (s.cfg q).kind = true := by
  unfold applyPartner
  split
  case h_1 =>
    (repeat' split)
    case h_1.isTrue p _ hc => exact .inl ⟨some p, rfl, fun q hq => by cases hq; exact hc⟩
    case h_1.isFalse => exact .inl ⟨none, rfl, nofun⟩
    case h_2 => exact .inl ⟨none, rfl, nofun⟩
  case h_2 =>
    split
    case h_2 hp => exact .inr ⟨rfl, fun q hq => by rw [hp] at hq; cases hq⟩
    case h_1 p hp =>
      simp only
      split
      case isTrue hc => exact .inr ⟨rfl, fun q hq => by rw [hp] at hq; cases hq; exact hc⟩
      case isFalse => exact .inl ⟨none, rfl, nofun⟩

theorem applyPartner_partners (i : Slot) (fs : List FieldWrite) (s : State) :
    ButPartners s.settings (applyPartner i fs s).1.settings := by
  rcases applyPartner_cases i fs s with ⟨p, he, -⟩ | ⟨he, -⟩ <;> rw [he]
  · exact setPartner_partners i p s
  · exact .refl _

theorem applyPartner_agrees {s : State} {i : Slot} (fs : List FieldWrite) (h : PartnersAgreeBut i s.settings) :
    (applyPartner i fs s).1.settings.PartnersAgree := by
  rcases applyPartner_cases i fs s with ⟨p, he, hp⟩ | ⟨he, hp⟩ <;> rw [he]
  · exact setPartner_agrees h hp
  · intro a b hab
    obtain ⟨hba, hfit⟩ := h a b hab
    refine ⟨hba, ?_⟩
    by_cases ha : a = i
    · subst ha; exact hp b hab
    · by_cases hb : b = i
      · subst hb; exact (partnersFit_comm _ _).trans (hp a hba)
      · exact hfit ha hb

/-- The pair partners agree but for the kind of one slot, which is being written. -/
def PairsAgreeBut (i : Slot) (c : Settings) : Prop :=
  ∀ a b : Slot, c.geometry[a].partner = some b → c.geometry[b].partner = some a
    ∧ (a ≠ i → c.functions[a].kind = .jack)

theorem setPair_agrees {s : State} {i : Slot} {p : Option Slot} (h : PairsAgreeBut i s.settings)
    (hp : ∀ q, p = some q → q ≠ i ∧ s.settings.functions[i].kind = .jack ∧ s.settings.functions[q].kind = .jack) :
    (setPair i p s).settings.PairsAgree := by
  intro a b hab
  have hpart : ∀ k : Slot, ((setPair i p s).settings.geometry[k]).partner
      = partnerAfter i p k (s.settings.geometry[k]).partner := fun k => by simp [setPair]
  have hpi : p ≠ some i := fun he => (hp i he).1 rfl
  rw [hpart] at hab ⊢
  obtain ⟨hba, hcase⟩ := partnerAfter_agrees (f := fun k => (s.settings.geometry[k]).partner)
    (fun a b hf => (h a b hf).1) hpi hab
  refine ⟨hba, ?_⟩
  rw [(setPair_partners i p s).kind a, (setPair_partners i p s).kind b]
  rcases hcase with ⟨rfl, hq⟩ | ⟨rfl, hq⟩ | ⟨ha, hb, hf⟩
  · exact (hp b hq).2
  · exact (hp a hq).2.symm
  · exact ⟨(h a b hf).2 ha, (h b a (h a b hf).1).2 hb⟩

/-! ### SET_FUNCTION (R2, R3) -/

/-- The pair of a slot whose kind changes: dropped where it was a JACK and is none any more. -/
def pairDropped (i : Slot) (old : Kind) (s : State) : State :=
  if old = .jack ∧ (s.cfg i).kind ≠ .jack then setPair i none s else s

theorem kindChanged_eq (i : Slot) (old : Kind) (s : State) :
    ∃ w, kindChanged i old s = { pairDropped i old s with wind := w } := by
  simp only [kindChanged, pairDropped]
  split
  · exact ⟨_, rfl⟩
  · exact ⟨_, rfl⟩

theorem pairDropped_eq (i : Slot) (old : Kind) (s : State) :
    pairDropped i old s = { s with settings := (pairDropped i old s).settings } := by
  unfold pairDropped
  split <;> rfl

theorem applyPartner_eq (i : Slot) (fs : List FieldWrite) (s : State) :
    (applyPartner i fs s).1 = { s with settings := (applyPartner i fs s).1.settings } := by
  rcases applyPartner_cases i fs s with ⟨p, he, -⟩ | ⟨he, -⟩
  · rw [he]; rfl
  · rw [he]

theorem pairDropped_partners (i : Slot) (old : Kind) (s : State) :
    ButPartners s.settings (pairDropped i old s).settings := by
  unfold pairDropped
  split
  · exact setPair_partners i none s
  · exact .refl _

theorem pairDropped_agrees {s : State} {i : Slot} {old : Kind} (h : PairsAgreeBut i s.settings)
    (hold : old ≠ .jack → s.settings.geometry[i].partner = none) : (pairDropped i old s).settings.PairsAgree := by
  unfold pairDropped
  split
  case isTrue => exact setPair_agrees h nofun
  case isFalse hn =>
    intro a b hab
    have hjack : ∀ a b : Slot, s.settings.geometry[a].partner = some b → s.settings.functions[a].kind = .jack := by
      intro a b hab
      by_cases ha : a = i
      · subst ha
        by_contra hk
        exact hn ⟨by_contra fun ho => absurd ((hold ho).symm.trans hab) nofun, hk⟩
      · exact (h a b hab).2 ha
    exact ⟨(h a b hab).1, hjack a b hab, hjack b a (h a b hab).1⟩

/-- The configuration that a SET_FUNCTION leaves. -/
def functionWritten (i : Slot) (fs : List FieldWrite) (s : State) : State :=
  pairDropped i (s.cfg i).kind (applyPartner i fs (s.setCfg i (functionAfter fs (s.cfg i)).1)).1

theorem functionWritten_eq (i : Slot) (fs : List FieldWrite) (s : State) :
    functionWritten i fs s = { s with settings := (functionWritten i fs s).settings } := by
  unfold functionWritten
  rw [pairDropped_eq, applyPartner_eq]
  rfl

theorem kindChanged_written (i : Slot) (fs : List FieldWrite) (s : State) :
    ∃ w, kindChanged i (s.cfg i).kind (applyPartner i fs (s.setCfg i (functionAfter fs (s.cfg i)).1)).1
      = { functionWritten i fs s with wind := w } := kindChanged_eq ..

theorem functionWritten_partners (i : Slot) (fs : List FieldWrite) (s : State) :
    ButPartners (s.setCfg i (functionAfter fs (s.cfg i)).1).settings (functionWritten i fs s).settings :=
  (applyPartner_partners i fs _).trans (pairDropped_partners i _ _)

theorem functionWritten_inRange {s : State} {i : Slot} {fs : List FieldWrite} (h : s.settings.InRange) :
    (functionWritten i fs s).settings.InRange := by
  refine (functionWritten_partners i fs s).inRange ?_
  obtain ⟨hs, hl, ht⟩ := h
  rw [slotsInRange_iff] at hs
  refine ⟨(slotsInRange_iff _).mpr fun k => ?_, hl, ht⟩
  simp only [State.setCfg, getElem_set_slot]
  split
  case isFalse => exact hs k
  case isTrue hk =>
    subst hk
    exact ⟨functionAfter_own (hs k).1, functionAfter_dependent fs _, (hs k).2.2⟩

theorem functionWritten_agrees {s : State} {i : Slot} {fs : List FieldWrite} (h : s.settings.Agrees) :
    (functionWritten i fs s).settings.Agrees := by
  obtain ⟨hf, hp, hq, hm, hv⟩ := h
  have hb := functionWritten_partners i fs s
  have hpartner : ∀ k : Slot, ((s.setCfg i (functionAfter fs (s.cfg i)).1).settings.functions[k]).partner
      = (s.settings.functions[k]).partner := fun k => by
    simp only [State.setCfg, getElem_set_slot]
    split
    case isTrue hk => subst hk; exact functionAfter_partner fs (s.cfg k)
    case isFalse => rfl
  have hkind : ∀ k : Slot, k ≠ i → ((s.setCfg i (functionAfter fs (s.cfg i)).1).settings.functions[k]).kind
      = (s.settings.functions[k]).kind := fun k hk => by simp only [State.setCfg, getElem_set_slot, hk, if_false]
  have hpb : PartnersAgreeBut i (s.setCfg i (functionAfter fs (s.cfg i)).1).settings := fun a b hab => by
    rw [hpartner] at hab ⊢
    exact ⟨(hp a b hab).1, fun ha hb => by rw [hkind a ha, hkind b hb]; exact (hp a b hab).2⟩
  have hap := applyPartner_partners i fs (s.setCfg i (functionAfter fs (s.cfg i)).1)
  have hg : (applyPartner i fs (s.setCfg i (functionAfter fs (s.cfg i)).1)).1.settings.geometry = s.settings.geometry := by
    rcases applyPartner_cases i fs (s.setCfg i (functionAfter fs (s.cfg i)).1) with ⟨p, he, -⟩ | ⟨he, -⟩ <;>
      rw [he] <;> rfl
  have hqb : PairsAgreeBut i (applyPartner i fs (s.setCfg i (functionAfter fs (s.cfg i)).1)).1.settings :=
    fun a b hab => by
      rw [hg] at hab ⊢
      obtain ⟨hba, ha, -⟩ := hq a b hab
      exact ⟨hba, fun hai => by rw [hap.kind, hkind a hai]; exact ha⟩
  have hpairs : (functionWritten i fs s).settings.PairsAgree := pairDropped_agrees hqb fun ho => by
    rw [hg]
    by_contra hn
    obtain ⟨b, hb⟩ := Option.ne_none_iff_exists'.mp hn
    exact ho (hq i b hb).2.1
  have hpartners : (functionWritten i fs s).settings.PartnersAgree := by
    have := applyPartner_agrees fs hpb
    unfold functionWritten pairDropped
    split <;> exact this
  refine ⟨hb.fieldsSettled fun k => ?_, hpartners, hpairs, (congrArg (·[0]) hb.masks).trans hm,
    by rw [Settings.CutBelowLow, hb.supply]; exact hv⟩
  simp only [State.setCfg, getElem_set_slot]
  split
  · exact functionAfter_settled fs (s.cfg i)
  · exact hf k

end Sys2Proof.Proofs
end

section
/-! PROOFS. The management commands keep the invariants: the field-wise ones, the operational ones, and the assembly
of their bytes. -/

namespace Sys2Proof.Proofs
open Sys2Proof.Machine Sys2Proof.Laws

section
variable {s t : State} (h : Keeps s t)
include h

/-! ### SET_FUNCTION and SET_GEOMETRY -/

theorem Keeps.functionWritten {i : Slot} {fs : List FieldWrite} : Keeps s (functionWritten i fs t) := by
  have hb := functionWritten_partners i fs t
  rw [functionWritten_eq]
  exact h.configured (congrArg (·.supplyLimit) hb.supply) hb.entries functionWritten_agrees
    fun _ => functionWritten_inRange

theorem Keeps.clearContact {i : Slot} {old : Kind} : Keeps s (clearContact i old t) := h.monitor.ite h

theorem Keeps.testSlides {i : Slot} : Keeps s (testSlides i t) :=
  .fold (fun u _ => (Acts.refl (s := u)).slideTest.keeps) _ h

theorem Keeps.placeAgain {i : Slot} {fs : List FieldWrite} : Keeps s (placeAgain i fs t) := h.putFn

theorem Keeps.kindChanged_written {i : Slot} {fs : List FieldWrite} : Keeps s (kindChanged i (t.cfg i).kind
    (applyPartner i fs (t.setCfg i (functionAfter fs (t.cfg i)).1)).1) := by
  obtain ⟨w, hk⟩ := Proofs.kindChanged_written i fs t
  rw [hk]
  exact h.functionWritten.wind

theorem Keeps.applyFunction {i : Slot} {fs : List FieldWrite} : Keeps s (applyFunction i fs t).1 := by
  have hw := h.kindChanged_written (i := i) (fs := fs)
  unfold Machine.applyFunction
  simp only
  generalize kindChanged i (t.cfg i).kind (applyPartner i fs (t.setCfg i (functionAfter fs (t.cfg i)).1)).1 = u at hw ⊢
  split <;> simp only
  · exact ((hw.clearContact.acts (.unbindFn .refl)).placeAgain.acts (.recheck .refl)).testSlides
  · exact hw.placeAgain.testSlides

end

theorem placeInRange_put {g : Geometry} (h : PlaceInRange g) (f : FieldWrite) :
    PlaceInRange (putGeometryField g f).1 := by
  obtain ⟨h1, h2, h3, h4⟩ := h
  unfold Machine.putGeometryField
  split
  · exact ⟨by simp only [clampIntNote, clampInt]; omega, by simp only [clampIntNote, clampInt]; omega, h3, h4⟩
  · exact ⟨h1, h2, by simp only [clampIntNote, clampInt]; omega, by simp only [clampIntNote, clampInt]; omega⟩
  · exact ⟨h1, h2, h3, h4⟩

theorem putGeometryField_partner (g : Geometry) (f : FieldWrite) : (putGeometryField g f).1.partner = g.partner := by
  unfold Machine.putGeometryField
  split <;> rfl

/-- The place of a slot is written. -/
def placeWritten (i : Slot) (fs : List FieldWrite) (s : State) : State :=
  { s with settings := { s.settings with
    geometry := s.settings.geometry.set i (applyAll putGeometryField fs s.settings.geometry[i]).1 } }

theorem placeWritten_partner (i : Slot) (fs : List FieldWrite) (s : State) (k : Slot) :
    ((placeWritten i fs s).settings.geometry[k]).partner = (s.settings.geometry[k]).partner := by
  simp only [placeWritten, getElem_set_slot]
  split
  case isTrue hk =>
    subst hk
    exact applyAll_keeps (P := fun g => g.partner = (s.settings.geometry[k]).partner)
      (fun x f hx => (putGeometryField_partner x f).trans hx) fs rfl
  case isFalse => rfl

theorem applyPair_cases (i : Slot) (fs : List FieldWrite) (s : State) :
    (∃ p, (applyPair i fs s).1 = setPair i p s
        ∧ ∀ q, p = some q → q ≠ i ∧ s.settings.functions[i].kind = .jack ∧ s.settings.functions[q].kind = .jack)
      ∨ (applyPair i fs s).1 = s := by
  unfold applyPair
  (repeat' split)
  case h_1 => exact .inr rfl
  case h_1.isTrue p _ hc =>
    obtain ⟨hpi, hi, hp⟩ := hc
    exact .inl ⟨some p, rfl, fun q hq => by cases hq; exact ⟨hpi, beq_iff_eq.mp hi, beq_iff_eq.mp hp⟩⟩
  case h_1.isFalse => exact .inl ⟨none, rfl, nofun⟩
  case h_2 => exact .inl ⟨none, rfl, nofun⟩

section
variable {s t : State} (h : Keeps s t)
include h

theorem Keeps.placeWritten {i : Slot} {fs : List FieldWrite} : Keeps s (placeWritten i fs t) := by
  refine h.configured rfl rfl (fun ⟨hf, hp, hq, hm, hv⟩ => ⟨hf, hp, fun a b hab => ?_, hm, hv⟩)
    fun _ ⟨hs, hl, ht⟩ => ⟨(slotsInRange_iff _).mpr fun k => ?_, hl, ht⟩
  · have ha := placeWritten_partner i fs t a
    have hb := placeWritten_partner i fs t b
    exact ⟨hb.trans (hq a b (ha.symm.trans hab)).1, (hq a b (ha.symm.trans hab)).2⟩
  · obtain ⟨ho, hd, hp⟩ := (slotsInRange_iff _).mp hs k
    refine ⟨ho, hd, ?_⟩
    simp only [getElem_set_slot]
    split
    case isTrue hk => subst hk; exact applyAll_keeps (P := PlaceInRange) (fun _ f hx => placeInRange_put hx f) fs hp
    case isFalse => exact hp

/-- Only partners change, and they agree. -/
theorem Keeps.butPartners {c : Settings} (hb : ButPartners t.settings c)
    (hp : t.settings.Agrees → c.PartnersAgree ∧ c.PairsAgree) : Keeps s { t with settings := c } :=
  h.configured (congrArg (·.supplyLimit) hb.supply) hb.entries
    (fun ha => by
      obtain ⟨hpa, hq⟩ := hp ha
      obtain ⟨hf, -, -, hm, hv⟩ := ha
      exact ⟨hb.fieldsSettled hf, hpa, hq, (congrArg (·[0]) hb.masks).trans hm,
        by simpa only [Settings.CutBelowLow, hb.supply] using hv⟩)
    fun _ => hb.inRange

theorem Keeps.setPair {i : Slot} {p : Option Slot}
    (hp : ∀ q, p = some q → q ≠ i ∧ t.settings.functions[i].kind = .jack ∧ t.settings.functions[q].kind = .jack) :
    Keeps s (setPair i p t) :=
  h.butPartners (setPair_partners i p t) fun ⟨_, hpa, hq, _, _⟩ =>
    ⟨hpa, setPair_agrees (fun a b hab => ⟨(hq a b hab).1, fun _ => (hq a b hab).2.1⟩) hp⟩

theorem Keeps.applyPair {i : Slot} {fs : List FieldWrite} : Keeps s (applyPair i fs t).1 := by
  rcases applyPair_cases i fs t with ⟨p, he, hp⟩ | he <;> rw [he]
  · exact h.setPair hp
  · exact h

theorem Keeps.applyGeometry {i : Slot} {fs : List FieldWrite} : Keeps s (applyGeometry i fs t).1 :=
  (h.placeWritten (i := i) (fs := fs)).applyPair

end

/-! ### The other field-wise commands -/

theorem levelParams_put {p : LevelParams} (h : p.InRange) (f : FieldWrite) : (putLevellingField p f).1.InRange := by
  unfold putLevellingField
  split <;> simp only [into, LevelParams.InRange, clampNote, clampNat, sensorField] at h ⊢ <;> grind

theorem timesInRange_manifold {c : Settings} {m : ManifoldConfig} (h : Settings.TimesInRange { c with manifold := m })
    (f : FieldWrite) : Settings.TimesInRange { c with manifold := (putManifoldField m f).1 } := by
  unfold putManifoldField
  split <;> simp only [into, Settings.TimesInRange, clampNote, clampNat] at h ⊢ <;> grind

theorem timesInRange_supply {c : Settings} {v : SupplyConfig} (h : Settings.TimesInRange { c with supply := v })
    (f : FieldWrite) : Settings.TimesInRange { c with supply := (putSupplyField v f).1 } := by
  unfold putSupplyField
  split <;> simp only [into, Settings.TimesInRange, clampNote, clampNat] at h ⊢ <;> grind

theorem timesInRange_timing {c : Settings} {p : Timing × WindConfig}
    (h : Settings.TimesInRange { c with timing := p.1, wind := p.2 }) (f : FieldWrite) :
    Settings.TimesInRange { c with timing := (putTimingField p f).1.1, wind := (putTimingField p f).1.2 } := by
  unfold putTimingField
  split <;> simp only [into, Settings.TimesInRange, clampNote, clampNat] at h ⊢ <;> grind

/-- The settling of the supply's fields keeps their ranges, the claims held being within a limit (R68). -/
theorem timesInRange_settled {c : Settings} {v : SupplyConfig} {held : Nat} (hh : held ≤ 400)
    (h : Settings.TimesInRange { c with supply := v }) : Settings.TimesInRange { c with supply := settleSupply held v } := by
  unfold settleSupply
  simp only
  (repeat' split) <;> simp only [Settings.TimesInRange] at h ⊢ <;> grind

/-- A signal's own fields in their ranges (R25). -/
def SignalInRange (g : Signal) (x : SignalConfig) : Prop :=
  100 ≤ x.staleLimit ∧ x.staleLimit ≤ 10000 ∧ x.safeValue ≤ signalMax g

theorem signalInRange_put {g : Signal} {x : SignalConfig} (h : SignalInRange g x) (f : FieldWrite) :
    SignalInRange g (putSignalField g x f).1 := by
  obtain ⟨h1, h2, h3⟩ := h
  unfold putSignalField
  split
  · exact ⟨(clampNote_mem (by decide)).1, (clampNote_mem (by decide)).2, h3⟩
  · exact ⟨h1, h2, h3⟩
  · exact ⟨h1, h2, clampNote_le⟩
  · exact ⟨h1, h2, h3⟩
  · exact ⟨h1, h2, h3⟩

theorem signalIndex_injective {g k : Signal} (h : (signalIndex g).val = (signalIndex k).val) : g = k := by
  cases g <;> cases k <;> first | rfl | cases h

theorem supplyLimit_le {c : Settings} (h : c.TimesInRange) : c.supply.supplyLimit ≤ 400 := by
  obtain ⟨-, -, -, -, -, -, -, -, -, -, hlimit, -⟩ := h
  exact hlimit

theorem signals_inRange {c : Settings} (h : c.TimesInRange) :
    (∀ g : Signal, SignalInRange g c.signals[signalIndex g]) ∧ c.travelSpeed ≤ 100 := by
  obtain ⟨-, -, -, -, -, -, -, -, -, -, -, -, -, -, -, -, -, hsignals, hspeed, -⟩ := h
  exact ⟨hsignals, hspeed⟩

theorem settleSupply_limit (held : Nat) (c : SupplyConfig) :
    (settleSupply held c).supplyLimit = max c.supplyLimit held := by
  unfold settleSupply
  simp only
  (repeat' split) <;> rfl

theorem settleSupply_cut (held : Nat) (c : SupplyConfig) :
    (settleSupply held c).vCut < (settleSupply held c).vLow := by
  unfold settleSupply
  simp only
  (repeat' split) <;> simp only <;> omega

theorem timesInRange_signal {c : Settings} {g : Signal} {x : SignalConfig} {speed : Nat} (h : c.TimesInRange)
    (hx : SignalInRange g x) (hs : speed ≤ 100) :
    Settings.TimesInRange { c with signals := c.signals.set (signalIndex g) x, travelSpeed := speed } := by
  have hsig : ∀ k : Signal, SignalInRange k (c.signals.set (signalIndex g) x)[signalIndex k] := fun k => by
    by_cases hk : (signalIndex g).val = (signalIndex k).val
    · cases signalIndex_injective hk
      simpa using hx
    · have hne : (c.signals.set (signalIndex g) x)[signalIndex k] = c.signals[signalIndex k] :=
        Vector.getElem_set_ne _ _ hk
      rw [hne]
      exact (signals_inRange h).1 k
  simp only [Settings.TimesInRange, SignalInRange] at h hsig ⊢
  grind

section
variable {s t : State} (h : Keeps s t)
include h

theorem Keeps.rebind {is : List Slot} : Keeps s (rebind is t).1 := h.acts (.rebind .refl)

theorem Keeps.applyLevelling {fs : List FieldWrite} : Keeps s (applyLevelling fs t).1 := by
  have hw : Keeps s { t with settings := { t.settings with
      levelling := (applyAll putLevellingField fs t.settings.levelling).1 } } :=
    h.configured rfl rfl id fun _ ⟨hs, hl, ht⟩ => ⟨hs, applyAll_keeps (P := LevelParams.InRange) (fun _ f hx => levelParams_put hx f) fs hl, ht⟩
  unfold Machine.applyLevelling
  simp only
  split <;> simp only
  · exact hw.rebind
  · exact hw

theorem Keeps.applyManifold {fs : List FieldWrite} : Keeps s (applyManifold fs t).1 := by
  have hw : Keeps s { t with settings := { t.settings with
      manifold := (applyAll putManifoldField fs t.settings.manifold).1 } } :=
    h.configured rfl rfl id fun _ ⟨hs, hl, ht⟩ => ⟨hs, hl, applyAll_keeps
      (P := fun m => Settings.TimesInRange { t.settings with manifold := m })
      (fun _ f hx => timesInRange_manifold hx f) fs ht⟩
  unfold Machine.applyManifold
  simp only
  split <;> simp only
  · exact hw.setManifold.rebind
  · exact hw.setManifold

theorem Keeps.applySupply {fs : List FieldWrite} : Keeps s (applySupply fs t).1 := by
  refine Keeps.judgeLowSupply { h with
    claims := fun hs => ⟨?_, limitAt_le _ _⟩
    agreed := fun hs => ⟨?_, (h.agreed hs).2⟩
    ranged := fun hc hr hs => ⟨?_, (h.ranged hc hr hs).2⟩ }
  · exact Nat.le_trans (Nat.le_max_right _ _) (Nat.le_of_eq (settleSupply_limit _ _).symm)
  · obtain ⟨hf, hp, hq, hm, -⟩ := (h.agreed hs).1
    exact ⟨hf, hp, hq, hm, settleSupply_cut _ _⟩
  · obtain ⟨hs, hl, ht⟩ := (h.ranged hc hr hs).1
    have hlim := supplyLimit_le ht
    exact ⟨hs, hl, timesInRange_settled (Nat.le_trans (h.claims hc).1 hlim) (applyAll_keeps
      (P := fun v => Settings.TimesInRange { t.settings with supply := v })
      (fun _ f hx => timesInRange_supply hx f) fs ht)⟩

theorem Keeps.applySafeValue {g : Signal} {old new : SignalConfig} : Keeps s (applySafeValue g old new t) := by
  unfold Machine.applySafeValue
  simp only
  (repeat' split)
  · exact h.setSignal
  · exact h.setSignal.handOver
  · exact h

theorem Keeps.applySignal {g : Signal} {fs : List FieldWrite} : Keeps s (applySignal g fs t).1 := by
  have hw : ∀ {x speed}, (t.settings.TimesInRange → SignalInRange g x ∧ speed ≤ 100) →
      Keeps s { t with settings := { t.settings with
        signals := t.settings.signals.set (signalIndex g) x, travelSpeed := speed } } := fun hx =>
    h.configured rfl rfl id fun _ ⟨hs, hl, ht⟩ => ⟨hs, hl, timesInRange_signal ht (hx ht).1 (hx ht).2⟩
  refine Keeps.applySafeValue (hw fun ht => ⟨?_, ?_⟩)
  · exact applyAll_keeps (P := SignalInRange g) (fun _ f hx => signalInRange_put hx f) fs ((signals_inRange ht).1 g)
  · split
    · exact (clampNat_mem (Nat.zero_le 100)).2
    · exact (signals_inRange ht).2

theorem Keeps.applyTiming {fs : List FieldWrite} : Keeps s (applyTiming fs t).1 := by
  have hw : Keeps s { t with settings := { t.settings with
      timing := (applyAll putTimingField fs (t.settings.timing, t.settings.wind)).1.1
      wind := (applyAll putTimingField fs (t.settings.timing, t.settings.wind)).1.2 } } :=
    h.configured rfl rfl id fun _ ⟨hs, hl, ht⟩ => ⟨hs, hl, applyAll_keeps
      (P := fun p : Timing × WindConfig => Settings.TimesInRange { t.settings with timing := p.1, wind := p.2 })
      (fun _ f hx => timesInRange_timing hx f) fs ht⟩
  unfold Machine.applyTiming
  simp only
  split
  · exact hw.acts (.windJudged .refl)
  · exact hw

/-- What a field-wise command applies keeps the invariants. -/
theorem Keeps.fieldCommand {code : CommandCode} {selector : Byte} {c : FieldCommand}
    (hc : fieldCommand code selector = some c) {fs : List FieldWrite} : Keeps s (c.apply fs t).1 := by
  unfold Machine.fieldCommand at hc
  split at hc
  · obtain ⟨i, -, rfl⟩ := Option.map_eq_some_iff.mp hc; exact h.applyFunction
  · obtain ⟨i, -, rfl⟩ := Option.map_eq_some_iff.mp hc; exact h.applyGeometry
  · cases hc; exact h.applyLevelling
  · cases hc; exact h.applyManifold
  · cases hc; exact h.applySupply
  · obtain ⟨g, -, rfl⟩ := Option.map_eq_some_iff.mp hc; exact h.applySignal
  · cases hc; exact h.applyTiming
  · cases hc

theorem Keeps.applyFields {code : CommandCode} {selector : Byte} {fs : List FieldWrite} :
    Keeps s (applyFields code selector fs t).state := by
  unfold Machine.applyFields
  split
  case h_1 => exact h
  case h_2 c hc =>
    (repeat' split)
    · exact h
    · exact h
    · exact h.fieldCommand hc

/-! ### The operational commands (R185 to R189) -/

theorem Keeps.censusCommand : Keeps s (censusCommand t).state := by
  unfold Machine.censusCommand
  split
  · exact h
  · simp only
    exact h.abandonCensus.startCensus

theorem Keeps.haltCommand : Keeps s (haltCommand t).state := by
  simp only [Machine.haltCommand]
  exact h.acts (.haltEffects .refl)

theorem Keeps.jog {slot verb : Byte} {distance : Word16} : Keeps s (jog slot verb distance t).state := by
  unfold Machine.jog
  simp only
  (repeat' split)
  · exact h
  · exact h
  · exact h
  · exact h.acts (.accept .refl)
  · exact h

/-- The image of a STORE is built from the configuration as it stands. -/
theorem Keeps.beginStore {tag : Byte} : Keeps s (beginStore tag t) :=
  { h with
    agreed := fun hs => by
      obtain ⟨h1, h2, -⟩ := h.agreed hs
      exact ⟨h1, h2, fun w hw => by cases hw; exact h1⟩
    ranged := fun hc hr hs => by
      obtain ⟨h1, h2, -⟩ := h.ranged hc hr hs
      exact ⟨h1, h2, fun w hw => by cases hw; exact h1⟩ }

theorem Keeps.beginRestart : Keeps s (beginRestart t) := h.same {}

/-! ### Carrying a command out -/

theorem Keeps.answerTo {code : CommandCode} {ps : List Byte} : Keeps s (answerTo code ps t).state := by
  cases code with
  | writeEntry => exact h.writeEntry
  | appendEntry => exact h.appendEntry
  | setEntryState => exact h.entryStateCommand
  | mark => exact h.markEntries
  | probe => exact (probe_state ..).symm ▸ h
  | clearHits => exact h.clearHits
  | writeMask => exact h.writeMask
  | setWindow => exact h.setWindow
  | writeCells => exact h
  | swapMatrix => exact h.swapMatrix
  | setFunction => exact h.applyFields
  | setGeometry => exact h.applyFields
  | setLevelling => exact h.applyFields
  | setManifold => exact h.applyFields
  | setSupply => exact h.applyFields
  | setSignal => exact h.applyFields
  | setTiming => exact h.applyFields
  | read => exact h.readRecord
  | census => exact h.censusCommand
  | halt => exact h.haltCommand
  | jog => exact h.jog
  | store => exact h
  | restart => exact h.beginRestart

theorem Keeps.carryOut {code : CommandCode} {tag : Byte} {ps : List Byte} : Keeps s (carryOut code tag ps t).1 := by
  unfold Machine.carryOut
  split <;> simp only [reply]
  · exact h.beginStore
  · exact h.answerTo.queueReply

theorem Keeps.transact {code : CommandCode} {tag : Byte} {ps : List Byte} : Keeps s (transact code tag ps t).1 := by
  unfold Machine.transact
  simp only [reply]
  split
  · exact h.queueReply
  · exact h.gather.carryOut

theorem Keeps.advance {a : Assembly} : Keeps s (advance a t).1 := by
  unfold Machine.advance
  split
  · exact h.assembly.carryOut
  · exact h.assembly

theorem Keeps.startCommand {f : Frame} : Keeps s (startCommand f t).1 := by
  unfold Machine.startCommand
  simp only [reply]
  split
  · exact h.queueReply
  · split
    · exact h.queueReply
    · exact h.gather.advance

theorem Keeps.endFields {a : Assembly} {k : Nat} {why : ReplyOutcome} : Keeps s (endFields a k why t).state := by
  unfold Machine.endFields
  simp only
  (repeat' split)
  · exact h
  · exact h.applyFields
  · exact h.applyFields

theorem Keeps.endAssembly {a : Assembly} {why : ReplyOutcome} : Keeps s (endAssembly a why t).1 := by
  unfold Machine.endAssembly
  simp only [reply]
  split
  · exact h.assembly.queueReply
  · exact h.assembly.endFields.queueReply
  · exact h.assembly.queueReply

theorem Keeps.breakAssembly : Keeps s (breakAssembly t).1 := by
  unfold Machine.breakAssembly
  split
  · exact h
  · exact h.endAssembly

theorem Keeps.continueCommand {f : Frame} : Keeps s (continueCommand f t).1 := by
  unfold Machine.continueCommand
  split
  · exact h
  · simp only
    (repeat' split)
    · exact h.endAssembly
    · exact h.gather.endAssembly
    · exact h.gather.advance

theorem Keeps.takeCommand {f : Frame} : Keeps s (takeCommand f t).1 := h.touchDoze.breakAssembly

theorem Keeps.takeTransaction {code : CommandCode} {tag : Byte} {ps : List Byte} :
    Keeps s (takeTransaction code tag ps t).1 := h.touchDoze.breakAssembly

end

end Sys2Proof.Proofs
end

section
/-! PROOFS. Every step keeps the invariants: each first change, each task, each judgement, a start, and the passing
of time. Settles O55, O56, O57, O58 and O59. -/

namespace Sys2Proof.Proofs
open Sys2Proof.Machine Sys2Proof.Laws

section
variable {s t : State} (h : Keeps s t)
include h

/-! ### Tasks and judgements -/

theorem Keeps.handle (k : Task) : Keeps s (handle k t).1 := by
  cases k with
  | chain port f n => exact h.chain
  | press i d src => exact h.acts (.press .refl)
  | operator i v => exact h.acts (.operatorTask .refl)
  | sequence which => exact h.acts (.operatorSequence .refl)
  | travelStow => exact h.acts (.travelStow .refl)
  | groundRequest i => exact h.acts (.groundRequest .refl)
  | liftRequest i => exact h.acts (.liftRequest .refl)
  | stowRequest i => exact h.acts (.stowRequest .refl)
  | stepEnd => exact h.acts (.stepEnd .refl)
  | gustRetract i => exact h.acts (.gustRetract .refl)
  | travelRetract i => exact h.acts (.travelRetract .refl)
  | owedRetract i => exact h.acts (.owedRetract .refl)
  | servicePass => simp only [Machine.handle]; exact h.acts (.servicePass .refl)
  | clearance i => simp only [Machine.handle]; exact h.acts (.clearanceStop .refl)
  | judgeMove i => simp only [Machine.handle]; exact h.acts (.judgeMove .refl)
  | judgeSequence => simp only [Machine.handle]; exact h.acts (.judgeSequence .refl)
  | slotReport i d => exact h.acts (.slotReport .refl)
  | pumpReport p => simp only [Machine.handle]; exact h.acts (.pumpPressure .refl)
  | stopResend d seen => simp only [Machine.handle]; exact h.resendStop
  | becomeIdle i => exact h.acts (.becomeIdle .refl)
  | command f => exact h.startCommand
  | continuation f => exact h.continueCommand
  | transact code tag ps => exact h.transact

theorem Keeps.judgeDozeTimer : Keeps s (judgeDozeTimer t) := h.dozeTimer

theorem Keeps.react {waiting : List Task} {r : State × List Task} (hr : react waiting t = some r) : Keeps s r.1 := by
  unfold Machine.react at hr
  split at hr
  case isTrue => cases hr; exact h.changePosture
  (repeat' split at hr) <;> cases hr <;> simp only
  · exact h.judgePowerLine
  · exact h.setAlarm
  · exact h.dutyExpired
  · exact h.acts (.holdOnPump .refl)
  · exact h.setManifold
  · exact h.exchangeBanks
  · exact h.acts (.endGround .refl)
  · exact h.acts (.endStow .refl)
  · exact h.judgeDozeTimer

theorem Keeps.run (n : Nat) (ts : List Task) : Keeps s (run n ts t) := by
  induction n generalizing ts t with
  | zero => exact h.ite (h.same {})
  | succ n ih =>
    simp only [Machine.run]
    split
    case h_1 r hr => exact ih (h.react hr) _
    case h_2 =>
      split
      case h_1 => exact h
      case h_2 => exact ih (h.handle _) _

/-! ### The first change of each command -/

omit h in
theorem Keeps.change {f : State → State} (h : Keeps s (f t)) : Keeps s (change f t).1 := h

theorem Keeps.stopAllRises : Keeps s (stopAllRises t) :=
  Keeps.acts (t := setStopAll true t) (h.same {}) (.haltEffects .refl)

/-- The due marks are read by no invariant. -/
theorem Keeps.setDue : Keeps s (setDue t) := h.same {}

theorem Keeps.refreshExpired : Keeps s (refreshExpired t) := by
  have hc : Keeps s { t with orders := { t.orders.restarted t.now t.settings.timing.refreshPeriod with
      cycle := nextSequence t.orders.cycle } } := h.same {}
  exact (KeepsOpen.placeDue (Keeps.setDue (.fold (fun u _ => (Acts.refl (s := u)).reorder.keeps) _
    hc.offerBeat)).toKeepsOpen).pumped

theorem Keeps.statusExpired : Keeps s (statusExpired t) :=
  .fold (fun u _ => (Keeps.refl u).functionFrame) _ h.statusTimer.postureFrame

/-- The image written takes the place of the one held. -/
theorem Keeps.imageWritten {w : Storing} (hw : t.store.storing = some w) :
    Keeps s { t with store := { t.store with storing := none, image := w.image } } :=
  { h with
    agreed := fun hs => by
      obtain ⟨h1, -, h3⟩ := h.agreed hs
      exact ⟨h1, fun _ => h3 w hw, nofun⟩
    ranged := fun hc hr hs => by
      obtain ⟨h1, -, h3⟩ := h.ranged hc hr hs
      exact ⟨h1, fun _ => h3 w hw, nofun⟩ }

theorem Keeps.endStore : Keeps s (endStore t).1 := by
  unfold Machine.endStore
  split
  · exact h
  case h_2 w hw => simp only; exact (h.imageWritten hw).queueReply

theorem Keeps.takeHead {port : Port} {fits : State → Frame → Bool} {act : Frame → State → State × List Task}
    (ha : ∀ f u, Keeps s u → Keeps s (act f u).1) : Keeps s (takeHead port fits act t).1 := by
  unfold Machine.takeHead
  (repeat' split)
  · exact ha _ _ h.dropHead
  · exact h
  · exact h

theorem Keeps.whenRuns {x : Timer} {act : State → State × List Task} (ha : Keeps s (act t).1) :
    Keeps s (whenRuns x act t).1 := by
  unfold Machine.whenRuns
  split
  · exact ha
  · exact h

theorem Keeps.settleExpired {i : Slot} : Keeps s (settleExpired i t).1 := h.verify.acts (.jackRested .refl)

theorem Keeps.firstOf (c : Instr) : Keeps s (firstOf c t).1 := by
  unfold Proofs.firstOf
  split
  case h_1 => exact h.takeTransaction
  case h_2 =>
    split
    · exact Keeps.change h.stopAllRises
    · exact Keeps.change (h.same {})
    · exact Keeps.change h.receiveC
    · exact Keeps.change h.receiveM
    · exact h.takeHead fun _ _ hu => hu.chain
    · exact h.takeHead fun _ _ hu => hu.takeCommand
    · exact h.takeHead fun _ _ hu => hu.touchDoze
    · exact h.takeHead fun _ _ hu => hu.touchDoze
    · exact h.takeHead fun _ _ hu => hu.takeReport
    · exact h.takeHead fun _ _ hu => hu.takeTilt
    · exact h.takeHead fun _ _ hu => hu.enrolAnswer
    · exact h.takeHead fun _ _ hu => hu.stray
    · exact Keeps.change h.sentC
    · exact Keeps.change h.sentM
    · exact Keeps.change h.offC
    · exact Keeps.change h.onC
    · exact Keeps.change h.offM
    · exact Keeps.change h.onM
    · exact h.whenRuns (Keeps.change (h.acts (.holdExpired .refl)))
    · exact h.whenRuns h.settleExpired
    · exact h.whenRuns (Keeps.change h.staleExpired)
    · exact h.whenRuns (h.acts (.contactLost .refl))
    · exact h.whenRuns (Keeps.change (h.acts (.waitExpired .refl)))
    · exact h.whenRuns (Keeps.change (h.acts (.primeExpired .refl)))
    · exact h.whenRuns (Keeps.change (h.acts (.stopPump .refl)))
    · exact h.whenRuns (Keeps.change (h.acts (.restExpired .refl)))
    · exact Keeps.change h.dutyReachedNow
    · exact h.whenRuns (Keeps.change h.coolDownOver)
    · exact h.whenRuns (Keeps.change h.lowSupplyExpired)
    · exact h.whenRuns (Keeps.change (h.acts (.levelSettled .refl)))
    · exact h.whenRuns (Keeps.change (h.acts (.endSequenceAs .refl)))
    · exact h.whenRuns (Keeps.change (h.acts (.stallExpired .refl)))
    · exact h.whenRuns h.gustExpired
    · exact h.whenRuns (Keeps.change h.calmExpired)
    · exact h.whenRuns h.enrolmentExpired
    · exact h.whenRuns (Keeps.change h.silentNode)
    · exact h.whenRuns (Keeps.change h.refreshExpired)
    · exact h.whenRuns (Keeps.change h.statusExpired)
    · exact h.whenRuns (Keeps.change h.enterDoze)
    · exact h.endStore
    · exact h

end

/-! ### A start -/

theorem factory_function (i : Slot) : Settings.factory.functions[i] = FunctionConfig.factory :=
  Vector.getElem_replicate ..

theorem factory_geometry (i : Slot) : Settings.factory.geometry[i] = ⟨0, 0, none⟩ := Vector.getElem_replicate ..

theorem factory_agrees : Settings.factory.Agrees := by
  refine ⟨fun i => ?_, fun i k h => ?_, fun i k h => ?_, Vector.getElem_replicate .., ?_⟩
  · rw [factory_function]; decide
  · rw [factory_function] at h; cases h
  · rw [factory_geometry] at h; cases h
  · unfold Settings.CutBelowLow; decide

theorem factory_inRange : Settings.factory.InRange := by
  refine ⟨fun i => ?_, ⟨nofun, by decide⟩, ?_⟩
  · simp only [factory_function, factory_geometry]; decide
  · have hs : ∀ g : Signal, SignalInRange g factorySignals[signalIndex g] := fun g => by
      cases g <;> exact ⟨by decide, by decide, by decide⟩
    exact ⟨by decide, by decide, by decide, by decide, by decide, by decide, by decide, by decide, by decide,
      by decide, by decide, by decide, by decide, by decide, by decide, by decide, by decide, hs, by decide⟩

/-- A start's image is the one held, cut where it was being written. -/
theorem cutImage_every {P : Settings → Prop} {s : State} (hf : P Settings.factory) (hs : s.EveryConfiguration P) :
    P s.store.cutImage.load ∧ (s.store.cutImage.agrees = true → P s.store.cutImage.settings) := by
  obtain ⟨-, hi, -⟩ := hs
  have hc : s.store.cutImage.agrees = true → P s.store.cutImage.settings := fun ha => by
    cases hw : s.store.storing with
    | none => rw [cutImage_whole hw] at ha ⊢; exact hi ha
    | some w => rw [cutImage_agrees (by simp [hw])] at ha; cases ha
  refine ⟨?_, hc⟩
  unfold Image.load
  split
  case isTrue ha => exact hc ha
  case isFalse => exact hf

theorem Keeps.blank (s : State) (inputs : Inputs) (straps : Straps) (pending : List Instr) :
    Keeps s (blank inputs s.store.cutImage straps pending) where
  claims _ := ⟨Nat.zero_le _, limitAt_le _ _⟩
  capacity _ := ⟨Nat.zero_le _, Nat.zero_le _, Nat.zero_le _, Nat.zero_le _, Nat.zero_le _⟩
  subjects _ := fun _ => Nat.zero_le _
  channels _ := fun _ _ => Nat.zero_le _
  nextFree _ := rfl
  linkProtect _ := nofun
  agreed hs := ⟨(cutImage_every factory_agrees hs).1, (cutImage_every factory_agrees hs).2, nofun⟩
  enrol _ := fun _ => ⟨rfl, nofun, rfl, rfl, rfl⟩
  raws _ := rawsFit_of_absent (nodes_of_replicate rfl)
  ranged _ _ hs := ⟨(cutImage_every factory_inRange hs).1, (cutImage_every factory_inRange hs).2, nofun⟩
  drained _ := fun _ => .inr (.inr ⟨rfl, rfl, rfl⟩)

theorem Keeps.startAlarm {s t : State} (h : Keeps s t) : Keeps s (startAlarm t) := h.alarmFrame.ite h

theorem Keeps.startTimers {s t : State} (h : Keeps s t) : Keeps s (startTimers t) := h.same {}

theorem Keeps.boot {s : State} (inputs : Inputs) (straps : Straps) (pending : List Instr) :
    Keeps s (boot inputs s.store.cutImage straps pending) := by
  unfold Machine.boot
  exact (((Keeps.blank s inputs straps pending).startTimers.startAlarm.acts (.windJudged .refl)).judgeDozeTimer).startCensus

/-! ### Every step -/

theorem Reached.keeps {s t : State} (h : Reached s t) : Keeps s t := by
  cases h with
  | same => exact .refl s
  | lines inputs straps => exact (Keeps.refl s).same {}
  | off inputs => exact .blank s _ _ _
  | start inputs straps => exact (Keeps.boot inputs straps s.pending).run _ _
  | change c => exact ((Keeps.refl s).firstOf c).run _ _

/-- Every step keeps every invariant. -/
theorem step_keeps {s t : State} (h : step s = .next t) : Keeps s t := by
  rcases step_cases h with ⟨c, rest, -, hc⟩ | ⟨-, rfl⟩
  · exact Keeps.trans (t := { s with pending := rest }) ((Keeps.refl s).same {}) (Reached.of_exec hc).keeps
  · rcases idle_cases s with he | ⟨c, he⟩ | he <;> rw [he]
    · exact .refl s
    · exact (Keeps.refl s).same {}
    · exact (Keeps.refl s).same {}

/-- Settles O55. -/
theorem everyStepKeepsTheClaimsWithinTheLimit : Obligations.EveryStepKeepsTheClaimsWithinTheLimit :=
  fun _ _ hs h => (step_keeps h).claims hs

/-- Settles O56. -/
theorem everyStepKeepsTheQueuesWithinCapacity : Obligations.EveryStepKeepsTheQueuesWithinCapacity :=
  fun _ _ hc hs hn h => ⟨(step_keeps h).capacity hc, (step_keeps h).subjects hs, (step_keeps h).channels hn⟩

/-- Settles O57. -/
theorem everyStepKeepsNextFreeAndLinkProtect : Obligations.EveryStepKeepsNextFreeAndLinkProtect :=
  fun _ _ hn hl h => ⟨(step_keeps h).nextFree hn, (step_keeps h).linkProtect hl⟩

/-- Settles O58. -/
theorem everyStepKeepsTheConfigurationAgreed : Obligations.EveryStepKeepsTheConfigurationAgreed :=
  fun _ _ hs h => (step_keeps h).agreed hs

/-! ### The reset state -/

/-- At a start every signal has its safe value (R25). -/
theorem startSignals_value (c : Settings) (g : Signal) :
    (startSignals c)[signalIndex g].value = c.signals[signalIndex g].safeValue := by
  simp [startSignals]

theorem reset_ignition : State.reset.value .ignition = 0 := startSignals_value Settings.factory .ignition

theorem reset_doze : State.reset.store.dozeTimer.isSome = dozeHolds State.reset := by
  simp only [dozeHolds, reset_ignition]
  decide

theorem reset_postureHolds : State.reset.PostureHolds := fun _ _ => ⟨by decide, by decide, by decide⟩

theorem reset_workSettled : State.reset.WorkSettled := fun _ _ =>
  ⟨by decide, by decide, nofun, by decide, by decide, reset_doze⟩

theorem reset_claims : State.reset.ClaimsWithinLimit := ⟨Nat.zero_le _, Nat.zero_le _⟩

theorem reset_capacity : State.reset.WithinCapacity := by
  unfold State.WithinCapacity
  decide

theorem reset_nextFree : State.reset.NextFreeIsLowest := by
  unfold State.NextFreeIsLowest
  decide

/-- The image and the configuration of the reset state are the factory ones. -/
theorem reset_every {P : Settings → Prop} (h : P Settings.factory) : State.reset.EveryConfiguration P :=
  ⟨h, fun _ => h, nofun⟩

/-- Settles O53. -/
theorem resetMeetsEveryInvariant : Obligations.ResetMeetsEveryInvariant :=
  ⟨rfl, reset_postureHolds, reset_workSettled, reset_claims, reset_capacity, fun _ => List.countP_le_length,
    fun _ _ => Nat.zero_le _, reset_nextFree, nofun, reset_every factory_agrees⟩

/-- Settles O59. -/
theorem everyStepKeepsLinkAndRanges : Obligations.EveryStepKeepsLinkAndRanges :=
  ⟨⟨drained_of_sending rfl, enrol_of_running rfl, rawsFit_of_absent (nodes_of_replicate rfl),
      reset_every factory_inRange⟩,
    fun _ _ h => ⟨(step_keeps h).drained, (step_keeps h).enrol, (step_keeps h).raws, (step_keeps h).ranged⟩⟩

end Sys2Proof.Proofs
end

section
/-! PROOFS. The frame path: the ports' sendings in their order, and the full C-port queue. Settles O10, O11 and
O13. -/

namespace Sys2Proof.Proofs
open Sys2Proof.Machine Sys2Proof.Laws

/-! ### The C-port (R143, R152) -/

theorem pumpC_next {s : State} {e : TxEntry} {rest : List TxEntry} (ht : s.path.cTransmit = none)
    (ha : s.path.cState = .active) (hq : s.path.cQueue = e :: rest) :
    pumpC s = { s with path := { s.path with cTransmit := some e, cQueue := rest } } := by
  simp only [pumpC, ht, ha, hq]

theorem pumpC_sending {s : State} (ht : s.path.cTransmit.isSome = true) : pumpC s = s := by
  obtain ⟨e, he⟩ := Option.isSome_iff_exists.mp ht
  simp only [pumpC, he]

theorem pumpC_empty {s : State} (hq : s.path.cQueue = []) : pumpC s = s := by
  simp only [pumpC, hq]
  split <;> simp_all

/-- The end of a sending restarts the part only where a RESTART is taken. -/
theorem not_restartsAt {s : State} (hr : s.store.restart = none) (c : Instr) : restartsAt c s = false := by
  cases c <;> simp [restartsAt, restartSent, hr]

/-- Settles O10: nothing follows from a C-port sending. -/
theorem cPortSendsItsQueueInOrder : Obligations.CPortSendsItsQueueInOrder := by
  intro s e rest hs
  have hq : ∀ {c : Instr} {p : FramePath}, ofLines c = false → restartsAt c s = false → p.mState = s.path.mState →
      firstOf c s = ({ s with path := p }, []) → exec c s = .next { s with path := p } :=
    fun hl hr hm hf => exec_same hs hl hr hf (.of_path hm)
  refine ⟨fun ha hr hc => ?_, fun ha hr hc => ?_, ?_, fun ho ht => ?_, fun ho ht hc => ?_⟩
  · exact hq rfl (not_restartsAt hr _) rfl (congrArg (·, []) ((if_pos ha).trans (pumpC_next rfl ha hc)))
  · exact hq rfl (not_restartsAt hr _) rfl (congrArg (·, []) ((if_pos ha).trans (pumpC_empty hc)))
  · exact hq (c := .cPortBusOff) rfl (by simp [restartsAt]) rfl rfl
  · exact hq (c := .cPortRecovery) rfl (by simp [restartsAt]) rfl
      (congrArg (·, []) ((if_pos ho).trans (pumpC_sending ht)))
  · exact hq (c := .cPortRecovery) rfl (by simp [restartsAt]) rfl
      (congrArg (·, []) ((if_pos ho).trans (pumpC_next ht rfl hc)))

/-! ### The M-port (R151, R172) -/

/-- A state that differs in its frames, its census step and its orders reads as before to the judgements. -/
theorem SameFollowed.of_sending {s : State} {p : FramePath} {l : LinkManager} {o : OrderScheduler}
    (hm : p.mState = s.path.mState) (ho : l.outcome = s.link.outcome) (hl : l.powerLine = s.link.powerLine) :
    SameFollowed { s with path := p, link := l, orders := o } s :=
  ⟨{ SameJudged.refl s with mState := hm, outcome := ho, powerLine := hl }, rfl, rfl, rfl⟩

theorem nextDue_none {rs : List OrderRecord} (h : ∀ r ∈ rs, r.due = false) : nextDue rs = none := by
  unfold nextDue
  induction rs with
  | nil => rfl
  | cons r rs ih =>
    rw [List.foldl_cons, h r (List.mem_cons_self ..)]
    exact ih fun x hx => h x (List.mem_cons_of_mem r hx)

theorem placeDue_none {s : State} (h : ∀ r ∈ s.orders.records, r.due = false) : placeDue s = s := by
  have hn : ∀ n, placeDueUpTo n s = s := fun n => by
    cases n with
    | zero => rfl
    | succ n =>
      simp only [placeDueUpTo, nextDue_none h]
      split <;> rfl
  exact hn _

/-- With no frame held, an emptied slot stays empty. -/
theorem offerHeld_none {s : State} (h : s.link.offers = []) : offerHeld s = s := by
  simp only [offerHeld, h]

theorem pumpM_control {s : State} (ht : s.path.mTransmit = none) (ha : s.path.mState = .active)
    (hd : s.store.doze = false) {c : ControlFrame} (hc : s.path.control = some c) :
    pumpM s = slotEmptied c { s with path := { s.path with mTransmit := some (controlToFrame c), control := none } } := by
  simp [pumpM, ht, ha, hd, hc]

theorem pumpM_order {s : State} (ht : s.path.mTransmit = none) (ha : s.path.mState = .active)
    (hd : s.store.doze = false) (hc : s.path.control = none) {e : OrderEntry} {rest : List OrderEntry}
    (hq : s.orders.queue = e :: rest) :
    pumpM s = placeDue { s with
      path := { s.path with mTransmit := some (orderToFrame e s.orders.period) }
      orders := { s.orders with queue := rest } } := by
  simp [pumpM, ht, ha, hd, hc, hq]

theorem pumpM_forward {s : State} (ht : s.path.mTransmit = none) (ha : s.path.mState = .active)
    (hd : s.store.doze = false) (hc : s.path.control = none) (hq : s.orders.queue = []) {f : Frame} {rest : List Frame}
    (hf : s.path.forward = f :: rest) :
    pumpM s = { s with path := { s.path with mTransmit := some f, forward := rest } } := by
  simp [pumpM, ht, ha, hd, hc, hq, hf]

theorem pumpM_empty {s : State} (hc : s.path.control = none) (hq : s.orders.queue = []) (hf : s.path.forward = []) :
    pumpM s = s := by
  simp [pumpM, hc, hq, hf]

/-- The M-port's transmit buffer at the end of a sending. -/
def sendingEnded (s : State) : State := { s with path := { s.path with mTransmit := none } }

/-- The end of an M-port sending, from which nothing follows. -/
theorem exec_sentM {s : State} (hs : s.isReady = true) (ha : s.path.mState = .active) {p : FramePath}
    {l : LinkManager} {o : OrderScheduler} (hm : p.mState = s.path.mState) (ho : l.outcome = s.link.outcome)
    (hl : l.powerLine = s.link.powerLine)
    (hp : pumpM (sendingEnded s) = { s with path := p, link := l, orders := o }) :
    exec .mPortTransmitDone s = .next { s with path := p, link := l, orders := o } := by
  refine exec_same hs rfl (by simp [restartsAt]) ?_ (.of_sending hm ho hl)
  exact congrArg (·, []) ((if_pos ha).trans hp)

/-- Settles O11: the control slot, the order queue and the forward queue in their order. -/
theorem mPortSendsControlThenOrdersThenForwards : Obligations.MPortSendsControlThenOrdersThenForwards := by
  intro s hs ha hd
  refine ⟨fun hc ho => ?_, fun n p hc ho => ?_, fun n hc ho => ?_, fun hc ho => ?_, fun e rest hc hq hr => ?_,
    fun f rest hc hq hf => ?_, fun hc hq hf => ?_⟩
  · exact exec_sentM hs ha rfl rfl rfl ((pumpM_control (s := sendingEnded s) rfl ha hd hc).trans (offerHeld_none ho))
  · exact exec_sentM hs ha rfl rfl rfl ((pumpM_control (s := sendingEnded s) rfl ha hd hc).trans (offerHeld_none ho))
  · exact exec_sentM hs ha rfl rfl rfl ((pumpM_control (s := sendingEnded s) rfl ha hd hc).trans (offerHeld_none ho))
  · refine exec_sentM hs ha rfl rfl rfl ((pumpM_control (s := sendingEnded s) rfl ha hd hc).trans ?_)
    simp [sendingEnded, slotEmptied, censusAdvance, addOffer, offerHeld, ho, controlToFrame]
  · exact exec_sentM hs ha rfl rfl rfl ((pumpM_order (s := sendingEnded s) rfl ha hd hc hq).trans (placeDue_none hr))
  · exact exec_sentM hs ha rfl rfl rfl (pumpM_forward (s := sendingEnded s) rfl ha hd hc hq hf)
  · exact exec_sentM hs ha rfl rfl rfl (pumpM_empty (s := sendingEnded s) hc hq hf)

/-! ### The full C-port queue (R147 to R149) -/

theorem mergeInto_at {new x : TxEntry} {a b : List TxEntry} (hn : new.subject.isSome = true)
    (hx : x.subject = new.subject) (ha : ∀ e ∈ a, e.subject ≠ new.subject) :
    mergeInto new (a ++ x :: b) = some (a ++ { new with cls := mergeClass x.cls new.cls } :: b) := by
  induction a with
  | nil => simp [mergeInto, hn, hx]
  | cons e a ih =>
    have he : e.subject ≠ new.subject := ha e (List.mem_cons_self ..)
    simp [mergeInto, he, ih fun y hy => ha y (List.mem_cons_of_mem e hy)]

theorem evictClass_at {c : TxClass} {x : TxEntry} {a b : List TxEntry} (hx : x.cls = c) (ha : ∀ e ∈ a, e.cls ≠ c) :
    evictClass c (a ++ x :: b) = some (a ++ b) := by
  induction a with
  | nil => simp [evictClass, hx]
  | cons e a ih =>
    have he : e.cls ≠ c := ha e (List.mem_cons_self ..)
    simp [evictClass, he, ih fun y hy => ha y (List.mem_cons_of_mem e hy)]

theorem evictClass_none {c : TxClass} {q : List TxEntry} (h : ∀ e ∈ q, e.cls ≠ c) : evictClass c q = none := by
  induction q with
  | nil => rfl
  | cons e q ih =>
    have he : e.cls ≠ c := h e (List.mem_cons_self ..)
    simp [evictClass, he, ih fun y hy => h y (List.mem_cons_of_mem e hy)]

/-- Settles O13, by the branches of `placeC`. -/
theorem fullCPortQueueEvictsByClass : Obligations.FullCPortQueueEvictsByClass := by
  refine fun new s => ⟨fun a x b hq hn hx ha => ?_, fun h => ?_⟩
  · simp only [placeC, hq, mergeInto_at hn hx ha, mergeClass]
  · have hm : mergeInto new s.path.cQueue = none := mergeInto_eq_none.mpr (by
      by_cases hn : new.subject = none
      · exact .inl hn
      · exact .inr fun e he => (h e he).resolve_left hn)
    refine ⟨fun hl => ?_, fun a x b hl hq hx ha => ?_, fun a x b hl hq hx ha hf => ?_, fun hl hf => ?_⟩
    · simp [placeC, hm, cQueueCapacity, hl]
    · have he : evictClass .forwarded s.path.cQueue = some (a ++ b) := hq ▸ evictClass_at hx ha
      simp [placeC, hm, cQueueCapacity, hl, he, bump, saturate]
    · have h1 : evictClass .forwarded s.path.cQueue = none := evictClass_none hf
      have he : evictClass .periodic s.path.cQueue = some (a ++ b) := hq ▸ evictClass_at hx ha
      simp [placeC, hm, cQueueCapacity, hl, h1, he, bump, saturate]
    · have h1 : evictClass .forwarded s.path.cQueue = none := evictClass_none fun e he => (hf e he).1
      have h2 : evictClass .periodic s.path.cQueue = none := evictClass_none fun e he => (hf e he).2
      simp [placeC, hm, cQueueCapacity, hl, h1, h2, bump, saturate]

end Sys2Proof.Proofs
end

section
/-! PROOFS. Motion leaves everything else as it was: what a chain of elementary changes may change, and that it
leaves the node table of a part whose M-port is drained. -/

namespace Sys2Proof.Proofs
open Sys2Proof.Machine Sys2Proof.Laws

/-! ### Only motion changes, and perhaps the node table -/

/-- Only motion changes, and perhaps the node table. -/
def OnlyMotion (s t : State) : Prop := onlyMotionChanges { s with link := { s.link with nodes := t.link.nodes } } t

theorem onlyMotionChanges.trans {s t u : State} (h : onlyMotionChanges s t) (k : onlyMotionChanges t u) :
    onlyMotionChanges s u := by
  unfold onlyMotionChanges at *
  rw [h] at k
  exact k

theorem OnlyMotion.trans {s t u : State} (h : OnlyMotion s t) (k : OnlyMotion t u) : OnlyMotion s u := by
  unfold OnlyMotion onlyMotionChanges at *
  rw [h] at k
  exact k

theorem OnlyMotion.refl (s : State) : OnlyMotion s s := rfl

theorem OnlyMotion.ite {c : Prop} [Decidable c] {s t u : State} (h : OnlyMotion s t) (k : OnlyMotion s u) :
    OnlyMotion s (if c then t else u) := by
  split
  · exact h
  · exact k

/-- With the node table as it was, only motion changes. -/
theorem OnlyMotion.of_nodes {s t : State} (h : OnlyMotion s t) (hn : t.link.nodes = s.link.nodes) :
    onlyMotionChanges s t := by
  unfold OnlyMotion at h
  rw [hn] at h
  exact h

/-! ### The elementary changes -/

theorem queueC_onlyMotion (new : TxEntry) (s : State) : OnlyMotion s (queueC new s) := by
  obtain ⟨b, q, d, o, h⟩ := queueC_shape new s
  rw [h]
  rfl

theorem offerHeld_onlyMotion (s : State) : OnlyMotion s (offerHeld s) := by
  rcases offerHeld_shape s with h | ⟨f, rest, -, h⟩ <;> rw [h] <;> rfl

theorem setNode_onlyMotion (n : Nat) (x : Node) (s : State) : OnlyMotion s (s.setNode n x) := by
  obtain ⟨nodes, h⟩ := setNode_shape (t := s) n x
  rw [h]
  rfl

theorem censusAdvance_onlyMotion (f : EnrolFrame) (s : State) : OnlyMotion s (censusAdvance f s) := by
  cases f with
  | forget => rfl
  | assign n => rfl
  | pass n =>
    simp only [censusAdvance]
    split <;> exact (setNode_onlyMotion n _ s).trans (by rfl)

theorem placeOrder_onlyMotion (r : OrderRecord) (s : State) : OnlyMotion s (placeOrder r s) := by
  rw [placeOrder_shape]
  rfl

theorem placeDue_onlyMotion (s : State) : OnlyMotion s (placeDue s) := by
  have hn : ∀ n s, OnlyMotion s (placeDueUpTo n s) := by
    intro n
    induction n with
    | zero => exact fun s => .refl s
    | succ n ih =>
      intro s
      simp only [placeDueUpTo]
      (repeat' split)
      · exact .refl s
      · exact (placeOrder_onlyMotion _ s).trans (ih _)
      · exact .refl s
  exact hn _ s

theorem slotEmptied_onlyMotion (c : ControlFrame) (s : State) : OnlyMotion s (slotEmptied c s) := by
  cases c with
  | enrol f => exact (censusAdvance_onlyMotion f s).trans (offerHeld_onlyMotion _)
  | halt => exact offerHeld_onlyMotion s
  | beat n p => exact offerHeld_onlyMotion s

theorem pumpM_onlyMotion (s : State) : OnlyMotion s (pumpM s) := by
  simp only [pumpM]
  split
  · exact .refl s
  · split
    case h_1 c _ => exact OnlyMotion.trans (by rfl) (slotEmptied_onlyMotion c _)
    case h_2 =>
      (repeat' split)
      · exact OnlyMotion.trans (by rfl) (placeDue_onlyMotion _)
      · rfl
      · rfl

theorem handOrder_onlyMotion (place : Bool) (d : DriveRef) (code : DriveCode) (speed : Nat) (s : State) :
    OnlyMotion s (handOrder place d code speed s) := by
  simp only [handOrder]
  (repeat' split)
  · exact (OnlyMotion.trans (by rfl) (placeOrder_onlyMotion _ _)).trans (pumpM_onlyMotion _)
  · rfl
  · rfl
  · exact (OnlyMotion.trans (by rfl) (placeOrder_onlyMotion _ _)).trans (pumpM_onlyMotion _)
  · rfl

theorem offerHalt_onlyMotion (s : State) : OnlyMotion s (offerHalt s) := by
  simp only [offerHalt]
  split
  · rfl
  all_goals exact OnlyMotion.trans (by rfl) (pumpM_onlyMotion _)

/-- Whatever motion brings about, everything else is as it was. -/
theorem Acts.onlyMotion {s t : State} (h : Acts s t) : OnlyMotion s t := by
  induction h with
  | refl => exact .refl s
  | queueC _ ih => exact ih.trans (queueC_onlyMotion ..)
  | handOrder _ ih => exact ih.trans (handOrder_onlyMotion ..)
  | offerHalt _ ih => exact ih.trans (offerHalt_onlyMotion _)
  | storeFn _ ih | holds _ ih | setManifold _ ih | sequence _ ih | wind _ ih | levelled _ ih | clearQueue _ ih
  | dropClaim _ ih | addClaim _ _ ih => exact ih.trans (by rfl)

/-! ### What is read of it -/

section
variable {s t : State} (h : OnlyMotion s t)
include h

theorem OnlyMotion.settings : t.settings = s.settings := congrArg (·.settings) h
theorem OnlyMotion.inputs : t.inputs = s.inputs := congrArg (·.inputs) h
theorem OnlyMotion.now : t.now = s.now := congrArg (·.now) h
theorem OnlyMotion.store : t.store = s.store := congrArg (·.store) h
theorem OnlyMotion.overrun : t.overrun = s.overrun := congrArg (·.overrun) h
theorem OnlyMotion.assembly : t.assembly = s.assembly := congrArg (·.assembly) h
theorem OnlyMotion.statusTimer : t.statusTimer = s.statusTimer := congrArg (·.statusTimer) h
theorem OnlyMotion.signals : t.monitor.signals = s.monitor.signals := congrArg (·.monitor.signals) h
theorem OnlyMotion.posture : t.monitor.posture = s.monitor.posture := congrArg (·.monitor.posture) h
theorem OnlyMotion.alarms : t.monitor.alarms = s.monitor.alarms := congrArg (·.monitor.alarms) h
theorem OnlyMotion.swapPending : t.monitor.swapPending = s.monitor.swapPending :=
  congrArg (·.monitor.swapPending) h
theorem OnlyMotion.effectiveLimit : t.budget.effectiveLimit = s.budget.effectiveLimit :=
  congrArg (·.budget.effectiveLimit) h
theorem OnlyMotion.outcome : t.link.outcome = s.link.outcome := congrArg (·.link.outcome) h
theorem OnlyMotion.powerLine : t.link.powerLine = s.link.powerLine := congrArg (·.link.powerLine) h
theorem OnlyMotion.mState : t.path.mState = s.path.mState := congrArg (·.path.mState) h
theorem OnlyMotion.cReceive : t.path.cReceive = s.path.cReceive := congrArg (·.path.cReceive) h
theorem OnlyMotion.mReceive : t.path.mReceive = s.path.mReceive := congrArg (·.path.mReceive) h
theorem OnlyMotion.mRecovery : t.path.mRecovery = s.path.mRecovery := congrArg (·.path.mRecovery) h

end

/-! ### The node table of a drained part -/

theorem offerHeld_nodes (s : State) : (offerHeld s).link.nodes = s.link.nodes := by
  rcases offerHeld_shape s with h | ⟨f, rest, -, h⟩ <;> rw [h]

theorem placeDue_nodes (s : State) : (placeDue s).link.nodes = s.link.nodes := by simp

/-- An M-port that sends no enrolment frame leaves the node table. -/
theorem pumpM_nodes {s : State} (h : s.path.mTransmit = none → s.path.mState ≠ .busOff → s.store.doze = false →
    ∀ f, s.path.control ≠ some (.enrol f)) : (pumpM s).link.nodes = s.link.nodes := by
  simp only [pumpM]
  split
  case isTrue => rfl
  case isFalse hn =>
    simp only [Bool.or_eq_true, beq_iff_eq, not_or, Bool.not_eq_true] at hn
    obtain ⟨⟨ht, ha⟩, hd⟩ := hn
    split
    case h_1 c hc =>
      cases c with
      | enrol f => exact absurd hc (h (by simpa using ht) ha hd f)
      | halt => exact offerHeld_nodes _
      | beat n p => exact offerHeld_nodes _
    case h_2 =>
      (repeat' split)
      · exact placeDue_nodes _
      · rfl
      · rfl

theorem noEnrol_of_drained {s t : State} (hd : s.LinkDrained) (ht : t.path = s.path)
    (hs : t.store.doze = s.store.doze) : t.path.mTransmit = none → t.path.mState ≠ .busOff → t.store.doze = false →
    ∀ f, t.path.control ≠ some (.enrol f) := by
  intro h1 h2 h3 f hf
  rw [ht] at h1 h2 hf
  rcases hd h1 with h | h | ⟨hc, -⟩
  · exact h2 h
  · rw [hs, h] at h3; cases h3
  · rw [hc] at hf; cases hf

theorem handOrder_nodes {s : State} (hd : s.LinkDrained) (place : Bool) (d : DriveRef) (code : DriveCode)
    (speed : Nat) : (handOrder place d code speed s).link.nodes = s.link.nodes := by
  simp only [handOrder]
  (repeat' split)
  · refine (pumpM_nodes (noEnrol_of_drained hd ?_ ?_)).trans ?_ <;> rw [placeOrder_shape]
  · rfl
  · rfl
  · refine (pumpM_nodes (noEnrol_of_drained hd ?_ ?_)).trans ?_ <;> rw [placeOrder_shape] <;> rfl
  · rfl

theorem offerHalt_nodes (s : State) : (offerHalt s).link.nodes = s.link.nodes := by
  simp only [offerHalt]
  split
  · rfl
  all_goals exact pumpM_nodes fun _ _ _ _ => nofun

theorem Acts.drained {s t : State} (h : Acts s t) (hd : s.LinkDrained) : t.LinkDrained := h.keeps.drained hd

/-- Motion leaves the node table of a part whose M-port is drained. -/
theorem Acts.nodes {s t : State} (h : Acts s t) (hd : s.LinkDrained) : t.link.nodes = s.link.nodes := by
  induction h with
  | refl => rfl
  | queueC _ ih => simpa using ih
  | handOrder hp ih => exact (handOrder_nodes (hp.drained hd) ..).trans ih
  | offerHalt _ ih => exact (offerHalt_nodes _).trans ih
  | storeFn _ ih | holds _ ih | setManifold _ ih | sequence _ ih | wind _ ih | levelled _ ih | clearQueue _ ih
  | dropClaim _ ih | addClaim _ _ ih => exact ih

/-- Motion of a part whose M-port is drained changes motion alone. -/
theorem Acts.onlyMotionChanges {s t : State} (h : Acts s t) (hd : s.LinkDrained) : onlyMotionChanges s t :=
  h.onlyMotion.of_nodes (h.nodes hd)

end Sys2Proof.Proofs
end

section
/-! PROOFS. How a cascade runs to its end, step by step: a judgement that does not hold is made, else the first task is
done. -/

namespace Sys2Proof.Proofs
open Sys2Proof.Machine Sys2Proof.Laws

/-- From a state with tasks that wait the cascade ends at a state within so many judgements and tasks. -/
def Runs (k : Nat) (ts : List Task) (s t : State) : Prop := ∀ n, k ≤ n → run n ts s = t

section
variable {k : Nat} {ts : List Task} {s t : State}

theorem Runs.done (h : react [] s = none) : Runs 0 [] s s := fun _ _ => run_nil h

theorem Runs.judge {r : State × List Task} (h : react ts s = some r) (hk : Runs k (follow s r ++ ts) r.1 t) :
    Runs (k + 1) ts s t := fun n hn => by
  obtain ⟨m, rfl⟩ := Nat.exists_eq_add_of_le' (Nat.le_trans (Nat.le_add_left 1 k) hn)
  rw [run_react h]
  exact hk m (Nat.le_of_succ_le_succ hn)

theorem Runs.task {a : Task} {r : State × List Task} (h : react (a :: ts) s = none) (hr : handle a s = r)
    (hk : Runs k (followTask a s r ++ ts) r.1 t) : Runs (k + 1) (a :: ts) s t := fun n hn => by
  obtain ⟨m, rfl⟩ := Nat.exists_eq_add_of_le' (Nat.le_trans (Nat.le_add_left 1 k) hn)
  rw [run_cons h, hr]
  exact hk m (Nat.le_of_succ_le_succ hn)

/-- A task that changes nothing, other than a service pass, is passed over. -/
theorem Runs.idleTask {a : Task} (h : react (a :: ts) s = none) (hr : handle a s = (s, [])) (hp : a ≠ .servicePass)
    (hk : Runs k ts s t) : Runs (k + 1) (a :: ts) s t := by
  refine .task h hr ?_
  have hf : followTask a s (s, []) = [] := by
    cases a <;> first | exact follow_self s | exact absurd rfl hp
  rwa [hf, List.nil_append]

/-- A change from which nothing follows is the end. -/
theorem Runs.quiet (h : nothingFollows s t = true) : Runs 1 (follow s (t, [])) t t := fun n hn => by
  obtain ⟨m, rfl⟩ := Nat.exists_eq_add_of_le' hn
  exact run_quiet h

theorem Runs.unfollowed (hf : follow s (t, []) = []) (hr : react [] t = none) : Runs 0 (follow s (t, [])) t t :=
  hf.symm ▸ .done hr

theorem Runs.mono {m : Nat} (h : Runs k ts s t) (hm : k ≤ m) : Runs m ts s t := fun n hn => h n (Nat.le_trans hm hn)

/-- A command of a ready part ends where the cascade of its first change ends. -/
theorem perform_runs {first : State → State × List Task} {r : State × List Task} (hs : s.isReady = true)
    (hf : first s = r) (hr : Runs k (follow s r) r.1 t) (hk : k ≤ 1000) : perform first s = .next t := by
  obtain ⟨h1, h2, -⟩ := (isReady_iff s).mp hs
  rw [perform_next h1 h2, complete, hf]
  exact congrArg _ (hr cascadeBound (Nat.le_trans hk (by decide)))

theorem exec_runs {c : Instr} {r : State × List Task} (hs : s.isReady = true) (hl : ofLines c = false)
    (hr : restartsAt c s = false) (hf : firstOf c s = r) (hk : Runs k (follow s r) r.1 t) (hb : k ≤ 1000) :
    exec c s = .next t := by
  rw [exec_eq_perform hl hr]
  exact perform_runs hs hf hk hb

end

/-! ### Management transactions -/

theorem renewed_react {s : State} (hs : s.isReady = true) : react [] s.renewed = none :=
  (renewed_same s).react.mpr (ready_quiet hs)

theorem renewed_followed (s : State) : SameFollowed s.renewed s := ⟨renewed_same s, rfl, rfl, rfl⟩

theorem SameFollowed.follow_nil {t s : State} (h : SameFollowed t s) : follow s (t, []) = [] :=
  Laws.follow_nil rfl h.judged.functions h.waitList h.claims h.judged.holder h.limit h.judged.pump

/-- The tests that a change calls for and the service pass come before its own tasks. -/
theorem follow_tasks {s t : State} {ts : List Task} (h : follow s (t, []) = []) : follow s (t, ts) = ts := by
  simp only [follow, List.append_nil, List.append_eq_nil_iff] at h
  obtain ⟨hc, hp⟩ := h
  have hpass : passDue s t = false := by
    by_contra hn
    simp only [Bool.not_eq_false] at hn
    simp [hn] at hp
  simp [follow, hc, hpass]

/-- A whole transaction that finds no assembly ends where its cascade ends. -/
theorem takeTransaction_runs {code : CommandCode} {tag : Byte} {ps : List Byte} {s u : State} {k : Nat}
    {r : State × List Task} (hs : s.isReady = true) (hd : s.store.doze = false) (ha : s.assembly = none)
    (ht : transact code tag ps s.renewed = r) (hk : Runs k (follow s.renewed r) r.1 u) (hb : k ≤ 999) :
    perform (takeTransaction code tag ps) s = .next u := by
  have hfirst : takeTransaction code tag ps s = (s.renewed, [.transact code tag ps]) := by
    simp only [takeTransaction, touchDoze_renewed hd]
    have : s.renewed.assembly = none := ha
    simp [breakAssembly, this]
  refine perform_runs hs hfirst ?_ (Nat.succ_le_succ hb)
  rw [follow_tasks (renewed_followed s).follow_nil]
  refine .task ((react_nil rfl _).trans (renewed_react hs)) ht ?_
  rw [List.append_nil]
  exact hk

theorem perform_transaction_runs {code : CommandCode} {tag : Byte} {ps : List Byte} {s u : State} {k : Nat}
    {r : State × List Task} (hs : s.takesCommands = true) (ht : transact code tag ps s.renewed = r)
    (hk : Runs k (follow s.renewed r) r.1 u) (hb : k ≤ 999) : perform (takeTransaction code tag ps) s = .next u := by
  obtain ⟨hr, hd, ha, -⟩ := (takesCommands_iff s).mp hs
  exact takeTransaction_runs hr hd ha ht hk hb

/-- What a whole command other than STORE and WRITE_CELLS comes to, where it is taken. -/
theorem transact_of_answer {code : CommandCode} {tag : Byte} {ps : List Byte} {s u : State} {o : ReplyOutcome}
    {r : List Byte} {ts : List Task} (hn : takesNoCommand s = false) (hl : lengthFits code ps.length = true)
    (hc : code ≠ .store) (hw : code ≠ .writeCells) (ha : answerTo code ps s = ⟨u, o, r, ts⟩) :
    transact code tag ps s = (queueReply code.toByte tag o r u, ts) := by
  rw [transact_answer hn hl hc hw, ha]

/-- A whole command other than STORE and WRITE_CELLS ends where the cascade of its answer ends. -/
theorem perform_answer_runs {code : CommandCode} {tag : Byte} {ps : List Byte} {s t u : State} {o : ReplyOutcome}
    {r : List Byte} {ts : List Task} {k : Nat} (hs : s.takesCommands = true)
    (hl : lengthFits code ps.length = true) (hc : code ≠ .store) (hw : code ≠ .writeCells)
    (ha : answerTo code ps s.renewed = ⟨u, o, r, ts⟩)
    (hk : Runs k (follow s.renewed (queueReply code.toByte tag o r u, ts)) (queueReply code.toByte tag o r u) t)
    (hb : k ≤ 999) : perform (takeTransaction code tag ps) s = .next t :=
  have hn : takesNoCommand s.renewed = false := by
    obtain ⟨-, -, -, hn⟩ := (takesCommands_iff s).mp hs
    exact hn
  perform_transaction_runs hs (transact_of_answer hn hl hc hw ha) hk hb

end Sys2Proof.Proofs
end

section
/-! PROOFS. The management commands on the table and the matrix, STORE, RESTART and JOG out of range, and the answers
of a part that takes no command. Settles O37, O41, O43, O44, O47, O50, O51 and O52. -/

namespace Sys2Proof.Proofs
open Sys2Proof.Machine Sys2Proof.Laws

/-! ### WRITE_ENTRY and APPEND_ENTRY (R135, R136) -/

section
variable {s u : State} {tag : Byte} {o : ReplyOutcome} {r : List Byte}

theorem exec_writeEntry {index : Byte} {block : EntryBlock} (hs : s.takesCommands = true)
    (ha : writeEntry index block s.renewed = ⟨u, o, r, []⟩) (hu : SameRead u s.renewed) :
    exec (.writeEntry tag index block) s = .next (queueReply 0x10 tag o r u) :=
  perform_sameRead (code := .writeEntry) (ps := index :: entryBlockBytes block) hs
    (by simp [lengthFits, entryBlock_length, lengthMax, CommandCode.shape]) nofun nofun
    ((congrArg (writeEntry index · s.renewed) (entryBlock_round_index index block)).trans ha) hu

theorem exec_appendEntry {block : EntryBlock} (hs : s.takesCommands = true)
    (ha : appendEntry block s.renewed = ⟨u, o, r, []⟩) (hu : SameRead u s.renewed) :
    exec (.appendEntry tag block) s = .next (queueReply 0x11 tag o r u) :=
  perform_sameRead (code := .appendEntry) (ps := entryBlockBytes block) hs
    (by simp [lengthFits, entryBlock_length, lengthMax, CommandCode.shape]) nofun nofun
    ((congrArg (appendEntry · s.renewed) (entryBlock_round block)).trans ha) hu

theorem putEntry_sameRead (i : EntryIndex) (e : EntryConfig) (s : State) : SameRead (putEntry i e s) s :=
  ⟨by constructor <;> intros <;> rfl, rfl, rfl⟩

/-- Settles O37, by the answers of the two commands. -/
theorem writeAndAppendEntryReplaceAnEntry : Obligations.WriteAndAppendEntryReplaceAnEntry := by
  intro s tag block e clamped i hs hb
  have hi : finOf 128 (BitVec.ofNat 8 i.val).toNat = some i := finOf_eq_some_iff.mpr (byte_toNat (by omega))
  have hn : ∀ {k : Nat}, s.matching.nextFree = k → s.renewed.matching.nextFree = k := id
  refine ⟨?_, fun hf he => ?_, fun hf he => ?_, fun hf b => ?_⟩
  · refine exec_writeEntry hs ?_ (putEntry_sameRead i e s.renewed)
    simp only [writeEntry, hi, hb]
    rfl
  · refine exec_appendEntry hs ?_ (putEntry_sameRead i e s.renewed)
    simp only [appendEntry, hn hf, finOf_eq_some_iff.mpr rfl, hb, he, if_false]
    rfl
  · refine exec_appendEntry hs ?_ (.refl _)
    simp only [appendEntry, hn hf, finOf_eq_some_iff.mpr rfl, hb, he, if_true, refuse]
  · refine exec_appendEntry hs ?_ (.refl _)
    simp only [appendEntry, hn hf, finOf_ge (Nat.le_refl 128), refuse]

/-! ### CLEAR_HITS and WRITE_MASK (R141, R142) -/

theorem exec_clearHits {first last engine : Byte} (hs : s.takesCommands = true)
    (ha : clearHits first last engine s.renewed = ⟨u, o, r, []⟩) (hu : SameRead u s.renewed) :
    exec (.clearHits tag first last engine) s = .next (queueReply 0x15 tag o r u) :=
  perform_sameRead (code := .clearHits) (ps := [first, last, engine]) hs rfl nofun nofun ha hu

theorem exec_writeMask {index b0 b1 : Byte} {ident : Word32} (hs : s.takesCommands = true)
    (ha : writeMask index ident b0 b1 s.renewed = ⟨u, o, r, []⟩) (hu : SameRead u s.renewed) :
    exec (.writeMask tag index ident b0 b1) s = .next (queueReply 0x16 tag o r u) :=
  perform_sameRead (code := .writeMask) (ps := [index] ++ bytesOf32 ident ++ [b0, b1]) hs rfl nofun nofun
    ((congrArg (writeMask index · b0 b1 s.renewed) (word32_bytes ident)).trans ha) hu

theorem setMatching_sameRead (m : MatchEngine) (s : State) : SameRead (s.setMatching m) s :=
  ⟨by constructor <;> intros <;> rfl, rfl, rfl⟩

theorem masks_sameRead (m : Vector MaskRecord 8) (s : State) :
    SameRead { s with settings := { s.settings with masks := m } } s :=
  ⟨by constructor <;> intros <;> rfl, rfl, rfl⟩

theorem clearHits_range {first last engine : Byte} (h : last.toNat < first.toNat ∨ 127 < last.toNat) :
    clearHits first last engine s = refuse .range s := if_pos h

/-- Settles O41, by the answers of the two commands. -/
theorem clearHitsAndWriteMaskWriteTheirRecords : Obligations.ClearHitsAndWriteMaskWriteTheirRecords := by
  intro s tag hs
  refine ⟨fun first last engine hle hlast => ?_, fun k ident b0 b1 hk => ?_, fun first last engine hbad => ?_,
    fun index ident b0 b1 hbad => ?_⟩
  · have hf : (BitVec.ofNat 8 first).toNat = first := byte_toNat (by omega)
    have hl : (BitVec.ofNat 8 last).toNat = last := byte_toNat (by omega)
    refine exec_clearHits hs ?_ (setMatching_sameRead _ s.renewed)
    simp only [clearHits, hf, hl, Nat.not_lt.mpr hle, Nat.not_lt.mpr hlast, or_self, if_false]
    cases engine <;> rfl
  · have hi : finOf 8 (BitVec.ofNat 8 k.val).toNat = some k := finOf_eq_some_iff.mpr (byte_toNat (by omega))
    refine exec_writeMask hs ?_ (masks_sameRead _ s.renewed)
    simp only [writeMask, hi, hk, if_false]
    rfl
  · exact exec_clearHits hs (clearHits_range (by omega)) (.refl _)
  · refine exec_writeMask hs ?_ (.refl _)
    unfold writeMask
    split
    case h_2 => rfl
    case h_1 k hk =>
      have h0 : k = 0 := Fin.ext (by have := finOf_eq_some_iff.mp hk; have := k.isLt; simp only [Fin.val_zero]; omega)
      rw [if_pos h0]
      rfl

end

/-! ### WRITE_CELLS (R45, R46) -/

theorem SameRead.trans {u t s : State} (h : SameRead u t) (k : SameRead t s) : SameRead u s :=
  ⟨h.toSameJudged.trans k.toSameJudged, h.manifold.trans k.manifold, h.budget.trans k.budget⟩

theorem SameRead.followed {t s : State} (h : SameRead t s) : SameFollowed t s :=
  ⟨h.toSameJudged, congrArg _ h.manifold, congrArg _ h.budget, congrArg _ h.budget⟩

theorem queueC_sameRead (new : TxEntry) (s : State) : SameRead (queueC new s) s := by
  obtain ⟨b, q, d, o, h⟩ := queueC_shape new s
  rw [h]
  exact ⟨by constructor <;> intros <;> rfl, rfl, rfl⟩

theorem queueReply_sameRead (code tag : Byte) (o : ReplyOutcome) (r : List Byte) (s : State) :
    SameRead (queueReply code tag o r s) s := queueC_sameRead _ _

/-- Nothing follows a transaction that leaves what is read as it was. -/
theorem perform_transaction_same {code : CommandCode} {tag : Byte} {ps : List Byte} {s t : State}
    (hs : s.takesCommands = true) (ht : transact code tag ps s.renewed = (t, [])) (hu : SameRead t s.renewed) :
    perform (takeTransaction code tag ps) s = .next t :=
  perform_transaction hs ht (nothingFollows_same (renewed_react ((takesCommands_iff s).mp hs).1) hu.toSameJudged
    hu.followed.waitList hu.followed.claims hu.followed.limit)

/-- One cell write, field by field: the standby bank and the cursor. -/
theorem writeCell_eq (v : Byte) (s : State) :
    writeCell v s = { s with
      settings := s.settings.setBank s.settings.activeBank.other (s.standby.set s.monitor.cursor.row
        (s.standby[s.monitor.cursor.row].set s.monitor.cursor.column (cellOf v)))
      monitor := { s.monitor with cursor := s.monitor.window.next s.monitor.cursor } } := rfl

theorem writeCell_sameRead (v : Byte) (s : State) : SameRead (writeCell v s) s := by
  rw [writeCell_eq]
  refine ⟨?_, rfl, rfl⟩
  cases hb : s.settings.activeBank <;> constructor <;> intros <;> rfl

theorem writeCellList_sameRead (bs : List Byte) (s : State) : SameRead (writeCellList bs s) s := by
  induction bs generalizing s with
  | nil => exact .refl s
  | cons v bs ih => exact (ih (writeCell v s)).trans (writeCell_sameRead v s)

theorem writeCells_fits {n : Nat} (h : n ≤ 200) : lengthFits .writeCells n = true := by
  simp [lengthFits, lengthMax, CommandCode.shape, h]

theorem transact_writeCells_pending {tag : Byte} {cells : List Byte} {s : State} (hn : takesNoCommand s = false)
    (hl : cells.length ≤ 200) (hp : s.monitor.swapPending = true) :
    transact .writeCells tag cells s = (queueReply 0x21 tag .swapPending [] s, []) := by
  have hr : startRefusal .writeCells cells.length (min 4 cells.length) s = some (.swapPending, []) := by
    simp [startRefusal, hn, writeCells_fits hl, hp]
  simp only [transact, hr]
  rfl

theorem transact_writeCells {tag : Byte} {cells : List Byte} {s : State} (hn : takesNoCommand s = false)
    (hl : cells.length ≤ 200) (hp : s.monitor.swapPending = false) :
    transact .writeCells tag cells s
      = (queueReply 0x21 tag (doneOutcome (cells.any fun v => decide (7 < v.toNat)))
          (cellResult cells.length (writeCellList cells s)) (writeCellList cells s), []) := by
  have hr : startRefusal .writeCells cells.length (min 4 cells.length) s = none := by
    simp [startRefusal, hn, writeCells_fits hl, hp]
  simp only [transact, hr]
  rfl

theorem cellOf_eq (v : Byte) : cellOf v = if v.toNat ≤ 7 then BitVec.ofNat 3 v.toNat else 7 := by
  simp only [cellOf, Nat.lt_succ_iff]
  split
  · exact BitVec.eq_of_toNat_eq (by simp)
  · rfl

theorem setBank_bank (c : Settings) (which : Bank) (x : PermissionBank) :
    (c.setBank which.other x).bank which.other = x ∧ (c.setBank which.other x).bank which = c.bank which
      ∧ (c.setBank which.other x).activeBank = c.activeBank
      ∧ c.setBank which.other x
        = { c with bankA := (c.setBank which.other x).bankA, bankB := (c.setBank which.other x).bankB } := by
  cases which <;> exact ⟨rfl, rfl, rfl, rfl⟩

/-- The next cell of a window at each edge (R45). -/
theorem window_next (w : Window) (c : Cursor) :
    (w.order = .rowWise → c.column < w.lastColumn → w.next c = ⟨c.row, c.column + 1⟩)
      ∧ (w.order = .rowWise → c.column = w.lastColumn → c.row < w.lastRow → w.next c = ⟨c.row + 1, w.firstColumn⟩)
      ∧ (w.order = .columnWise → c.row < w.lastRow → w.next c = ⟨c.row + 1, c.column⟩)
      ∧ (w.order = .columnWise → c.row = w.lastRow → c.column < w.lastColumn → w.next c = ⟨w.firstRow, c.column + 1⟩)
      ∧ (c.row = w.lastRow → c.column = w.lastColumn → w.next c = ⟨w.firstRow, w.firstColumn⟩) := by
  refine ⟨fun ho hc => ?_, fun ho hc hr => ?_, fun ho hr => ?_, fun ho hr hc => ?_, fun hr hc => ?_⟩
  · simp [Window.next, ho, ne_of_lt hc]
  · simp [Window.next, ho, hc, ne_of_lt hr]
  · simp [Window.next, ho, ne_of_lt hr]
  · simp [Window.next, ho, hr, ne_of_lt hc]
  · unfold Window.next
    split <;> simp [hr, hc]

/-- The standby bank after one cell write. -/
theorem writeCell_cell (v : Byte) (s : State) (r : Fin 7) (k : Fin 16) :
    ((writeCell v s).standby[r])[k]
      = if r = s.monitor.cursor.row ∧ k = s.monitor.cursor.column then cellOf v else (s.standby[r])[k] := by
  have hb : (writeCell v s).standby = s.standby.set s.monitor.cursor.row
      (s.standby[s.monitor.cursor.row].set s.monitor.cursor.column (cellOf v)) := by
    obtain ⟨h1, -, h3, -⟩ := setBank_bank s.settings s.settings.activeBank (s.standby.set s.monitor.cursor.row
      (s.standby[s.monitor.cursor.row].set s.monitor.cursor.column (cellOf v)))
    rw [writeCell_eq, State.standby, h3]
    exact h1
  rw [hb]
  simp only [Fin.getElem_fin, Vector.getElem_set, Fin.ext_iff, eq_comm (a := (r : Nat)), eq_comm (a := (k : Nat))]
  grind

/-- Settles O43. -/
theorem writeCellsWritesTheStandbyBank : Obligations.WriteCellsWritesTheStandbyBank := by
  refine ⟨fun s tag cells hs hl => ?_, fun s v => ?_⟩
  · have hn : takesNoCommand s.renewed = false := ((takesCommands_iff s).mp hs).2.2.2
    refine ⟨fun hp => ?_, fun hp => ?_⟩
    · exact perform_transaction_same hs (transact_writeCells_pending hn hl hp) (queueReply_sameRead ..)
    · exact perform_transaction_same hs (transact_writeCells hn hl hp)
        ((queueReply_sameRead ..).trans (writeCellList_sameRead cells _))
  · obtain ⟨-, h2, h3, h4⟩ := setBank_bank s.settings s.settings.activeBank (s.standby.set s.monitor.cursor.row
      (s.standby[s.monitor.cursor.row].set s.monitor.cursor.column (cellOf v)))
    obtain ⟨n1, n2, n3, n4, n5⟩ := window_next s.monitor.window s.monitor.cursor
    refine ⟨?_, fun r k hne => ?_, ?_, h3, rfl, n1, n2, n3, n4, n5, rfl, h4⟩
    · rw [writeCell_cell, if_pos ⟨rfl, rfl⟩, cellOf_eq]
    · rw [writeCell_cell, if_neg fun ⟨hr, hk⟩ => hne (by rw [hr, hk])]
    · rw [writeCell_eq]
      simp only [h3]
      exact h2

/-! ### SWAP_MATRIX (R48, R50) -/

section
variable {s : State} {tag : Byte} {crc : Word16}

theorem answerTo_swapMatrix (crc : Word16) (s : State) : answerTo .swapMatrix (bytesOf16 crc) s = swapMatrix crc s :=
  congrArg (swapMatrix · s) (word16_bytes crc)

theorem swapMatrix_ofPending (h : s.monitor.swapPending = true) : swapMatrix crc s = ⟨s, .swapPending, [], []⟩ := by
  simp [swapMatrix, h, refuse]

theorem swapMatrix_mismatch (h : s.monitor.swapPending = false) (hc : crc ≠ crc16 (bankBytes s.standby)) :
    swapMatrix crc s = ⟨s, .crcMismatch, bytesOf16 (crc16 (bankBytes s.standby)), []⟩ := by
  simp [swapMatrix, h, hc.symm]

/-- A swap that is pending until nothing is busy (R49). -/
def swapAwaited (s : State) : State :=
  postureFrame .change { s with monitor := { s.monitor with swapPending := true } }

theorem swapMatrix_awaited (h : s.monitor.swapPending = false) (hb : s.anyBusy = true) :
    swapMatrix (crc16 (bankBytes s.standby)) s = ⟨swapAwaited s, .pending, [], []⟩ := by
  simp [swapMatrix, h, hb, swapAwaited]

theorem swapMatrix_atOnce (h : s.monitor.swapPending = false) (hb : s.anyBusy = false) :
    swapMatrix (crc16 (bankBytes s.standby)) s = ⟨exchangeBanks s, .done, [], [.judgeSequence]⟩ := by
  simp [swapMatrix, h, hb]

theorem anyBusy_of_functions {s t : State} (h : t.functions = s.functions) : t.anyBusy = s.anyBusy := by
  simp [State.anyBusy, State.fn, h]

/-- A swap is pending. -/
def swapMarked (s : State) : State := { s with monitor := { s.monitor with swapPending := true } }

theorem swapAwaited_read (s : State) : SameRead (swapAwaited s) (swapMarked s) := queueC_sameRead _ _

/-- A part that awaits a swap while a function is busy has no judgement to make. -/
theorem swapMarked_react (hr : react [] s = none) (hb : s.anyBusy = true) : react [] (swapMarked s) = none := by
  obtain ⟨h1, h2, h3, h4, h5, h6, -, h8, h9, h10⟩ := (react_none_iff s).mp hr
  have hbusy : (swapMarked s).anyBusy = true := hb
  exact (react_none_iff _).mpr ⟨h1, h2, h3, h4, h5, h6, by simp [hbusy], h8, h9, h10⟩

theorem exchangeBanks_sameRead (h : s.monitor.swapPending = false) : SameRead (exchangeBanks s) s := by
  refine (queueC_sameRead _ _).trans ⟨?_, rfl, rfl⟩
  constructor
  case swapPending => exact h.symm
  all_goals intros; rfl

/-- Settles O44, by the four answers of SWAP_MATRIX. -/
theorem swapMatrixComparesTheStandbyCrc : Obligations.SwapMatrixComparesTheStandbyCrc := by
  intro s tag crc hs
  obtain ⟨hr, -, -, hn⟩ := (takesCommands_iff s).mp hs
  have hn : takesNoCommand s.renewed = false := hn
  refine ⟨fun hp => ?_, fun hp => ⟨fun hc => ?_, fun hc hb => ?_, fun hc hb hq => ?_⟩⟩
  · exact perform_sameRead (code := .swapMatrix) (ps := bytesOf16 crc) hs rfl nofun nofun
      ((answerTo_swapMatrix crc _).trans (swapMatrix_ofPending hp)) (.refl _)
  · exact perform_sameRead (code := .swapMatrix) (ps := bytesOf16 crc) hs rfl nofun nofun
      ((answerTo_swapMatrix crc _).trans (swapMatrix_mismatch (s := s.renewed) hp hc)) (.refl _)
  · subst hc
    have ha := (answerTo_swapMatrix _ _).trans (swapMatrix_awaited (s := s.renewed) hp hb)
    have hread := (queueReply_sameRead CommandCode.swapMatrix.toByte tag .pending [] (swapAwaited s.renewed)).trans (swapAwaited_read _)
    refine perform_answer_runs (code := .swapMatrix) hs rfl nofun nofun ha ?_ (Nat.zero_le _)
    exact .unfollowed (follow_nil rfl hread.functions (congrArg (·.waitList) hread.manifold)
        (congrArg (·.claims) hread.budget) (congrArg (·.holder) hread.manifold)
        (congrArg (·.effectiveLimit) hread.budget) (congrArg (·.pump) hread.manifold))
      (hread.react.mpr (swapMarked_react (renewed_react hr) hb))
  · subst hc
    have ha := (answerTo_swapMatrix _ _).trans (swapMatrix_atOnce (s := s.renewed) hp hb)
    have hread := (queueReply_sameRead CommandCode.swapMatrix.toByte tag .done [] (exchangeBanks s.renewed)).trans
      (exchangeBanks_sameRead (s := s.renewed) hp)
    have hreact := hread.react.mpr (renewed_react hr)
    refine perform_answer_runs (code := .swapMatrix) hs rfl nofun nofun ha ?_ (by decide : 1 ≤ 999)
    rw [follow_tasks hread.followed.follow_nil]
    refine .idleTask ((react_nil rfl _).trans hreact) ?_ nofun (.done hreact)
    have hseq : State.seqRuns (queueReply CommandCode.swapMatrix.toByte tag .done [] (exchangeBanks s.renewed)) = false := by
      rw [State.seqRuns, hread.phase]
      exact hq
    simp only [handle, judgeSequence, hseq, Bool.false_eq_true, false_and, if_false]

end

/-! ### SET_SUPPLY's settling (R65, R68) -/

/-- Settles O47, by the branches of the settling and of the limit. -/
theorem setSupplySettlesItsThresholds : Obligations.SetSupplySettlesItsThresholds := by
  refine fun held c => ⟨settleSupply_limit held c, settleSupply_cut held c, ?_, fun h => ?_, fun h h' => ?_,
    fun h h' => ?_, fun v => ⟨fun h _ => ?_, fun h h' => ?_, fun h h' => ?_⟩⟩
  · unfold settleSupply
    simp only
    (repeat' split) <;> rfl
  · simp [settleSupply, h]
  · simp [settleSupply, Nat.not_lt.mpr h, Nat.not_lt.mpr h']
  · simp [settleSupply, Nat.not_lt.mpr h, h']
  · simp [limitAt, h]
  · simp [limitAt, h, Nat.not_le.mpr (Nat.lt_of_le_of_lt h h')]
  · simp [limitAt, Nat.not_le.mpr h, Nat.not_le.mpr h']

/-! ### STORE and RESTART (R188, R189) -/

section
variable {s : State} {tag : Byte}

theorem transact_store_busy (hn : takesNoCommand s = false) (hb : s.anyBusy = true) :
    transact .store tag [] s = (queueReply 0x44 tag .state [] s, []) := by
  have hr : startRefusal .store 0 0 s = none := by
    simp [startRefusal, hn, lengthFits, lengthMax, CommandCode.shape]
  simp only [transact, List.length_nil, Nat.min_zero, hr]
  simp [carryOut, gather, hb, reply, answerTo, refuse]
  rfl

theorem transact_store (hn : takesNoCommand s = false) (hb : s.anyBusy = false) :
    transact .store tag [] s = (beginStore tag s, []) := by
  have hr : startRefusal .store 0 0 s = none := by
    simp [startRefusal, hn, lengthFits, lengthMax, CommandCode.shape]
  simp only [transact, List.length_nil, Nat.min_zero, hr]
  simp [carryOut, gather, hb]

theorem beginStore_sameRead (tag : Byte) (s : State) : SameRead (beginStore tag s) s :=
  ⟨by constructor <;> intros <;> rfl, rfl, rfl⟩

theorem beginRestart_sameRead (s : State) : SameRead (beginRestart s) s :=
  ⟨by constructor <;> intros <;> rfl, rfl, rfl⟩

theorem image_agrees (c : Settings) : c.image.agrees = true := by simp [Settings.image, Image.agrees]

/-- Settles O50. -/
theorem storeAndRestartAreTaken : Obligations.StoreAndRestartAreTaken := by
  intro s tag hs
  obtain ⟨-, -, -, hn⟩ := (takesCommands_iff s).mp hs
  refine ⟨fun hb => ?_, fun hb => ?_, ⟨rfl, rfl, if_pos (image_agrees _)⟩, ?_⟩
  · exact perform_transaction_same hs (transact_store_busy hn hb) (queueReply_sameRead ..)
  · exact perform_transaction_same hs (transact_store hn hb) (beginStore_sameRead ..)
  · exact perform_sameRead (code := .restart) (ps := []) hs rfl nofun nofun rfl (beginRestart_sameRead _)

/-- Settles O51. -/
theorem everyCommandIsBusyDuringStoreAndRestart : Obligations.EveryCommandIsBusyDuringStoreAndRestart := by
  intro c code tag ps s hc hs hd ha hn
  have ht : transact code tag ps s.renewed = (queueReply code.toByte tag .busy [] s.renewed, []) := by
    have hr : startRefusal code ps.length (min 4 ps.length) s.renewed = some (.busy, []) := if_pos hn
    simp only [transact, hr]
    rfl
  have hread := queueReply_sameRead code.toByte tag .busy [] s.renewed
  rw [exec_transaction hc]
  exact takeTransaction_runs hs hd ha ht (.unfollowed hread.followed.follow_nil (hread.react.mpr (renewed_react hs)))
    (Nat.zero_le _)

/-! ### Commands out of range (R135, R184, R187) -/

theorem signalOfCode_none {n : Nat} (h : 6 < n) : signalOfCode n = none := by
  obtain ⟨k, rfl⟩ := Nat.exists_eq_add_of_le' h
  rfl

theorem direction_ofCode_none {n : Nat} (h : 1 < n) : Direction.ofCode n = none := by
  obtain ⟨k, rfl⟩ := Nat.exists_eq_add_of_le' h
  rfl

theorem fieldWise_fits {code : CommandCode} {x : Byte} {fs : List FieldWrite} (hc : code.shape = .fieldWise 1)
    (h : fs.length ≤ 66) : lengthFits code (x :: fieldBytes fs).length = true := by
  simp only [lengthFits, hc, List.length_cons, fieldBytes_length, lengthMax, Bool.and_eq_true, decide_eq_true_iff,
    beq_iff_eq]
  omega

theorem applyFields_none {code : CommandCode} {x : Byte} {fs : List FieldWrite} (h : fieldCommand code x = none) :
    applyFields code x fs s = refuse .range s := by
  simp only [applyFields, h]

/-- Settles O52. -/
theorem outOfRangeCommandsChangeNothing : Obligations.OutOfRangeCommandsChangeNothing := by
  intro s tag hs
  refine ⟨fun index block hi => ?_, fun index block hb => ?_, fun slot fs hi hl => ?_, fun slot fs hi hl => ?_,
    fun g fs hi hl => ?_, fun slot verb distance hbad => ?_⟩
  · refine exec_writeEntry hs ?_ (.refl _)
    simp only [writeEntry, finOf_ge hi]
    rfl
  · refine exec_writeEntry hs ?_ (.refl _)
    simp only [writeEntry, hb]
    split
    · cases ‹none = some _›
    · rfl
  · refine perform_sameRead (code := .setFunction) (ps := slot :: fieldBytes fs) hs (fieldWise_fits rfl hl) nofun nofun
      (applyFields_none (x := slot) ?_) (.refl _)
    simp [fieldCommand, finOf_ge hi]
  · refine perform_sameRead (code := .setGeometry) (ps := slot :: fieldBytes fs) hs (fieldWise_fits rfl hl) nofun nofun
      (applyFields_none (x := slot) ?_) (.refl _)
    simp [fieldCommand, finOf_ge hi]
  · refine perform_sameRead (code := .setSignal) (ps := g :: fieldBytes fs) hs (fieldWise_fits rfl hl) nofun nofun
      (applyFields_none (x := g) ?_) (.refl _)
    simp [fieldCommand, signalOfCode_none hi]
  · refine perform_sameRead (code := .jog) (ps := [slot, verb] ++ bytesOf16 distance) hs rfl nofun nofun ?_ (.refl _)
    have hj : jog slot verb (word16Of (distance.extractLsb' 8 8) (distance.extractLsb' 0 8)) s.renewed
        = refuse .range s.renewed := by
      rcases hbad with hi | hv
      · simp only [jog, finOf_ge hi]
      · simp [jog, direction_ofCode_none hv]
    exact hj

end

end Sys2Proof.Proofs
end

section
/-! PROOFS. The coach signals: what writes them, and what a CAPTURE delivers. Settles O16. -/

namespace Sys2Proof.Proofs
open Sys2Proof.Machine Sys2Proof.Laws

/-! ### What leaves the signals -/

theorem Acts.signals {s t : State} (h : Acts s t) : t.monitor.signals = s.monitor.signals := h.onlyMotion.signals

theorem setAlarm_signals (k : Alarm) (v : Bool) (s : State) : (setAlarm k v s).monitor.signals = s.monitor.signals := by
  simp [setAlarm_monitor]

theorem postureFrame_signals (c : TxClass) (s : State) : (postureFrame c s).monitor.signals = s.monitor.signals :=
  (queueC_onlyMotion _ s).signals

theorem setOutcome_signals (o : CensusOutcome) (s : State) : (setOutcome o s).monitor.signals = s.monitor.signals := by
  simp only [setOutcome]
  split
  · rfl
  · exact postureFrame_signals ..

theorem setPosture_signals (p : Posture) (s : State) : (setPosture p s).monitor.signals = s.monitor.signals := by
  simp only [setPosture]
  split
  · rfl
  · exact postureFrame_signals ..

theorem enterFault_signals (s : State) : (enterFault s).monitor.signals = s.monitor.signals := by
  simp only [enterFault]
  split
  · rfl
  · exact (Acts.haltEffects .refl).signals.trans (setPosture_signals ..)

theorem offerEnrol_onlyMotion (f : EnrolFrame) (s : State) : OnlyMotion s (offerEnrol f s) :=
  (OnlyMotion.trans (by rfl) (offerHeld_onlyMotion (addOffer f s))).trans (pumpM_onlyMotion _)

/-- What a census start does once the posture is FAULT is motion, and the node table cleared. -/
theorem censusCleared_signals (s : State) : (censusCleared s).monitor.signals = s.monitor.signals := by
  have ha : ∀ u : State, (clearFunctions (stopPump false (clearArbiter (abortSequence false .halted
      (stopAll false .halted slots u))))).monitor.signals = u.monitor.signals := fun u =>
    (Acts.refl.stopAll.abortSequence.clearArbiter.stopPump.clearFunctions).signals
  have hd : ∀ u : State, (discardOrders (clearNodes u)).monitor.signals = u.monitor.signals := fun _ => rfl
  have hp : ∀ u : State, (judgePowerLine u).monitor.signals = u.monitor.signals := fun _ => rfl
  have hc : ∀ u : State, (u.setLink { u.link with count := 0, strays := 0 }).monitor.signals = u.monitor.signals :=
    fun _ => rfl
  rw [censusCleared, hd, ha, hp, enterFault_signals, setAlarm_signals, hc, setOutcome_signals]

theorem censusOpened_signals (s : State) : (censusOpened s).monitor.signals = s.monitor.signals := rfl

theorem startCensus_signals (s : State) : (startCensus s).monitor.signals = s.monitor.signals := by
  rw [startCensus_eq, (offerEnrol_onlyMotion _ _).signals, censusOpened_signals, censusCleared_signals]

theorem wake_signals (s : State) : (wake s).monitor.signals = s.monitor.signals := by
  rw [wake_eq, startCensus_signals]
  rfl

theorem judgeLowSupply_signals (s : State) : (judgeLowSupply s).monitor.signals = s.monitor.signals := by
  unfold judgeLowSupply
  (repeat' split) <;> first | rfl | exact setAlarm_signals ..

theorem handOver_signals (g : Signal) (s : State) : (handOver g s).monitor.signals = s.monitor.signals := by
  unfold handOver
  split
  · exact judgeLowSupply_signals (computeLimit s)
  · exact (Acts.windJudged .refl).signals
  all_goals rfl

theorem ignitionOn_signals (s : State) : (ignitionOn s).1.monitor.signals = s.monitor.signals := by
  unfold ignitionOn
  (repeat' split) <;> simp only [wake_signals]

/-! ### The delivery of a captured value (R26, R131, R132) -/

/-- The record of a signal that a value was delivered to. -/
def delivered (g : Signal) (v : Nat) (src : EntryIndex) (s : State) : SignalRecord :=
  ⟨v, true, some src, startTimer s.now (s.sigCfg g).staleLimit⟩

theorem deliver_signals (g : Signal) (v : Nat) (src : EntryIndex) (s : State) :
    (deliver g v src s).1.monitor.signals = s.monitor.signals.set (signalIndex g) (delivered g v src s) := by
  unfold deliver
  simp only
  (repeat' split)
  · rfl
  · exact (ignitionOn_signals _).trans (handOver_signals ..)
  · exact handOver_signals ..

theorem signal_set_same (s : State) (g : Signal) (r : SignalRecord) :
    (s.monitor.signals.set (signalIndex g) r)[signalIndex g] = r := by simp

theorem signal_set_ne (s : State) {g k : Signal} (hk : k ≠ g) (r : SignalRecord) :
    (s.monitor.signals.set (signalIndex g) r)[signalIndex k] = s.monitor.signals[signalIndex k] :=
  Vector.getElem_set_ne _ _ fun he => hk (signalIndex_injective he).symm

/-- A frame that has the field: its clamped value is delivered, the clamp counted where it changed it. -/
theorem capture_delivers {i : EntryIndex} {f : Frame} {g : Signal} {offset width multiplier divisor : Nat}
    {addend : Int} {s : State} (h : offset / 8 < f.length) :
    ∃ m, capture i f g offset width multiplier divisor addend s
      = deliver g (clampInt 0 (signalMax g) (scaled (fieldValue f offset width) multiplier divisor addend)).toNat i
        (s.setMatching m) := by
  unfold capture
  rw [if_neg (Nat.not_le.mpr h)]
  simp only
  split
  · exact ⟨s.matching, rfl⟩
  · exact ⟨_, rfl⟩

/-- Settles O16. -/
theorem captureDeliversAClampedValue : Obligations.CaptureDeliversAClampedValue := by
  intro s i f g offset width multiplier divisor addend
  refine ⟨fun h => if_pos h, fun h => ?_⟩
  obtain ⟨m, hc⟩ := capture_delivers (i := i) (g := g) (width := width) (multiplier := multiplier)
    (divisor := divisor) (addend := addend) (s := s) h
  simp only [hc]
  have hsig := deliver_signals g
    (clampInt 0 (signalMax g) (scaled (fieldValue f offset width) multiplier divisor addend)).toNat i (s.setMatching m)
  generalize (deliver g (clampInt 0 (signalMax g) (scaled (fieldValue f offset width) multiplier divisor addend)).toNat
    i (s.setMatching m)).1 = t at hsig ⊢
  have hg : t.signal g = delivered g
      (clampInt 0 (signalMax g) (scaled (fieldValue f offset width) multiplier divisor addend)).toNat i
      (s.setMatching m) := by
    rw [State.signal, hsig]
    exact signal_set_same ..
  rw [hg]
  refine ⟨rfl, by omega, rfl, rfl, rfl, fun k hk => ?_⟩
  rw [State.signal, hsig]
  exact signal_set_ne (s.setMatching m) hk _

end Sys2Proof.Proofs
end

section
/-! PROOFS. What the part takes from the link — strays, reports and tilts of nobody, the answers of a census — and
the timers whose expiry sets little off. -/

namespace Sys2Proof.Proofs
open Sys2Proof.Machine Sys2Proof.Laws

/-! ### Two states of which nothing reads a difference -/

theorem takeHead_fits {port : Port} {fits : State → Frame → Bool} {act : Frame → State → State × List Task}
    {s : State} {f : Frame} {rest : List Frame} (h : s.received port = f :: rest) (hf : fits s f = true) :
    takeHead port fits act s = act f (dropHead port s) := by
  simp only [takeHead, h, hf, if_true]

theorem dropHead_motion {s : State} {f : Frame} {rest : List Frame} (h : s.path.mReceive = f :: rest) :
    dropHead .motion s = { s with path := { s.path with mReceive := rest } } := by
  simp only [dropHead, h, List.tail_cons]

theorem dropHead_coach {s : State} {f : Frame} {rest : List Frame} (h : s.path.cReceive = f :: rest) :
    dropHead .coach s = { s with path := { s.path with cReceive := rest } } := by
  simp only [dropHead, h, List.tail_cons]

theorem takeHead_motion {fits : State → Frame → Bool} {act : Frame → State → State × List Task} {s : State} {f : Frame}
    {rest : List Frame} (h : s.path.mReceive = f :: rest) (hf : fits s f = true) :
    takeHead .motion fits act s = act f { s with path := { s.path with mReceive := rest } } :=
  (takeHead_fits (port := .motion) h hf).trans (congrArg (act f) (dropHead_motion h))

theorem takeHead_coach {fits : State → Frame → Bool} {act : Frame → State → State × List Task} {s : State} {f : Frame}
    {rest : List Frame} (h : s.path.cReceive = f :: rest) (hf : fits s f = true) :
    takeHead .coach fits act s = act f { s with path := { s.path with cReceive := rest } } :=
  (takeHead_fits (port := .coach) h hf).trans (congrArg (act f) (dropHead_coach h))

/-- The head of the M-port's buffer is taken, with its action and nothing that follows. -/
theorem exec_motionHead {c : Instr} {fits : State → Frame → Bool} {act : Frame → State → State × List Task}
    {s t : State} {f : Frame} {rest : List Frame} (hs : s.isReady = true) (hl : ofLines c = false)
    (hr : restartsAt c s = false) (hc : firstOf c s = takeHead .motion fits act s)
    (hf : s.path.mReceive = f :: rest) (hfit : fits s f = true)
    (ha : act f { s with path := { s.path with mReceive := rest } } = (t, [])) (hj : SameFollowed t s) :
    exec c s = .next t :=
  exec_same hs hl hr (hc.trans ((takeHead_motion hf hfit).trans ha)) hj

theorem SameFollowed.of_frames {s : State} {p : FramePath} {l : LinkManager} (hm : p.mState = s.path.mState)
    (ho : l.outcome = s.link.outcome) (hl : l.powerLine = s.link.powerLine) :
    SameFollowed { s with path := p, link := l } s := .of_sending (o := s.orders) hm ho hl

theorem setNode_orders (n : Nat) (x : Node) (s : State) : (s.setNode n x).orders = s.orders := by simp

theorem setNode_sameRead (n : Nat) (x : Node) (s : State) : SameRead (s.setNode n x) s := by
  obtain ⟨nodes, h⟩ := setNode_shape (t := s) n x
  rw [h]
  exact ⟨by constructor <;> intros <;> rfl, rfl, rfl⟩

/-! ### Strays (R160, R165, R198, R200) -/

theorem isStrayFrame_of {s : State} {f : Frame} (he : f.form = .extended) (hk : linkKind f.ident < 24)
    (h : linkKind f.ident ≠ 12 ∧ linkKind f.ident ≠ 13 ∧ linkKind f.ident ≠ 8
        ∨ linkKind f.ident = 12 ∧ (s.node (linkNode f.ident)).state = .absent
        ∨ linkKind f.ident = 13 ∧ (s.node (linkNode f.ident)).state = .absent
        ∨ linkKind f.ident = 8 ∧ s.link.outcome ≠ .running
        ∨ f.remote = true) : isStrayFrame s f = true := by
  have hlink : isLinkFrame f.form f.ident = true := by simp [isLinkFrame, he, hk]
  simp only [isStrayFrame, hlink, Bool.true_and, isReportFrame, isTiltFrame, isEnrolAckFrame, isNodeFrame]
  rcases h with ⟨h1, h2, h3⟩ | ⟨h1, h2⟩ | ⟨h1, h2⟩ | ⟨h1, h2⟩ | h
  · simp [h1, h2, h3]
  · simp [h1, h2, reportIsStray]
  · simp [h1, h2, tiltIsStray]
  · simp [h1, h2, ackIsStray]
  · simp [h]

theorem isDiscardedFrame_of {s : State} {f : Frame} (he : f.form = .extended)
    (hi : f.ident = requestIdent s.store.straps)
    (h : f.remote = true ∨ f.length < 4 ∨ (frameByte f 0 ≠ 1 ∧ frameByte f 0 ≠ 2)) : isDiscardedFrame s f = true := by
  have hreq : isRequestFrame s f = true := by simp [isRequestFrame, he, hi]
  simp only [isDiscardedFrame, hreq, isCommandFrame, isContinueFrame, isRoleFrame, Bool.true_and]
  rcases h with h | h | ⟨h1, h2⟩
  · simp [h]
  · simp [Nat.not_le.mpr h]
  · have h1' : (frameByte f 0 == 1) = false := beq_eq_false_iff_ne.mpr h1
    have h2' : (frameByte f 0 == 2) = false := beq_eq_false_iff_ne.mpr h2
    simp only [h1', h2', Bool.and_false, Bool.not_false, Bool.and_self]

/-- Settles O25: the frame is set aside by its class, and what it changes is read by no judgement. -/
theorem straysAreOnlyCounted : Obligations.StraysAreOnlyCounted := by
  refine fun s f rest hs => ⟨fun hf he hk h => ?_, fun hf hd he hi h => ?_⟩
  · exact exec_motionHead hs rfl (by simp [restartsAt]) rfl hf (isStrayFrame_of he hk h) rfl
      (.of_frames rfl rfl rfl)
  · have htake : takeDiscarded f { s with path := { s.path with cReceive := rest } }
        = ({ s.renewed with path := { s.path with cReceive := rest } }, []) :=
      congrArg (·, []) (touchDoze_renewed hd)
    refine exec_same hs rfl (by simp [restartsAt]) ?_
      ((SameFollowed.of_path (s := s.renewed) (p := { s.path with cReceive := rest }) rfl).trans (renewed_followed s))
    exact (takeHead_coach hf (isDiscardedFrame_of he hi h)).trans htake

/-! ### Reports and tilts of nobody (R163 to R165) -/

theorem linkKind_linkIdent {k n : Nat} (hk : k < 64) (hn : n < 128) : linkKind (linkIdent k n) = k := by
  simp only [linkKind, linkIdent, BitVec.extractLsb', BitVec.toNat_ofNat, Nat.shiftRight_eq_div_pow]
  omega

theorem linkNode_linkIdent {k n : Nat} (hn : n < 128) : linkNode (linkIdent k n) = n := by
  simp only [linkNode, linkIdent, BitVec.extractLsb', BitVec.toNat_ofNat, Nat.shiftRight_eq_div_pow]
  omega

/-- Only the numbers 1 to 24 name a node. -/
theorem node_lt {s : State} {n : Nat} (h : (s.node n).state ≠ .absent) : n < 128 := by
  by_contra hn
  have hi : nodeIndex n = none := dif_neg (by omega)
  simp [State.node, hi, Node.absent] at h

/-- A slot that awaits no node hears nothing new. -/
theorem heard_of_notAwaited {f : Function} (h : ∀ e, (f.chan e).awaited = false) (c : FunctionConfig) (n : Nat) :
    f.heard c n = f := by
  have ha : f.chA.awaited = false := h .a
  have hb : f.chB.awaited = false := h .b
  have hea : { f.chA with awaited := false } = f.chA := by rw [← ha]
  have heb : { f.chB with awaited := false } = f.chB := by rw [← hb]
  simp only [Function.heard, ha, hb, Bool.false_and, hea, heb]

theorem awaiting_none {s : State} (h : ∀ (i : Slot) (e : Side), ((s.fn i).chan e).awaited = false) (n : Nat) :
    s.awaiting n = [] := by
  simp [State.awaiting, heard_of_notAwaited (h _)]

theorem hearNode_none {s : State} (h : ∀ (i : Slot) (e : Side), ((s.fn i).chan e).awaited = false) (n : Nat) :
    hearNode n s = s := by
  simp only [hearNode, awaiting_none h, List.foldl_nil]

theorem isNextReport_not (last : Option Nat) (seq : Nat) :
    (!isNextReport last seq) = match last with
      | none => false
      | some q => decide (seq ≠ (q + 1) % 256) := by
  cases last with
  | none => rfl
  | some q => simp only [isNextReport, ne_eq, decide_not]; rfl

/-- The entry of a node that has reported, out of DOZE. -/
theorem recordReport_awake {s : State} (hd : s.store.doze = false) (n ch : Nat) (r : ChannelRecord) {q : Nat}
    (hq : r.sequence = some q) : recordReport n ch r s = s.setNode n { s.node n with
      state := .live
      channels := (s.node n).channels.set ch r
      gaps := if (match ((s.node n).channels[ch]?).bind (·.sequence) with
        | none => false
        | some k => decide (q ≠ (k + 1) % 256)) then min ((s.node n).gaps + 1) 65535 else (s.node n).gaps
      silenceTimer := some (s.now + s.settings.timing.silenceLimit) } := by
  simp only [recordReport, Node.reported, isNextReport_not, hd, hq, Option.getD_some, Bool.false_eq_true, if_false]
  rfl

theorem resendStop_none {s : State} {n ch : Nat} (h : s.orderRecord n ch = none) (seen : Nat) :
    resendStop n ch seen s = s := by
  simp only [resendStop, h]

theorem recordReport_sameRead (n ch : Nat) (r : ChannelRecord) (s : State) : SameRead (recordReport n ch r s) s :=
  setNode_sameRead ..

theorem takeReport_unused {s : State} {f : Frame} {n ch : Nat} (hn : linkNode f.ident = n)
    (hc : (frameByte f 0).toNat = ch) (hr : reportIsStray f s = false)
    (ha : ∀ (i : Slot) (e : Side), ((s.fn i).chan e).awaited = false)
    (hu : ∀ i : Slot, (s.cfg i).kind ≠ .unused → ⟨n, ch⟩ ∉ (s.cfg i).drives)
    (hp : s.settings.manifold.pump ≠ some ⟨n, ch⟩) :
    takeReport f s = (recordReport n ch ⟨some (word16Of (frameByte f 1) (frameByte f 2)).toNat,
        some (word16Of (frameByte f 3) (frameByte f 4)).toNat, some (frameByte f 5),
        some (frameByte f 6).toNat, some (frameByte f 7).toNat⟩ s,
      [.stopResend ⟨n, ch⟩ (frameByte f 7).toNat]) := by
  have hr' : ∀ r, hearNode n (recordReport n ch r s) = recordReport n ch r s := fun r =>
    hearNode_none (fun i e => by rw [(recordReport_sameRead n ch r s).fn i]; exact ha i e) n
  have hf : slots.filter (fun i => (s.cfg i).kind != .unused && (s.cfg i).drives.contains ⟨n, ch⟩) = [] := by
    simp only [List.filter_eq_nil_iff, Bool.and_eq_true, bne_iff_ne, List.contains_iff_mem, not_and]
    exact fun i _ hk => hu i hk
  simp only [takeReport, hr, hn, hc, hr', hf, awaiting_none ha, hp, Bool.false_eq_true, if_false, List.map_nil,
    List.nil_append]

/-- A REPORT frame as a node sends it (R200). -/
def reportFrame (n : Nat) (ch : Byte) (raw load : Word16) (flags seq seen : Byte) : Frame :=
  dataFrame (linkIdent 12 n)
    [ch, raw.extractLsb' 8 8, raw.extractLsb' 0 8, load.extractLsb' 8 8, load.extractLsb' 0 8, flags, seq, seen]

/-- A TILT frame as a node sends it (R200). -/
def tiltFrame (n : Nat) (pitch roll : Word16) (flags seq : Byte) : Frame :=
  dataFrame (linkIdent 13 n)
    [pitch.extractLsb' 8 8, pitch.extractLsb' 0 8, roll.extractLsb' 8 8, roll.extractLsb' 0 8, flags, seq]

section
variable {s : State} {n : Nat} {ch flags seq seen : Byte} {raw load : Word16}

theorem isReportFrame_reportFrame (hn : n < 128) : isReportFrame (reportFrame n ch raw load flags seq seen) = true := by
  simp [isReportFrame, isNodeFrame, isLinkFrame, reportFrame, dataFrame, linkKind_linkIdent, hn, Frame.length]

theorem isTiltFrame_tiltFrame (hn : n < 128) : isTiltFrame (tiltFrame n raw load flags seq) = true := by
  simp [isTiltFrame, isNodeFrame, isLinkFrame, tiltFrame, dataFrame, linkKind_linkIdent, hn, Frame.length]

theorem takeReport_reportFrame (hn : n < 128) (hx : (s.node n).state ≠ .absent)
    (hk : (s.node n).kind = .valveBank ∨ (s.node n).kind = .pump ∨ (s.node n).kind = .motorPair)
    (hc : ch.toNat < (s.node n).channels.length)
    (ha : ∀ (i : Slot) (e : Side), ((s.fn i).chan e).awaited = false)
    (hu : ∀ i : Slot, (s.cfg i).kind ≠ .unused → ⟨n, ch.toNat⟩ ∉ (s.cfg i).drives)
    (hp : s.settings.manifold.pump ≠ some ⟨n, ch.toNat⟩) :
    takeReport (reportFrame n ch raw load flags seq seen) s
      = (recordReport n ch.toNat ⟨some (raw.toNat : Int), some (load.toNat : Int), some flags, some seq.toNat,
          some seen.toNat⟩ s, [.stopResend ⟨n, ch.toNat⟩ seen.toNat]) := by
  have hl : linkNode (reportFrame n ch raw load flags seq seen).ident = n := linkNode_linkIdent hn
  have h0 : frameByte (reportFrame n ch raw load flags seq seen) 0 = ch := rfl
  have hkind : (s.node n).kind.reports = true := by rcases hk with h | h | h <;> rw [h] <;> rfl
  have hr : reportIsStray (reportFrame n ch raw load flags seq seen) s = false := by
    simp [reportIsStray, hl, h0, hx, hkind, hc]
  have hraw : word16Of (frameByte (reportFrame n ch raw load flags seq seen) 1)
      (frameByte (reportFrame n ch raw load flags seq seen) 2) = raw := word16_bytes raw
  have hload : word16Of (frameByte (reportFrame n ch raw load flags seq seen) 3)
      (frameByte (reportFrame n ch raw load flags seq seen) 4) = load := word16_bytes load
  rw [takeReport_unused hl (congrArg _ h0) hr ha hu hp, hraw, hload]
  rfl

theorem takeTilt_tiltFrame (hn : n < 128) (hx : (s.node n).state ≠ .absent) (hk : (s.node n).kind = .levelSensor)
    (hp : s.settings.levelling.sensorNode ≠ some n) :
    takeTilt (tiltFrame n raw load flags seq) s
      = (recordReport n 0 ⟨some raw.toInt, some load.toInt, some (if flags.getLsbD 0 then 1 else 0),
          some seq.toNat, ((s.node n).channels[0]?).bind (·.orderSeen)⟩ s, []) := by
  have hl : linkNode (tiltFrame n raw load flags seq).ident = n := linkNode_linkIdent hn
  have hr : tiltIsStray (tiltFrame n raw load flags seq) s = false := by simp [tiltIsStray, hl, hx, hk]
  have hraw : word16Of (frameByte (tiltFrame n raw load flags seq) 0)
      (frameByte (tiltFrame n raw load flags seq) 1) = raw := word16_bytes raw
  have hload : word16Of (frameByte (tiltFrame n raw load flags seq) 2)
      (frameByte (tiltFrame n raw load flags seq) 3) = load := word16_bytes load
  simp only [takeTilt, hr, hl, hraw, hload, hp, Bool.false_eq_true, if_false]
  rfl

end

/-- Settles O21: the report is recorded, and the order scheduler has nothing to send again. -/
theorem reportAndTiltUpdateTheNode : Obligations.ReportAndTiltUpdateTheNode := by
  intro s n ch seq seen raw load flags rest hs hd hx ha
  have hn := node_lt hx
  refine ⟨fun hf hk hch hu hp ho => ?_, fun hf hk hl => ?_⟩
  · let t : State := { s with path := { s.path with mReceive := rest } }
    have hr : (recordReport n ch.toNat ⟨some (raw.toNat : Int), some (load.toNat : Int), some flags, some seq.toNat,
        some seen.toNat⟩ t).orderRecord n ch.toNat = none := by
      rw [recordReport, State.orderRecord, setNode_orders]
      exact ho
    have hsame : SameFollowed (recordReport n ch.toNat ⟨some (raw.toNat : Int), some (load.toNat : Int), some flags,
        some seq.toNat, some seen.toNat⟩ t) s := (recordReport_sameRead ..).followed.trans (.of_path rfl)
    have hfirst := (takeHead_motion (fits := fun _ f => isReportFrame f) (act := takeReport) hf
      (isReportFrame_reportFrame hn)).trans (takeReport_reportFrame (s := t) hn hx hk hch ha hu hp)
    refine (exec_runs (c := .report) (k := 1) hs rfl (by simp [restartsAt]) hfirst ?_ (by decide)).trans
      (congrArg _ (recordReport_awake (s := t) hd n ch.toNat _ rfl))
    rw [follow_tasks hsame.follow_nil]
    have hq := hsame.judged.react.mpr (ready_quiet hs)
    exact .idleTask ((react_nil rfl _).trans hq) (congrArg (·, []) (resendStop_none hr _)) nofun (.done hq)
  · let t : State := { s with path := { s.path with mReceive := rest } }
    have hsame : ∀ r, SameFollowed (recordReport n 0 r t) s :=
      fun r => (recordReport_sameRead n 0 r t).followed.trans (.of_path rfl)
    exact (exec_motionHead (c := .tilt) (fits := fun _ f => isTiltFrame f) (act := takeTilt) hs rfl (by simp [restartsAt]) rfl hf (isTiltFrame_tiltFrame hn)
      (takeTilt_tiltFrame (s := t) hn hx hk hl) (hsame _)).trans
      (congrArg _ (recordReport_awake (s := t) hd n 0 _ rfl))

end Sys2Proof.Proofs
end

section
/-! PROOFS. A part that stays in FAULT, and the ends of a census. -/

namespace Sys2Proof.Proofs
open Sys2Proof.Machine Sys2Proof.Laws

/-! ### FAULT stays (R33, R34) -/

/-- A state with the four readings of FAULT as another has them. -/
def asBefore (s t : State) : State :=
  { t with
    inputs := { t.inputs with stopAll := s.inputs.stopAll }
    link := { t.link with outcome := s.link.outcome }
    path := { t.path with mState := s.path.mState }
    store := { t.store with factoryLoaded := s.store.factoryLoaded } }

theorem asBefore_sameRead {s t u : State} (h : SameRead t u) : SameRead (asBefore s t) (asBefore s u) where
  toSameJudged := { h.toSameJudged with stopAll := rfl, outcome := rfl, mState := rfl, factoryLoaded := rfl }
  manifold := h.manifold
  budget := h.budget

theorem derivePosture_fault {s : State} (h : s.faultHolds = true) : derivePosture s = .fault := if_pos h

theorem posture_fault {s : State} (hs : react [] s = none) (h : s.faultHolds = true) : s.monitor.posture = .fault :=
  (((react_none_iff s).mp hs).1.symm).trans (derivePosture_fault h)

/-- Where FAULT holds before and after, and nothing else that is read changes, nothing follows. -/
theorem faultStays {s t : State} (hs : s.isReady = true) (hf : s.faultHolds = true) (ht : t.faultHolds = true)
    (h : SameFollowed (asBefore s t) s) : nothingFollows s t = true := by
  have hp := posture_fault (ready_quiet hs) hf
  have hpt : t.monitor.posture = .fault := h.judged.posture.trans hp
  obtain ⟨-, hline, -⟩ := (react_none_iff s).mp (ready_quiet hs)
  obtain ⟨hc, hd, hr⟩ := (nothingFollows_iff s (asBefore s t)).mp (h.nothing hs)
  obtain ⟨-, -, hrest⟩ := (react_none_iff (asBefore s t)).mp hr
  have hoff : ∀ u : State, u.monitor.posture = .fault → powerLineHolds u = false := fun u hu => by
    simp [powerLineHolds, hu]
  have hpl : t.link.powerLine = powerLineHolds t :=
    (h.judged.powerLine.trans hline).trans ((hoff s hp).trans (hoff t hpt).symm)
  exact (nothingFollows_iff s t).mpr
    ⟨hc, hd, (react_none_iff t).mpr ⟨(derivePosture_fault ht).trans hpt.symm, hpl, hrest⟩⟩

theorem faultHolds_incomplete {s : State} (h : s.link.outcome ≠ .complete) : s.faultHolds = true := by
  simp [State.faultHolds, h]

/-! ### The ends of a census (R159 to R161) -/

theorem closeCensus_sameRead (s : State) : SameRead (closeCensus s) s :=
  ⟨by constructor <;> intros <;> rfl, rfl, rfl⟩

theorem setOutcome_link (o : CensusOutcome) (s : State) : (setOutcome o s).link = { s.link with outcome := o } := by
  simp only [setOutcome]
  split
  case isTrue h => rw [← h]
  case isFalse => simp [postureFrame, queueStatus]

theorem setOutcome_asBefore (o : CensusOutcome) (s : State) : SameRead (asBefore s (setOutcome o s)) s := by
  simp only [setOutcome]
  split
  · exact ⟨by constructor <;> intros <;> rfl, rfl, rfl⟩
  · obtain ⟨b, q, d, o, h⟩ := queueC_shape _ (s.setLink { s.link with outcome := o })
    rw [postureFrame, queueStatus, h]
    exact ⟨by constructor <;> intros <;> rfl, rfl, rfl⟩

theorem setAlarm_sameRead {k : Alarm} (hk : k ≠ .notStowed) (v : Bool) (s : State) : SameRead (setAlarm k v s) s := by
  simp only [setAlarm]
  split
  · exact .refl s
  · refine (queueC_sameRead _ _).trans ⟨{ SameJudged.refl s with notStowed := ?_ }, rfl, rfl⟩
    cases k <;> first | rfl | exact absurd rfl hk

/-- A census that ends, up to what its outcome calls for. -/
def censusEnded (o : CensusOutcome) (count : Nat) (s : State) : State :=
  setOutcome o ((closeCensus s).setLink { (closeCensus s).link with count := count })

theorem endCensus_incomplete {o : CensusOutcome} (h : o ≠ .complete) (count : Nat) (s : State) :
    endCensus o count s = (setAlarm .censusFault true (censusEnded o count s), []) := if_neg h

theorem censusEnded_link (o : CensusOutcome) (count : Nat) (s : State) : (censusEnded o count s).link
    = { s.link with
        outcome := o, count := count, outstanding := none, enrolTimer := none, offers := [], chainLine := false } :=
  setOutcome_link ..

theorem censusEnded_asBefore (o : CensusOutcome) (count : Nat) (s : State) :
    SameRead (asBefore s (censusEnded o count s)) s :=
  (setOutcome_asBefore o ((closeCensus s).setLink { (closeCensus s).link with count := count })).trans
    ⟨by constructor <;> intros <;> rfl, rfl, rfl⟩

/-- A census that ends otherwise than COMPLETE leaves the posture FAULT, and nothing follows. -/
theorem exec_endCensus {c : Instr} {s t : State} {o : CensusOutcome} {count : Nat} (hs : s.isReady = true)
    (ho : s.link.outcome = .running) (hl : ofLines c = false) (hr : restartsAt c s = false) (hi : o ≠ .complete)
    (ht : SameRead t s) (hf : firstOf c s = endCensus o count t) :
    exec c s = .next (setAlarm .censusFault true (censusEnded o count t)) := by
  have hs' : s.faultHolds = true := faultHolds_incomplete (by simp [ho])
  have ho' : t.link.outcome = s.link.outcome := ht.outcome
  have hrest : SameRead (asBefore t (censusEnded o count t)) t := censusEnded_asBefore o count t
  have hend : (setAlarm .censusFault true (censusEnded o count t)).link.outcome = o := by
    rw [(setAlarm_frame ..).2.2.2.2.2.2.1, censusEnded_link]
  refine exec_quiet hs hl hr (hf.trans (endCensus_incomplete hi count t))
    (faultStays hs hs' (faultHolds_incomplete (by rw [hend]; exact hi)) (SameRead.followed ?_))
  have ha := asBefore_sameRead (s := s) (setAlarm_sameRead (k := .censusFault) nofun true (censusEnded o count t))
  exact ha.trans ((asBefore_sameRead (s := s) hrest).trans (asBefore_sameRead (s := s) ht))

/-- What an incomplete end leaves: its outcome and count, the closed census, the alarm and FAULT. -/
theorem endCensus_leaves {s t : State} {o : CensusOutcome} {count : Nat} (hs : s.isReady = true)
    (ho : s.link.outcome = .running) (ht : SameRead t s) :
    (setAlarm .censusFault true (censusEnded o count t)).link = { t.link with
        outcome := o, count := count, outstanding := none, enrolTimer := none, offers := [], chainLine := false }
      ∧ (setAlarm .censusFault true (censusEnded o count t)).monitor.alarms.censusFault = true
      ∧ (setAlarm .censusFault true (censusEnded o count t)).monitor.posture = .fault
      ∧ (setAlarm .censusFault true (censusEnded o count t)).functions = s.functions
      ∧ (setAlarm .censusFault true (censusEnded o count t)).settings = t.settings
      ∧ (setAlarm .censusFault true (censusEnded o count t)).monitor.signals = t.monitor.signals := by
  have hm : (censusEnded o count t).monitor = t.monitor := by simp [censusEnded]
  refine ⟨?_, ?_, ?_, ?_, ?_, ?_⟩
  · rw [(setAlarm_frame ..).2.2.2.2.2.2.1, censusEnded_link]
  · rw [setAlarm_monitor]
    rfl
  · rw [setAlarm_monitor, hm]
    exact ht.posture.trans (posture_fault (ready_quiet hs) (faultHolds_incomplete (by simp [ho])))
  · rw [(setAlarm_frame ..).1, ← ht.functions]
    simp [censusEnded]
  · simp [censusEnded]
  · rw [setAlarm_monitor, hm]

/-! ### The answers of a census (R158 to R160) -/

theorem isEnrolAckFrame_ack (n : Nat) (kind channels hardware : Byte) :
    isEnrolAckFrame (dataFrame (linkIdent 8 0) [BitVec.ofNat 8 n, kind, channels, hardware]) = true := by
  simp [isEnrolAckFrame, isNodeFrame, isLinkFrame, dataFrame, linkKind_linkIdent, Frame.length]

theorem takeEnrolAck_ack {n : Nat} (hn : n ≤ 255) (kind channels hardware : Byte) (s : State) :
    takeEnrolAck (dataFrame (linkIdent 8 0) [BitVec.ofNat 8 n, kind, channels, hardware]) s
      = enrolAnswer n kind.toNat channels.toNat hardware.toNat s := by
  have h0 : (frameByte (dataFrame (linkIdent 8 0) [BitVec.ofNat 8 n, kind, channels, hardware]) 0).toNat = n :=
    byte_toNat (Nat.lt_succ_of_le hn)
  rw [takeEnrolAck, h0]
  rfl

theorem setNode_link (s : State) (n : Nat) (x : Node) (timer : Timer) (count : Nat) :
    (s.setNode n x).setLink { (s.setNode n x).link with enrolTimer := timer, count := count }
      = State.setNode { s with link := { s.link with enrolTimer := timer, count := count } } n x := by
  unfold State.setNode
  split <;> rfl

theorem offerEnrol_sameRead (f : EnrolFrame) (s : State) : SameRead (offerEnrol f s) s := by
  have h := offerEnrol_onlyMotion f s
  obtain ⟨hf, -, hm, hma, hb, hq, -, -, -, -, hs⟩ := offerEnrol_frame f s
  refine ⟨{ SameJudged.refl s with
    stopAll := by rw [h.inputs]
    kind := fun i => by rw [State.cfg, h.settings]; rfl
    dutyLimit := by rw [h.settings]
    travelSpeed := by rw [h.settings]
    functions := hf
    signals := by rw [hm]
    posture := by rw [hm]
    levelled := by rw [hm]
    notStowed := by rw [hm]
    swapPending := by rw [hm]
    pump := by rw [hma]
    runTime := by rw [hma]
    holder := by rw [hma]
    phase := by rw [hq]
    taken := by rw [hq]
    finished := by rw [hq]
    outcome := h.outcome
    powerLine := h.powerLine
    mState := h.mState
    factoryLoaded := by rw [hs]
    doze := by rw [hs]
    dozeTimer := by rw [hs] }, hma, hb⟩

/-- Settles O24: an answer with the outstanding number enrols its node; any other that is no stray ends the census. -/
theorem enrolAckAdvancesOrEndsTheCensus : Obligations.EnrolAckAdvancesOrEndsTheCensus := by
  intro s n kind channels hardware rest hs hn ho hf t
  have hfirst : firstOf .enrolAck s = enrolAnswer n kind.toNat channels.toNat hardware.toNat t :=
    (takeHead_motion (fits := fun _ f => isEnrolAckFrame f) (act := takeEnrolAck) hf (isEnrolAckFrame_ack ..)).trans
      (takeEnrolAck_ack hn ..)
  have ht : SameRead t s := ⟨by constructor <;> intros <;> rfl, rfl, rfl⟩
  have hot : t.link.outcome = .running := ho
  have hends : ∀ (o : CensusOutcome) (count : Nat), o ≠ .complete →
      enrolAnswer n kind.toNat channels.toNat hardware.toNat t = endCensus o count t →
      ∃ u, exec .enrolAck s = .next u ∧ u.link.outcome = o ∧ u.link.count = count
        ∧ u.link.nodes = s.link.nodes ∧ u.link.outstanding = none ∧ u.link.enrolTimer = none
        ∧ u.link.chainLine = false ∧ u.link.offers = [] ∧ u.monitor.alarms.censusFault = true
        ∧ u.monitor.posture = .fault ∧ u.functions = s.functions ∧ u.settings = s.settings := by
    intro o count hi he
    obtain ⟨hlink, halarm, hposture, hfn, hset, -⟩ := endCensus_leaves (o := o) (count := count) hs ho ht
    refine ⟨_, exec_endCensus hs ho rfl (by simp [restartsAt]) hi ht (hfirst.trans he), ?_⟩
    rw [hlink]
    exact ⟨rfl, rfl, rfl, rfl, rfl, rfl, rfl, halarm, hposture, hfn, hset⟩
  refine ⟨fun h1 h2 ha hout => ?_, fun h1 h2 ha => hends .conflict s.enrolledCount nofun ?_,
    fun h0 hout => hends .excess 24 nofun ?_⟩
  · have hx : t.isEnrolled n = false := Bool.eq_false_iff.mpr (by simpa [State.isEnrolled] using (show (t.node n).state = .absent from ha))
    have hout' : t.link.outstanding = some n := hout
    have hans : enrolAnswer n kind.toNat channels.toNat hardware.toNat t
        = (offerEnrol (.pass n) (State.setNode { t with link := { t.link with enrolTimer := none, count := n } } n
          (Node.enrolled kind.toNat channels.toNat hardware.toNat)), []) := by
      simp only [enrolAnswer, hot, hx, hout', Nat.ne_of_gt h1, ne_eq, not_true_eq_false, Bool.false_eq_true, if_false,
        if_true, setNode_link]
    refine exec_same hs rfl (by simp [restartsAt]) (hfirst.trans hans) (SameRead.followed ?_)
    exact (offerEnrol_sameRead ..).trans ((setNode_sameRead ..).trans ⟨by constructor <;> intros <;> rfl, rfl, rfl⟩)
  · have hx : t.isEnrolled n = true := bne_iff_ne.mpr ha
    simp only [enrolAnswer, hot, hx, ne_eq, not_true_eq_false, if_false, if_true]
    rfl
  · subst h0
    have hx : t.isEnrolled 0 = false := rfl
    have hout' : t.link.outstanding = some 0 := hout
    simp only [enrolAnswer, hot, hx, hout', ne_eq, not_true_eq_false, Bool.false_eq_true, if_false, if_true]

/-! ### What a whole cascade leaves -/

/-- What follows from a change is of a class, where its own tasks are. -/
theorem follow_rule {P : Task → Prop} (hp : P .servicePass) (hc : ∀ i, P (.clearance i)) {s : State}
    {r : State × List Task} (hr : ∀ a ∈ r.2, P a) : ∀ a ∈ follow s r, P a := by
  intro a ha
  rcases List.mem_append.mp ha with ha | ha
  · rcases List.mem_append.mp ha with ha | ha
    · obtain ⟨i, -, rfl⟩ := List.mem_map.mp ha
      exact hc i
    · split at ha
      · exact List.mem_singleton.mp ha ▸ hp
      · cases ha
  · exact hr a ha

theorem followTask_rule {P : Task → Prop} (hp : P .servicePass) (hc : ∀ i, P (.clearance i)) {b : Task} {s : State}
    {r : State × List Task} (hr : ∀ a ∈ r.2, P a) : ∀ a ∈ followTask b s r, P a := by
  intro a ha
  unfold followTask at ha
  split at ha
  · rcases List.mem_append.mp ha with ha | ha
    · obtain ⟨i, -, rfl⟩ := List.mem_map.mp ha
      exact hc i
    · split at ha
      · exact List.mem_singleton.mp ha ▸ hp
      · cases ha
  · exact follow_rule hp hc hr a ha

/-- What every judgement and every task of a class leaves, where they call for tasks of that class alone, the whole
cascade leaves. -/
theorem run_rule {Q : State → Prop} {P : Task → Prop} (hp : P .servicePass) (hc : ∀ i, P (.clearance i))
    (hcut : ∀ s, Q s → Q { s with overrun := true })
    (hreact : ∀ ts s r, Q s → react ts s = some r → Q r.1 ∧ ∀ a ∈ r.2, P a)
    (hhandle : ∀ a s, P a → Q s → Q (handle a s).1 ∧ ∀ b ∈ (handle a s).2, P b) :
    ∀ (n : Nat) (ts : List Task) (s : State), Q s → (∀ a ∈ ts, P a) → Q (run n ts s) := by
  intro n
  induction n with
  | zero =>
    intro ts s hs _
    rw [run_zero]
    split
    · exact hs
    · exact hcut s hs
  | succ n ih =>
    intro ts s hs hts
    simp only [run]
    split
    case h_1 r hr =>
      obtain ⟨h1, h2⟩ := hreact ts s r hs hr
      refine ih _ _ h1 fun a ha => ?_
      exact (List.mem_append.mp ha).elim (follow_rule hp hc h2 a) (hts a)
    case h_2 =>
      split
      case h_1 => exact hs
      case h_2 b rest _ =>
        obtain ⟨h1, h2⟩ := hhandle b s (hts b (List.mem_cons_self ..)) hs
        refine ih _ _ h1 fun a ha => ?_
        exact (List.mem_append.mp ha).elim (followTask_rule hp hc h2 a) fun h => hts a (List.mem_cons_of_mem b h)

/-- The tasks that a change of posture, of the matrix bank or of the functions leaves. -/
def Task.ofJudgement : Task → Bool
  | .servicePass | .clearance _ | .judgeMove _ | .judgeSequence | .owedRetract _ => true
  | _ => false

/-- The last census ended as it did, with the count that it had. -/
def SameCensus (s t : State) : Prop := t.link.outcome = s.link.outcome ∧ t.link.count = s.link.count

theorem SameCensus.refl (s : State) : SameCensus s s := ⟨rfl, rfl⟩

theorem SameCensus.trans {s t u : State} (h : SameCensus s t) (k : SameCensus t u) : SameCensus s u :=
  ⟨k.1.trans h.1, k.2.trans h.2⟩

theorem OnlyMotion.sameCensus {s t : State} (h : OnlyMotion s t) : SameCensus s t :=
  ⟨h.outcome, congrArg (·.link.count) h⟩

theorem SameCensus.of_link {s t : State} (h : t.link = s.link) : SameCensus s t := ⟨by rw [h], by rw [h]⟩

theorem setAlarm_sameCensus (k : Alarm) (v : Bool) (s : State) : SameCensus s (setAlarm k v s) := .of_link (by simp)

theorem setPosture_sameCensus (p : Posture) (s : State) : SameCensus s (setPosture p s) := .of_link (by simp)

theorem enterFault_sameCensus (s : State) : SameCensus s (enterFault s) := by
  have ha := (Acts.haltEffects (.refl (s := setPosture .fault s))).onlyMotion.sameCensus
  unfold enterFault
  split
  · exact ⟨rfl, rfl⟩
  · exact (setPosture_sameCensus ..).trans ha

theorem coolPump_sameCensus (s : State) : SameCensus s (coolPump s) :=
  (((Acts.refl (s := s)).pumpOrder (place := true) (code := .pumpStop) (speed := 0)).dropClaim (who := .pump)).setManifold.onlyMotion.sameCensus.trans
    (setAlarm_sameCensus ..)

theorem dutyExpired_sameCensus (s : State) : SameCensus s (dutyExpired s) :=
  (Acts.refl.stopAll.stopAll.abortHolder.setManifold).onlyMotion.sameCensus.trans (coolPump_sameCensus _)

theorem react_judges {ts : List Task} {s : State} {r : State × List Task} (hr : react ts s = some r) :
    SameCensus s r.1 ∧ ∀ a ∈ r.2, Task.ofJudgement a = true := by
  unfold react at hr
  split at hr
  case isTrue =>
    cases hr
    unfold changePosture
    split
    · exact ⟨enterFault_sameCensus s, nofun⟩
    · refine ⟨setPosture_sameCensus .., ?_⟩
      simp only [serveOwed]
      split <;> simp [Task.ofJudgement, or_imp, forall_and]
  (repeat' split at hr) <;> cases hr <;> refine ⟨?_, by simp [Task.ofJudgement]⟩
  · exact ⟨rfl, rfl⟩
  · exact setAlarm_sameCensus ..
  · exact dutyExpired_sameCensus s
  · exact ⟨rfl, rfl⟩
  · exact ⟨rfl, rfl⟩
  · exact .of_link (by simp)
  · exact (Acts.endGround .refl).onlyMotion.sameCensus
  · exact (Acts.endStow .refl).onlyMotion.sameCensus
  · exact ⟨rfl, rfl⟩

theorem handle_judges {a : Task} (h : Task.ofJudgement a = true) (s : State) :
    SameCensus s (handle a s).1 ∧ ∀ b ∈ (handle a s).2, Task.ofJudgement b = true := by
  cases a <;> simp only [Task.ofJudgement, Bool.false_eq_true] at h <;> simp only [handle]
  case servicePass => exact ⟨(Acts.servicePass .refl).onlyMotion.sameCensus, nofun⟩
  case clearance => exact ⟨(Acts.clearanceStop .refl).onlyMotion.sameCensus, nofun⟩
  case judgeMove => exact ⟨(Acts.judgeMove .refl).onlyMotion.sameCensus, nofun⟩
  case judgeSequence => exact ⟨(Acts.judgeSequence .refl).onlyMotion.sameCensus, nofun⟩
  case owedRetract =>
    refine ⟨(Acts.owedRetract .refl).onlyMotion.sameCensus, ?_⟩
    unfold owedRetract windRetract
    (repeat' split) <;> simp [Task.ofJudgement]

/-- A cascade of judgements leaves the census as it ended. -/
theorem run_sameCensus {s t : State} (h : SameCensus s t) (n : Nat) {ts : List Task}
    (hts : ∀ a ∈ ts, Task.ofJudgement a = true) : SameCensus s (run n ts t) :=
  run_rule (Q := SameCensus s) (P := (Task.ofJudgement · = true)) rfl (fun _ => rfl) (fun _ h => h)
    (fun _ _ _ h hr => ⟨h.trans (react_judges hr).1, (react_judges hr).2⟩)
    (fun _ u ha h => ⟨h.trans (handle_judges ha u).1, (handle_judges ha u).2⟩) n ts t h hts

/-! ### The enrolment timer and the stop-all line (R159, R175) -/

/-- A cascade that was not cut leaves the posture and the power line derived. -/
theorem complete_derived (s : State) (r : State × List Task) (ho : (complete s r).overrun = false) :
    (complete s r).monitor.posture = derivePosture (complete s r)
      ∧ (complete s r).link.powerLine = powerLineHolds (complete s r) := by
  have hn := (run_settled cascadeBound (follow s r) r.1).resolve_left (by rw [Bool.not_eq_true]; exact ho)
  obtain ⟨hp, hl, -⟩ := (react_none_iff _).mp hn
  exact ⟨hp.symm, hl⟩

theorem becomeIdleAll_judges (is : List Slot) (s : State) :
    Acts s (becomeIdleAll is s).1 ∧ ∀ a ∈ (becomeIdleAll is s).2, Task.ofJudgement a = true := by
  refine List.foldlRecOn (motive := fun r : State × List Task => Acts s r.1 ∧ ∀ a ∈ r.2, Task.ofJudgement a = true)
    is _ ⟨.refl, nofun⟩ fun r hr i _ => ⟨hr.1.becomeIdle, fun a ha => ?_⟩
  rcases List.mem_append.mp ha with ha | ha
  · exact hr.2 a ha
  · simp only [becomeIdle] at ha
    split at ha
    · exact List.mem_singleton.mp ha ▸ rfl
    · cases ha

/-- A COMPLETE end: the outcome, the count, and judgements alone that follow. -/
theorem endCensus_complete (count : Nat) (s : State) :
    (endCensus .complete count s).1.link.outcome = .complete ∧ (endCensus .complete count s).1.link.count = count
      ∧ ∀ a ∈ (endCensus .complete count s).2, Task.ofJudgement a = true := by
  have he : endCensus .complete count s
      = becomeIdleAll slots (slots.foldl (fun s i => checkBinding i s) (censusEnded .complete count s)) := by
    unfold endCensus censusEnded
    exact if_pos rfl
  have hb : Acts (censusEnded .complete count s)
      (slots.foldl (fun s i => checkBinding i s) (censusEnded .complete count s)) :=
    .fold (fun _ _ => Acts.refl.checkBinding) _ .refl
  obtain ⟨h1, h2⟩ := becomeIdleAll_judges slots
    (slots.foldl (fun s i => checkBinding i s) (censusEnded .complete count s))
  have hc := (hb.trans h1).onlyMotion.sameCensus
  rw [he]
  refine ⟨hc.1.trans ?_, hc.2.trans ?_, h2⟩ <;> rw [censusEnded_link]

/-- A first change that sets off judgements alone ends with its census and the posture derived. -/
theorem complete_sameCensus (s : State) {r : State × List Task} (h : ∀ a ∈ r.2, Task.ofJudgement a = true) :
    ∃ t, complete s r = t ∧ SameCensus r.1 t
      ∧ (t.overrun = false → t.monitor.posture = derivePosture t ∧ t.link.powerLine = powerLineHolds t) :=
  ⟨_, rfl, run_sameCensus (.refl r.1) cascadeBound
    (follow_rule (P := (Task.ofJudgement · = true)) rfl (fun _ => rfl) h), complete_derived s r⟩

/-- Settles O33: an EMPTY end leaves FAULT as it was, a COMPLETE one sets off judgements alone. -/
theorem enrolmentTimerEndsTheCensus : Obligations.EnrolmentTimerEndsTheCensus := by
  intro s hs ht ho
  have hfirst : firstOf .enrolmentTimerExpiry s = enrolmentExpired s := if_pos ht
  refine ⟨fun hout => ?_, fun n hout hn => ?_⟩
  · obtain ⟨hlink, halarm, hposture, hfn, hset, hsig⟩ :=
      endCensus_leaves (o := .empty) (count := 0) hs ho (.refl s)
    refine ⟨_, exec_endCensus hs ho rfl (by simp [restartsAt]) (o := .empty) (count := 0) nofun (.refl s)
      (hfirst.trans ?_), hlink, halarm, hposture, hfn, hset, hsig⟩
    simp only [enrolmentExpired, hout]
  · have he : enrolmentExpired s = endCensus .complete (if n = 0 then 24 else n - 1) s := by
      unfold enrolmentExpired
      rw [hout]
      split <;> simp_all
    obtain ⟨h1, h2, -⟩ := (isReady_iff s).mp hs
    obtain ⟨t, hc, hk, hd⟩ := complete_sameCensus s (endCensus_complete (if n = 0 then 24 else n - 1) s).2.2
    obtain ⟨ho', hc', -⟩ := endCensus_complete (if n = 0 then 24 else n - 1) s
    refine ⟨t, ?_, hk.1.trans ho', hk.2.trans hc', hd⟩
    rw [exec_eq_perform rfl (by simp [restartsAt]), perform_next h1 h2, hfirst, he, hc]

/-- Settles O8: where FAULT stays nothing follows, and else the judgements do. -/
theorem stopAllInactiveChangesTheLine : Obligations.StopAllInactiveChangesTheLine := by
  intro s hs ha
  obtain ⟨hr, ho, -⟩ := (isReady_iff s).mp hs
  have he : exec .stopAllInactive s = perform (change (setStopAll false)) s := by
    simp only [exec, execStopAllInactive, ha, hr, Bool.not_true, Bool.false_eq_true, if_false]
  refine ⟨⟨complete s (change (setStopAll false) s), he.trans (perform_next hr ho), ?_, complete_derived _ _⟩,
    fun hf => ?_⟩
  · exact (run_kept _ _ _).1
  · have hq : ∀ t : State, t = setStopAll false s → t.faultHolds = true := by
      rintro t rfl
      rcases hf with h | h | h <;> simp [State.faultHolds, setStopAll, h]
    rw [he]
    refine perform_quiet hs rfl (faultStays hs ?_ (hq _ rfl) (SameRead.followed ⟨?_, rfl, rfl⟩))
    · simp [State.faultHolds, ha]
    · constructor <;> intros <;> rfl

end Sys2Proof.Proofs
end

section
/-! PROOFS. The timers whose expiry makes one change or leaves tasks that change nothing, and a JOG. -/

namespace Sys2Proof.Proofs
open Sys2Proof.Machine Sys2Proof.Laws

/-! ### A service pass that settles, and tasks that change nothing -/

section
variable {s t : State} {ts : List Task}

/-- Where every judgement holds, it holds whatever tasks wait. -/
theorem react_none_of_nil (h : react [] s = none) (ts : List Task) : react ts s = none := by
  obtain ⟨h1, h2, h3, h4, h5, h6, h7, h8, h9, h10⟩ := (react_none_iff s).mp h
  have hs : ¬(s.monitor.swapPending = true ∧ ¬s.anyBusy = true ∧ ¬ts.any Task.delaysSwap = true) :=
    fun hc => h7 ⟨hc.1, Bool.eq_false_iff.mpr hc.2.1⟩
  simp only [react, h1, h2, h3, h4, h5, h6, hs, h8, h9, h10, ne_eq, not_true_eq_false, Bool.false_eq_true, if_false]

theorem Runs.idleTasks (hr : react [] s = none) (h : ∀ a ∈ ts, a ≠ .servicePass ∧ handle a s = (s, [])) :
    Runs ts.length ts s s := by
  induction ts with
  | nil => exact .done hr
  | cons a ts ih =>
    obtain ⟨hp, ha⟩ := h a (List.mem_cons_self ..)
    exact .idleTask (react_none_of_nil hr _) ha hp (ih fun b hb => h b (List.mem_cons_of_mem a hb))

/-- A change from which nothing follows but its own service pass, which settles. -/
theorem Runs.pass (hn : nothingFollows s t = true) (hp : passSettles t = true) :
    Runs 1 (follow s (t, [.servicePass])) t (servicePass t) := by
  obtain ⟨hc, -, hr⟩ := (nothingFollows_iff s t).mp hn
  simp only [passSettles, Bool.and_eq_true, List.isEmpty_iff, Option.isNone_iff_eq_none] at hp
  have hf : follow s (t, [.servicePass]) = [.servicePass] := by simp [follow, hc]
  rw [hf]
  refine .task ((react_nil rfl t).trans hr) rfl ?_
  rw [List.append_nil]
  show Runs 0 (passAgain t (servicePass t)) (servicePass t) (servicePass t)
  rw [hp.1]
  exact .done hp.2

end

/-! ### JOG (R187) -/

theorem exec_jog_refused {s : State} {tag slot verb : Byte} {distance : Word16} {r : RefusalReason}
    (hs : s.takesCommands = true) (ha : jog slot verb distance s.renewed = jogRefused r s.renewed) :
    exec (.jog tag slot verb distance) s = .next (queueReply 0x43 tag .state [BitVec.ofNat 8 r.code] s.renewed) :=
  perform_sameRead (code := .jog) (ps := [slot, verb] ++ bytesOf16 distance) hs rfl nofun nofun
    ((congrArg (jog slot verb · s.renewed) (word16_bytes distance)).trans ha) (.refl _)

theorem finOf_ofNat (i : Slot) : finOf 16 (BitVec.ofNat 8 i.val).toNat = some i := by
  rw [byte_toNat (by omega), finOf_lt i.isLt]

theorem ofCode_code (d : Direction) : Direction.ofCode (BitVec.ofNat 8 d.code).toNat = some d := by
  cases d <;> rfl

theorem jog_reads (i : Slot) (d : Direction) (distance : Word16) (s : State) :
    jog (BitVec.ofNat 8 i.val) (BitVec.ofNat 8 d.code) distance s
      = if s.monitor.posture ≠ .service then jogRefused .notPermitted s
        else match (s.fn i).position with
          | none => jogRefused .notReady s
          | some p =>
            match verdict s (jogRequest i d (jogTarget (s.cfg i).stroke p (min 60000 distance.toNat) d)) with
            | some r => jogRefused r s
            | none => ⟨accept (jogRequest i d (jogTarget (s.cfg i).stroke p (min 60000 distance.toNat) d)) s,
                doneOutcome (decide (60000 < distance.toNat)),
                be16 (jogTarget (s.cfg i).stroke p (min 60000 distance.toNat) d), [.servicePass]⟩ := by
  simp only [jog, finOf_ofNat, ofCode_code] <;> rfl

/-- Settles O49, by the branches of `jog`. -/
theorem jogIsJudgedAsAServiceGoto : Obligations.JogIsJudgedAsAServiceGoto := by
  intro s tag i d distance hs
  refine ⟨fun hp => ?_, fun p hp hpos hd => ?_⟩
  · exact exec_jog_refused (r := .notPermitted) hs ((jog_reads ..).trans (if_pos hp))
  intro target request
  have htarget : jogTarget (s.cfg i).stroke p (min 60000 distance.toNat) d = target := by
    rw [Nat.min_eq_right hd]
    cases d <;> rfl
  have hp' : ¬ s.renewed.monitor.posture ≠ .service := not_not.mpr hp
  have hpos' : (s.renewed.fn i).position = some p := hpos
  have htarget' : jogTarget (s.renewed.cfg i).stroke p (min 60000 distance.toNat) d = target := htarget
  have hv : verdict s.renewed (jogRequest i d target) = verdict s request := rfl
  have hread := jog_reads i d distance s.renewed
  rw [if_neg hp', hpos'] at hread
  simp only [htarget', hv] at hread
  refine ⟨fun r hr => exec_jog_refused hs ?_, fun hr => ?_⟩
  · rw [hr] at hread
    exact hread
  · intro t hn hpass
    rw [hr, decide_eq_false (Nat.not_lt.mpr hd)] at hread
    exact perform_answer_runs (code := .jog) (k := 1) hs rfl nofun nofun
      ((congrArg (jog _ _ · s.renewed) (word16_bytes distance)).trans hread) (.pass hn hpass) (by decide)

/-! ### The store's completion (R193) -/

theorem owedRetract_none {s : State} {i : Slot} (h : s.wind.owed[i] = false) : owedRetract i s = (s, []) := by
  simp [owedRetract, h]

/-- Settles O36: the owed retracts find nothing to do. -/
theorem storeCompletionWritesTheImage : Obligations.StoreCompletionWritesTheImage := by
  intro s w hs hw ho
  let u : State := { s with store := { s.store with storing := none, image := w.image } }
  have hf : firstOf .storeCompletion s = (queueReply 0x44 w.tag .done [] u, serveOwed u) := by
    show endStore s = _
    simp only [endStore, hw]
    rfl
  have hsame : SameRead (queueReply 0x44 w.tag .done [] u) s :=
    (queueReply_sameRead ..).trans ⟨by constructor <;> intros <;> rfl, rfl, rfl⟩
  refine exec_runs hs rfl (by simp [restartsAt]) hf (k := (serveOwed u).length) ?_ ?_
  · rw [follow_tasks hsame.followed.follow_nil]
    refine .idleTasks (hsame.react.mpr (ready_quiet hs)) fun a ha => ?_
    obtain ⟨i, -, rfl⟩ := List.mem_map.mp ha
    refine ⟨nofun, owedRetract_none ?_⟩
    simpa using ho i
  · have : u.awnings.length ≤ 16 := List.length_filter_le ..
    simp only [serveOwed, List.length_map]
    omega

/-! ### Levelling timers (R82, R88) -/

/-- The phases of an AUTO_LEVEL after GROUND: no judgement reads which of them it is. -/
def Phase.levels : Phase → Bool
  | .sample | .lift | .settle => true
  | _ => false

theorem nothingFollows_of {s t : State} (hf : t.functions = s.functions) (hm : t.manifold = s.manifold)
    (hb : t.budget = s.budget) (hr : react [] t = none) : nothingFollows s t = true := by
  have hn : follow s (t, []) = [] := follow_nil rfl hf (by rw [hm]) (by rw [hb]) (by rw [hm]) (by rw [hb]) (by rw [hm])
  simp only [follow, List.append_nil, List.append_eq_nil_iff] at hn
  obtain ⟨hc, hp⟩ := hn
  have hpass : passDue s t = false := by
    by_contra hne
    simp only [Bool.not_eq_false] at hne
    simp [hne] at hp
  exact (nothingFollows_iff s t).mpr ⟨hc, .inl hpass, hr⟩

/-- A sequence that goes on levelling, with the frame of its change: nothing that is read changes. -/
theorem nothingFollows_levels {s t : State} {q : Sequence} (hs : s.isReady = true)
    (hp : Phase.levels s.sequence.phase = true) (hq : Phase.levels q.phase = true)
    (h : SameRead t { s with sequence := q }) : nothingFollows s t = true := by
  refine nothingFollows_of h.functions h.manifold h.budget (h.react.mpr ?_)
  obtain ⟨h1, h2, h3, h4, h5, h6, h7, -, -, h10⟩ := (react_none_iff s).mp (ready_quiet hs)
  have hruns : ∀ p, Phase.levels p = true → (p != .idle) = true ∧ (p == .ground) = false ∧ (p == .stowing) = false := by
    intro p hp
    cases p <;> first | exact ⟨rfl, rfl, rfl⟩ | cases hp
  obtain ⟨i1, -, -⟩ := hruns _ hp
  obtain ⟨i2, g2, s2⟩ := hruns _ hq
  refine (react_none_iff _).mpr ⟨h1, h2, h3, h4, h5, h6, h7, ?_, ?_, h10.trans ?_⟩
  · simp only [groundDone, g2, Bool.false_and]
  · simp only [stowDone, s2, Bool.false_and]
  · simp only [dozeHolds, State.seqRuns, i1, i2]
    rfl

theorem levelSettled_settle {s : State} (hp : s.sequence.phase = .settle) :
    levelSettled s = levelFrame { s with sequence := { s.sequence with
      phase := .sample, settleTimer := none
      sampleTimer := some (s.now + s.settings.levelling.sampleTimeout) } } := by
  simp only [levelSettled, State.setSeq, hp, if_true, setPhase, reduceCtorEq, if_false, startTimer]

theorem stopAll_resting {s : State} {place : Bool} {r : StopReason} {is : List Slot}
    (h : ∀ i ∈ is, (s.fn i).activity.isBusy = false) : stopAll place r is s = s := by
  unfold stopAll
  induction is with
  | nil => rfl
  | cons i is ih =>
    have hi : stopFn place i r s = s := stopFn_rest place r (h i (List.mem_cons_self ..))
    rw [List.foldl_cons, hi]
    exact ih fun k hk => h k (List.mem_cons_of_mem i hk)

/-- A sequence whose jacks rest and whose grant is a sequence's ends by its record, its grant and one frame. -/
theorem endSequence_resting {s : State} {place : Bool} {result : SeqResult} {r : StopReason} (hr : s.seqRuns = true)
    (hb : ∀ i ∈ s.sequence.taken, (s.fn i).activity.isBusy = false)
    (hg : ∀ g, s.manifold.holder = some g → g.sequence = true) :
    endSequence place result r s = levelFrame { s with
      sequence := s.sequence.ended result, manifold := { s.manifold with holder := none } } := by
  have hrel : releaseSequenceGrant { s with sequence := s.sequence.ended result } = { s with
      sequence := s.sequence.ended result, manifold := { s.manifold with holder := none } } := by
    unfold releaseSequenceGrant
    split
    case h_1 g h =>
      rw [if_pos (hg g h)]
      rfl
    case h_2 h =>
      show _ = { s with sequence := s.sequence.ended result, manifold := { s.manifold with holder := none } }
      rw [← h]
  rw [endSequence, if_pos hr, stopAll_resting hb, closeSequence, hrel]

theorem endSequenceAs_other {r : SeqResult} (h : r ≠ .levelOk) (s : State) :
    endSequenceAs r s = endSequence true r .stopped s := if_neg h

/-- Settles O32. -/
theorem levellingTimersAdvanceOrEndTheSequence : Obligations.LevellingTimersAdvanceOrEndTheSequence := by
  refine fun s hs => ⟨fun ht hp => ?_, fun ht hp => ?_, fun ht hp hb hg => ?_⟩
  · exact exec_quiet (c := .levelSettleTimerExpiry) hs rfl (by simp [restartsAt])
      ((if_pos ht).trans (congrArg (·, []) (levelSettled_settle hp)))
      (nothingFollows_levels (q := { s.sequence with
        phase := .sample, settleTimer := none
        sampleTimer := some (s.now + s.settings.levelling.sampleTimeout) }) hs (by rw [hp]; rfl) rfl
        (queueC_sameRead ..))
  · refine exec_same (c := .levelSettleTimerExpiry) hs rfl (by simp [restartsAt])
      ((if_pos ht).trans (congrArg (·, []) (if_neg hp))) (SameRead.followed ?_)
    exact ⟨by constructor <;> intros <;> rfl, rfl, rfl⟩
  · intro t hn
    have hr : s.seqRuns = true := by simp [State.seqRuns, hp]
    refine exec_quiet (c := .sampleTimerExpiry) hs rfl (by simp [restartsAt])
      ((if_pos ht).trans (congrArg (·, []) ?_)) hn
    exact (endSequenceAs_other (r := .sensorTimeout) nofun s).trans (endSequence_resting hr hb hg)

/-! ### Refresh and status (R150, R173, R191) -/

theorem movingSlots_none {s : State} (h : ∀ i, (s.fn i).activity ≠ .moving) : s.movingSlots = [] := by
  simp [State.movingSlots, State.moves, h]

theorem setDue_none {s : State} (hm : s.movingSlots = []) (hp : s.manifold.pump.isOn = false)
    (h : ∀ r ∈ s.orders.records, r.refresh = false) : setDue s = s := by
  have hr : s.orders.records.map (fun r => if refreshes s r then { r with due := true } else r) = s.orders.records :=
    (List.map_congr_left fun r hr => by simp [refreshes, h r hr, hm, hp]).trans (List.map_id _)
  simp only [setDue, hr]

theorem pumpM_sending {s : State} (h : s.path.mTransmit.isSome = true) : pumpM s = s := by
  simp [pumpM, h]

theorem control_self {s : State} {c : Option ControlFrame} (h : s.path.control = c) :
    { s with path := { s.path with control := c } } = s := by rw [← h]

theorem offerBeat_sending {s : State} (h : s.path.mTransmit.isSome = true) : offerBeat s = { s with
    path := { s.path with control := match s.path.control with
      | some .halt => some .halt
      | some (.enrol f) => some (.enrol f)
      | _ => some (.beat s.orders.cycle s.orders.period) } } := by
  unfold offerBeat
  split
  case h_1 hc => rw [hc]; exact (control_self hc).symm
  case h_2 f hc => rw [hc]; exact (control_self hc).symm
  case h_3 hc => rw [hc]; exact pumpM_sending h
  case h_4 hc => rw [hc]; exact pumpM_sending h

/-- The scheduler as a refresh expiry finds its next cycle. -/
def cycled (s : State) : State :=
  { s with orders := { s.orders.restarted s.now s.settings.timing.refreshPeriod with
      cycle := nextSequence s.orders.cycle } }

theorem refreshExpired_eq (s : State) : refreshExpired s
    = pumpM (placeDue (setDue ((cycled s).movingSlots.foldl (fun u i => reorder i u) (offerBeat (cycled s))))) := rfl

/-- With nothing to repeat a refresh restarts its timer, counts its cycle on and offers its BEAT. -/
theorem refreshExpired_beat {s : State} (hm : ∀ i, (s.fn i).activity ≠ .moving) (hp : s.manifold.pump.isOn = false)
    (hr : ∀ r ∈ s.orders.records, r.refresh = false ∧ r.due = false) (ht : s.path.mTransmit.isSome = true) :
    refreshExpired s = offerBeat (cycled s) := by
  have hb := offerBeat_sending (s := cycled s) ht
  have hnone : setDue (offerBeat (cycled s)) = offerBeat (cycled s) :=
    setDue_none (movingSlots_none (by rw [hb]; exact hm)) (by rw [hb]; exact hp)
      (by rw [hb]; exact fun r h => (hr r h).1)
  have hplace : placeDue (offerBeat (cycled s)) = offerBeat (cycled s) :=
    placeDue_none (by rw [hb]; exact fun r h => (hr r h).2)
  have hsend : pumpM (offerBeat (cycled s)) = offerBeat (cycled s) := pumpM_sending (by rw [hb]; exact ht)
  rw [refreshExpired_eq, movingSlots_none (s := cycled s) hm, List.foldl_nil, hnone, hplace, hsend]

/-- The frames of a fold are of the functions as they stood before it. -/
theorem foldl_functionFrame (cls : TxClass) (is : List Slot) {s t : State} (hf : t.functions = s.functions)
    (hc : t.settings = s.settings) : is.foldl (fun u i => functionFrame cls i u) t
      = is.foldl (fun u i => queueStatus 1 cls (.function i) (functionBytes (s.cfg i) (s.fn i) i) u) t := by
  induction is generalizing t with
  | nil => rfl
  | cons i is ih =>
    have he : functionFrame cls i t = queueStatus 1 cls (.function i) (functionBytes (s.cfg i) (s.fn i) i) t := by
      simp only [functionFrame, State.cfg, State.fn, hf, hc]
    rw [List.foldl_cons, List.foldl_cons, he]
    exact ih (by simpa using hf) (by simpa using hc)

theorem foldl_sameRead {α : Type} {f : State → α → State} (hf : ∀ s a, SameRead (f s a) s) (l : List α) (s : State) :
    SameRead (l.foldl f s) s := by
  induction l generalizing s with
  | nil => exact .refl s
  | cons a l ih => exact (ih _).trans (hf s a)

/-- Settles O34. -/
theorem refreshAndStatusTimersRepeat : Obligations.RefreshAndStatusTimersRepeat := by
  refine fun s hs => ⟨fun ht hm hp hr htr => ?_, fun ht => ?_⟩
  · intro cycle period
    refine exec_same (c := .refreshTimerExpiry) hs rfl (by simp [restartsAt])
      ((if_pos ht).trans (congrArg (·, []) ((refreshExpired_beat hm hp hr htr).trans (offerBeat_sending htr))))
      (SameRead.followed ?_)
    exact ⟨by constructor <;> intros <;> rfl, rfl, rfl⟩
  · intro t
    have hst : SameRead t s := ⟨by constructor <;> intros <;> rfl, rfl, rfl⟩
    refine exec_same (c := .statusTimerExpiry) hs rfl (by simp [restartsAt])
      ((if_pos ht).trans (congrArg (·, []) ?_))
      ((foldl_sameRead (fun _ _ => queueC_sameRead ..) _ _).trans ((queueC_sameRead ..).trans hst)).followed
    exact foldl_functionFrame .periodic s.movingSlots (by simp) (by simp)

end Sys2Proof.Proofs
end

section
/-! PROOFS. A part whose functions, sequence, arbiter and pump rest: which judgements are left to make, and how they
settle. -/

namespace Sys2Proof.Proofs
open Sys2Proof.Machine Sys2Proof.Laws

/-- No function is busy, no sequence runs, nothing waits or holds the manifold, and the pump is off. -/
structure Still (s : State) : Prop where
  busy : s.anyBusy = false
  sequence : s.seqRuns = false
  waitList : s.manifold.waitList = []
  holder : s.manifold.holder = none
  pump : s.manifold.pump.isOn = false

section
variable {s t u : State} {ts : List Task}

theorem notBusy_of_any (h : s.anyBusy = false) (i : Slot) : (s.fn i).activity.isBusy = false := by
  have := List.any_eq_false.mp h i (mem_slots i)
  simpa using this

theorem Still.congr (h : Still s) (hf : t.functions = s.functions) (hq : t.sequence = s.sequence)
    (hm : t.manifold = s.manifold) : Still t where
  busy := by
    have hb : t.anyBusy = s.anyBusy := by simp only [State.anyBusy, fn_congr hf]
    exact hb.trans h.busy
  sequence := by rw [State.seqRuns, hq]; exact h.sequence
  waitList := hm ▸ h.waitList
  holder := hm ▸ h.holder
  pump := hm ▸ h.pump

theorem Still.moves (h : Still s) (i : Slot) : s.moves i = false := by
  have hb := notBusy_of_any h.busy i
  simp only [State.moves, beq_eq_false_iff_ne]
  intro hm
  rw [hm] at hb
  cases hb

/-- The judgements that are left to a part at rest. -/
theorem Still.judged (h : Still s) : dutyReached s = false ∧ pumpUnused s = false ∧ grantOrphaned s = false
    ∧ groundDone s = false ∧ stowDone s = false := by
  obtain ⟨-, hq, -, hh, hp⟩ := h
  have hidle : s.sequence.phase = .idle := by simpa [State.seqRuns] using hq
  have hready : s.manifold.pump ≠ .ready := fun he => by simp [he, PumpState.isOn] at hp
  refine ⟨by simp [dutyReached, hp], ?_, by simp [grantOrphaned, hh], by simp [groundDone, hidle],
    by simp [stowDone, hidle]⟩
  simp [pumpUnused, hready]

theorem Still.react_none (h : Still s) (hp : derivePosture s = s.monitor.posture)
    (hl : s.link.powerLine = powerLineHolds s) (ha : s.monitor.alarms.notStowed = notStowedHolds s)
    (hs : s.monitor.swapPending = false) (hd : s.store.dozeTimer.isSome = dozeHolds s) : react [] s = none := by
  obtain ⟨h1, h2, h3, h4, h5⟩ := h.judged
  exact (react_none_iff s).mpr ⟨hp, hl, ha, h1, h2, h3, by simp [hs], h4, h5, hd⟩

/-! ### How they settle -/

/-- What follows a judgement of a part at rest: a service pass and the sequence's judgement, which find nothing. -/
def Task.ofRest : Task → Bool
  | .servicePass | .judgeSequence => true
  | _ => false

theorem delaysSwap_ofRest (h : ∀ a ∈ ts, Task.ofRest a = true) : ts.any Task.delaysSwap = false := by
  refine List.any_eq_false.mpr fun a ha => ?_
  have := h a ha
  cases a <;> simp_all [Task.ofRest, Task.delaysSwap]

theorem passAgain_still (h : Still s) : passAgain s s = [] := by
  simp [passAgain, clearanceTasks_self, h.waitList]

theorem Still.tasks (h : Still s) (hr : react [] s = none) (hts : ∀ a ∈ ts, Task.ofRest a = true) :
    Runs ts.length ts s s := by
  induction ts with
  | nil => exact .done hr
  | cons a ts ih =>
    have ih := ih fun b hb => hts b (List.mem_cons_of_mem a hb)
    have ha := hts a (List.mem_cons_self ..)
    cases a <;> simp only [Task.ofRest, Bool.false_eq_true] at ha
    case servicePass =>
      refine .task (react_none_of_nil hr _) (congrArg (·, []) (servicePass_nil h.waitList)) ?_
      show Runs ts.length (passAgain s s ++ ts) s s
      rwa [passAgain_still h]
    case judgeSequence =>
      refine .idleTask (react_none_of_nil hr _) (congrArg (·, []) (if_neg fun hc => ?_)) nofun ih
      rw [h.sequence] at hc
      exact absurd hc.1 nofun

/-- What the judgements of a part at rest change: the power line, the NOT_STOWED alarm, the pending swap with the
active bank, the doze timer, and the frames that tell of them. -/
structure SettledFrom (s t : State) : Prop where
  rest : t = { s with
    settings := { s.settings with activeBank := t.settings.activeBank }
    monitor := { s.monitor with
      alarms := { s.monitor.alarms with notStowed := t.monitor.alarms.notStowed }
      swapPending := t.monitor.swapPending }
    link := { s.link with powerLine := t.link.powerLine }
    path := { s.path with cTransmit := t.path.cTransmit, cQueue := t.path.cQueue, cDiscard := t.path.cDiscard }
    matching := { s.matching with forwardOverflow := t.matching.forwardOverflow }
    store := { s.store with dozeTimer := t.store.dozeTimer } }
  overflow : ∀ n ≤ 65535, n ≤ s.matching.forwardOverflow → n ≤ t.matching.forwardOverflow
  bank : s.monitor.swapPending = false → t.settings = s.settings ∧ t.monitor.swapPending = false

theorem SettledFrom.refl (s : State) : SettledFrom s s := ⟨rfl, fun _ _ => id, fun h => ⟨rfl, h⟩⟩

theorem SettledFrom.trans (h : SettledFrom s t) (k : SettledFrom t u) : SettledFrom s u where
  rest := by
    have hk := k.rest
    rw [h.rest] at hk
    exact hk
  overflow := fun n hn hs => k.overflow n hn (h.overflow n hn hs)
  bank hs := by
    obtain ⟨h1, h2⟩ := h.bank hs
    obtain ⟨k1, k2⟩ := k.bank h2
    exact ⟨k1.trans h1, k2⟩

/-- A frame handed to the C-port loses no count of the forwarded frames lost. -/
theorem queueC_overflow (new : TxEntry) (s : State) {n : Nat} (hn : n ≤ 65535) (h : n ≤ s.matching.forwardOverflow) :
    n ≤ (queueC new s).matching.forwardOverflow := by
  have hb : n ≤ bump s.matching.forwardOverflow := by
    simp only [bump, saturate]
    omega
  have hp : ∀ u : State, (pumpC u).matching = u.matching := fun u => by simp
  rw [queueC, hp]
  unfold placeC
  (repeat' split) <;> first | exact h | exact hb

theorem queueC_settledFrom (new : TxEntry) (s : State) : SettledFrom s (queueC new s) where
  rest := by
    obtain ⟨b, q, d, o, h⟩ := queueC_shape new s
    rw [h]
  overflow := fun _ hn h => queueC_overflow new s hn h
  bank := fun h => ⟨by simp, by simpa using h⟩

theorem SettledFrom.postureFrame {cls : TxClass} (h : SettledFrom s t) : SettledFrom s (postureFrame cls t) :=
  h.trans (queueC_settledFrom ..)

/-- A judgement of a part at rest whose change follows with nothing but tasks of rest. -/
theorem Runs.judgeStill {k : Nat} {ts' : List Task} (h : react ts s = some (u, ts')) (hf : follow s (u, ts') = ts')
    (hk : Runs k (ts' ++ ts) u t) : Runs (k + 1) ts s t :=
  .judge h (by rw [hf]; exact hk)

theorem follow_still (hf : u.functions = s.functions) (hm : u.manifold = s.manifold) (hb : u.budget = s.budget)
    (ts' : List Task) : follow s (u, ts') = ts' :=
  follow_tasks (follow_nil rfl hf (by rw [hm]) (by rw [hb]) (by rw [hm]) (by rw [hb]) (by rw [hm]))

/-- The doze timer is the last judgement. -/
theorem Still.settles_doze (h : Still s) (hp : derivePosture s = s.monitor.posture)
    (hl : s.link.powerLine = powerLineHolds s) (ha : s.monitor.alarms.notStowed = notStowedHolds s)
    (hs : s.monitor.swapPending = false) (hts : ∀ a ∈ ts, Task.ofRest a = true) :
    ∃ t, Runs (ts.length + 1) ts s t ∧ react [] t = none ∧ SettledFrom s t ∧ Still t := by
  by_cases hd : s.store.dozeTimer.isSome = dozeHolds s
  · have hr := h.react_none hp hl ha hs hd
    exact ⟨s, (h.tasks hr hts).mono (Nat.le_succ _), hr, .refl s, h⟩
  · obtain ⟨h1, h2, h3, h4, h5⟩ := h.judged
    have hst : Still (judgeDozeTimer s) := h.congr rfl rfl rfl
    have hsome : (judgeDozeTimer s).store.dozeTimer.isSome = dozeHolds s := by
      simp only [judgeDozeTimer]
      split <;> simp_all [dozeExpiry, startTimer]
    have hr := hst.react_none hp hl ha hs hsome
    refine ⟨judgeDozeTimer s, .judgeStill (u := judgeDozeTimer s) (ts' := []) ?_ (follow_still rfl rfl rfl [])
      (hst.tasks hr hts), hr,
      ⟨rfl, fun _ _ => id, fun h => ⟨rfl, h⟩⟩, hst⟩
    simp only [react, hp, hl, ha, h1, h2, h3, hs, h4, h5, hd, ne_eq, not_true_eq_false, not_false_eq_true,
      Bool.false_eq_true, false_and, if_false, if_true]

/-- A frame handed to the C-port is read by no judgement. -/
theorem queueC_judged (new : TxEntry) (s : State) : derivePosture (queueC new s) = derivePosture s
    ∧ powerLineHolds (queueC new s) = powerLineHolds s ∧ notStowedHolds (queueC new s) = notStowedHolds s
    ∧ (queueC new s).monitor = s.monitor ∧ (queueC new s).link = s.link := by
  obtain ⟨b, q, d, o, h⟩ := queueC_shape new s
  rw [h]
  exact ⟨rfl, rfl, rfl, rfl, rfl⟩

theorem queueC_still (new : TxEntry) (h : Still s) : Still (queueC new s) := h.congr (by simp) (by simp) (by simp)

/-- A pending swap takes place. -/
theorem Still.settles_swap (h : Still s) (hp : derivePosture s = s.monitor.posture)
    (hl : s.link.powerLine = powerLineHolds s) (ha : s.monitor.alarms.notStowed = notStowedHolds s)
    (hts : ∀ a ∈ ts, Task.ofRest a = true) :
    ∃ t, Runs (ts.length + 3) ts s t ∧ react [] t = none ∧ SettledFrom s t ∧ Still t := by
  by_cases hs : s.monitor.swapPending = false
  · obtain ⟨t, hr, hn⟩ := h.settles_doze hp hl ha hs hts
    exact ⟨t, hr.mono (by omega), hn⟩
  · obtain ⟨h1, h2, h3, h4, h5⟩ := h.judged
    have hs' : s.monitor.swapPending = true := by simpa using hs
    let v : State := { s with
      settings := { s.settings with activeBank := s.settings.activeBank.other }
      monitor := { s.monitor with swapPending := false } }
    have hv : Still v := h.congr rfl rfl rfl
    obtain ⟨q1, q2, q3, q4, q5⟩ := queueC_judged ⟨.change, some .posture, dataFrame (statusIdent v.store.straps 0)
      (postureBytes v)⟩ v
    have hst : Still (exchangeBanks s) := queueC_still _ hv
    obtain ⟨t, hr, hn, hset, ht⟩ := hst.settles_doze (ts := .judgeSequence :: ts)
      (q1.trans (hp.trans (congrArg (·.posture) q4.symm))) ((congrArg (·.powerLine) q5).trans (hl.trans q2.symm))
      ((congrArg (·.alarms.notStowed) q4).trans (ha.trans q3.symm)) (congrArg (·.swapPending) q4)
      (List.forall_mem_cons.mpr ⟨rfl, hts⟩)
    refine ⟨t, .judgeStill (u := exchangeBanks s) (ts' := [.judgeSequence]) ?_
      (follow_still (by simp) (by simp) (by simp) _) hr, hn, SettledFrom.trans ⟨?_, ?_, fun hf => absurd hf hs⟩ hset, ht⟩
    · have hb : ¬ s.anyBusy = true := by simp [h.busy]
      have hdel : ¬ ts.any Task.delaysSwap = true := by simp [delaysSwap_ofRest hts]
      simp only [react, hp, hl, ha, h1, h2, h3, hs', hb, hdel, ne_eq, not_true_eq_false, not_false_eq_true,
        Bool.false_eq_true, and_self, if_false, if_true]
    · obtain ⟨b, q, d, o, he⟩ := queueC_shape ⟨.change, some .posture, dataFrame (statusIdent v.store.straps 0)
        (postureBytes v)⟩ v
      have he' : exchangeBanks s = _ := he
      rw [he']
    · exact (SettledFrom.postureFrame (.refl v)).overflow

theorem setAlarm_queued {k : Alarm} {v : Bool} (h : s.monitor.alarms.has k ≠ v) : ∃ new, setAlarm k v s
    = queueC new { s with monitor := { s.monitor with alarms := s.monitor.alarms.put k v } } :=
  ⟨_, if_neg h⟩

/-- The NOT_STOWED alarm follows its condition. -/
theorem Still.settles_alarm (h : Still s) (hp : derivePosture s = s.monitor.posture)
    (hl : s.link.powerLine = powerLineHolds s) (hts : ∀ a ∈ ts, Task.ofRest a = true) :
    ∃ t, Runs (ts.length + 4) ts s t ∧ react [] t = none ∧ SettledFrom s t ∧ Still t := by
  by_cases ha : s.monitor.alarms.notStowed = notStowedHolds s
  · obtain ⟨t, hr, hn⟩ := h.settles_swap hp hl ha hts
    exact ⟨t, hr.mono (by omega), hn⟩
  · obtain ⟨new, he⟩ := setAlarm_queued (s := s) (k := .notStowed) (v := notStowedHolds s) ha
    let v : State := { s with monitor := { s.monitor with
      alarms := s.monitor.alarms.put .notStowed (notStowedHolds s) } }
    have hv : SettledFrom s v := ⟨rfl, fun _ _ => id, fun hs => ⟨rfl, hs⟩⟩
    obtain ⟨q1, q2, q3, q4, q5⟩ := queueC_judged new v
    have hst : Still (queueC new v) := queueC_still _ (h.congr rfl rfl rfl)
    obtain ⟨t, hr, hn, hset, ht⟩ := hst.settles_swap (ts := ts)
      (q1.trans (hp.trans (congrArg (·.posture) q4.symm))) ((congrArg (·.powerLine) q5).trans (hl.trans q2.symm))
      ((congrArg (·.alarms.notStowed) q4).trans q3.symm) hts
    refine ⟨t, .judgeStill (u := queueC new v) (ts' := []) ?_
      (follow_still (by simp; rfl) (by simp; rfl) (by simp; rfl) _) hr, hn,
      (hv.trans (queueC_settledFrom new v)).trans hset, ht⟩
    rw [← he]
    simp only [react, hp, hl, ha, ne_eq, not_true_eq_false, not_false_eq_true, if_false, if_true]

/-- A part at rest whose posture is the derived one settles in its power line, alarm, swap and doze timer. -/
theorem Still.settles (h : Still s) (hp : derivePosture s = s.monitor.posture)
    (hts : ∀ a ∈ ts, Task.ofRest a = true) :
    ∃ t, Runs (ts.length + 5) ts s t ∧ react [] t = none ∧ SettledFrom s t ∧ Still t := by
  by_cases hl : s.link.powerLine = powerLineHolds s
  · obtain ⟨t, hr, hn⟩ := h.settles_alarm hp hl hts
    exact ⟨t, hr.mono (by omega), hn⟩
  · have hst : Still (judgePowerLine s) := h.congr rfl rfl rfl
    have hv : SettledFrom s (judgePowerLine s) := ⟨rfl, fun _ _ => id, fun hs => ⟨rfl, hs⟩⟩
    obtain ⟨t, hr, hn, hset, ht⟩ := hst.settles_alarm (ts := ts) hp rfl hts
    refine ⟨t, .judgeStill (u := judgePowerLine s) (ts' := []) ?_ (follow_still rfl rfl rfl _) hr, hn,
      hv.trans hset, ht⟩
    simp only [react, hp, hl, ne_eq, not_true_eq_false, not_false_eq_true, if_false, if_true]

end

end Sys2Proof.Proofs
end

section
/-! PROOFS. The halt effects (R176): what they leave at rest, what they leave as it was, and where the HALT goes. -/

namespace Sys2Proof.Proofs
open Sys2Proof.Machine Sys2Proof.Laws

/-! ### What stops that place no order leave -/

/-- The M-port's frames, the order queue and the link are as they were. -/
structure SamePort (s t : State) : Prop where
  mTransmit : t.path.mTransmit = s.path.mTransmit := by rfl
  control : t.path.control = s.path.control := by rfl
  forward : t.path.forward = s.path.forward := by rfl
  queue : t.orders.queue = s.orders.queue := by rfl
  link : t.link = s.link := by rfl

section
variable {s t u : State}

theorem SamePort.refl (s : State) : SamePort s s := {}

theorem SamePort.trans (h : SamePort s t) (k : SamePort t u) : SamePort s u :=
  ⟨k.mTransmit.trans h.mTransmit, k.control.trans h.control, k.forward.trans h.forward, k.queue.trans h.queue,
    k.link.trans h.link⟩

theorem SamePort.ite {c : Prop} [Decidable c] (h : SamePort s t) (k : SamePort s u) :
    SamePort s (if c then t else u) := by
  split
  · exact h
  · exact k

theorem SamePort.fold {α : Type} {f : State → α → State} (hf : ∀ s a, SamePort s (f s a)) (l : List α)
    (h : SamePort s t) : SamePort s (l.foldl f t) := by
  induction l generalizing t with
  | nil => exact h
  | cons a l ih => exact ih (h.trans (hf t a))

theorem queueC_samePort (new : TxEntry) (s : State) : SamePort s (queueC new s) := by
  obtain ⟨b, q, d, o, h⟩ := queueC_shape new s
  rw [h]
  exact {}

theorem handOrder_samePort (d : DriveRef) (code : DriveCode) (speed : Nat) (s : State) :
    SamePort s (handOrder false d code speed s) := by
  unfold handOrder
  (repeat' split) <;> first | exact {} | contradiction

theorem holdAll_samePort (i : Slot) (s : State) : SamePort s (holdAll false i s) :=
  .fold (fun _ _ => handOrder_samePort ..) _ (.refl s)

theorem putFn_samePort (i : Slot) (f : Function) (s : State) : SamePort s (putFn i f s) := by
  have hl : ∀ u : State, SamePort u (judgeLevelled i (s.fn i) f u) := fun u => SamePort.ite {} (.refl u)
  have ho : ∀ u : State, SamePort u (judgeOwedStowed i (s.fn i) f u) := fun u => SamePort.ite {} (.refl u)
  have hs : SamePort s (judgeOwedStowed i (s.fn i) f (judgeLevelled i (s.fn i) f (s.storeFn i f))) :=
    (SamePort.trans {} (hl (s.storeFn i f))).trans (ho _)
  exact hs.ite (hs.trans (queueC_samePort ..))

theorem windStopped_samePort (i : Slot) (r : StopReason) (s : State) : SamePort s (windStopped i r s) := by
  unfold windStopped
  split
  · exact {}
  · exact SamePort.ite {} {}
  · exact .refl s

theorem stopFn_samePort (i : Slot) (r : StopReason) (s : State) : SamePort s (stopFn false i r s) := by
  have hleave : SamePort s (leaveList i s) := {}
  have hhold : ∀ u : State, SamePort u (holdMoved false i u) := fun u => (holdAll_samePort i u).ite (.refl u)
  have hdraw : ∀ u : State, SamePort u (releaseDraw i u) := fun u => SamePort.ite {} (.refl u)
  have hrefuse : ∀ u : State, SamePort u (refuseHold i u) := fun u => SamePort.ite {} (.refl u)
  have h1 := ((hleave.trans (hhold _)).trans (hdraw _)).trans (putFn_samePort i ((s.fn i).stopped r) _)
  have h2 := SamePort.ite (c := r = .holdReleased) h1 (h1.trans (hrefuse _))
  exact SamePort.ite (SamePort.ite (h2.trans (windStopped_samePort ..)) h2) (.refl s)

theorem stopAll_samePort (r : StopReason) (is : List Slot) (s : State) : SamePort s (stopAll false r is s) :=
  .fold (fun _ _ => stopFn_samePort ..) _ (.refl s)

theorem stopPump_samePort (s : State) : SamePort s (stopPump false s) := by
  unfold stopPump
  refine SamePort.ite ?_ (.refl s)
  have h : SamePort s (pumpOrder false .pumpStop 0 s) := by
    unfold pumpOrder
    split
    · exact handOrder_samePort ..
    · exact .refl s
  exact h.trans {}

theorem closeSequence_samePort (r : SeqResult) (s : State) : SamePort s (closeSequence r s) := by
  unfold closeSequence
  refine SamePort.trans ?_ (queueC_samePort ..)
  unfold releaseSequenceGrant
  split
  · exact SamePort.ite {} {}
  · exact {}

theorem abortSequence_samePort (r : AbortReason) (s : State) : SamePort s (abortSequence false r s) :=
  SamePort.ite ((stopAll_samePort ..).trans (closeSequence_samePort ..)) (.refl s)

/-- After the HALT is offered and the queue emptied, the halt effects leave the M-port as it is. -/
theorem haltEffects_samePort (s : State) : SamePort (clearQueue (offerHalt s)) (haltEffects s) :=
  have hclear : ∀ u : State, SamePort u (clearArbiter u) := fun _ => {}
  ((((stopAll_samePort ..).trans (hclear _)).trans (stopPump_samePort _)).trans (abortSequence_samePort ..))

/-! ### What a stop leaves of the monitor -/

/-- A stop disturbs no level: the levelled flag stays. -/
theorem putFn_stopped_monitor (i : Slot) (r : StopReason) {f : Function} (hf : s.fn i = f) :
    (putFn i (f.stopped r) s).monitor = s.monitor := by
  have hd : disturbsLevel f (f.stopped r) = false := by
    simp [disturbsLevel, Function.stopped, Function.resting, Function.unmarked]
  unfold putFn
  simp only [hf, judgeLevelled, hd, Bool.and_false, Bool.false_eq_true, if_false]
  split <;> simp

theorem stopFn_monitor (place : Bool) (i : Slot) (r : StopReason) (s : State) :
    (stopFn place i r s).monitor = s.monitor := by
  simp only [stopFn]
  split
  case isFalse => rfl
  case isTrue =>
    have h1 : (releaseDraw i (holdMoved place i (leaveList i s))).monitor = s.monitor := by simp
    have h2 : (releaseDraw i (holdMoved place i (leaveList i s))).fn i = s.fn i := fn_congr (by simp) i
    have h3 := (putFn_stopped_monitor (s := releaseDraw i (holdMoved place i (leaveList i s))) i r h2).trans h1
    (repeat' split) <;> simp [h3]

theorem stopAll_monitor (place : Bool) (r : StopReason) (is : List Slot) (s : State) :
    (stopAll place r is s).monitor = s.monitor := by
  unfold stopAll
  induction is generalizing s with
  | nil => rfl
  | cons i is ih => exact (ih _).trans (stopFn_monitor ..)

theorem closeSequence_monitor (r : SeqResult) (s : State) : (closeSequence r s).monitor = s.monitor := by
  simp [closeSequence]

theorem endSequence_monitor (place : Bool) (result : SeqResult) (r : StopReason) (s : State) :
    (endSequence place result r s).monitor = s.monitor := by
  unfold endSequence
  split
  · rw [closeSequence_monitor, stopAll_monitor]
  · rfl

theorem haltEffects_monitor (s : State) : (haltEffects s).monitor = s.monitor := by
  unfold haltEffects abortSequence
  rw [endSequence_monitor]
  simp [clearArbiter, stopAll_monitor, clearQueue]

/-! ### What rests after the halt effects -/

/-- Every busy function of a list stops; the others stay. -/
theorem stopAll_slots (place : Bool) (r : StopReason) (s : State) (i : Slot) :
    (stopAll place r slots s).fn i = if (s.fn i).activity.isBusy then (s.fn i).stopped r else s.fn i := by
  split
  case isTrue h => exact stopAll_fn place r slots s h (mem_slots i)
  case isFalse h => exact stopAll_fn_rest place r slots s (by simpa using h)

theorem stopAll_slots_rest (place : Bool) (r : StopReason) (s : State) (i : Slot) :
    ((stopAll place r slots s).fn i).activity.isBusy = false := by
  rw [stopAll_slots]
  split
  · rfl
  · simp_all

/-- An end of a sequence whose jacks rest closes it. -/
theorem endSequence_notBusy {place : Bool} {result : SeqResult} {r : StopReason}
    (h : ∀ i, (s.fn i).activity.isBusy = false) :
    endSequence place result r s = if s.seqRuns then closeSequence result s else s := by
  rw [endSequence, stopAll_resting fun i _ => h i]

theorem closeSequence_functions (r : SeqResult) (s : State) : (closeSequence r s).functions = s.functions := by
  simp [closeSequence]

/-- The state in which the halt effects stop their functions. -/
def haltOffered (s : State) : State := clearQueue (offerHalt s)

/-- The halt effects up to the abort of a sequence. -/
def haltStopped (s : State) : State := stopPump false (clearArbiter (stopAll false .halted slots (haltOffered s)))

theorem haltEffects_eq (s : State) : haltEffects s = abortSequence false .halted (haltStopped s) := rfl

theorem haltStopped_fn (s : State) (i : Slot) :
    (haltStopped s).fn i
      = if (s.fn i).activity.isBusy then (s.fn i).stopped .halted else s.fn i := by
  have hf : (haltStopped s).functions
      = (stopAll false .halted slots (haltOffered s)).functions := by simp [haltStopped, clearArbiter]
  have ho : (haltOffered s).fn i = s.fn i := fn_congr (by simp [haltOffered, clearQueue]) i
  rw [fn_congr hf, stopAll_slots, ho]

theorem haltStopped_rest (s : State) (i : Slot) :
    ((haltStopped s).fn i).activity.isBusy = false := by
  rw [haltStopped_fn]
  split
  · rfl
  · simp_all

theorem haltEffects_closed (s : State) : haltEffects s
    = if (haltStopped s).seqRuns then
        closeSequence (.aborted .halted) (haltStopped s)
      else haltStopped s := by
  rw [haltEffects_eq, abortSequence, endSequence_notBusy (haltStopped_rest s)]

theorem haltEffects_fn (s : State) (i : Slot) :
    (haltEffects s).fn i = if (s.fn i).activity.isBusy then (s.fn i).stopped .halted else s.fn i := by
  rw [haltEffects_closed, ← haltStopped_fn]
  split
  · exact fn_congr (closeSequence_functions ..) i
  · rfl

theorem stopPump_off (place : Bool) (s : State) : (stopPump place s).manifold.pump.isOn = false := by
  unfold stopPump
  split
  · rfl
  · simp_all

theorem stopPump_waits (place : Bool) (s : State) : (stopPump place s).manifold.waitList = s.manifold.waitList
    ∧ (stopPump place s).manifold.holder = s.manifold.holder := by
  unfold stopPump
  split <;> simp

theorem closeSequence_manifold {r : SeqResult} (h : s.manifold.holder = none) :
    (closeSequence r s).manifold = s.manifold := by
  simp [closeSequence, releaseSequenceGrant, h]

theorem closeSequence_ended (r : SeqResult) (s : State) : (closeSequence r s).seqRuns = false := by
  have hs : (closeSequence r s).sequence = s.sequence.ended r := by simp [closeSequence]
  rw [State.seqRuns, hs]
  rfl

theorem haltStopped_manifold (s : State) : (haltStopped s).manifold.waitList = []
    ∧ (haltStopped s).manifold.holder = none ∧ (haltStopped s).manifold.pump.isOn = false := by
  obtain ⟨hw, hh⟩ := stopPump_waits false (clearArbiter (stopAll false .halted slots (haltOffered s)))
  rw [haltStopped, hw, hh]
  exact ⟨rfl, rfl, stopPump_off ..⟩

/-- After the halt effects everything rests. -/
theorem haltEffects_still (s : State) : Still (haltEffects s) := by
  obtain ⟨hw, hh, hoff⟩ := haltStopped_manifold s
  have hb : (haltEffects s).anyBusy = false := List.any_eq_false.mpr fun i _ => by
    rw [haltEffects_fn]
    split
    · exact Bool.false_ne_true
    · assumption
  have hm : (haltEffects s).manifold
      = (haltStopped s).manifold := by
    rw [haltEffects_closed]
    split
    · exact closeSequence_manifold hh
    · rfl
  refine ⟨hb, ?_, by rw [hm, hw], by rw [hm, hh], by rw [hm, hoff]⟩
  rw [haltEffects_closed]
  split
  · exact closeSequence_ended ..
  · simp_all

end

end Sys2Proof.Proofs
end

section
/-! PROOFS. HALT and the M-port's bus-off: where the HALT frame goes, and the part at rest after both. -/

namespace Sys2Proof.Proofs
open Sys2Proof.Machine Sys2Proof.Laws

section
variable {s t u : State}

/-! ### Where the HALT goes (R150) -/

/-- The M-port cannot send at once. -/
def Blocked (s : State) : Prop := s.path.mTransmit.isSome = true ∨ s.path.mState = .busOff ∨ s.store.doze = true

theorem pumpM_blocked (h : Blocked s) : pumpM s = s := by
  unfold pumpM
  rw [if_pos]
  rcases h with h | h | h <;> simp [h]

/-- Behind a frame being sent, or with no port to send it, the HALT waits in the slot, in place of what stood there. -/
theorem offerHalt_blocked (h : Blocked s) : (offerHalt s).path.control = some .halt
    ∧ (offerHalt s).path.mTransmit = s.path.mTransmit ∧ (offerHalt s).path.forward = s.path.forward
    ∧ (offerHalt s).link.offers = (match s.path.control with
      | some (.enrol f) => f :: s.link.offers
      | _ => s.link.offers) := by
  unfold offerHalt
  split
  case h_1 hc => exact ⟨hc, rfl, rfl, by rw [hc]⟩
  all_goals
    rename_i hc
    rw [pumpM_blocked (by exact h), hc]
    exact ⟨rfl, rfl, rfl, rfl⟩

theorem pumpM_halt (ht : s.path.mTransmit = none) (ha : s.path.mState = .active) (hd : s.store.doze = false)
    (hc : s.path.control = some .halt) : (pumpM s).path.mTransmit = some (dataFrame (linkIdent 1 0) []) := by
  rw [pumpM_control ht ha hd hc]
  exact offerHeld_mTransmit _

/-- With the buffer free the HALT is sent at once. -/
theorem offerHalt_free (ht : s.path.mTransmit = none) (ha : s.path.mState = .active) (hd : s.store.doze = false)
    (hc : s.path.control ≠ some .halt) : (offerHalt s).path.mTransmit = some (dataFrame (linkIdent 1 0) []) := by
  unfold offerHalt
  split
  case h_1 h => exact absurd h hc
  all_goals exact pumpM_halt ht ha hd rfl

theorem haltEffects_offered (s : State) : (haltEffects s).path.control = (offerHalt s).path.control
    ∧ (haltEffects s).path.mTransmit = (offerHalt s).path.mTransmit
    ∧ (haltEffects s).path.forward = (offerHalt s).path.forward ∧ (haltEffects s).orders.queue = []
    ∧ (haltEffects s).link = (offerHalt s).link := by
  obtain ⟨h1, h2, h3, h4, h5⟩ := haltEffects_samePort s
  exact ⟨h2, h1, h3, h4, h5⟩

theorem haltEffects_onlyMotion (s : State) : OnlyMotion s (haltEffects s) := (Acts.haltEffects .refl).onlyMotion

/-- The halt effects on a part at rest offer the HALT and empty the queue. -/
theorem haltEffects_of_still (h : Still s) : (haltEffects s).functions = s.functions
    ∧ (haltEffects s).manifold = s.manifold ∧ (haltEffects s).budget = s.budget := by
  have hb : ∀ i ∈ slots, ((haltOffered s).fn i).activity.isBusy = false := fun i _ => by
    have hf : (haltOffered s).fn i = s.fn i := fn_congr (by simp [haltOffered, clearQueue]) i
    rw [hf]
    exact notBusy_of_any h.busy i
  have hm : (haltOffered s).manifold = s.manifold := by simp [haltOffered, clearQueue]
  have hoff : (clearArbiter (haltOffered s)).manifold.pump.isOn = false := by
    rw [clearArbiter, hm]
    exact h.pump
  have hstop : haltStopped s = clearArbiter (haltOffered s) := by
    rw [haltStopped, stopAll_resting hb, stopPump, hoff]
    rfl
  have hq : (clearArbiter (haltOffered s)).seqRuns = false := by
    rw [← h.sequence]
    simp [clearArbiter, haltOffered, clearQueue, State.seqRuns]
  rw [haltEffects_closed, hstop, hq]
  refine ⟨by simp [clearArbiter, haltOffered, clearQueue], ?_, by simp [clearArbiter, haltOffered, clearQueue]⟩
  show (clearArbiter (haltOffered s)).manifold = s.manifold
  rw [clearArbiter, hm]
  show { s.manifold with waitList := [], holder := none } = s.manifold
  rw [← h.waitList, ← h.holder]

/-! ### The part after a halt -/

/-- What a part is after the halt effects on it, but for its posture, alarms and power line. -/
structure Halted (s t : State) : Prop where
  still : Still t
  queue : t.orders.queue = []
  fn : ∀ i, t.fn i = if (s.fn i).activity.isBusy then (s.fn i).stopped .halted else s.fn i
  now : t.now = s.now
  signals : t.monitor.signals = s.monitor.signals
  levelled : t.monitor.levelled = s.monitor.levelled
  nodes : t.link.nodes = s.link.nodes
  outcome : t.link.outcome = s.link.outcome
  cReceive : t.path.cReceive = s.path.cReceive
  mReceive : t.path.mReceive = s.path.mReceive
  image : t.store.image = s.store.image
  factoryLoaded : t.store.factoryLoaded = s.store.factoryLoaded
  doze : t.store.doze = s.store.doze
  mState : t.path.mState = s.path.mState
  mRecovery : t.path.mRecovery = s.path.mRecovery
  censusFault : t.monitor.alarms.censusFault = s.monitor.alarms.censusFault
  whole : t.overrun = s.overrun
  blocked : Blocked s → t.path.control = some .halt ∧ t.path.mTransmit = s.path.mTransmit
    ∧ (∀ f, s.path.control = some (.enrol f) → t.link.offers = f :: s.link.offers)
  free : s.path.mTransmit = none → s.path.mState = .active → s.store.doze = false → s.path.control ≠ some .halt →
    t.path.mTransmit = some (dataFrame (linkIdent 1 0) [])
  forward : s.path.forward = [] → t.path.forward = []

theorem offerHeld_forward (s : State) : (offerHeld s).path.forward = s.path.forward := by
  rcases offerHeld_shape s with h | ⟨f, rest, -, h⟩ <;> rw [h]

theorem pumpM_halt_forward (hc : s.path.control = some .halt) : (pumpM s).path.forward = s.path.forward := by
  unfold pumpM
  split
  · rfl
  · rw [hc]
    exact offerHeld_forward _

theorem offerHalt_forward (s : State) : (offerHalt s).path.forward = s.path.forward := by
  unfold offerHalt
  split
  · rfl
  all_goals exact pumpM_halt_forward rfl

theorem haltEffects_halted (s : State) : Halted s (haltEffects s) := by
  have hm := haltEffects_onlyMotion s
  obtain ⟨h1, h2, h3, h4, h5⟩ := haltEffects_offered s
  have hk := haltEffects_kept s
  exact
    { still := haltEffects_still s
      queue := h4
      fn := haltEffects_fn s
      now := hm.now
      signals := by rw [haltEffects_monitor]
      levelled := by rw [haltEffects_monitor]
      nodes := by rw [h5, offerHalt_nodes]
      outcome := hm.outcome
      cReceive := hm.cReceive
      mReceive := hm.mReceive
      image := by rw [hm.store]
      factoryLoaded := by rw [hm.store]
      doze := by rw [hm.store]
      mState := hm.mState
      mRecovery := hm.mRecovery
      censusFault := by rw [haltEffects_monitor]
      whole := hm.overrun
      blocked := fun hb => by
        obtain ⟨b1, b2, -, b4⟩ := offerHalt_blocked hb
        exact ⟨h1.trans b1, h2.trans b2, fun f hf => by rw [h5, b4, hf]⟩
      free := fun ht ha hd hc => h2.trans (offerHalt_free ht ha hd hc)
      forward := fun hf => h3.trans ((offerHalt_forward s).trans hf) }

/-- A second HALT finds everything at rest; it waits behind the first, or is it. -/
theorem Halted.again (h : Halted s t) (hu : u = { t with
      monitor := { t.monitor with posture := u.monitor.posture }
      path := { t.path with cTransmit := u.path.cTransmit, cQueue := u.path.cQueue, cDiscard := u.path.cDiscard }
      matching := { t.matching with forwardOverflow := u.matching.forwardOverflow } }) :
    Halted s (haltEffects u) := by
  have k := haltEffects_halted u
  obtain ⟨p1, p2, p3, -, p5⟩ := haltEffects_offered u
  have hfn : ∀ i, u.fn i = t.fn i := fn_congr (congrArg (·.functions) hu)
  have hsend : Blocked u → (haltEffects u).path.mTransmit = t.path.mTransmit := fun hb =>
    (k.blocked hb).2.1.trans (congrArg (·.path.mTransmit) hu)
  exact
    { still := k.still
      queue := k.queue
      fn := fun i => by
        rw [k.fn i, hfn i, notBusy_of_any h.still.busy i]
        exact h.fn i
      now := (k.now.trans (congrArg (·.now) hu)).trans h.now
      signals := (k.signals.trans (congrArg (·.monitor.signals) hu)).trans h.signals
      levelled := (k.levelled.trans (congrArg (·.monitor.levelled) hu)).trans h.levelled
      nodes := (k.nodes.trans (congrArg (·.link.nodes) hu)).trans h.nodes
      outcome := (k.outcome.trans (congrArg (·.link.outcome) hu)).trans h.outcome
      cReceive := (k.cReceive.trans (congrArg (·.path.cReceive) hu)).trans h.cReceive
      mReceive := (k.mReceive.trans (congrArg (·.path.mReceive) hu)).trans h.mReceive
      image := (k.image.trans (congrArg (·.store.image) hu)).trans h.image
      factoryLoaded := (k.factoryLoaded.trans (congrArg (·.store.factoryLoaded) hu)).trans h.factoryLoaded
      doze := (k.doze.trans (congrArg (·.store.doze) hu)).trans h.doze
      mState := (k.mState.trans (congrArg (·.path.mState) hu)).trans h.mState
      mRecovery := (k.mRecovery.trans (congrArg (·.path.mRecovery) hu)).trans h.mRecovery
      censusFault := (k.censusFault.trans (congrArg (·.monitor.alarms.censusFault) hu)).trans h.censusFault
      whole := (k.whole.trans (congrArg (·.overrun) hu)).trans h.whole
      blocked := fun hb => by
        obtain ⟨b1, b2, b3⟩ := h.blocked hb
        have hub : Blocked u := by
          rw [hu]
          exact hb.imp (fun hm => by rw [← b2] at hm; exact hm)
            (Or.imp (fun hm => h.mState.trans hm) fun hd => h.doze.trans hd)
        have hc : u.path.control = some .halt := (congrArg (·.path.control) hu).trans b1
        have hoff : offerHalt u = u := by simp only [offerHalt, hc]
        refine ⟨(k.blocked hub).1, (hsend hub).trans b2, fun f hf => ?_⟩
        rw [p5, hoff]
        exact (congrArg (·.link.offers) hu).trans (b3 f hf)
      free := fun ht ha hd hc => by
        have hm := h.free ht ha hd hc
        refine (hsend (.inl ?_)).trans hm
        rw [hu]
        exact Option.isSome_iff_exists.mpr ⟨_, hm⟩
      forward := fun hf => p3.trans ((offerHalt_forward u).trans ((congrArg (·.path.forward) hu).trans (h.forward hf))) }

/-- What settles after a halt leaves what the halt left. -/
theorem Halted.settled (h : Halted s t) (hu : SettledFrom t u) (hs : Still u) : Halted s u := by
  have e := hu.rest
  exact
    { still := hs
      queue := (congrArg (·.orders.queue) e).trans h.queue
      fn := fun i => (fn_congr (congrArg (·.functions) e) i).trans (h.fn i)
      now := (congrArg (·.now) e).trans h.now
      signals := (congrArg (·.monitor.signals) e).trans h.signals
      levelled := (congrArg (·.monitor.levelled) e).trans h.levelled
      nodes := (congrArg (·.link.nodes) e).trans h.nodes
      outcome := (congrArg (·.link.outcome) e).trans h.outcome
      cReceive := (congrArg (·.path.cReceive) e).trans h.cReceive
      mReceive := (congrArg (·.path.mReceive) e).trans h.mReceive
      image := (congrArg (·.store.image) e).trans h.image
      factoryLoaded := (congrArg (·.store.factoryLoaded) e).trans h.factoryLoaded
      doze := (congrArg (·.store.doze) e).trans h.doze
      mState := (congrArg (·.path.mState) e).trans h.mState
      mRecovery := (congrArg (·.path.mRecovery) e).trans h.mRecovery
      censusFault := (congrArg (·.monitor.alarms.censusFault) e).trans h.censusFault
      whole := (congrArg (·.overrun) e).trans h.whole
      blocked := fun hb => by
        obtain ⟨b1, b2, b3⟩ := h.blocked hb
        exact ⟨(congrArg (·.path.control) e).trans b1, (congrArg (·.path.mTransmit) e).trans b2,
          fun f hf => (congrArg (·.link.offers) e).trans (b3 f hf)⟩
      free := fun ht ha hd hc => (congrArg (·.path.mTransmit) e).trans (h.free ht ha hd hc)
      forward := fun hf => (congrArg (·.path.forward) e).trans (h.forward hf) }

/-! ### How a halted part settles -/

/-- What follows a change to rest is a service pass at most, besides its own tasks. -/
theorem follow_rest (h : Still u) {ts : List Task} (hts : ∀ a ∈ ts, Task.ofRest a = true) (s : State) :
    (∀ a ∈ follow s (u, ts), Task.ofRest a = true) ∧ (follow s (u, ts)).length ≤ ts.length + 1 := by
  have hc : clearanceTasks s u = [] := by
    simp only [clearanceTasks, List.map_eq_nil_iff, List.filter_eq_nil_iff]
    intro i _
    split <;> simp [h.moves]
  simp only [follow, hc, List.nil_append]
  split
  · exact ⟨List.forall_mem_cons.mpr ⟨rfl, hts⟩, by simp⟩
  · exact ⟨hts, by simp⟩

/-- Nothing that moves lessens the count of the forwarded frames lost. -/
theorem Acts.overflow (h : Acts s t) : ∀ n ≤ 65535, n ≤ s.matching.forwardOverflow → n ≤ t.matching.forwardOverflow := by
  induction h with
  | refl => exact fun _ _ => id
  | queueC _ ih => exact fun n hn hs => queueC_overflow _ _ hn (ih n hn hs)
  | handOrder _ ih => simpa using ih
  | offerHalt _ ih => simpa using ih
  | _ => assumption

/-- What a halt that settles leaves of the configuration, the lines and the counts. -/
structure LeftByHalt (s t : State) : Prop where
  inputs : t.inputs = s.inputs
  settings : t.settings = { s.settings with activeBank := t.settings.activeBank }
  bank : s.monitor.swapPending = false → t.settings = s.settings
  overflow : ∀ n ≤ 65535, n ≤ s.matching.forwardOverflow → n ≤ t.matching.forwardOverflow

theorem SettledFrom.leftByHalt (h : SettledFrom s t) : LeftByHalt s t :=
  ⟨congrArg (·.inputs) h.rest, congrArg (·.settings) h.rest, fun hs => (h.bank hs).1, h.overflow⟩

/-- What a halt leaves, it leaves after a change that leaves the same. -/
theorem LeftByHalt.after {w : State} (hi : w.inputs = s.inputs) (hs : w.settings = s.settings)
    (hp : w.monitor.swapPending = s.monitor.swapPending)
    (ho : ∀ n ≤ 65535, n ≤ s.matching.forwardOverflow → n ≤ w.matching.forwardOverflow) (h : LeftByHalt w t) :
    LeftByHalt s t where
  inputs := h.inputs.trans hi
  settings := h.settings.trans (by rw [hs])
  bank hb := (h.bank (hp.trans hb)).trans hs
  overflow n hn hb := h.overflow n hn (ho n hn hb)

theorem not_pending (hr : react [] s = none) (h : Still s) : s.monitor.swapPending = false := by
  obtain ⟨-, -, -, -, -, -, hs, -⟩ := (react_none_iff s).mp hr
  by_contra hp
  exact hs ⟨by simpa using hp, h.busy⟩

/-- A halted part whose posture is derived settles. -/
theorem Halted.settles (h : Halted s u) (hp : derivePosture u = u.monitor.posture) {ts : List Task}
    (hts : ∀ a ∈ ts, Task.ofRest a = true) : ∃ t, Runs (ts.length + 5) ts u t ∧ Halted s t ∧ react [] t = none
      ∧ LeftByHalt u t ∧ t.monitor.posture = u.monitor.posture := by
  obtain ⟨t, hr, hn, hset, hst⟩ := h.still.settles hp hts
  exact ⟨t, hr, h.settled hset hst, hn, hset.leftByHalt, congrArg (·.monitor.posture) hset.rest⟩

theorem setPosture_queued {p : Posture} (h : s.monitor.posture ≠ p) :
    ∃ new, setPosture p s = queueC new { s with monitor := { s.monitor with posture := p } } :=
  ⟨_, if_neg h⟩

theorem setPosture_shape (p : Posture) (s : State) : setPosture p s = { s with
    monitor := { s.monitor with posture := p }
    path := { s.path with
      cTransmit := (setPosture p s).path.cTransmit, cQueue := (setPosture p s).path.cQueue
      cDiscard := (setPosture p s).path.cDiscard }
    matching := { s.matching with forwardOverflow := (setPosture p s).matching.forwardOverflow } } := by
  by_cases h : s.monitor.posture = p
  · have he : setPosture p s = s := if_pos h
    rw [he, ← h]
  · obtain ⟨new, he⟩ := setPosture_queued h
    obtain ⟨b, q, d, o, hq⟩ := queueC_shape new { s with monitor := { s.monitor with posture := p } }
    rw [he, hq]

theorem setPosture_overflow (p : Posture) (s : State) :
    ∀ n ≤ 65535, n ≤ s.matching.forwardOverflow → n ≤ (setPosture p s).matching.forwardOverflow := by
  by_cases h : s.monitor.posture = p
  · have he : setPosture p s = s := if_pos h
    rw [he]
    exact fun _ _ => id
  · obtain ⟨new, he⟩ := setPosture_queued h
    rw [he]
    exact fun n hn hs => queueC_overflow _ _ hn hs

/-- The entry into FAULT: the posture, then the halt effects. -/
def faultEntered (s : State) : State := haltEffects (setPosture .fault s)

theorem enterFault_eq (h : s.monitor.posture ≠ .fault) : enterFault s = faultEntered s := if_neg h

theorem faultEntered_posture (s : State) : (faultEntered s).monitor.posture = .fault := by
  rw [faultEntered, haltEffects_monitor, setPosture_shape]

theorem faultEntered_swapPending (s : State) : (faultEntered s).monitor.swapPending = s.monitor.swapPending := by
  rw [faultEntered, haltEffects_monitor, setPosture_shape]

theorem faultEntered_overflow (s : State) :
    ∀ n ≤ 65535, n ≤ s.matching.forwardOverflow → n ≤ (faultEntered s).matching.forwardOverflow := by
  have ho : ∀ u : State, ∀ n ≤ 65535, n ≤ u.matching.forwardOverflow → n ≤ (haltEffects u).matching.forwardOverflow :=
    fun u => (Acts.haltEffects (.refl (s := u))).overflow
  intro n hn hs
  rw [faultEntered]
  exact ho (setPosture .fault s) n hn (setPosture_overflow .fault s n hn hs)

theorem faultEntered_onlyMotion (s : State) : OnlyMotion (setPosture .fault s) (faultEntered s) :=
  haltEffects_onlyMotion _

theorem faultEntered_faultHolds (h : s.faultHolds = true) : (faultEntered s).faultHolds = true := by
  have hm := faultEntered_onlyMotion s
  rw [setPosture_shape] at hm
  have e1 : (faultEntered s).store = s.store := hm.store
  have e2 : (faultEntered s).link.outcome = s.link.outcome := hm.outcome
  have e3 : (faultEntered s).inputs = s.inputs := hm.inputs
  have e4 : (faultEntered s).path.mState = s.path.mState := hm.mState
  rw [← h, State.faultHolds, State.faultHolds, e1, e2, e3, e4]

theorem LeftByHalt.ofEntered (h : LeftByHalt (faultEntered s) t) : LeftByHalt s t := by
  have hi : (faultEntered s).inputs = s.inputs := by
    have hm := (faultEntered_onlyMotion s).inputs
    rwa [setPosture_shape] at hm
  have hs : (faultEntered s).settings = s.settings := by
    have hm := (faultEntered_onlyMotion s).settings
    rwa [setPosture_shape] at hm
  exact h.after hi hs (faultEntered_swapPending s) (faultEntered_overflow s)

theorem Runs.judged {k : Nat} {ts ts' : List Task} (h : react ts s = some (u, ts'))
    (hk : Runs k (follow s (u, ts') ++ ts) u t) : Runs (k + 1) ts s t := .judge h hk

/-- A part whose posture turns FAULT comes to rest. -/
theorem Halted.settles_entered (h : Halted s (faultEntered u)) (hf : u.faultHolds = true)
    (hp : u.monitor.posture ≠ .fault) {ts : List Task} (hts : ∀ a ∈ ts, Task.ofRest a = true) :
    ∃ t, Runs (ts.length + 7) ts u t ∧ Halted s t ∧ react [] t = none ∧ LeftByHalt u t
      ∧ t.monitor.posture = .fault := by
  obtain ⟨f1, f2⟩ := follow_rest h.still (ts := []) nofun u
  obtain ⟨t, hr, ht, hn, hl, hpt⟩ := h.settles
    ((derivePosture_fault (faultEntered_faultHolds hf)).trans (faultEntered_posture u).symm)
    (ts := follow u (faultEntered u, []) ++ ts) (List.forall_mem_append.mpr ⟨f1, hts⟩)
  refine ⟨t, .mono (.judged (u := faultEntered u) (ts' := []) ?_ hr) ?_, ht, hn, hl.ofEntered,
    hpt.trans (faultEntered_posture u)⟩
  · have hne : derivePosture u ≠ u.monitor.posture := by
      rw [derivePosture_fault hf]
      exact fun he => hp he.symm
    rw [react, if_pos hne, changePosture, if_pos (derivePosture_fault hf), enterFault_eq hp]
  · simp only [List.length_append]
    simp only [List.length_nil] at f2
    omega

/-- FAULT follows a halt that finds its cause: the halt effects come again, and the part settles. -/
theorem Halted.settles_fault (h : Halted s u) (hf : u.faultHolds = true) {ts : List Task}
    (hts : ∀ a ∈ ts, Task.ofRest a = true) : ∃ t, Runs (ts.length + 7) ts u t ∧ Halted s t ∧ react [] t = none
      ∧ LeftByHalt u t ∧ t.monitor.posture = .fault := by
  by_cases hp : u.monitor.posture = .fault
  · obtain ⟨t, hr, ht, hn, hl, hpt⟩ := h.settles ((derivePosture_fault hf).trans hp.symm) hts
    exact ⟨t, hr.mono (by omega), ht, hn, hl, hpt.trans hp⟩
  · have hw : Halted s (faultEntered u) := h.again (by rw [setPosture_shape])
    exact hw.settles_entered hf hp hts

end

/-! ### The stop-all line and the HALT command (R175, R176) -/

theorem perform_change_runs {k : Nat} {f : State → State} {s t u : State} (hs : s.isReady = true) (hf : f s = u)
    (hk : Runs k (follow s (u, [])) u t) (hb : k ≤ 1000) : perform (change f) s = .next t := by
  subst hf
  exact perform_runs hs rfl hk hb

theorem powerLine_fault {t : State} (hr : react [] t = none) (hp : t.monitor.posture = .fault) :
    t.link.powerLine = false := by
  obtain ⟨-, hl, -⟩ := (react_none_iff t).mp hr
  rw [hl]
  simp [powerLineHolds, hp]

/-- A halt leaves what the posture is derived from. -/
theorem haltEffects_derivePosture (s : State) : derivePosture (haltEffects s) = derivePosture s := by
  have hm := haltEffects_onlyMotion s
  have hc : ∀ i, (haltEffects s).cfg i = s.cfg i := fun i => by rw [State.cfg, hm.settings]; rfl
  have hj : ∀ i, (haltEffects s).availableJack i = s.availableJack i := fun i => by
    simp only [State.availableJack, State.isJack, hc, haltEffects_fn]
    split
    case isTrue hb =>
      have hne : ((s.fn i).activity != .unavailable) = true :=
        bne_iff_ne.mpr fun he => by rw [he] at hb; cases hb
      rw [hne]
      rfl
    case isFalse => rfl
  have hk : ∀ i, ((haltEffects s).fn i).contact = (s.fn i).contact := fun i => by
    rw [haltEffects_fn]
    split <;> rfl
  have hs : (haltEffects s).stabilisedHolds = s.stabilisedHolds := by simp only [State.stabilisedHolds, funext hj, hk]
  have hv : ∀ g, (haltEffects s).value g = s.value g := fun g => by
    simp only [State.value, State.signal, hm.signals]
  have ht : (haltEffects s).settings.travelSpeed = s.settings.travelSpeed := by rw [hm.settings]
  simp only [derivePosture, State.faultHolds, hs, hv, ht, haltEffects_monitor, hm.store, hm.outcome, hm.inputs,
    hm.mState]
  rfl

theorem Halted.setStopAll {s t : State} {v : Bool} (h : Halted (setStopAll v s) t) : Halted s t := { h with }

theorem Halted.renewed {s t : State} (h : Halted s.renewed t) : Halted s t := { h with }

theorem Halted.replied {s t : State} {code tag : Byte} {o : ReplyOutcome} {r : List Byte} (h : Halted s t) :
    Halted s (queueReply code tag o r t) := h.settled (queueC_settledFrom ..) (queueC_still _ h.still)

/-- A part that has carried out HALT and replied. -/
def haltReplied (tag : Byte) (s : State) : State := queueReply 0x42 tag .done [] (haltEffects s.renewed)

theorem queueReply_onlyMotion (code tag : Byte) (o : ReplyOutcome) (r : List Byte) (s : State) :
    OnlyMotion s (queueReply code tag o r s) := queueC_onlyMotion ..

theorem queueReply_derivePosture (code tag : Byte) (o : ReplyOutcome) (r : List Byte) (s : State) :
    derivePosture (queueReply code tag o r s) = derivePosture s := (queueC_judged ..).1

theorem haltReplied_onlyMotion (tag : Byte) (s : State) : OnlyMotion s.renewed (haltReplied tag s) := by
  have h := haltEffects_onlyMotion s.renewed
  unfold haltReplied
  exact h.trans (queueReply_onlyMotion ..)

theorem renewed_derivePosture (s : State) : derivePosture s.renewed = derivePosture s := rfl

theorem haltReplied_derivePosture (tag : Byte) (s : State) : derivePosture (haltReplied tag s) = derivePosture s := by
  rw [haltReplied, queueReply_derivePosture, haltEffects_derivePosture, renewed_derivePosture]

/-- Settles O7: the halt effects bring everything to rest, and the judgements that follow leave it there. -/
theorem haltBringsEverythingToRest : Obligations.HaltBringsEverythingToRest := by
  intro s tag still
  have hstill : ∀ t : State, Halted s t → t.overrun = false → t.monitor.swapPending = false →
      t.settings = { s.settings with activeBank := t.settings.activeBank } →
      (s.monitor.swapPending = false → t.settings = s.settings) → still t := by
    intro t h ho hs hset hb
    refine ⟨h.still.busy, h.still.sequence, h.still.waitList, h.still.holder, h.still.pump, h.queue, ho, hs, h.fn, hset,
      h.now, hb, h.signals, h.levelled, h.nodes, h.outcome, h.cReceive, h.mReceive, h.image, fun hc => h.blocked hc,
      h.free⟩
  refine ⟨fun hs ha => ?_, fun hs => ?_⟩
  · obtain ⟨hr, ho, -⟩ := (isReady_iff s).mp hs
    have hh : Halted s (stopAllRises s) := .setStopAll (v := true) (haltEffects_halted _)
    have hu : OnlyMotion (setStopAll true s) (stopAllRises s) := haltEffects_onlyMotion _
    have hi : (stopAllRises s).inputs = { s.inputs with stopAll := true } := hu.inputs
    have hset : (stopAllRises s).settings = s.settings := hu.settings
    have hsw : (stopAllRises s).monitor.swapPending = s.monitor.swapPending := hu.swapPending
    have hf : (stopAllRises s).faultHolds = true := by simp [State.faultHolds, hi]
    obtain ⟨f1, f2⟩ := follow_rest hh.still (ts := []) nofun s
    obtain ⟨t, hrun, ht, hn, hl, hp⟩ := hh.settles_fault hf f1
    have he : exec .stopAllActive s = perform (change stopAllRises) s := by
      simp only [exec, execStopAllActive, ha, hr, Bool.not_true, Bool.false_eq_true, if_false]
    have hlen : (follow s (stopAllRises s, [])).length + 7 ≤ 1000 := by
      simp only [List.length_nil] at f2
      omega
    exact ⟨t, he.trans (perform_change_runs hs rfl hrun hlen),
      hstill t ht (ht.whole.trans ho) (not_pending hn ht.still) (hl.settings.trans (by rw [hset]))
        (fun hb => (hl.bank (hsw.trans hb)).trans hset), hl.inputs.trans hi, hp, powerLine_fault hn hp⟩
  · obtain ⟨hready, -, -, -⟩ := (takesCommands_iff s).mp hs
    obtain ⟨hr, ho, hq⟩ := (isReady_iff s).mp hready
    have hh : Halted s (haltReplied tag s) := .renewed (.replied (haltEffects_halted _))
    have hm := haltReplied_onlyMotion tag s
    have hp : derivePosture (haltReplied tag s) = (haltReplied tag s).monitor.posture := by
      rw [hm.posture, haltReplied_derivePosture]
      exact ((react_none_iff s).mp hq).1
    obtain ⟨f1, f2⟩ := follow_rest hh.still (ts := []) nofun s.renewed
    obtain ⟨t, hrun, ht, hn, hl, hpt⟩ := hh.settles hp f1
    have hset : (haltReplied tag s).settings = s.settings := hm.settings
    have hi : (haltReplied tag s).inputs = s.inputs := hm.inputs
    have hpost : t.monitor.posture = s.monitor.posture := hpt.trans hm.posture
    have hlen : (follow s.renewed (haltReplied tag s, [])).length + 5 ≤ 999 := by
      simp only [List.length_nil] at f2
      omega
    refine ⟨t, perform_answer_runs (code := .halt) hs rfl nofun nofun rfl hrun hlen,
      hstill t ht (ht.whole.trans ho) (not_pending hn ht.still) (hl.settings.trans (by rw [hset]))
        (fun hb => (hl.bank (hm.swapPending.trans hb)).trans hset), hl.inputs.trans hi, hpost, ?_⟩
    obtain ⟨-, ht2, -⟩ := (react_none_iff t).mp hn
    obtain ⟨-, hs2, -⟩ := (react_none_iff s).mp hq
    rw [ht2, hs2, powerLineHolds, powerLineHolds, ht.outcome, hpost, hl.inputs.trans hi, ht.doze]

end Sys2Proof.Proofs
end

section
/-! PROOFS. The M-port's bus-off (R153) and what a census start leaves (R157). -/

namespace Sys2Proof.Proofs
open Sys2Proof.Machine Sys2Proof.Laws

/-! ### The M-port goes BUS_OFF (R153) -/

/-- The port BUS_OFF, with the frame being sent and those to forward lost. -/
def portOff (s : State) : State :=
  { s with
    path := { s.path with mState := .busOff, mTransmit := none, forward := [] }
    matching := { s.matching with
      forwardOverflow := min (s.matching.forwardOverflow + s.path.forward.length) 65535 } }

theorem offM_quiet {s : State} (ha : s.path.mState = .active) (ho : s.link.outcome ≠ .running) :
    offM s = portOff s := by
  have hb : ¬ s.path.mState = .busOff := by simp [ha]
  rw [offM, if_neg hb, abandonCensus]
  exact if_neg ho

/-- A running census abandoned at the bus-off. -/
def censusAbandoned (s : State) : State :=
  (clearNodes (setOutcome .notRun (closeCensus (portOff s)))).setLink
    { (clearNodes (setOutcome .notRun (closeCensus (portOff s)))).link with count := 0 }

theorem offM_running {s : State} (ha : s.path.mState = .active) (ho : s.link.outcome = .running) :
    offM s = censusAbandoned s := by
  have hb : ¬ s.path.mState = .busOff := by simp [ha]
  rw [offM, if_neg hb, abandonCensus]
  exact if_pos ho

theorem portOff_faultHolds (s : State) : (portOff s).faultHolds = true := by simp [State.faultHolds, portOff]

theorem posture_faultHolds {s : State} (hs : react [] s = none) (hp : s.monitor.posture = .fault) :
    s.faultHolds = true := by
  obtain ⟨hd, -⟩ := (react_none_iff s).mp hs
  by_contra hf
  have hne : derivePosture s ≠ .fault := by
    unfold derivePosture
    rw [if_neg hf]
    (repeat' split) <;> nofun
  exact hne (hd.trans hp)

theorem exec_offM_fault {s : State} (hs : s.isReady = true) (ha : s.path.mState = .active)
    (hp : s.monitor.posture = .fault) (ho : s.link.outcome ≠ .running) :
    exec .mPortBusOff s = .next (portOff s) := by
  refine exec_quiet hs rfl (by simp [restartsAt]) (congrArg (·, []) (offM_quiet ha ho))
    (faultStays hs (posture_faultHolds (ready_quiet hs) hp) (portOff_faultHolds s) (SameRead.followed ?_))
  exact ⟨by constructor <;> intros <;> rfl, rfl, rfl⟩

theorem censusAbandoned_link {s : State} (hl : s.link.powerLine = false) : (censusAbandoned s).link = { s.link with
    outcome := .notRun, count := 0, nodes := Vector.replicate 24 Node.absent, outstanding := none
    enrolTimer := none, offers := [], chainLine := false, powerLine := false } := by
  have hlink : (setOutcome .notRun (closeCensus (portOff s))).link
      = { (closeCensus (portOff s)).link with outcome := .notRun } := setOutcome_link ..
  simp only [censusAbandoned, clearNodes, State.setLink, hlink]
  exact congrArg (fun b => ({ s.link with
    outcome := .notRun, count := 0, nodes := Vector.replicate 24 Node.absent, outstanding := none
    enrolTimer := none, offers := [], chainLine := false, powerLine := b } : LinkManager)) hl

theorem setOutcome_samePort (o : CensusOutcome) (s : State) : (setOutcome o s).path.control = s.path.control
    ∧ (setOutcome o s).path.mTransmit = s.path.mTransmit ∧ (setOutcome o s).path.forward = s.path.forward
    ∧ (setOutcome o s).path.mState = s.path.mState ∧ (setOutcome o s).path.mReceive = s.path.mReceive
    ∧ (setOutcome o s).path.mRecovery = s.path.mRecovery
    ∧ ∀ n ≤ 65535, n ≤ s.matching.forwardOverflow → n ≤ (setOutcome o s).matching.forwardOverflow := by
  unfold setOutcome
  split
  · exact ⟨rfl, rfl, rfl, rfl, rfl, rfl, fun _ _ => id⟩
  · have hov : ∀ (new : TxEntry) (u : State), ∀ n ≤ 65535, n ≤ u.matching.forwardOverflow →
        n ≤ (queueC new u).matching.forwardOverflow := fun new u n hn => queueC_overflow new u hn
    have hq : ∀ (new : TxEntry) (u : State), ∃ b q d, (queueC new u).path
        = { u.path with cTransmit := b, cQueue := q, cDiscard := d } := fun new u => by
      obtain ⟨b, q, d, o, h⟩ := queueC_shape new u
      exact ⟨b, q, d, by rw [h]⟩
    unfold postureFrame queueStatus
    obtain ⟨b, q, d, h⟩ := hq ⟨.change, some .posture, _⟩ (s.setLink { s.link with outcome := o })
    refine ⟨?_, ?_, ?_, ?_, ?_, ?_, hov _ (s.setLink { s.link with outcome := o })⟩ <;> rw [h] <;> rfl

theorem censusAbandoned_sameRead (s : State) : SameRead (asBefore s (censusAbandoned s)) s := by
  have h := asBefore_sameRead (s := s) (setOutcome_asBefore .notRun (closeCensus (portOff s)))
  refine SameRead.trans ?_ (h.trans ?_)
  · exact ⟨by constructor <;> intros <;> rfl, rfl, rfl⟩
  · exact ⟨by constructor <;> intros <;> rfl, rfl, rfl⟩

theorem censusAbandoned_faultHolds (s : State) : (censusAbandoned s).faultHolds = true := by
  have h := (setOutcome_samePort .notRun (closeCensus (portOff s))).2.2.2.1
  have hm : (censusAbandoned s).path.mState = .busOff := h.trans rfl
  simp [State.faultHolds, hm]

theorem exec_offM_running {s : State} (hs : s.isReady = true) (ha : s.path.mState = .active)
    (ho : s.link.outcome = .running) : exec .mPortBusOff s = .next (censusAbandoned s) :=
  exec_quiet hs rfl (by simp [restartsAt]) (congrArg (·, []) (offM_running ha ho))
    (faultStays hs (faultHolds_incomplete (by simp [ho])) (censusAbandoned_faultHolds s)
      (censusAbandoned_sameRead s).followed)

theorem Halted.ofPosture {s t : State} {p : Posture} (h : Halted (setPosture p s) t) : Halted s t := by
  rw [setPosture_shape] at h
  exact { h with }

/-- The port BUS_OFF outside FAULT: the posture turns FAULT, and the part halts. -/
theorem exec_offM_enters {s : State} (hs : s.isReady = true) (ha : s.path.mState = .active)
    (hp : s.monitor.posture ≠ .fault) (ho : s.link.outcome ≠ .running) :
    ∃ t, exec .mPortBusOff s = .next t ∧ Halted (portOff s) t ∧ react [] t = none ∧ LeftByHalt (portOff s) t
      ∧ t.monitor.posture = .fault := by
  have hh : Halted (portOff s) (faultEntered (portOff s)) := .ofPosture (haltEffects_halted _)
  obtain ⟨t, hr, ht, hn, hl, hpt⟩ := hh.settles_entered (portOff_faultHolds s) hp (ts := []) nofun
  have hf : follow s (portOff s, []) = [] := follow_nil rfl rfl rfl rfl rfl rfl rfl
  refine ⟨t, ?_, ht, hn, hl, hpt⟩
  rw [exec_eq_perform rfl (by simp [restartsAt])]
  exact perform_change_runs hs (offM_quiet ha ho) (by rw [hf]; exact hr) (by decide)

/-! ### What a census start leaves (R157) -/

/-- The start of a census is announced: its outcome and counts, and the alarm of the last one removed. -/
def censusAnnounced (s : State) : State :=
  setAlarm .censusFault false ((setOutcome .running s).setLink
    { (setOutcome .running s).link with count := 0, strays := 0 })

/-- The posture is FAULT and the power line off. -/
def censusHalted (s : State) : State := judgePowerLine (enterFault (censusAnnounced s))

/-- Everything rests. -/
def censusRested (s : State) : State :=
  stopPump false (clearArbiter (abortSequence false .halted (stopAll false .halted slots (censusHalted s))))

theorem censusCleared_eq (s : State) :
    censusCleared s = discardOrders (clearNodes (clearFunctions (censusRested s))) := by
  unfold censusCleared censusRested censusHalted censusAnnounced
  simp only

section
variable (s : State)

theorem censusAnnounced_link :
    (censusAnnounced s).link = { s.link with outcome := .running, count := 0, strays := 0 } := by
  have h : (setOutcome .running s).link = { s.link with outcome := .running } := setOutcome_link ..
  simp [censusAnnounced, State.setLink, h]

theorem censusAnnounced_monitor : (censusAnnounced s).monitor
    = { s.monitor with alarms := { s.monitor.alarms with censusFault := false } } := by
  rw [censusAnnounced, setAlarm_monitor]
  simp [State.setLink, AlarmSet.put]

theorem enterFault_posture : (enterFault s).monitor.posture = .fault := by
  by_cases h : s.monitor.posture = .fault
  · have he : enterFault s = s := if_pos h
    rw [he, h]
  · rw [enterFault_eq h, faultEntered_posture]

/-- A part whose posture reads FAULT. -/
def inFault (s : State) : State := { s with monitor := { s.monitor with posture := .fault } }

/-- The entry into FAULT changes motion, the posture and frames alone. -/
theorem enterFault_onlyMotion : OnlyMotion (inFault s) (enterFault s) := by
  by_cases h : s.monitor.posture = .fault
  · have he : enterFault s = s := if_pos h
    have hi : inFault s = s := by rw [inFault, ← h]
    rw [he, hi]
    exact .refl s
  · have hp : OnlyMotion (inFault s) (setPosture .fault s) := by
      rw [setPosture_shape]
      rfl
    rw [enterFault_eq h]
    exact hp.trans (faultEntered_onlyMotion s)

theorem OnlyMotion.strays {s t : State} (h : OnlyMotion s t) : t.link.strays = s.link.strays :=
  congrArg (·.link.strays) h

theorem OnlyMotion.powered {s t : State} (h : OnlyMotion s t) (b : Bool) :
    OnlyMotion { s with link := { s.link with powerLine := b } } { t with link := { t.link with powerLine := b } } := by
  unfold OnlyMotion onlyMotionChanges at *
  rw [h]

/-- What a census start has announced, in FAULT with the power line off. -/
def censusGround : State :=
  { inFault (censusAnnounced s) with link := { (censusAnnounced s).link with powerLine := false } }

theorem censusHalted_onlyMotion : OnlyMotion (censusGround s) (censusHalted s) := by
  have h := (enterFault_onlyMotion (censusAnnounced s)).powered (powerLineHolds (enterFault (censusAnnounced s)))
  have hb : powerLineHolds (enterFault (censusAnnounced s)) = false := by
    simp [powerLineHolds, enterFault_posture]
  rw [hb] at h
  unfold censusHalted judgePowerLine
  rw [hb]
  exact h

theorem censusRested_onlyMotion : OnlyMotion (censusGround s) (clearFunctions (censusRested s)) := by
  have ha : ∀ u : State, Acts u (clearFunctions (stopPump false (clearArbiter (abortSequence false .halted
      (stopAll false .halted slots u))))) := fun u => Acts.refl.stopAll.abortSequence.clearArbiter.stopPump.clearFunctions
  exact (censusHalted_onlyMotion s).trans (ha (censusHalted s)).onlyMotion

theorem clearFunctions_slots (is : List Slot) (i : Slot) :
    ((is.foldl (fun s i => putHold i Hold.start (putFn i (s.fn i).uncounted s)) s).fn i
      = if i ∈ is then (s.fn i).uncounted else s.fn i)
    ∧ ((is.foldl (fun s i => putHold i Hold.start (putFn i (s.fn i).uncounted s)) s).hold i
      = if i ∈ is then Hold.start else s.hold i) := by
  induction is generalizing s with
  | nil => simp
  | cons k is ih =>
    obtain ⟨h1, h2⟩ := ih (putHold k Hold.start (putFn k (s.fn k).uncounted s))
    have hf : (putHold k Hold.start (putFn k (s.fn k).uncounted s)).fn i
        = if i = k then (s.fn i).uncounted else s.fn i := by
      have hp : (putHold k Hold.start (putFn k (s.fn k).uncounted s)).fn i = (putFn k (s.fn k).uncounted s).fn i :=
        fn_congr (by simp) i
      rw [hp]
      split
      case isTrue he => rw [he, putFn_fn]
      case isFalse he => exact putFn_fn_ne _ _ (Ne.symm he)
    have hh : (putHold k Hold.start (putFn k (s.fn k).uncounted s)).hold i = if i = k then Hold.start else s.hold i := by
      split
      case isTrue he => rw [he, putHold_hold]
      case isFalse he =>
        rw [putHold_hold_ne _ _ (Ne.symm he)]
        simp [State.hold]
    rw [List.foldl_cons]
    refine ⟨h1.trans ?_, h2.trans ?_⟩
    · rw [hf]
      by_cases he : i = k <;> by_cases hm : i ∈ is <;> simp [he, hm, Function.uncounted]
    · rw [hh]
      by_cases he : i = k <;> by_cases hm : i ∈ is <;> simp [he, hm]

theorem clearFunctions_fn (i : Slot) : (clearFunctions s).fn i = (s.fn i).uncounted
    ∧ (clearFunctions s).hold i = Hold.start := by
  obtain ⟨h1, h2⟩ := clearFunctions_slots s slots i
  exact ⟨h1.trans (if_pos (mem_slots i)), h2.trans (if_pos (mem_slots i))⟩

theorem abortSequence_ended {s : State} (place : Bool) (r : AbortReason)
    (h : ∀ i, (s.fn i).activity.isBusy = false) : (abortSequence place r s).seqRuns = false := by
  rw [abortSequence, endSequence_notBusy h]
  split
  · exact closeSequence_ended ..
  · simp_all

theorem seqRuns_congr {s t : State} (h : t.sequence = s.sequence) : t.seqRuns = s.seqRuns := by
  rw [State.seqRuns, h, State.seqRuns]

theorem stopPump_sequence (place : Bool) (s : State) : (stopPump place s).sequence = s.sequence := by simp

theorem clearFunctions_sequence (s : State) : (clearFunctions s).sequence = s.sequence
    ∧ (clearFunctions s).manifold = s.manifold := by simp

theorem clearArbiter_sequence (s : State) : (clearArbiter s).sequence = s.sequence := rfl

theorem clearArbiter_waitList (s : State) : (clearArbiter s).manifold.waitList = [] := rfl

theorem clearArbiter_holder (s : State) : (clearArbiter s).manifold.holder = none := rfl

theorem censusRested_still : Still (clearFunctions (censusRested s)) := by
  obtain ⟨hq, hm⟩ := clearFunctions_sequence (censusRested s)
  have hend := abortSequence_ended (s := stopAll false .halted slots (censusHalted s)) false .halted
    (stopAll_slots_rest false .halted _)
  have hseq : (censusRested s).sequence
      = (abortSequence false .halted (stopAll false .halted slots (censusHalted s))).sequence := by
    rw [censusRested, stopPump_sequence, clearArbiter_sequence]
  obtain ⟨hw, hh⟩ := stopPump_waits false (clearArbiter (abortSequence false .halted
    (stopAll false .halted slots (censusHalted s))))
  refine ⟨List.any_eq_false.mpr fun i _ => ?_, (seqRuns_congr (hq.trans hseq)).trans hend, ?_, ?_, ?_⟩
  · rw [(clearFunctions_fn _ i).1]
    exact Bool.false_ne_true
  · rw [hm, censusRested, hw, clearArbiter_waitList]
  · rw [hm, censusRested, hh, clearArbiter_holder]
  · rw [hm, censusRested]
    exact stopPump_off ..

theorem slotEmptied_orders (c : ControlFrame) (s : State) : (slotEmptied c s).orders = s.orders := by simp

/-- With no order queued the M-port's next frame leaves the orders. -/
theorem pumpM_orders {s : State} (h : s.orders.queue = []) : (pumpM s).orders = s.orders := by
  unfold pumpM
  split
  · rfl
  · split
    · exact slotEmptied_orders ..
    · rw [h]
      dsimp only
      split <;> rfl

theorem offerEnrol_orders {s : State} (h : s.orders.queue = []) (f : EnrolFrame) : (offerEnrol f s).orders = s.orders := by
  have ho : (offerHeld (addOffer f s)).orders = s.orders := by simp
  rw [offerEnrol, pumpM_orders (by rw [ho, h]), ho]

/-- The times of the refresh cycle stay. -/
def SameCycle (s t : State) : Prop := t.orders.refreshTimer = s.orders.refreshTimer ∧ t.orders.period = s.orders.period

theorem SameCycle.trans {s t u : State} (h : SameCycle s t) (k : SameCycle t u) : SameCycle s u :=
  ⟨k.1.trans h.1, k.2.trans h.2⟩

theorem placeOrder_sameCycle (r : OrderRecord) (s : State) : SameCycle s (placeOrder r s) := by
  simp only [placeOrder, placeFull, clearMarks]
  (repeat' split) <;> exact ⟨rfl, rfl⟩

theorem placeDue_sameCycle (s : State) : SameCycle s (placeDue s) := by
  have hn : ∀ n s, SameCycle s (placeDueUpTo n s) := by
    intro n
    induction n with
    | zero => exact fun _ => ⟨rfl, rfl⟩
    | succ n ih =>
      intro s
      unfold placeDueUpTo
      (repeat' split)
      · exact ⟨rfl, rfl⟩
      · exact (placeOrder_sameCycle ..).trans (ih _)
      · exact ⟨rfl, rfl⟩
  exact hn _ s

theorem pumpM_sameCycle (s : State) : SameCycle s (pumpM s) := by
  unfold pumpM
  split
  · exact ⟨rfl, rfl⟩
  · split
    · rw [SameCycle, slotEmptied_orders]
      exact ⟨rfl, rfl⟩
    · split
      · exact SameCycle.trans ⟨rfl, rfl⟩ (placeDue_sameCycle _)
      · split <;> exact ⟨rfl, rfl⟩

theorem handOrder_sameCycle (place : Bool) (d : DriveRef) (code : DriveCode) (speed : Nat) (s : State) :
    SameCycle s (handOrder place d code speed s) := by
  have hp : ∀ (r : OrderRecord) (u : State), SameCycle u (pumpM (placeOrder r u)) := fun r u =>
    (placeOrder_sameCycle r u).trans (pumpM_sameCycle _)
  simp only [handOrder]
  (repeat' split)
  · exact SameCycle.trans ⟨rfl, rfl⟩ (hp ..)
  · exact ⟨rfl, rfl⟩
  · exact ⟨rfl, rfl⟩
  · exact SameCycle.trans ⟨rfl, rfl⟩ (hp ..)
  · exact ⟨rfl, rfl⟩

theorem offerHalt_sameCycle (s : State) : SameCycle s (offerHalt s) := by
  unfold offerHalt
  split
  · exact ⟨rfl, rfl⟩
  all_goals exact SameCycle.trans ⟨rfl, rfl⟩ (pumpM_sameCycle _)

theorem queueC_sameCycle (new : TxEntry) (s : State) : SameCycle s (queueC new s) := by
  have h : (queueC new s).orders = s.orders := by simp
  exact ⟨by rw [h], by rw [h]⟩

theorem Acts.sameCycle {s t : State} (h : Acts s t) : SameCycle s t := by
  induction h with
  | refl => exact ⟨rfl, rfl⟩
  | queueC _ ih => exact ih.trans (queueC_sameCycle ..)
  | handOrder _ ih => exact ih.trans (handOrder_sameCycle ..)
  | offerHalt _ ih => exact ih.trans (offerHalt_sameCycle _)
  | _ => assumption

theorem enterFault_sameCycle : SameCycle s (enterFault s) := by
  have hp : SameCycle s (setPosture .fault s) := by
    rw [setPosture_shape]
    exact ⟨rfl, rfl⟩
  have ha : ∀ u : State, SameCycle u (haltEffects u) := fun u => (Acts.haltEffects (.refl (s := u))).sameCycle
  by_cases h : s.monitor.posture = .fault
  · have he : enterFault s = s := if_pos h
    rw [he]
    exact ⟨rfl, rfl⟩
  · rw [enterFault_eq h, faultEntered]
    exact hp.trans (ha _)

theorem censusRested_sameCycle : SameCycle s (clearFunctions (censusRested s)) := by
  have ha : ∀ u : State, SameCycle u (clearFunctions (stopPump false (clearArbiter (abortSequence false .halted
      (stopAll false .halted slots u))))) := fun u =>
    (Acts.refl.stopAll.abortSequence.clearArbiter.stopPump.clearFunctions).sameCycle
  have ho : (censusAnnounced s).orders = s.orders := by simp [censusAnnounced, State.setLink]
  have h1 : SameCycle s (censusAnnounced s) := by
    rw [SameCycle, ho]
    exact ⟨rfl, rfl⟩
  have h2 : SameCycle s (censusHalted s) := h1.trans (enterFault_sameCycle _)
  exact h2.trans (ha (censusHalted s))

/-- What a census start leaves (R157), whatever state it finds. -/
structure CensusStarted (s t : State) : Prop where
  still : Still t
  outcome : t.link.outcome = .running
  count : t.link.count = 0
  strays : t.link.strays = 0
  powerLine : t.link.powerLine = false
  posture : t.monitor.posture = .fault
  alarms : t.monitor.alarms = { s.monitor.alarms with censusFault := false }
  swapPending : t.monitor.swapPending = s.monitor.swapPending
  signals : t.monitor.signals = s.monitor.signals
  store : t.store = s.store
  settings : t.settings = s.settings
  inputs : t.inputs = s.inputs
  now : t.now = s.now
  statusTimer : t.statusTimer = s.statusTimer
  queue : t.orders.queue = []
  records : t.orders.records = []
  cycle : SameCycle s t
  fn : ∀ i, ∃ f : Function, t.fn i = f.uncounted
  hold : ∀ i, t.hold i = Hold.start

/-- The ground on which FORGET is offered: the node table and the orders cleared, nothing outstanding. -/
def censusReady : State := censusOpened (discardOrders (clearNodes (clearFunctions (censusRested s))))

theorem startCensus_ready : startCensus s = offerEnrol .forget (censusReady s) := by
  rw [startCensus_eq, censusCleared_eq, censusReady]

theorem censusReady_started : CensusStarted s (censusReady s) := by
  have hy := censusRested_onlyMotion s
  have hst := censusRested_still s
  have hc := censusRested_sameCycle s
  have hf := fun i => clearFunctions_fn (censusRested s) i
  have hm := censusAnnounced_monitor s
  have hl := censusAnnounced_link s
  have hstore : (censusAnnounced s).store = s.store := by simp [censusAnnounced, State.setLink]
  have hset : (censusAnnounced s).settings = s.settings := by simp [censusAnnounced, State.setLink]
  have hin : (censusAnnounced s).inputs = s.inputs := by simp [censusAnnounced, State.setLink]
  have hnow : (censusAnnounced s).now = s.now := by simp [censusAnnounced, State.setLink]
  have htim : (censusAnnounced s).statusTimer = s.statusTimer := by simp [censusAnnounced, State.setLink]
  unfold censusReady
  generalize clearFunctions (censusRested s) = y at hy hst hc hf
  have e1 : (censusGround s).link.outcome = .running := congrArg (·.outcome) hl
  have e2 : (censusGround s).link.count = 0 := congrArg (·.count) hl
  have e3 : (censusGround s).link.strays = 0 := congrArg (·.strays) hl
  have e4 : (censusGround s).monitor.alarms = { s.monitor.alarms with censusFault := false } := congrArg (·.alarms) hm
  have e5 : (censusGround s).monitor.swapPending = s.monitor.swapPending := congrArg (·.swapPending) hm
  have e6 : (censusGround s).monitor.signals = s.monitor.signals := congrArg (·.signals) hm
  exact
    { still := hst.congr rfl rfl rfl
      outcome := hy.outcome.trans e1
      count := hy.sameCensus.2.trans e2
      strays := hy.strays.trans e3
      powerLine := hy.powerLine
      posture := hy.posture
      alarms := hy.alarms.trans e4
      swapPending := hy.swapPending.trans e5
      signals := hy.signals.trans e6
      store := hy.store.trans hstore
      settings := hy.settings.trans hset
      inputs := hy.inputs.trans hin
      now := hy.now.trans hnow
      statusTimer := hy.statusTimer.trans htim
      queue := rfl
      records := rfl
      cycle := hc
      fn := fun i => ⟨_, (hf i).1⟩
      hold := fun i => (hf i).2 }

theorem startCensus_started : CensusStarted s (startCensus s) := by
  have h := censusReady_started s
  have hm := offerEnrol_onlyMotion .forget (censusReady s)
  obtain ⟨hf, hh, hmon, hma, -, hq, -, -, -, -, hs⟩ := offerEnrol_frame .forget (censusReady s)
  have ho := offerEnrol_orders (s := censusReady s) h.queue .forget
  rw [startCensus_ready]
  generalize offerEnrol .forget (censusReady s) = t at *
  exact
    { still := h.still.congr hf hq hma
      outcome := hm.outcome.trans h.outcome
      count := hm.sameCensus.2.trans h.count
      strays := hm.strays.trans h.strays
      powerLine := hm.powerLine.trans h.powerLine
      posture := (congrArg (·.posture) hmon).trans h.posture
      alarms := (congrArg (·.alarms) hmon).trans h.alarms
      swapPending := (congrArg (·.swapPending) hmon).trans h.swapPending
      signals := (congrArg (·.signals) hmon).trans h.signals
      store := hs.trans h.store
      settings := hm.settings.trans h.settings
      inputs := hm.inputs.trans h.inputs
      now := hm.now.trans h.now
      statusTimer := hm.statusTimer.trans h.statusTimer
      queue := (congrArg (·.queue) ho).trans h.queue
      records := (congrArg (·.records) ho).trans h.records
      cycle := h.cycle.trans ⟨congrArg (·.refreshTimer) ho, congrArg (·.period) ho⟩
      fn := fun i => by rw [fn_congr hf i]; exact h.fn i
      hold := fun i => by rw [State.hold, hh]; exact h.hold i }

end

/-! ### DOZE (R168, R196) -/

/-- A part in DOZE, whose own timers are cancelled. -/
def dozed (s : State) : State :=
  { s with
    store := { s.store with doze := true, dozeTimer := none }
    orders := { s.orders with refreshTimer := none }
    statusTimer := none }

theorem enterDoze_eq {s : State} (ho : s.link.outcome ≠ .running) : enterDoze s = { s with
    store := { s.store with doze := true, dozeTimer := none }
    orders := { s.orders with refreshTimer := none }
    statusTimer := none
    link := { s.link with
      nodes := s.link.nodes.map fun x => { x with silenceTimer := none }, powerLine := false } } := by
  have hn : abandonCensus (cancelSilence (dozed s)) = cancelSilence (dozed s) := if_neg ho
  have hl : powerLineHolds (cancelSilence (dozed s)) = false := by
    simp [powerLineHolds, cancelSilence, dozed, State.setLink]
  have he : enterDoze s = judgePowerLine (abandonCensus (cancelSilence (dozed s))) := rfl
  rw [he, hn, judgePowerLine, hl]
  rfl

/-- Settles O35: DOZE is read by the power line and the doze timer alone; a wake is a census start. -/
theorem dozeQuietensAndWakeStartsACensus : Obligations.DozeQuietensAndWakeStartsACensus := by
  refine fun s hs => ⟨fun ht ho => ?_, fun hd => ?_⟩
  · refine exec_quiet hs rfl (by simp [restartsAt]) ((if_pos ht).trans (congrArg (·, []) (enterDoze_eq ho)))
      (nothingFollows_of rfl rfl rfl ?_)
    obtain ⟨h1, h2, h3, h4, h5, h6, h7, h8, h9, -⟩ := (react_none_iff s).mp (ready_quiet hs)
    refine (react_none_iff _).mpr ⟨h1, ?_, h3, h4, h5, h6, h7, h8, h9, ?_⟩
    · simp [powerLineHolds]
    · simp [dozeHolds]
  · have he : touchDoze s = startCensus (awake s) := if_pos hd
    intro t
    have hw : t = startCensus (awake s) := he
    have h := startCensus_started (awake s)
    rw [← hw] at h
    refine ⟨congrArg (·.doze) h.store, h.cycle.1, h.cycle.2, h.statusTimer, h.outcome, fun i => ?_, h.powerLine,
      h.posture⟩
    obtain ⟨f, hf⟩ := h.fn i
    rw [hf]
    rfl

/-! ### A census start of a part at rest in FAULT -/

theorem OnlyMotion.sameRead {s t : State} (h : OnlyMotion s t) (hf : t.functions = s.functions)
    (hmon : t.monitor = s.monitor) (hma : t.manifold = s.manifold) (hb : t.budget = s.budget)
    (hq : t.sequence = s.sequence) : SameRead t s where
  toSameJudged :=
    { stopAll := by rw [h.inputs]
      kind := fun i => by rw [State.cfg, h.settings]; rfl
      dutyLimit := by rw [h.settings]
      travelSpeed := by rw [h.settings]
      functions := hf
      signals := by rw [hmon]
      posture := by rw [hmon]
      levelled := by rw [hmon]
      notStowed := by rw [hmon]
      swapPending := by rw [hmon]
      pump := by rw [hma]
      runTime := by rw [hma]
      holder := by rw [hma]
      phase := by rw [hq]
      taken := by rw [hq]
      finished := by rw [hq]
      outcome := h.outcome
      powerLine := h.powerLine
      mState := h.mState
      factoryLoaded := by rw [h.store]
      doze := by rw [h.store]
      dozeTimer := by rw [h.store] }
  manifold := hma
  budget := hb

theorem pumpM_sameRead (s : State) : SameRead (pumpM s) s := by
  obtain ⟨hf, -, hm, hma, hb, hq, -⟩ := pumpM_frame s
  exact (pumpM_onlyMotion s).sameRead hf hm hma hb hq

theorem nothingFollows_still {s t : State} (h : Still t) (hr : react [] t = none) : nothingFollows s t = true := by
  have hc : clearanceTasks s t = [] := by
    simp only [clearanceTasks, List.map_eq_nil_iff, List.filter_eq_nil_iff]
    intro i _
    split <;> simp [h.moves]
  exact (nothingFollows_iff s t).mpr ⟨hc, .inr h.waitList, hr⟩

/-- A census start with no swap pending, no alarm that FAULT would take back and the doze timer as its conditions say
leaves nothing to judge. -/
theorem CensusStarted.react_none {s t : State} (h : CensusStarted s t) (hs : s.monitor.swapPending = false)
    (ha : s.monitor.alarms.notStowed = false)
    (hd : s.store.dozeTimer.isSome = (s.value .ignition == 0 && !s.store.doze)) : react [] t = none := by
  have hv : t.value .ignition = s.value .ignition := by rw [State.value, State.signal, h.signals]; rfl
  refine h.still.react_none ?_ ?_ ?_ (h.swapPending.trans hs) ?_
  · rw [h.posture]
    exact derivePosture_fault (faultHolds_incomplete (by simp [h.outcome]))
  · simp [h.powerLine, powerLineHolds, h.outcome]
  · simp [h.alarms, ha, notStowedHolds, h.posture]
  · rw [h.store, hd]
    simp [dozeHolds, hv, h.still.busy, h.still.sequence, h.store]

theorem isAtRest_iff (s : State) : s.isAtRest = true ↔ Still s ∧ s.monitor.swapPending = false := by
  constructor
  · intro h
    simp only [State.isAtRest, Bool.and_eq_true, Bool.not_eq_true', beq_iff_eq, List.isEmpty_iff,
      Option.isNone_iff_eq_none] at h
    obtain ⟨⟨⟨⟨⟨hb, hq⟩, hw⟩, hh⟩, hp⟩, hs⟩ := h
    exact ⟨⟨hb, by simp [State.seqRuns, hq], hw, hh, hp⟩, hs⟩
  · rintro ⟨⟨hb, hq, hw, hh, hp⟩, hs⟩
    have hq' : s.sequence.phase = .idle := by simpa [State.seqRuns] using hq
    simp [State.isAtRest, hb, hq', hw, hh, hp, hs]

theorem dozeTimer_rest {s : State} (hs : react [] s = none) (h : Still s) :
    s.store.dozeTimer.isSome = (s.value .ignition == 0 && !s.store.doze) := by
  obtain ⟨-, -, -, -, -, -, -, -, -, hd⟩ := (react_none_iff s).mp hs
  rw [hd]
  simp [dozeHolds, h.busy, h.sequence]

theorem notStowed_fault {s : State} (hs : react [] s = none) (h : s.monitor.posture = .fault) :
    s.monitor.alarms.notStowed = false := by
  obtain ⟨-, -, ha, -⟩ := (react_none_iff s).mp hs
  rw [ha]
  simp [notStowedHolds, h]

/-- The port that comes back with the held enrolment frames withdrawn. -/
def portBack (s : State) : State :=
  withdrawEnrol { s with path := { s.path with mState := .active, mRecovery := bump s.path.mRecovery } }

theorem exec_onM {s : State} (hs : s.isReady = true) (hb : s.path.mState = .busOff) (hr : s.isAtRest = true) :
    exec .mPortRecovery s = .next (pumpM (startCensus (portBack s))) := by
  obtain ⟨hst, hsw⟩ := (isAtRest_iff s).mp hr
  have hq := ready_quiet hs
  have hp := posture_fault hq (by simp [State.faultHolds, hb])
  have hc := startCensus_started (portBack s)
  have hn : react [] (startCensus (portBack s)) = none :=
    hc.react_none hsw (show s.monitor.alarms.notStowed = false from notStowed_fault hq hp)
      (show s.store.dozeTimer.isSome = (s.value .ignition == 0 && !s.store.doze) from dozeTimer_rest hq hst)
  have hf : onM s = pumpM (startCensus (portBack s)) := by rw [onM, if_pos hb, portBack]
  obtain ⟨h1, -, -, h2, -, h3, -⟩ := pumpM_frame (startCensus (portBack s))
  rw [exec_eq_perform rfl (by simp [restartsAt])]
  refine perform_quiet (first := change onM) hs (congrArg (·, []) hf)
    (nothingFollows_still (hc.still.congr h1 h3 h2) ((pumpM_sameRead _).react.mpr hn))

/-- Settles O12: outside FAULT the part halts; in it the census alone is abandoned. -/
theorem mPortBusOffAndRecovery : Obligations.MPortBusOffAndRecovery := by
  intro s hs
  have hov : min (s.matching.forwardOverflow + s.path.forward.length) 65535 ≤ 65535 := Nat.min_le_right ..
  refine ⟨fun ha hp ho => exec_offM_fault hs ha hp ho, fun ha => ?_, fun hb hr => ?_⟩
  · obtain ⟨-, hov0, hq⟩ := (isReady_iff s).mp hs
    by_cases hp : s.monitor.posture = .fault
    · have hl := powerLine_fault hq hp
      by_cases ho : s.link.outcome = .running
      · obtain ⟨c1, c2, c3, c4, c5, c6, c7⟩ := setOutcome_samePort .notRun (closeCensus (portOff s))
        have hlink := censusAbandoned_link hl
        have hm : (censusAbandoned s).monitor = s.monitor := by
          simp [censusAbandoned, clearNodes, State.setLink, portOff]
        refine ⟨censusAbandoned s, exec_offM_running hs ha ho, c4, c2, c3, ?_, ?_, c7 _ hov (Nat.le_refl _), ?_, c5, c6,
          ?_, fun h => absurd hp h, fun _ => ⟨hlink, c1, ?_, ?_⟩⟩
        · rw [hm, hp]
        · rw [hlink]
        · simp [censusAbandoned, clearNodes, State.setLink, portOff, hov0]
        · rw [hm]
        · simp [censusAbandoned, clearNodes, State.setLink, portOff]
        · simp [censusAbandoned, clearNodes, State.setLink, portOff]
      · exact ⟨portOff s, exec_offM_fault hs ha hp ho, rfl, rfl, rfl, hp, hl, Nat.le_refl _, hov0, rfl, rfl, rfl,
          fun h => absurd hp h, fun h => absurd h ho⟩
    · have hf : s.faultHolds = false := by
        by_contra hf
        exact hp (posture_fault hq (by simpa using hf))
      have ho : s.link.outcome = .complete := by
        by_contra ho
        rw [faultHolds_incomplete ho] at hf
        cases hf
      obtain ⟨t, he, ht, hn, hl, hpt⟩ := exec_offM_enters hs ha hp (by simp [ho])
      obtain ⟨b1, b2, -⟩ := ht.blocked (.inr (.inl rfl))
      refine ⟨t, he, ht.mState, b2, ht.forward rfl, hpt, powerLine_fault hn hpt, hl.overflow _ hov (Nat.le_refl _),
        ht.whole.trans hov0, ht.mReceive, ht.mRecovery, ht.censusFault, fun _ => ⟨b1, ht.still.busy, ht.still.sequence,
          ht.still.waitList, ht.still.holder, ht.still.pump, ht.queue, ht.fn, ht.outcome, ht.nodes⟩, fun h => ?_⟩
      rw [ho] at h
      cases h
  · exact exec_onM hs hb hr

end Sys2Proof.Proofs
end

section
/-! PROOFS. The start (R192, R194): the state that a start comes to. -/

namespace Sys2Proof.Proofs
open Sys2Proof.Machine Sys2Proof.Laws

/-! ### The first census on fresh ground -/

/-- A state in which a start asks for its first census: everything at its start value but the frames on the C-port. -/
structure Fresh (s : State) : Prop where
  posture : s.monitor.posture = .fault
  censusFault : s.monitor.alarms.censusFault = false
  functions : s.functions = Vector.replicate 16 Function.start
  holds : s.holds = Vector.replicate 16 Hold.start
  manifold : s.manifold = Manifold.start
  sequence : s.sequence = Sequence.start
  queue : s.orders.queue = []
  records : s.orders.records = []
  mTransmit : s.path.mTransmit = none
  mState : s.path.mState = .active
  control : s.path.control = none
  doze : s.store.doze = false

section
variable {s : State}

theorem setLink_self {l : LinkManager} (h : s.link = l) : s.setLink l = s := by rw [← h]; rfl

theorem replicate_fn (h : s.functions = Vector.replicate 16 Function.start) (i : Slot) : s.fn i = Function.start := by
  simp [State.fn, h]

theorem Fresh.still (h : Fresh s) : Still s where
  busy := List.any_eq_false.mpr fun i _ => by rw [replicate_fn h.functions i]; exact Bool.false_ne_true
  sequence := by rw [State.seqRuns, h.sequence]; rfl
  waitList := by rw [h.manifold]; rfl
  holder := by rw [h.manifold]; rfl
  pump := by rw [h.manifold]; rfl

theorem Still.stopAll (h : Still s) (place : Bool) (r : StopReason) (is : List Slot) : stopAll place r is s = s :=
  stopAll_resting fun i _ => notBusy_of_any h.busy i

theorem Still.abortSequence (h : Still s) (place : Bool) (r : AbortReason) : abortSequence place r s = s := by
  rw [Machine.abortSequence, endSequence, h.sequence]
  rfl

theorem Still.clearArbiter (h : Still s) : clearArbiter s = s := by
  have hm : { s.manifold with waitList := [], holder := none } = s.manifold := by rw [← h.waitList, ← h.holder]
  rw [Machine.clearArbiter, hm]
  rfl

theorem Still.stopPump (h : Still s) (place : Bool) : stopPump place s = s := by
  rw [Machine.stopPump, h.pump]
  rfl

theorem putFn_self (i : Slot) (s : State) : putFn i (s.fn i) s = s := by
  have hl : judgeLevelled i (s.fn i) (s.fn i) (s.storeFn i (s.fn i)) = s.storeFn i (s.fn i) :=
    if_neg (by cases hc : (s.fn i).contact <;> simp [disturbsLevel, hc])
  have ho : judgeOwedStowed i (s.fn i) (s.fn i) (s.storeFn i (s.fn i)) = s.storeFn i (s.fn i) :=
    if_neg (by cases hc : (s.fn i).posClass <;> simp)
  have hs : s.storeFn i (s.fn i) = s := by
    simp [State.storeFn, State.fn, Vector.set_getElem_self]
  rw [putFn, hl, ho, if_pos rfl, hs]

theorem clearFunctions_fresh (h : Fresh s) : clearFunctions s = s := by
  have hone : ∀ i, putHold i Hold.start (putFn i (s.fn i).uncounted s) = s := fun i => by
    have hf : (s.fn i).uncounted = s.fn i := by
      rw [replicate_fn h.functions i]
      rfl
    have hh : s.hold i = Hold.start := by simp [State.hold, h.holds]
    rw [hf, putFn_self, putHold, ← hh]
    simp [State.hold, Vector.set_getElem_self]
  unfold clearFunctions
  generalize slots = is
  induction is with
  | nil => rfl
  | cons i is ih => rw [List.foldl_cons, hone i, ih]

/-- The outcome RUNNING is announced. -/
def runAnnounced (s : State) : State :=
  postureFrame .change (s.setLink { LinkManager.start with outcome := .running })

theorem queueC_mState (new : TxEntry) (s : State) : (queueC new s).path.mState = s.path.mState := by
  obtain ⟨b, q, d, o, h⟩ := queueC_shape new s
  rw [h]

theorem runAnnounced_fresh (h : Fresh s) : Fresh (runAnnounced s) where
  posture := by simp [runAnnounced, State.setLink, h.posture]
  censusFault := by simp [runAnnounced, State.setLink, h.censusFault]
  functions := by simp [runAnnounced, State.setLink, h.functions]
  holds := by simp [runAnnounced, State.setLink, h.holds]
  manifold := by simp [runAnnounced, State.setLink, h.manifold]
  sequence := by simp [runAnnounced, State.setLink, h.sequence]
  queue := by simp [runAnnounced, State.setLink, h.queue]
  records := by simp [runAnnounced, State.setLink, h.records]
  mTransmit := (queueC_samePort _ _).mTransmit.trans h.mTransmit
  mState := (queueC_mState _ _).trans h.mState
  control := (queueC_samePort _ _).control.trans h.control
  doze := by simp [runAnnounced, State.setLink, h.doze]

theorem startCensus_fresh (h : Fresh s) (hl : s.link = LinkManager.start) :
    startCensus s = offerEnrol .forget (runAnnounced s) := by
  have hf := runAnnounced_fresh h
  have hlink : (runAnnounced s).link = { LinkManager.start with outcome := .running } := by
    simp [runAnnounced, State.setLink]
  have h1 : setOutcome .running s = runAnnounced s := by
    have hne : s.link.outcome ≠ .running := by simp [hl, LinkManager.start]
    rw [setOutcome, if_neg hne, hl]
    rfl
  rw [startCensus, h1]
  generalize runAnnounced s = u at hf hlink
  have h2 : setAlarm .censusFault false (u.setLink { u.link with count := 0, strays := 0 }) = u := by
    rw [setLink_self (l := { u.link with count := 0, strays := 0 }) (by rw [hlink]; rfl)]
    exact if_pos hf.censusFault
  have h3 : judgePowerLine (enterFault u) = u := by
    rw [show enterFault u = u from if_pos hf.posture, judgePowerLine]
    have hp : powerLineHolds u = false := by simp [powerLineHolds, hf.posture]
    exact setLink_self (by rw [hp, hlink]; rfl)
  have h4 : discardOrders (clearNodes u) = u := by
    have hn : clearNodes u = u := setLink_self (by rw [hlink]; rfl)
    have ho : { u.orders with queue := [], records := [] } = u.orders := by rw [← hf.queue, ← hf.records]
    rw [hn, discardOrders, ho]
  simp only [h2, h3, hf.still.stopAll, hf.still.abortSequence, hf.still.clearArbiter, hf.still.stopPump,
    clearFunctions_fresh hf, h4]
  rw [setLink_self (l := { u.link with enrolTimer := none, outstanding := none, chainLine := false }) (by rw [hlink]; rfl)]

theorem offerForget_fresh (h : Fresh s) (hl : s.link = { LinkManager.start with outcome := .running }) :
    offerEnrol .forget s = { s with
      path := { s.path with mTransmit := some (dataFrame (linkIdent 2 0) []), control := some (.enrol (.assign 1)) }
      link := { LinkManager.start with outcome := .running, outstanding := some 1, chainLine := true } } := by
  have ho : offerHeld (addOffer .forget s) = { s with path := { s.path with control := some (.enrol .forget) } } := by
    simp [offerHeld, addOffer, h.control, hl, LinkManager.start]
  rw [offerEnrol, ho, pumpM_control (by exact h.mTransmit) (by exact h.mState) (by exact h.doze) rfl]
  simp [slotEmptied, censusAdvance, offerHeld, addOffer, hl, LinkManager.start, controlToFrame]

end

/-! ### The start state (R194) -/

section
variable (inputs : Inputs) (image : Image) (straps : Straps) (pending : List Instr)

/-- The ground of a start, before its first census. -/
def startGround : State :=
  { startState inputs image straps pending with
    link := LinkManager.start
    path := { FramePath.start with cTransmit := if !image.agrees then some (startAlarmFrame straps) else none } }

theorem blank_value (g : Signal) :
    (blank inputs image straps pending).value g = image.load.signals[signalIndex g].safeValue :=
  startSignals_value image.load g

theorem startAlarm_blank : startAlarm (startTimers (blank inputs image straps pending))
    = { startTimers (blank inputs image straps pending) with
      path := { FramePath.start with cTransmit := if !image.agrees then some (startAlarmFrame straps) else none } } := by
  cases h : image.agrees
  · have hf : (blank inputs image straps pending).store.factoryLoaded = true := by simp [blank, h]
    refine (if_pos hf).trans ?_
    simp [alarmFrame, queueStatus, queueC, placeC, pumpC, mergeInto, startTimers, blank, FramePath.start, h,
      startAlarmFrame, PostureMonitor.start, alarmByte, AlarmSet.empty, cQueueCapacity]
    rfl
  · have hf : ¬ (blank inputs image straps pending).store.factoryLoaded = true := by simp [blank, h]
    refine (if_neg hf).trans ?_
    simp [startTimers, blank, FramePath.start]

theorem startGround_still : Still (startGround inputs image straps pending) where
  busy := List.any_eq_false.mpr fun i _ => by
    rw [replicate_fn rfl i]
    exact Bool.false_ne_true
  sequence := rfl
  waitList := rfl
  holder := rfl
  pump := rfl

theorem startGround_eq : judgeDozeTimer (windJudged (startAlarm (startTimers (blank inputs image straps pending))))
    = startGround inputs image straps pending := by
  rw [startAlarm_blank]
  let u : State := { startTimers (blank inputs image straps pending) with
    path := { FramePath.start with cTransmit := if !image.agrees then some (startAlarmFrame straps) else none } }
  have hw : windJudged u = u.setWind { WindRecord.start with
      gustTimer := if image.load.wind.gustThreshold ≤ image.load.signals[5].safeValue then some image.load.wind.gustTime
        else none } := by
    have hv : u.isWindy = decide (image.load.wind.gustThreshold ≤ image.load.signals[5].safeValue) := by
      rw [State.isWindy, show u.value .windSpeed = _ from blank_value inputs image straps pending .windSpeed]
      rfl
    rw [windJudged, hv]
    by_cases h : image.load.wind.gustThreshold ≤ image.load.signals[5].safeValue
    · simp [h, u, startTimers, blank, WindRecord.start, startTimer]
    · simp [h, u, startTimers, blank, WindRecord.start]
  have hd : dozeHolds (windJudged u) = decide (image.load.signals[0].safeValue = 0) := by
    have hv : (windJudged u).value .ignition = _ := (congrArg (·.value .ignition) hw).trans
      (blank_value inputs image straps pending .ignition)
    have hs : Still (windJudged u) := (startGround_still inputs image straps pending).congr (by rw [hw]; rfl)
      (by rw [hw]; rfl) (by rw [hw]; rfl)
    have hz : (windJudged u).store.doze = false := by rw [hw]; rfl
    simp only [dozeHolds, hv, hs.busy, hs.sequence, hz]
    simp
    rfl
  change judgeDozeTimer (windJudged u) = _
  rw [judgeDozeTimer, hd, hw]
  by_cases h : image.load.signals[0].safeValue = 0
  · simp only [h, decide_true, if_true]
    simp [startGround, startState, h, u, startTimers, blank, dozeExpiry, startTimer, OrderScheduler.restarted, State.setWind]
  · simp only [h, decide_false]
    simp [startGround, startState, h, u, startTimers, blank, startTimer, OrderScheduler.restarted, State.setWind]

theorem startGround_fresh : Fresh (startGround inputs image straps pending) := by
  constructor <;> rfl

theorem runAnnounced_startGround : runAnnounced (startGround inputs image straps pending)
    = { startGround inputs image straps pending with
      link := { LinkManager.start with outcome := .running }
      path := { FramePath.start with
        cTransmit := some (if !image.agrees then startAlarmFrame straps else startPostureFrame image.load straps)
        cQueue := if !image.agrees then [startPostureFrame image.load straps] else [] } } := by
  have hc : (startGround inputs image straps pending).claimsHeld = 0 := rfl
  have hb : postureBytes ((startGround inputs image straps pending).setLink
        { LinkManager.start with outcome := .running })
      = [6, byteOf image.load.activeBank.code, 0, 1]
        ++ be16 (limitAt image.load.supply image.load.signals[4].safeValue) ++ [0, 0] := by
    have h0 : be16 0 = [0, 0] := by decide
    have h6 : byteOf 6 = 6 ∧ byteOf 1 = 1 := by decide
    rw [← h0, ← h6.1]
    simp [postureBytes, startGround, startState, State.setLink, PostureMonitor.start, Posture.row, flagByte, h6,
      CensusOutcome.code, State.claimsHeld, LinkManager.start]
  rw [runAnnounced, postureFrame, hb]
  cases h : image.agrees <;>
    simp [queueStatus, queueC, placeC, pumpC, mergeInto, startGround, startState, FramePath.start, h, cQueueCapacity,
      State.setLink, startPostureFrame]

theorem boot_eq : boot inputs image straps pending = startState inputs image straps pending := by
  rw [boot, startGround_eq, startCensus_fresh (startGround_fresh ..) rfl,
    offerForget_fresh (runAnnounced_fresh (startGround_fresh ..)) (by rw [runAnnounced_startGround]),
    runAnnounced_startGround]
  rfl

theorem startState_quiet : react [] (startState inputs image straps pending) = none := by
  have hs : Still (startState inputs image straps pending) := (startGround_still inputs image straps pending).congr rfl rfl rfl
  refine hs.react_none ?_ rfl ?_ rfl ?_
  · exact derivePosture_fault (faultHolds_incomplete (by simp [startState]))
  · simp [notStowedHolds, startState, PostureMonitor.start, AlarmSet.empty]
  · have hv : (startState inputs image straps pending).value .ignition = image.load.signals[0].safeValue :=
      blank_value inputs image straps pending .ignition
    have hz : (startState inputs image straps pending).store.doze = false := rfl
    simp only [dozeHolds, hv, hs.busy, hs.sequence, hz]
    by_cases h : image.load.signals[0].safeValue = 0 <;> simp [startState, h]

theorem bootDone_eq : bootDone inputs image straps pending = startState inputs image straps pending := by
  rw [bootDone, boot_eq]
  exact run_nil (startState_quiet ..)

end

/-- Settles O4: a start is one state, whichever event asks for it. -/
theorem everyStartGivesTheStartState : Obligations.EveryStartGivesTheStartState := by
  intro s straps image
  have hw : ∀ inputs straps, startWith inputs straps s = startState inputs image straps s.pending :=
    fun inputs straps => bootDone_eq ..
  have hn : restartNow s = startState s.inputs image s.store.straps s.pending := bootDone_eq ..
  refine ⟨fun h => ?_, fun h hp => ?_, fun h ho hr => ?_, fun e h ho hr ha ht he => ?_, fun h => if_pos h, fun m => ?_⟩
  · exact (if_neg (by simp [h])).trans (congrArg _ (hw _ _))
  · exact (if_neg (by simp [h])).trans ((if_pos hp).trans (congrArg _ (hw _ _)))
  · rw [exec_restarts (by simp [restartsAt, h, ho, hr]), hn]
  · rw [exec_restarts (by simp [restartsAt, restartSent, h, ho, hr, ha, ht, he]), hn]
  · intro t
    have hagrees : m.agrees = true ↔ crc16 m.bytes = m.crc := by simp [Image.agrees]
    refine ⟨fun h => ?_, fun h => ?_, rfl, rfl⟩
    · rw [← hagrees] at h
      exact ⟨if_pos h, by simp [t, startState, h], by simp [t, startState, PostureMonitor.start, h]⟩
    · rw [ne_eq, ← hagrees, Bool.not_eq_true] at h
      exact ⟨if_neg (by simp [h]), by simp [t, startState, h], by simp [t, startState, PostureMonitor.start, h]⟩

end Sys2Proof.Proofs
end

section
/-! PROOFS. The frames of the management decoder (R179 to R182, R198): a command that comes whole, one that is
gathered, and one that is broken. -/

namespace Sys2Proof.Proofs
open Sys2Proof.Machine Sys2Proof.Laws

/-! ### The frames -/

/-- A request frame: a role byte and what follows it. -/
def requestFrame (s : State) (bs : List Byte) : Frame := dataFrame (requestIdent s.store.straps) bs

section
variable {s u t : State} {bs : List Byte} {rest : List Frame} {f : Frame} {r : State × List Task} {k : Nat}

theorem request_length (h : bs.length ≤ 8) : (requestFrame s bs).length = bs.length := Nat.min_eq_left h

theorem frameBytes_request (h : bs.length ≤ 8) : frameBytes (requestFrame s bs) = bs := by
  rw [frameBytes, request_length h]
  exact List.take_length

theorem frameByte_request (h : bs.length ≤ 8) {k : Nat} (hk : k < bs.length) :
    frameByte (requestFrame s bs) k = bs[k] := by
  rw [frameByte, request_length h, if_pos hk]
  exact List.getD_eq_getElem _ _ hk

theorem isRoleFrame_request (role : Byte) (hl : 3 ≤ bs.length) (h8 : bs.length ≤ 7) :
    isRoleFrame s role (requestFrame s (role :: bs)) = true := by
  have h8 : (role :: bs).length ≤ 8 := Nat.succ_le_succ h8
  have hb : frameByte (requestFrame s (role :: bs)) 0 = role := frameByte_request h8 (Nat.succ_pos _)
  simp only [isRoleFrame, isRequestFrame, request_length h8, hb]
  simp [requestFrame, dataFrame, hl]

/-- The state in which the decoder finds a frame: it has left the buffer, and the doze timer has restarted. -/
def handed (s : State) (rest : List Frame) : State := { s.renewed with path := { s.path with cReceive := rest } }

theorem handed_same (s : State) (rest : List Frame) : SameFollowed (handed s rest) s :=
  .trans (.of_path (s := s.renewed) (p := { s.path with cReceive := rest }) rfl) (renewed_followed s)

theorem taken_ready (hs : s.isReady = true) (rest : List Frame) :
    State.isReady { s with path := { s.path with cReceive := rest } } = true := by
  obtain ⟨h1, h2, h3⟩ := (isReady_iff s).mp hs
  have hj : SameFollowed { s with path := { s.path with cReceive := rest } } s :=
    .of_path (p := { s.path with cReceive := rest }) rfl
  exact (isReady_iff _).mpr ⟨h1, h2, hj.judged.react.mpr h3⟩

theorem handed_react (hs : s.isReady = true) : react [] (handed s rest) = none :=
  (handed_same s rest).judged.react.mpr (ready_quiet hs)

/-- A cascade with one task begins with it. -/
theorem complete_task {a : Task} (hf : follow s (u, []) = []) (hr : react [] u = none) (hd : a.delaysSwap = false)
    (hp : followTask a u (handle a u) = follow u (handle a u)) :
    complete s (u, [a]) = run 1048575 (follow u (handle a u)) (handle a u).1 := by
  have hq : react [a] u = none := (react_nil (by simp [hd]) u).trans hr
  rw [complete, follow_tasks hf, show cascadeBound = 1048575 + 1 from rfl, run_cons hq, hp, List.append_nil]

/-- A transaction that finds no assembly comes to the cascade of its answer. -/
theorem exec_transact {c : Instr} {code : CommandCode} {tag : Byte} {ps : List Byte}
    (hc : transactionOf c = some (code, tag, ps)) (hs : s.isReady = true) (hd : s.store.doze = false)
    (ha : s.assembly = none) : exec c s = .next (run 1048575 (follow s.renewed (transact code tag ps s.renewed))
      (transact code tag ps s.renewed).1) := by
  have hn : s.renewed.assembly = none := ha
  have hfirst : takeTransaction code tag ps s = (s.renewed, [.transact code tag ps]) := by
    simp [takeTransaction, touchDoze_renewed hd, breakAssembly, hn]
  obtain ⟨h1, h2, -⟩ := (isReady_iff s).mp hs
  rw [exec_transaction hc, perform_next h1 h2, hfirst,
    complete_task (renewed_followed s).follow_nil (renewed_react hs) rfl rfl]
  rfl

/-- A COMMAND frame that finds no assembly comes to the cascade of its start. -/
theorem exec_startCommand (hs : s.isReady = true) (hd : s.store.doze = false) (ha : s.assembly = none)
    (hc : s.path.cReceive = f :: rest) (hf : isCommandFrame s f = true) :
    exec .commandFrame s = .next (run 1048575 (follow (handed s rest) (startCommand f (handed s rest)))
      (startCommand f (handed s rest)).1) := by
  have hfirst : firstOf .commandFrame s = (handed s rest, [.command f]) := by
    refine (takeHead_coach hc hf).trans ?_
    have ht : touchDoze { s with path := { s.path with cReceive := rest } } = handed s rest := touchDoze_renewed hd
    have hn : (handed s rest).assembly = none := ha
    simp [takeCommand, ht, breakAssembly, hn]
  obtain ⟨h1, h2, -⟩ := (isReady_iff s).mp hs
  rw [exec_eq_perform rfl (by simp [restartsAt]), perform_next h1 h2, hfirst,
    complete_task (handed_same s rest).follow_nil (handed_react hs) rfl rfl]
  rfl

/-- A CONTINUE frame comes to the cascade of its bytes. -/
theorem exec_continueCommand (hs : s.isReady = true) (hd : s.store.doze = false)
    (hc : s.path.cReceive = f :: rest) (hf : isContinueFrame s f = true) :
    exec .continueFrame s = .next (run 1048575 (follow (handed s rest) (continueCommand f (handed s rest)))
      (continueCommand f (handed s rest)).1) := by
  have hfirst : firstOf .continueFrame s = (handed s rest, [.continuation f]) :=
    (takeHead_coach hc hf).trans (congrArg (·, [Task.continuation f]) (touchDoze_renewed hd))
  obtain ⟨h1, h2, -⟩ := (isReady_iff s).mp hs
  rw [exec_eq_perform rfl (by simp [restartsAt]), perform_next h1 h2, hfirst,
    complete_task (handed_same s rest).follow_nil (handed_react hs) rfl rfl]
  rfl

/-- A frame that leaves what is read as it was ends there. -/
theorem run_same (hs : s.isReady = true) (hj : SameFollowed t (handed s rest)) :
    run 1048575 (follow (handed s rest) (t, [])) t = t := by
  rw [hj.follow_nil]
  exact run_nil (hj.judged.react.mpr (handed_react hs))

theorem exec_commandFrame_same (hs : s.isReady = true) (hd : s.store.doze = false) (ha : s.assembly = none)
    (hc : s.path.cReceive = f :: rest) (hf : isCommandFrame s f = true)
    (hr : startCommand f (handed s rest) = (t, [])) (hj : SameFollowed t (handed s rest)) :
    exec .commandFrame s = .next t :=
  (exec_startCommand hs hd ha hc hf).trans (congrArg _ (hr ▸ run_same hs hj))

theorem exec_continueFrame_same (hs : s.isReady = true) (hd : s.store.doze = false)
    (hc : s.path.cReceive = f :: rest) (hf : isContinueFrame s f = true)
    (hr : continueCommand f (handed s rest) = (t, [])) (hj : SameFollowed t (handed s rest)) :
    exec .continueFrame s = .next t :=
  (exec_continueCommand hs hd hc hf).trans (congrArg _ (hr ▸ run_same hs hj))

end

/-! ### A command in one frame (R180) -/

section
variable {s : State} {rest : List Frame} {code : CommandCode} {tag : Byte} {ps : List Byte}

theorem ofByte_toByte (code : CommandCode) : CommandCode.ofByte code.toByte = some code := by cases code <;> rfl

theorem toByte_ofByte {b : Byte} (h : CommandCode.ofByte b = some code) : code.toByte = b := by
  unfold CommandCode.ofByte at h
  split at h <;> simp only [Option.some.injEq, reduceCtorEq] at h
  all_goals
    subst h
    exact BitVec.eq_of_toNat_eq (Eq.symm ‹b.toNat = _›)

/-- The bytes of a COMMAND frame. -/
theorem commandFrame_bytes {b n : Byte} {bs : List Byte} (h : bs.length ≤ 4) :
    frameByte (requestFrame s ([0x01, b, tag, n] ++ bs)) 1 = b ∧ frameByte (requestFrame s ([0x01, b, tag, n] ++ bs)) 2 = tag
      ∧ frameByte (requestFrame s ([0x01, b, tag, n] ++ bs)) 3 = n
      ∧ (requestFrame s ([0x01, b, tag, n] ++ bs)).length - 4 = bs.length
      ∧ (frameBytes (requestFrame s ([0x01, b, tag, n] ++ bs))).drop 4 = bs := by
  have h8 : ([0x01, b, tag, n] ++ bs).length ≤ 8 := by simp; omega
  refine ⟨frameByte_request h8 (by simp), frameByte_request h8 (by simp), frameByte_request h8 (by simp), ?_, ?_⟩
  · rw [request_length h8]
    simp
  · rw [frameBytes_request h8]
    rfl

theorem writeCellList_assembly (bs : List Byte) (s : State) : (writeCellList bs s).assembly = s.assembly := by
  induction bs generalizing s with
  | nil => rfl
  | cons b bs ih => exact (ih (writeCell b s)).trans rfl

theorem gather_assembly (code : CommandCode) (bs : List Byte) (s : State) : (gather code bs s).assembly = s.assembly := by
  unfold gather
  split
  · exact writeCellList_assembly bs s
  · rfl

/-- A whole command in its frame starts as the transaction. -/
theorem startCommand_whole {pad : List Byte} {u : State} (hl : ps.length + pad.length ≤ 4) (ha : u.assembly = none) :
    startCommand (requestFrame s ([0x01, code.toByte, tag, BitVec.ofNat 8 ps.length] ++ (ps ++ pad))) u
      = transact code tag ps u := by
  have hl' : (ps ++ pad).length ≤ 4 := by simp; omega
  obtain ⟨h1, h2, h3, h4, h5⟩ := commandFrame_bytes (s := s) (b := code.toByte) (tag := tag)
    (n := BitVec.ofNat 8 ps.length) hl'
  have hn : (BitVec.ofNat 8 ps.length).toNat = ps.length := byte_toNat (by omega)
  have hr : startRefusal code ps.length (ps ++ pad).length u = startRefusal code ps.length (min 4 ps.length) u := by
    have h1 : ¬ (ps ++ pad).length < min 4 ps.length := by simp
    have h2 : ¬ min 4 ps.length < min 4 ps.length := lt_irrefl _
    simp only [startRefusal, h1, h2]
  have htake : (ps ++ pad).take ps.length = ps := List.take_left'  rfl
  have hg : { gather code ps u with assembly := none } = gather code ps u := by
    rw [← ha, ← gather_assembly code ps u]
  simp only [startCommand, h1, h2, h3, h4, h5, hn, ofByte_toByte, hr, htake, transact]
  split
  · rfl
  · rw [advance, if_pos (Nat.le_refl _), hg]

theorem exec_commandFrame_whole {c : Instr} {pad : List Byte} (hc : transactionOf c = some (code, tag, ps))
    (hl : ps.length + pad.length ≤ 4) (hs : s.isReady = true) (hd : s.store.doze = false) (ha : s.assembly = none)
    (hrec : s.path.cReceive = requestFrame s ([0x01, code.toByte, tag, BitVec.ofNat 8 ps.length] ++ (ps ++ pad)) :: rest) :
    exec .commandFrame s = exec c { s with path := { s.path with cReceive := rest } } := by
  have hform : isCommandFrame s (requestFrame s ([0x01, code.toByte, tag, BitVec.ofNat 8 ps.length] ++ (ps ++ pad))) = true :=
    isRoleFrame_request 0x01 (by simp) (by simp; omega)
  have he : State.renewed { s with path := { s.path with cReceive := rest } } = handed s rest := rfl
  rw [exec_startCommand hs hd ha hrec hform, startCommand_whole (u := handed s rest) hl ha,
    exec_transact hc (taken_ready hs rest) hd ha, he]

section
variable {u : State} {b : Byte} {n : Nat} (hn : takesNoCommand u = false) (h4 : ps.length = 4)
include hn h4

theorem startCommand_unknown (hb : CommandCode.ofByte b = none) :
    startCommand (requestFrame s ([0x01, b, tag, BitVec.ofNat 8 n] ++ ps)) u = (queueReply b tag .unknown [] u, []) := by
  obtain ⟨h1, h2, -⟩ := commandFrame_bytes (s := s) (b := b) (tag := tag) (n := BitVec.ofNat 8 n) (bs := ps) (by omega)
  simp only [startCommand, h1, h2, hb, hn]
  rfl

variable (h255 : n ≤ 255)
include h255

theorem startCommand_length (hb : CommandCode.ofByte b = some code) (hl : lengthFits code n = false)
    (hw : code ≠ .writeCells) : startCommand (requestFrame s ([0x01, b, tag, BitVec.ofNat 8 n] ++ ps)) u
      = (queueReply b tag .length [0] u, []) := by
  obtain ⟨h1, h2, h3, h5, -⟩ := commandFrame_bytes (s := s) (b := b) (tag := tag) (n := BitVec.ofNat 8 n) (bs := ps) (by omega)
  have hr : startRefusal code n ps.length u = some (.length, [0]) := by
    simp [startRefusal, hn, hl, lengthResult, hw]
  simp only [startCommand, h1, h2, h3, h5, hb, byte_toNat (n := n) (by omega), hr, reply, toByte_ofByte hb]

theorem startCommand_begins (hb : CommandCode.ofByte b = some code) (hl : lengthFits code n = true) (hlong : 4 < n)
    (hw : code ≠ .writeCells) : startCommand (requestFrame s ([0x01, b, tag, BitVec.ofNat 8 n] ++ ps)) u
      = ({ u with assembly := some ⟨code, tag, n, 1, ps⟩ }, []) := by
  obtain ⟨h1, h2, h3, h5, h6⟩ := commandFrame_bytes (s := s) (b := b) (tag := tag) (n := BitVec.ofNat 8 n) (bs := ps) (by omega)
  have hr : startRefusal code n ps.length u = none := by
    have hm : ¬ ps.length < min 4 n := by omega
    simp [startRefusal, hn, hl, hw, hm]
  have hg : gather code ps u = u := if_neg hw
  have ht : ps.take n = ps := List.take_of_length_le (by omega)
  simp only [startCommand, h1, h2, h3, h5, h6, hb, byte_toNat (n := n) (by omega), hr, ht, hg, advance]
  rw [if_neg (by omega)]

end

theorem assembly_sameFollowed (a : Option Assembly) (u : State) : SameFollowed { u with assembly := a } u :=
  ⟨by constructor <;> intros <;> rfl, rfl, rfl, rfl⟩

/-- Settles O18, by how a COMMAND frame starts. -/
theorem commandFrameCarriesAWholeCommand : Obligations.CommandFrameCarriesAWholeCommand := by
  refine ⟨fun s c code tag ps pad rest hc hl hs hd ha hrec => exec_commandFrame_whole hc hl hs hd ha ?_,
    fun s b tag n ps rest hs h255 h4 hrec => ?_⟩
  · rwa [List.append_assoc] at hrec
  · intro t
    obtain ⟨hr, hd, ha, hn⟩ := (takesCommands_iff s).mp hs
    have hform : isCommandFrame s (requestFrame s ([0x01, b, tag, BitVec.ofNat 8 n] ++ ps)) = true :=
      isRoleFrame_request 0x01 (by simp) (by simp; omega)
    have hn : takesNoCommand (handed s rest) = false := hn
    refine ⟨fun hb => ?_, fun code hb hl hw => ?_, fun code hb hl hlong hw => ?_⟩
    · exact exec_commandFrame_same hr hd ha hrec hform (startCommand_unknown hn h4 hb) (queueReply_sameRead ..).followed
    · exact exec_commandFrame_same hr hd ha hrec hform (startCommand_length hn h4 h255 hb hl hw)
        (queueReply_sameRead ..).followed
    · exact exec_commandFrame_same hr hd ha hrec hform (startCommand_begins hn h4 h255 hb hl hlong hw)
        (assembly_sameFollowed ..)

end

end Sys2Proof.Proofs
end

section
/-! PROOFS. The gathering and the break of an assembly (R180 to R182). -/

namespace Sys2Proof.Proofs
open Sys2Proof.Machine Sys2Proof.Laws

section
variable {s u t : State} {a : Assembly} {index : Byte} {ps : List Byte} {rest : List Frame} {k : Nat}

/-! ### The bytes of a CONTINUE frame (R181) -/

/-- The bytes of a CONTINUE frame. -/
theorem continueFrame_bytes (h : ps.length = 6) : frameByte (requestFrame s ([0x02, index] ++ ps)) 1 = index
    ∧ (requestFrame s ([0x02, index] ++ ps)).length - 2 = 6
    ∧ (frameBytes (requestFrame s ([0x02, index] ++ ps))).drop 2 = ps := by
  have h8 : ([0x02, index] ++ ps).length ≤ 8 := by simp; omega
  refine ⟨frameByte_request h8 (by simp), ?_, ?_⟩
  · rw [request_length h8]
    simp [h]
  · rw [frameBytes_request h8]
    rfl

/-- A CONTINUE frame with the next index gathers what the declared length still lacks of its bytes. -/
theorem continueCommand_next (h : ps.length = 6) (ha : u.assembly = some a) (hi : index.toNat = a.nextIndex) :
    continueCommand (requestFrame s ([0x02, index] ++ ps)) u
      = advance { a with params := a.params ++ ps.take (a.declared - a.params.length), nextIndex := a.nextIndex + 1 }
        (gather a.code (ps.take (a.declared - a.params.length)) u) := by
  obtain ⟨h1, h2, h3⟩ := continueFrame_bytes (s := s) (index := index) h
  have hn : ¬ index.toNat ≠ a.nextIndex := not_not_intro hi
  have hm : ¬ 6 < min 6 (a.declared - a.params.length) := by omega
  simp only [continueCommand, ha, h1, h2, h3, if_neg hn, if_neg hm]

/-- One with another index ends the assembly. -/
theorem continueCommand_ends (h : ps.length = 6) (ha : u.assembly = some a) (hi : index.toNat ≠ a.nextIndex) :
    continueCommand (requestFrame s ([0x02, index] ++ ps)) u = endAssembly a .length u := by
  obtain ⟨h1, -⟩ := continueFrame_bytes (s := s) (index := index) h
  simp only [continueCommand, ha, h1, if_pos hi]

theorem continueCommand_none (ha : u.assembly = none) :
    continueCommand (requestFrame s ([0x02, index] ++ ps)) u = (u, []) := by
  simp only [continueCommand, ha]

theorem advance_gathers (h : a.params.length < a.declared) : advance a u = ({ u with assembly := some a }, []) :=
  if_neg (Nat.not_le.mpr h)

theorem advance_carries (h : a.declared ≤ a.params.length) :
    advance a u = carryOut a.code a.tag a.params { u with assembly := none } := if_pos h

theorem gather_other (h : a.code ≠ .writeCells) (bs : List Byte) : gather a.code bs u = u := if_neg h

/-- What a whole assembly and one of WRITE_CELLS end with. -/
theorem endAssembly_whole (why : ReplyOutcome) (h : a.code.shape = .whole k) :
    endAssembly a why u = (queueReply a.code.toByte a.tag why [0] { u with assembly := none }, []) := by
  simp only [endAssembly, h, reply]

theorem endAssembly_cells (why : ReplyOutcome) (h : a.code = .writeCells) : endAssembly a why u
    = (queueReply 0x21 a.tag why (cellResult a.params.length { u with assembly := none }) { u with assembly := none }, []) := by
  simp only [endAssembly, h, reply]
  rfl

theorem transact_carries {code : CommandCode} {tag : Byte} (hn : takesNoCommand u = false) (hl : lengthFits code ps.length = true)
    (hw : code ≠ .writeCells) : transact code tag ps u = carryOut code tag ps u := by
  have hr : startRefusal code ps.length (min 4 ps.length) u = none := by simp [startRefusal, hn, hl, hw]
  simp only [transact, hr, gather, if_neg hw]

theorem carryOut_cells {code : CommandCode} {tag : Byte} (hw : code = .writeCells) : carryOut code tag ps u
    = (queueReply 0x21 tag (doneOutcome (ps.any fun v => decide (7 < v.toNat))) (cellResult ps.length u) u, []) := by
  rw [hw, carryOut, if_neg (by simp)]
  rfl

/-! ### A command that finds an assembly (R180) -/

theorem placeC_store (new : TxEntry) (c : ConfigStore) (s : State) :
    placeC new { s with store := c } = { placeC new s with store := c } := by
  unfold placeC
  cases mergeInto new s.path.cQueue with
  | some q => rfl
  | none =>
    by_cases hl : s.path.cQueue.length < cQueueCapacity
    · simp only [hl, if_true]
    · cases evictClass .forwarded s.path.cQueue with
      | some q => simp only [hl, if_false]
      | none =>
        cases evictClass .periodic s.path.cQueue with
        | some q => simp only [hl, if_false]
        | none => by_cases hc : new.cls = .forwarded <;> simp only [hl, hc, if_true, if_false]

theorem pumpC_store (c : ConfigStore) (s : State) : pumpC { s with store := c } = { pumpC s with store := c } := by
  unfold pumpC
  cases s.path.cTransmit <;> cases s.path.cState <;> cases s.path.cQueue <;> rfl

theorem queueC_store (new : TxEntry) (c : ConfigStore) (s : State) :
    queueC new { s with store := c } = { queueC new s with store := c } := by
  rw [queueC, placeC_store, pumpC_store]
  rfl

theorem queueReply_renewed (code tag : Byte) (o : ReplyOutcome) (r : List Byte) (s : State) :
    (queueReply code tag o r s).renewed = queueReply code tag o r s.renewed := by
  obtain ⟨p, m, c, o', h⟩ := queueC_shape ⟨.reply, none, dataFrame (replyIdent s.store.straps)
    ([0x81, code, tag, byteOf o.code] ++ (r ++ [0, 0, 0, 0]).take 4)⟩ s
  have hq : (queueReply code tag o r s).renewed = { queueReply code tag o r s with store := s.renewed.store } := by
    rw [queueReply, h]
    rfl
  rw [hq]
  exact (queueC_store ..).symm

/-- A command that breaks an assembly runs on the state that the break leaves. -/
theorem exec_breaks {c : Instr} {code : CommandCode} {tag : Byte} (hc : transactionOf c = some (code, tag, ps))
    (hs : s.isReady = true) (hd : s.store.doze = false) (ha : s.assembly = some a)
    (he : endAssembly a .incomplete s.renewed = (u, [])) (hf : follow s (u, []) = []) (hr : react [] u = none) :
    exec c s = .next (run 1048575 (follow u (transact code tag ps u)) (transact code tag ps u).1) := by
  have hn : s.renewed.assembly = some a := ha
  have hfirst : takeTransaction code tag ps s = (u, [.transact code tag ps]) := by
    simp [takeTransaction, touchDoze_renewed hd, breakAssembly, hn, he]
  obtain ⟨h1, h2, -⟩ := (isReady_iff s).mp hs
  rw [exec_transaction hc, perform_next h1 h2, hfirst, complete_task hf hr rfl rfl]
  rfl

/-- The break of an assembly that sets nothing off may as well come before the command. -/
theorem exec_broken {c : Instr} {code : CommandCode} {tag : Byte} (hc : transactionOf c = some (code, tag, ps))
    (hs : s.isReady = true) (hd : s.store.doze = false) (ha : s.assembly = some a)
    (he : endAssembly a .incomplete s.renewed = (u, [])) (hf : follow s (u, []) = []) (hr : react [] u = none)
    (ht : t.isReady = true) (htd : t.store.doze = false) (hta : t.assembly = none) (htu : t.renewed = u) :
    exec c s = exec c t := by
  rw [exec_breaks hc hs hd ha he hf hr, exec_transact hc ht htd hta, htu]

theorem isContinueFrame_request (h : ps.length = 6) : isContinueFrame s (requestFrame s ([0x02, index] ++ ps)) = true :=
  isRoleFrame_request 0x02 (by simp; omega) (by simp; omega)

theorem assembly_ready (h : u.isReady = true) (b : Option Assembly) : State.isReady { u with assembly := b } = true := by
  obtain ⟨h1, h2, h3⟩ := (isReady_iff u).mp h
  exact (isReady_iff _).mpr ⟨h1, h2, (assembly_sameFollowed b u).judged.react.mpr h3⟩

/-- Settles O19. -/
theorem continueFrameAddsItsBytes : Obligations.ContinueFrameAddsItsBytes := by
  refine ⟨fun s index ps rest hs hd h6 hrec => ?_, fun s c code tag ps a k hc hs hd ha hk => ?_⟩
  · intro t
    have hrec : s.path.cReceive = requestFrame s ([0x02, index] ++ ps) :: rest := hrec
    have hform := isContinueFrame_request (s := s) (index := index) h6
    have hsame : ∀ {r : State}, continueCommand (requestFrame s ([0x02, index] ++ ps)) t = (r, []) →
        SameFollowed r t → exec .continueFrame s = .next r := fun hr hj => exec_continueFrame_same hs hd hrec hform hr hj
    have hta : t.assembly = s.assembly := rfl
    rw [← hta]
    refine ⟨fun ha => ?_, fun a ha hi hl hw => ?_, fun a k ha hi hk => ?_, fun a c ha hi hl hl' hw hn hfits hc => ?_,
      fun a ha hw => ?_⟩
    · exact hsame (continueCommand_none ha) (.refl _)
    · have hb : ps.take (a.declared - a.params.length) = ps := List.take_of_length_le (by omega)
      refine hsame ?_ (assembly_sameFollowed ..)
      rw [continueCommand_next h6 ha hi, hb, gather_other hw, advance_gathers (by simp; omega)]
    · exact hsame ((continueCommand_ends h6 ha hi).trans (endAssembly_whole _ hk))
        ((queueReply_sameRead ..).followed.trans (assembly_sameFollowed ..))
    · have hb : (a.params ++ ps.take (a.declared - a.params.length)).length = a.declared := by simp; omega
      have hr : continueCommand (requestFrame s ([0x02, index] ++ ps)) t
          = transact a.code a.tag (a.params ++ ps.take (a.declared - a.params.length)) { t with assembly := none } := by
        rw [continueCommand_next h6 ha hi, gather_other hw, advance_carries (Nat.le_of_eq hb.symm),
          transact_carries (u := { t with assembly := none }) hn (by rwa [hb]) hw]
      have he : State.renewed { s with path := { s.path with cReceive := rest }, assembly := none }
          = { t with assembly := none } := rfl
      have hs' : State.isReady { s with path := { s.path with cReceive := rest }, assembly := none } = true :=
        assembly_ready (taken_ready hs rest) none
      rw [exec_continueCommand hs hd hrec hform, exec_transact hc hs' hd rfl, he]
      exact congrArg _ (by rw [show handed s rest = t from rfl, hr]; rfl)
    · intro answer cells written all
      have hg : gather a.code (ps.take (a.declared - a.params.length)) t = written := if_pos hw
      have hwritten : SameFollowed written t := (writeCellList_sameRead cells t).followed
      refine ⟨fun hi hl => ?_, fun hi hl hl' => ?_, fun hi => ?_⟩
      · refine hsame ?_ ((assembly_sameFollowed ..).trans hwritten)
        rw [continueCommand_next h6 ha hi, hg, advance_gathers (by simp; omega)]
      · have hb : all.length = a.declared := by simp [all, cells]; omega
        refine hsame ?_ ((queueReply_sameRead ..).followed.trans ((assembly_sameFollowed ..).trans hwritten))
        rw [continueCommand_next h6 ha hi, hg, advance_carries (Nat.le_of_eq hb.symm)]
        refine (carryOut_cells hw (ps := all)).trans ?_
        rw [hb]
        rfl
      · exact hsame ((continueCommand_ends h6 ha hi).trans (endAssembly_cells _ hw))
          ((queueReply_sameRead ..).followed.trans (assembly_sameFollowed ..))
  · have hq : SameFollowed (queueReply a.code.toByte a.tag .incomplete [0] { s.renewed with assembly := none }) s :=
      (queueReply_sameRead ..).followed.trans ((assembly_sameFollowed none s.renewed).trans (renewed_followed s))
    have hj : SameFollowed (queueReply a.code.toByte a.tag .incomplete [0] { s with assembly := none }) s :=
      (queueReply_sameRead ..).followed.trans (assembly_sameFollowed none s)
    obtain ⟨h1, h2, h3⟩ := (isReady_iff s).mp hs
    refine exec_broken hc hs hd ha (endAssembly_whole (u := s.renewed) _ hk) hq.follow_nil (hq.judged.react.mpr h3)
      ((isReady_iff _).mpr ⟨?_, ?_, hj.judged.react.mpr h3⟩) ?_ ?_ (queueReply_renewed ..)
    · simpa [State.isRunning] using h1
    · simpa using h2
    · simpa using hd
    · simp

end

end Sys2Proof.Proofs
end

section
/-! PROOFS. READ, CENSUS and the break of a field-wise command (R155 to R157, R182, R185, R186). -/

namespace Sys2Proof.Proofs
open Sys2Proof.Machine Sys2Proof.Laws

/-! ### READ (R185) -/

theorem chunks_spec (n : Nat) (bs : List Byte) (h : bs.length ≤ n) : (chunks n bs).flatten = bs
    ∧ (∀ f ∈ (chunks n bs).dropLast, f.length = 6) ∧ ∀ f ∈ chunks n bs, 0 < f.length ∧ f.length ≤ 6 := by
  induction n generalizing bs with
  | zero =>
    have hb : bs = [] := List.length_eq_zero_iff.mp (Nat.le_zero.mp h)
    subst hb
    exact ⟨rfl, nofun, nofun⟩
  | succ n ih =>
    by_cases hb : bs = []
    · subst hb
      exact ⟨rfl, nofun, nofun⟩
    · have hpos : 0 < bs.length := List.length_pos_iff.mpr hb
      obtain ⟨h1, h2, h3⟩ := ih (bs.drop 6) (by simp; omega)
      have hc : chunks (n + 1) bs = bs.take 6 :: chunks n (bs.drop 6) := by simp [chunks, hb]
      rw [hc]
      refine ⟨by rw [List.flatten_cons, h1, List.take_append_drop], fun f hf => ?_, fun f hf => ?_⟩
      · cases hd : chunks n (bs.drop 6) with
        | nil =>
          rw [hd] at hf
          cases hf
        | cons g gs =>
          rw [hd, List.dropLast_cons_of_ne_nil (List.cons_ne_nil _ _)] at hf
          rcases List.mem_cons.mp hf with rfl | hf
          · have hg := (h3 g (by simp [hd])).1
            have : bs.drop 6 ≠ [] := fun hn => by
              rw [hd, hn, List.flatten_cons, List.append_eq_nil_iff] at h1
              simp [h1.1] at hg
            have hlen : 6 < bs.length := by
              by_contra hle
              exact this (List.drop_eq_nil_of_le (by omega))
            simp; omega
          · exact h2 f (by rw [hd]; exact hf)
      · rcases List.mem_cons.mp hf with rfl | hf
        · simp; omega
        · exact h3 f hf

theorem queueRecord_sameRead (bs : List Byte) (s : State) : SameRead (queueRecord bs s) s :=
  foldl_sameRead (fun _ _ => queueC_sameRead _ _) _ s

/-! ### A census start where no enrolment frame is held -/

/-- The link manager holds no enrolment frame and none stands in the control slot. -/
def NoEnrol (s : State) : Prop := s.link.offers = [] ∧ ∀ f, s.path.control ≠ some (.enrol f)

section
variable {s t : State}

theorem NoEnrol.samePort (h : NoEnrol s) (k : SamePort s t) : NoEnrol t := by
  rw [NoEnrol, k.link, k.control]
  exact h

theorem NoEnrol.pumpM (h : NoEnrol s) : NoEnrol (pumpM s) := by
  obtain ⟨ho, hc⟩ := h
  unfold Machine.pumpM
  split
  · exact ⟨ho, hc⟩
  · split
    · rename_i c hcc
      have hn : ∀ f, c ≠ .enrol f := fun f hf => hc f (hcc.trans (congrArg _ hf))
      cases c with
      | enrol f => exact absurd rfl (hn f)
      | halt => simp [slotEmptied, offerHeld, ho, NoEnrol]
      | beat a b => simp [slotEmptied, offerHeld, ho, NoEnrol]
    · rename_i hcc
      split
      · simp [NoEnrol, ho, hcc]
      · split <;> simp [NoEnrol, ho, hcc]

theorem NoEnrol.acts (h : NoEnrol s) (ha : Acts s t) : NoEnrol t := by
  induction ha with
  | refl => exact h
  | queueC _ ih => exact ih.samePort (queueC_samePort ..)
  | handOrder _ ih =>
    have hp : ∀ (u : State) (r : OrderRecord), NoEnrol u → NoEnrol (placeOrder r u) := fun u r hu => by
      rw [placeOrder_shape]
      exact hu
    simp only [Machine.handOrder]
    (repeat' split)
    · refine (hp _ _ ?_).pumpM
      exact ih
    · exact ih
    · exact ih
    · refine (hp _ _ ?_).pumpM
      exact ih
    · exact ih
  | offerHalt _ ih =>
    obtain ⟨ho, hc⟩ := ih
    simp only [Machine.offerHalt]
    split
    · exact ⟨ho, hc⟩
    · exact absurd ‹_› (hc _)
    all_goals exact NoEnrol.pumpM ⟨ho, fun _ => nofun⟩
  | storeFn _ ih | holds _ ih | setManifold _ ih | sequence _ ih | wind _ ih | levelled _ ih | clearQueue _ ih
  | dropClaim _ ih | addClaim _ _ ih => exact ih

theorem NoEnrol.setOutcome (h : NoEnrol s) (o : CensusOutcome) : NoEnrol (setOutcome o s) := by
  obtain ⟨h1, -⟩ := setOutcome_samePort o s
  rw [NoEnrol, h1, setOutcome_link]
  exact h

theorem NoEnrol.enterFault (h : NoEnrol s) : NoEnrol (enterFault s) := by
  by_cases hp : s.monitor.posture = .fault
  · have he : Machine.enterFault s = s := if_pos hp
    rwa [he]
  · rw [enterFault_eq hp, faultEntered]
    have hq : NoEnrol (setPosture .fault s) := by
      unfold setPosture
      rw [if_neg hp]
      exact NoEnrol.samePort (s := { s with monitor := { s.monitor with posture := .fault } }) h (queueC_samePort ..)
    exact hq.acts (Acts.haltEffects .refl)

theorem NoEnrol.censusReady (h : NoEnrol s) : NoEnrol (censusReady s) := by
  have h1 : NoEnrol (censusAnnounced s) := by
    unfold censusAnnounced setAlarm
    split
    · exact h.setOutcome _
    · unfold alarmFrame queueStatus
      refine NoEnrol.samePort ?_ (queueC_samePort ..)
      exact h.setOutcome .running
  have ha : ∀ u : State, Acts u (clearFunctions (stopPump false (clearArbiter (abortSequence false .halted
      (stopAll false .halted slots u))))) := fun u => Acts.refl.stopAll.abortSequence.clearArbiter.stopPump.clearFunctions
  have h2 : NoEnrol (censusHalted s) := by
    unfold censusHalted
    exact h1.enterFault
  have h3 : NoEnrol (clearFunctions (censusRested s)) := h2.acts (by
    unfold censusRested
    exact ha _)
  unfold Proofs.censusReady
  generalize clearFunctions (censusRested s) = u at h3
  exact h3

/-- With no enrolment frame held the FORGET goes ahead alone: no node and no timer of the link manager changes. -/
theorem offerForget_noEnrol (h : NoEnrol s) : (offerEnrol .forget s).link.nodes = s.link.nodes
    ∧ (offerEnrol .forget s).link.enrolTimer = s.link.enrolTimer := by
  obtain ⟨ho, hc⟩ := h
  have hpump : ∀ u : State, (∀ c, u.path.control = some c → c = .enrol .forget ∨ c = .halt) →
      (pumpM u).link.nodes = u.link.nodes ∧ (pumpM u).link.enrolTimer = u.link.enrolTimer := fun u hu => by
    have hheld : ∀ v : State, (offerHeld v).link.nodes = v.link.nodes ∧ (offerHeld v).link.enrolTimer = v.link.enrolTimer :=
      fun v => by
        rcases offerHeld_shape v with h | ⟨f, rest, -, h⟩ <;> rw [h] <;> exact ⟨rfl, rfl⟩
    unfold Machine.pumpM
    split
    · exact ⟨rfl, rfl⟩
    · split
      · rename_i c hcc
        rcases hu c hcc with rfl | rfl
        · exact (hheld _).imp (fun h => h.trans rfl) (fun h => h.trans rfl)
        · exact (hheld _).imp (fun h => h.trans rfl) (fun h => h.trans rfl)
      · split
        · simp
        · split <;> exact ⟨rfl, rfl⟩
  have hadd : (addOffer .forget s).link.offers = [.forget] := by simp [addOffer, ho]
  have hheld : (offerHeld (addOffer .forget s)).link.nodes = s.link.nodes
      ∧ (offerHeld (addOffer .forget s)).link.enrolTimer = s.link.enrolTimer := by
    rcases offerHeld_shape (addOffer .forget s) with h | ⟨f, rest, -, h⟩ <;> rw [h] <;> exact ⟨rfl, rfl⟩
  obtain ⟨h1, h2⟩ := hpump (offerHeld (addOffer .forget s)) fun c h => by
    unfold Machine.offerHeld at h
    rw [hadd] at h
    cases hs : s.path.control with
    | none => simp_all [addOffer]
    | some d =>
      cases d with
      | enrol f => exact absurd hs (hc f)
      | halt => simp_all [addOffer]
      | beat a b => simp_all [addOffer]
  exact ⟨h1.trans hheld.1, h2.trans hheld.2⟩

theorem startCensus_noEnrol (h : NoEnrol s) : (startCensus s).link.nodes = Vector.replicate 24 Node.absent
    ∧ (startCensus s).link.enrolTimer = none := by
  obtain ⟨h1, h2⟩ := offerForget_noEnrol h.censusReady
  rw [startCensus_ready]
  exact ⟨h1, h2⟩

theorem NoEnrol.abandonCensus (h : s.EnrolWhileRunning) : NoEnrol (abandonCensus s) := by
  by_cases ho : s.link.outcome = .running
  · obtain ⟨c1, c2, -⟩ := closeCensus_closed s
    have hc : NoEnrol (closeCensus s) := ⟨c1, c2⟩
    have ha : Machine.abandonCensus s = (clearNodes (Machine.setOutcome .notRun (closeCensus s))).setLink
      { (clearNodes (Machine.setOutcome .notRun (closeCensus s))).link with count := 0 } := if_pos ho
    rw [ha]
    exact hc.setOutcome .notRun
  · obtain ⟨h1, h2, -⟩ := h ho
    have ha : Machine.abandonCensus s = s := if_neg ho
    rw [ha]
    exact ⟨h1, h2⟩

theorem exec_census (hs : s.takesCommands = true) (hr : s.isAtRest = true) (hp : s.monitor.posture ≠ .travel) (tag : Byte) :
    exec (.census tag) s = .next (queueReply 0x41 tag .done [] (startCensus (Machine.abandonCensus s.renewed))) := by
  obtain ⟨hready, -⟩ := (takesCommands_iff s).mp hs
  obtain ⟨hst, hsw⟩ := (isAtRest_iff s).mp hr
  have hq := ready_quiet hready
  have hc := startCensus_started (Machine.abandonCensus s.renewed)
  have hmon : (Machine.abandonCensus s.renewed).monitor = s.monitor := by simp [State.renewed]
  have hstore : (Machine.abandonCensus s.renewed).store = s.renewed.store := by simp
  have hn : react [] (startCensus (Machine.abandonCensus s.renewed)) = none := by
    refine hc.react_none ?_ ?_ ?_
    · rw [hmon, hsw]
    · obtain ⟨-, -, ha, -⟩ := (react_none_iff s).mp hq
      rw [hmon, ha]
      simp [notStowedHolds, hp]
    · have hv : (Machine.abandonCensus s.renewed).value .ignition = s.value .ignition := by
        rw [State.value, State.signal, hmon]
        rfl
      have hd : s.renewed.store.dozeTimer.isSome = s.store.dozeTimer.isSome := by
        cases h : s.store.dozeTimer <;> simp [State.renewed, h]
      rw [hstore, hd, hv, dozeTimer_rest hq hst]
      rfl
  have hread := queueReply_sameRead 0x41 tag .done [] (startCensus (Machine.abandonCensus s.renewed))
  have hbusy : s.renewed.anyBusy = false := hst.busy
  have ha : answerTo .census [] s.renewed = ⟨startCensus (Machine.abandonCensus s.renewed), .done, [], []⟩ :=
    if_neg (by simp [hbusy])
  refine perform_answer_runs (code := .census) (ps := []) hs rfl nofun nofun ha (.quiet ?_) (by decide : 1 ≤ 999)
  exact nothingFollows_still (hc.still.congr hread.functions (by simp) hread.manifold) (hread.react.mpr hn)

end

/-! ### The break of a field-wise command (R182) -/

section
variable {s t : State} {code : CommandCode} {x : Byte} {fs : List FieldWrite}

theorem fieldsOf_length : ∀ bs : List Byte, (fieldsOf bs).length = bs.length / 3
  | [] => rfl
  | [_] => by simp [fieldsOf]
  | [_, _] => by simp [fieldsOf]
  | a :: b :: c :: bs => by
    rw [fieldsOf, List.length_cons, fieldsOf_length bs]
    simp only [List.length_cons]
    omega

/-- The fields are applied, and their number is the answer; or they are refused, and nothing changes. -/
theorem applyFields_cases (code : CommandCode) (x : Byte) (fs : List FieldWrite) (s : State) :
    ((applyFields code x fs s).outcome = .done ∨ (applyFields code x fs s).outcome = .doneClamped)
        ∧ (applyFields code x fs s).result = [byteOf fs.length]
      ∨ ¬ ((applyFields code x fs s).outcome = .done ∨ (applyFields code x fs s).outcome = .doneClamped)
        ∧ ∃ o, applyFields code x fs s = ⟨s, o, [], []⟩ := by
  unfold applyFields
  split
  · exact .inr ⟨by simp [refuse], .range, rfl⟩
  · split
    · exact .inr ⟨by simp [refuse], .range, rfl⟩
    · split
      · exact .inr ⟨by simp [refuse], .busy, rfl⟩
      · refine .inl ⟨?_, rfl⟩
        simp only [doneOutcome]
        split
        · exact .inr rfl
        · exact .inl rfl

/-- The store and the assembly are the same. -/
def SameStore (t s : State) : Prop := t.store = s.store ∧ t.assembly = s.assembly

theorem SameStore.trans {s t u : State} (h : SameStore u t) (k : SameStore t s) : SameStore u s :=
  ⟨h.1.trans k.1, h.2.trans k.2⟩

theorem testSlides_store (i : Slot) (s : State) : SameStore (testSlides i s) s := by
  unfold testSlides
  generalize i :: ((s.cfg i).partner).toList = is
  induction is generalizing s with
  | nil => exact ⟨rfl, rfl⟩
  | cons k is ih => exact (ih (slideTest k s)).trans ⟨by simp, by simp⟩

theorem unbindFn_store (i : Slot) (s : State) : SameStore (unbindFn i s) s := by
  simp [SameStore]

theorem recheck_store (is : List Slot) (s : State) : SameStore (recheck is s).1 s := by
  simp [SameStore]

theorem rebind_store (is : List Slot) (s : State) : SameStore (rebind is s).1 s := by
  have h : ∀ (l : List Slot) (u : State), SameStore (l.foldl (fun s i => unbindFn i s) u) u := fun l => by
    induction l with
    | nil => exact fun u => ⟨rfl, rfl⟩
    | cons i l ih => exact fun u => (ih _).trans (unbindFn_store i u)
  exact (recheck_store ..).trans (h is s)

theorem SameStore.refl (s : State) : SameStore s s := ⟨rfl, rfl⟩

theorem setPartner_store (i : Slot) (p : Option Slot) (s : State) : SameStore (setPartner i p s) s := ⟨rfl, rfl⟩

theorem setPair_store (i : Slot) (p : Option Slot) (s : State) : SameStore (setPair i p s) s := ⟨rfl, rfl⟩

theorem applyPartner_store (i : Slot) (fs : List FieldWrite) (s : State) : SameStore (applyPartner i fs s).1 s := by
  unfold applyPartner
  split
  · split
    · split <;> exact setPartner_store ..
    · exact setPartner_store ..
  · split
    · dsimp only
      split
      · exact .refl s
      · exact setPartner_store ..
    · exact .refl s

theorem kindChanged_store (i : Slot) (old : Kind) (s : State) : SameStore (kindChanged i old s) s := by
  have h : SameStore (if old = .jack ∧ (s.cfg i).kind ≠ .jack then setPair i none s else s) s := by
    split
    · exact setPair_store ..
    · exact .refl s
  simp only [kindChanged]
  split
  · exact SameStore.trans ⟨rfl, rfl⟩ h
  · exact h

theorem clearContact_store (i : Slot) (old : Kind) (s : State) : SameStore (clearContact i old s) s := by
  unfold clearContact
  split <;> exact ⟨rfl, rfl⟩

theorem applyFunction_store (i : Slot) (fs : List FieldWrite) (s : State) : SameStore (applyFunction i fs s).1 s := by
  have h : SameStore (kindChanged i (s.cfg i).kind
      (applyPartner i fs (s.setCfg i (functionAfter fs (s.cfg i)).1)).1) s :=
    (kindChanged_store ..).trans ((applyPartner_store ..).trans ⟨rfl, rfl⟩)
  have hp : ∀ u, SameStore (placeAgain i fs u) u := fun u => by simp [SameStore, placeAgain]
  simp only [applyFunction]
  generalize kindChanged i (s.cfg i).kind (applyPartner i fs (s.setCfg i (functionAfter fs (s.cfg i)).1)).1 = u at h ⊢
  split
  · have h1 := (unbindFn_store i (clearContact i (s.cfg i).kind u)).trans ((clearContact_store ..).trans h)
    have h2 := (recheck_store [i] (placeAgain i fs (unbindFn i (clearContact i (s.cfg i).kind u)))).trans ((hp _).trans h1)
    dsimp only
    exact SameStore.trans (testSlides_store i _) h2
  · exact (testSlides_store ..).trans ((hp _).trans h)

theorem applyGeometry_store (i : Slot) (fs : List FieldWrite) (s : State) : SameStore (applyGeometry i fs s).1 s := by
  have h : ∀ u, SameStore (applyPair i fs u).1 u := fun u => by
    unfold applyPair
    split
    · exact .refl u
    · split
      · split <;> exact setPair_store ..
      · exact setPair_store ..
  exact (h _).trans ⟨rfl, rfl⟩

theorem applyLevelling_store (fs : List FieldWrite) (s : State) : SameStore (applyLevelling fs s).1 s := by
  simp only [applyLevelling]
  split
  · exact (rebind_store ..).trans ⟨rfl, rfl⟩
  · exact ⟨rfl, rfl⟩

theorem applyManifold_store (fs : List FieldWrite) (s : State) : SameStore (applyManifold fs s).1 s := by
  simp only [applyManifold]
  split
  · exact (rebind_store ..).trans ⟨rfl, rfl⟩
  · exact ⟨rfl, rfl⟩

theorem applySupply_store (fs : List FieldWrite) (s : State) : SameStore (applySupply fs s).1 s := by
  simp [SameStore, applySupply]

theorem applySignal_store (g : Signal) (fs : List FieldWrite) (s : State) : SameStore (applySignal g fs s).1 s := by
  have h : ∀ (old new : SignalConfig) (u : State), SameStore (applySafeValue g old new u) u := fun old new u => by
    unfold applySafeValue
    simp only
    split
    · split
      · exact ⟨rfl, rfl⟩
      · simp [SameStore, State.setSignal]
    · exact .refl u
  exact (h _ _ _).trans ⟨rfl, rfl⟩

theorem applyTiming_store (fs : List FieldWrite) (s : State) : SameStore (applyTiming fs s).1 s := by
  simp only [applyTiming]
  split <;> simp [SameStore]

/-- No field-wise command touches the store or an assembly. -/
theorem applyFields_store (code : CommandCode) (x : Byte) (fs : List FieldWrite) (s : State) :
    SameStore (applyFields code x fs s).state s := by
  unfold applyFields
  split
  · exact ⟨rfl, rfl⟩
  · rename_i c hc
    split
    · exact ⟨rfl, rfl⟩
    · split
      · exact ⟨rfl, rfl⟩
      · have hall : SameStore (c.apply fs s).1 s := by
          cases code <;> simp only [fieldCommand, Option.map_eq_some_iff, Option.some.injEq, reduceCtorEq] at hc
          case setFunction => obtain ⟨i, -, rfl⟩ := hc; exact applyFunction_store i fs s
          case setGeometry => obtain ⟨i, -, rfl⟩ := hc; exact applyGeometry_store i fs s
          case setSignal => obtain ⟨g, -, rfl⟩ := hc; exact applySignal_store g fs s
          case setLevelling => subst hc; exact applyLevelling_store fs s
          case setManifold => subst hc; exact applyManifold_store fs s
          case setSupply => subst hc; exact applySupply_store fs s
          case setTiming => subst hc; exact applyTiming_store fs s
        exact hall

/-- What the break of a field-wise command leaves, and its reply. -/
def fieldsLeft (a : Assembly) (k : Nat) (why : ReplyOutcome) (u : State) : State :=
  let fields := fieldsOf (a.params.drop k)
  let r := applyFields a.code (selectorOf k a.params) fields u
  if a.params.length < k then queueReply a.code.toByte a.tag why [0] u
  else if r.outcome = .done ∨ r.outcome = .doneClamped then
    queueReply a.code.toByte a.tag why [byteOf fields.length] r.state
  else queueReply a.code.toByte a.tag r.outcome [0] u

theorem queueReply_zero (code tag : Byte) (o : ReplyOutcome) (s : State) :
    queueReply code tag o [] s = queueReply code tag o [0] s := rfl

theorem endAssembly_fields {a : Assembly} {k : Nat} {why : ReplyOutcome} {u : State} (hk : a.code.shape = .fieldWise k)
    (ht : (applyFields a.code (selectorOf k a.params) (fieldsOf (a.params.drop k)) { u with assembly := none }).tasks = []) :
    endAssembly a why u = (fieldsLeft a k why { u with assembly := none }, []) := by
  simp only [endAssembly, hk, endFields, fieldsLeft]
  split
  · rfl
  · rcases applyFields_cases a.code (selectorOf k a.params) (fieldsOf (a.params.drop k)) { u with assembly := none } with
      ⟨h, hr⟩ | ⟨h, o, hr⟩
    · rw [if_pos h, if_pos h, reply, hr, ht]
    · rw [if_neg h, if_neg h, reply, hr]
      rfl

theorem fieldsLeft_store (a : Assembly) (k : Nat) (why : ReplyOutcome) (u : State) :
    SameStore (fieldsLeft a k why u) u ∧ (fieldsLeft a k why u).inputs = u.inputs ∧ (fieldsLeft a k why u).now = u.now
      ∧ (fieldsLeft a k why u).overrun = u.overrun := by
  have h := applyFields_store a.code (selectorOf k a.params) (fieldsOf (a.params.drop k)) u
  unfold fieldsLeft
  simp only
  split
  · simp [SameStore]
  · split
    · obtain ⟨h1, h2⟩ := h
      simp [SameStore, h1, h2]
    · simp [SameStore]

theorem nothingFollows_assembly (b : Option Assembly) (s u : State) :
    nothingFollows { s with assembly := b } u = nothingFollows s u := rfl

theorem run_leaves {s u : State} (h : nothingFollows s u = true) : run 1048575 (follow s (u, [])) u = u :=
  run_quiet (n := 1048574) h

/-- Settles O48. -/
theorem readCensusAndBrokenFieldsAreAnswered : Obligations.ReadCensusAndBrokenFieldsAreAnswered := by
  refine ⟨fun s tag kind index hs => ⟨fun bs hb => ?_, fun hb => ?_⟩, fun s tag hs hd he => ⟨fun hb => ?_, fun hr hp => ?_,
    fun hr => ?_⟩, fun s a k rest hs hd ha hk => ?_⟩
  · intro frames
    obtain ⟨h1, h2, h3⟩ := chunks_spec bs.length bs (Nat.le_refl _)
    refine ⟨perform_sameRead (code := .read) (ps := [kind, index]) hs rfl nofun nofun ?_ (queueRecord_sameRead bs _), h1, h2, h3⟩
    simp only [answerTo, readRecord, show byteAt [kind, index] 0 = kind from rfl, show byteAt [kind, index] 1 = index from rfl, hb]
    rfl
  · refine perform_sameRead (code := .read) (ps := [kind, index]) hs rfl nofun nofun ?_ (.refl _)
    simp only [answerTo, readRecord, show byteAt [kind, index] 0 = kind from rfl, show byteAt [kind, index] 1 = index from rfl, hb]
    rfl
  · exact perform_sameRead (code := .census) (ps := []) hs rfl nofun nofun (if_pos hb) (.refl _)
  · exact exec_census hs hr hp tag
  · intro t
    have hc := startCensus_started (abandonCensus s.renewed)
    obtain ⟨hn, ht⟩ := startCensus_noEnrol (NoEnrol.abandonCensus (s := s.renewed) he)
    have hmon : (abandonCensus s.renewed).monitor = s.monitor := (abandonCensus_frame s.renewed).2.2.1
    have htt : startCensus (abandonCensus s.renewed) = t := rfl
    rw [htt] at hc hn ht
    clear_value t
    refine ⟨hc.outcome, hc.count, hc.strays, ht, hn, hc.powerLine, hc.posture, ?_, hc.queue, hc.records, fun i => ?_, ?_,
      ?_, hc.signals.trans (by rw [hmon])⟩
    · rw [hc.alarms]
    · obtain ⟨f, hf⟩ := hc.fn i
      rw [hf]
      exact ⟨rfl, rfl, rfl, hc.hold i⟩
    · exact hc.settings.trans (abandonCensus_kept s.renewed).2
    · exact hc.inputs.trans (abandonCensus_kept s.renewed).1.1
  · intro base fields r applied answer left
    have hleft : ∀ why, left why = fieldsLeft a k why base := fun _ => rfl
    refine ⟨fun hl => ?_, fun hl hn => ?_, fun index ps h6 hi hrec ht hq => ?_, fun c code tag ps hc hrec ht h1 h2 h3 h4 => ?_⟩
    · rw [fieldsOf_length, List.length_drop]
    · rcases applyFields_cases a.code (selectorOf k a.params) fields base with ⟨h, -⟩ | ⟨-, o, hr⟩
      · exact absurd h hn
      · have hr' : r = ⟨base, o, [], []⟩ := hr
        rw [hr']
        exact ⟨rfl, rfl⟩
    · have hrec : s.path.cReceive = requestFrame s ([0x02, index] ++ ps) :: rest := hrec
      have hform := isContinueFrame_request (s := s) (index := index) h6
      have he : continueCommand (requestFrame s ([0x02, index] ++ ps)) (handed s rest) = (fieldsLeft a k .length base, []) :=
        (continueCommand_ends (u := handed s rest) h6 ha hi).trans (endAssembly_fields (u := handed s rest) hk ht)
      rw [exec_continueCommand hs hd hrec hform, he, hleft]
      rw [hleft, show base = { handed s rest with assembly := none } from rfl, nothingFollows_assembly] at hq
      exact congrArg _ (run_leaves hq)
    · subst hrec
      have he : endAssembly a .incomplete s.renewed = (fieldsLeft a k .incomplete base, []) :=
        endAssembly_fields (u := s.renewed) hk ht
      obtain ⟨⟨hst, has⟩, hin, hnow, hov⟩ := fieldsLeft_store a k .incomplete base
      obtain ⟨r1, r2, -⟩ := (isReady_iff s).mp hs
      rw [hleft] at h1 h2 h3 h4 ⊢
      generalize fieldsLeft a k .incomplete base = u at *
      have hr : react [] u = none := by simpa using h3
      have hf : follow s (u, []) = [] := by
        have hc' : clearanceTasks s u = [] := h1
        have hp' : passDue s u = false := h2
        simp [follow, hc', hp']
      refine exec_broken hc hs hd ha he hf hr ((isReady_iff u).mpr ⟨?_, hov.trans r2, hr⟩) ?_ has ?_
      · rw [State.isRunning, hin]
        exact r1
      · rw [hst]
        exact hd
      · have hstore : u.renewed.store = u.store := by
          have hz : base.store.dozeTimer
              = if s.store.dozeTimer.isSome then some (s.now + s.settings.timing.dozeTime * 1000) else none := rfl
          simp only [State.renewed, hst, hnow, h4, hz]
          cases hd : s.store.dozeTimer <;> simp [base, State.renewed, hd]
        exact congrArg (fun c => ({ u with store := c } : State)) hstore

end

end Sys2Proof.Proofs
end

section
/-! PROOFS. The match engine: the entry that takes an arrival, and what its action comes to (R126 to R133). -/

namespace Sys2Proof.Proofs
open Sys2Proof.Machine Sys2Proof.Laws

section
variable {s t : State} {port : Port} {f : Frame} {rest : List Frame} {k : Nat} {i : EntryIndex}

/-! ### The search (R127, R128) -/

theorem find_entryIndices {p : EntryIndex → Bool} :
    entryIndices.find? p = some i ↔ p i = true ∧ ∀ j, j < i → p j = false := by
  rw [entryIndices, List.find?_eq_some_iff_getElem]
  constructor
  · rintro ⟨hp, n, hn, rfl, hlt⟩
    refine ⟨hp, fun j hj => ?_⟩
    have hjn : j.val < n := by simpa [Fin.lt_def] using hj
    simpa using hlt j.val hjn
  · rintro ⟨hp, hlt⟩
    refine ⟨hp, i.val, by simp, by simp, fun j hj => ?_⟩
    simpa using hlt ⟨j, by omega⟩ hj

theorem firstMatch_some : firstMatch s port f k = some i ↔ k ≤ i.val ∧ s.matchesFrame port f s.settings.entries[i] = true
    ∧ ∀ j : EntryIndex, k ≤ j.val → j < i → s.matchesFrame port f s.settings.entries[j] = false := by
  rw [firstMatch, find_entryIndices]
  simp only [Bool.and_eq_true, decide_eq_true_iff, Bool.and_eq_false_imp]
  exact ⟨fun ⟨⟨h1, h2⟩, h3⟩ => ⟨h1, h2, fun j hk hj => h3 j hj hk⟩, fun ⟨h1, h2, h3⟩ => ⟨⟨h1, h2⟩, fun j hj hk => h3 j hk hj⟩⟩

theorem firstMatch_none : firstMatch s port f k = none ↔
    ∀ j : EntryIndex, k ≤ j.val → s.matchesFrame port f s.settings.entries[j] = false := by
  simp [firstMatch, entryIndices]

theorem chain_some (h : firstMatch s port f k = some i) : chain port f k s
    = ((act i port f s.settings.entries[i].action (countHit i s)).1,
      (act i port f s.settings.entries[i].action (countHit i s)).2
        ++ if s.settings.entries[i].continues then [.chain port f (i.val + 1)] else []) := by
  simp only [chain, h]

theorem deliver_noChain (g : Signal) (v : Nat) (n : Nat) (u : State) :
    (deliver g v i u).2.contains (.chain port f n) = false := by
  simp only [deliver, ignitionOn, ignitionTasks, travelRetracts]
  (repeat' split) <;> simp

/-- An action leaves no search of its own. -/
theorem act_noChain {a : Action} {n : Nat} : (act i port f a s).2.contains (.chain port f n) = false := by
  cases a with
  | forward | drop | count => rfl
  | capture g o w m d k =>
    simp only [act, capture]
    split
    · rfl
    · exact deliver_noChain ..
  | hold set verb => simp [act]
  | request r => cases r <;> simp [act]

/-! ### What an arrival comes to (R127, R129, R130) -/

theorem dropHead_same (port : Port) (s : State) : SameFollowed (dropHead port s) s := by
  cases port <;> exact .of_path rfl

theorem dropHead_rest (port : Port) (s : State) : (dropHead port s).settings = s.settings
    ∧ (dropHead port s).matching = s.matching ∧ (dropHead port s).path.forward = s.path.forward := by
  cases port <;> exact ⟨rfl, rfl, rfl⟩

theorem matchesFrame_dropHead (e : EntryConfig) :
    (dropHead port s).matchesFrame port f e = s.matchesFrame port f e := by
  rw [State.matchesFrame, (dropHead_rest port s).1]
  rfl

/-- The copy of a frame that a FORWARD sends. -/
def copyOf (f : Frame) (rewrite : Option (Form × Ident)) : Frame :=
  match rewrite with
  | none => f
  | some (form, ident) => { f with form := form, ident := ident }

section
variable {rewrite : Option (Form × Ident)}

theorem forward_motion : forward .motion f rewrite s = queueC ⟨.forwarded, none, copyOf f rewrite⟩ s := rfl

theorem forward_link (h : isLinkFrame (copyOf f rewrite).form (copyOf f rewrite).ident = true) :
    forward .coach f rewrite s = s.setMatching { s.matching with linkProtect := bump s.matching.linkProtect } := if_pos h

theorem forward_queued (h : isLinkFrame (copyOf f rewrite).form (copyOf f rewrite).ident = false)
    (hl : s.path.forward.length < 8) : forward .coach f rewrite s
      = pumpM { s with path := { s.path with forward := s.path.forward ++ [copyOf f rewrite] } } :=
  (if_neg (Bool.eq_false_iff.mp h)).trans (if_pos hl)

theorem forward_full (h : isLinkFrame (copyOf f rewrite).form (copyOf f rewrite).ident = false)
    (hl : 8 ≤ s.path.forward.length) : forward .coach f rewrite s
      = s.setMatching { s.matching with forwardOverflow := bump s.matching.forwardOverflow } :=
  (if_neg (Bool.eq_false_iff.mp h)).trans (if_neg (Nat.not_lt.mpr hl))

theorem forward_same (rewrite : Option (Form × Ident)) (s : State) : SameFollowed (forward port f rewrite s) s := by
  have hm : ∀ m, SameFollowed (s.setMatching m) s := fun m => (setMatching_sameRead m s).followed
  cases port with
  | motion => exact (queueC_sameRead ..).followed
  | coach =>
    cases h : isLinkFrame (copyOf f rewrite).form (copyOf f rewrite).ident with
    | true =>
      rw [forward_link h]
      exact hm _
    | false =>
      rcases Nat.lt_or_ge s.path.forward.length 8 with hl | hl
      · rw [forward_queued h hl]
        exact (pumpM_sameRead _).followed.trans (.of_path rfl)
      · rw [forward_full h hl]
        exact hm _

theorem isLinkFrame_false (h : f.form = .standard ∨ 24 ≤ linkKind f.ident) : isLinkFrame f.form f.ident = false := by
  rcases h with h | h
  · simp [isLinkFrame, h]
  · simp [isLinkFrame, h]

end

/-- An arrival ends with the search, where that leaves what is read as it was. -/
theorem exec_arrival (hs : s.isReady = true) (hr : s.received port = f :: rest) (hm : isMatched s port f = true)
    (hc : chain port f 0 (dropHead port s) = (t, [])) (hj : SameFollowed t (dropHead port s)) :
    exec (.matchArrival port) s = .next t :=
  exec_same hs rfl (by simp [restartsAt])
    ((takeHead_fits (fits := (isMatched · port)) (act := (chain port · 0)) hr hm).trans hc) (hj.trans (dropHead_same port s))

/-- What the arrival counts. -/
def counted (port : Port) (i : EntryIndex) (s : State) : State :=
  { dropHead port s with matching := { s.matching with hits := s.matching.hits.set i (min (s.matching.hits[i] + 1) 65535) } }

theorem countHit_dropHead : countHit i (dropHead port s) = counted port i s := by cases port <;> rfl

theorem counted_same : SameFollowed (counted port i s) (dropHead port s) := (setMatching_sameRead _ (dropHead port s)).followed

theorem chain_first {a : Action} (ha : s.settings.entries[i].action = a)
    (hm : s.matchesFrame port f s.settings.entries[i] = true)
    (hl : ∀ j : EntryIndex, j < i → s.matchesFrame port f s.settings.entries[j] = false)
    (hc : s.settings.entries[i].continues = false) :
    chain port f 0 (dropHead port s) = act i port f a (counted port i s) := by
  have hset := (dropHead_rest port s).1
  have hf : firstMatch (dropHead port s) port f 0 = some i := by
    rw [firstMatch_some, hset]
    exact ⟨Nat.zero_le _, (matchesFrame_dropHead _).trans hm, fun j _ hj => (matchesFrame_dropHead _).trans (hl j hj)⟩
  rw [chain_some hf, countHit_dropHead, hset, ha, hc]
  simp

theorem chain_default (hl : ∀ j : EntryIndex, s.matchesFrame port f s.settings.entries[j] = false) :
    chain port f 0 (dropHead port s)
      = if s.settings.defaultOf port = .forward then (forward port f none (dropHead port s), []) else (dropHead port s, []) := by
  have hset := (dropHead_rest port s).1
  have hf : firstMatch (dropHead port s) port f 0 = none := by
    rw [firstMatch_none, hset]
    exact fun j _ => (matchesFrame_dropHead _).trans (hl j)
  simp only [chain, hf, hset, true_and]

/-- Settles O14. -/
theorem lowestMatchingEntryTakesTheArrival : Obligations.LowestMatchingEntryTakesTheArrival := by
  refine ⟨fun s port f rest hs hr hm => ⟨fun hl => ⟨fun hd => ?_, fun hd => ?_⟩, fun i => ?_⟩, fun s port f k => ⟨fun i => firstMatch_some,
    fun i hf => ?_, firstMatch_none, fun i set hd => ?_⟩⟩
  · exact exec_arrival hs hr hm ((chain_default hl).trans (if_neg (by simp [hd]))) (.refl _)
  · exact exec_arrival hs hr hm ((chain_default hl).trans (if_pos hd)) (forward_same ..)
  · intro e hmi hl hc counted'
    have hrun : ∀ {a : Action} {t : State}, e.action = a → act i port f a (counted port i s) = (t, []) →
        SameFollowed t (counted port i s) → exec (.matchArrival port) s = .next t := fun ha ht hj =>
      exec_arrival hs hr hm ((chain_first ha hmi hl hc).trans ht) (hj.trans counted_same)
    refine ⟨fun ha => ?_, fun rewrite ha => ?_⟩
    · rcases ha with ha | ha <;> exact hrun ha rfl (.refl _)
    · intro copy
      have hrest : (counted port i s).path.forward = s.path.forward := (dropHead_rest port s).2.2
      have hcopy : copyOf f rewrite = copy := rfl
      have hj := forward_same (port := port) (f := f) rewrite (counted port i s)
      have hforward : ∀ {t : State}, forward port f rewrite (counted port i s) = t → exec (.matchArrival port) s = .next t :=
        fun ht => hrun ha (congrArg (·, []) ht) (ht ▸ hj)
      clear_value copy
      subst hcopy
      refine ⟨fun hp => ?_, fun hp hf hk => ?_, fun hp hf hlen => ?_, fun hp hf hlen => ?_⟩
      · subst hp
        exact hforward forward_motion
      · subst hp
        exact hforward (forward_link (by simp [isLinkFrame, hf, hk]))
      · subst hp
        exact hforward (forward_queued (isLinkFrame_false hf) hlen)
      · subst hp
        exact hforward (forward_full (isLinkFrame_false hf) hlen)
  · rw [chain_some hf]
    have hn := act_noChain (i := i) (port := port) (f := f) (s := countHit i s) (a := s.settings.entries[i].action) (n := i.val + 1)
    cases hc : s.settings.entries[i].continues <;> simp_all
  · intro members
    have ht : touchDoze s = s.renewed := touchDoze_renewed hd
    have hmem : s.members set = members := by
      simp only [State.members, members]
      congr 1
      funext j
      cases (s.cfg j).kind <;> simp
    refine ⟨fun d => ?_, fun v => ?_, fun q => ?_⟩
    · rw [act, ht, hmem]
    · rw [act, ht, hmem]
    · rw [act, ht]

end

end Sys2Proof.Proofs
end

section
/-! PROOFS. The order queue: placing, eviction, the due channels, the refresh and the resend (R169 to R174). -/

namespace Sys2Proof.Proofs
open Sys2Proof.Machine Sys2Proof.Laws

section
variable {s : State} {r : OrderRecord}

/-! ### Channels and codes -/

theorem isFor_record {x : OrderRecord} {n k : Nat} : x.isFor n k = true ↔ x.node = n ∧ x.channel = k := by
  simp [OrderRecord.isFor]

theorem isFor_entry {e : OrderEntry} {n k : Nat} : e.isFor n k = true ↔ e.node = n ∧ e.channel = k := by
  simp [OrderEntry.isFor]

theorem isStopping_iff {d : DriveCode} : d.isStopping = true ↔ d = .holdStill ∨ d = .pumpStop := by
  cases d <;> simp [DriveCode.isStopping]

theorem isQueued_iff {n k : Nat} : s.isQueued n k = true ↔ ∃ e ∈ s.orders.queue, e.node = n ∧ e.channel = k := by
  simp [State.isQueued, isFor_entry]

/-- The records with the marks of a channel set. -/
def marked (r : OrderRecord) (due refresh : Bool) (l : List OrderRecord) : List OrderRecord :=
  l.map fun x => if x.node = r.node ∧ x.channel = r.channel then { x with due := due, refresh := refresh } else x

theorem clearMarks_eq (r : OrderRecord) (s : State) :
    clearMarks r s = { s with orders := { s.orders with records := marked r false false s.orders.records } } := by
  simp only [clearMarks, State.mapOrder, marked, isFor_record]

/-! ### Placing (R170, R171) -/

theorem placeOrder_merges (h : s.isQueued r.node r.channel = true) : placeOrder r s = { s with orders := { s.orders with
    queue := s.orders.queue.map fun e => if e.node = r.node ∧ e.channel = r.channel then entryOf r else e
    records := marked r false false s.orders.records } } := by
  rw [placeOrder, if_pos h, clearMarks_eq]
  simp only [State.setQueue, isFor_entry]

theorem placeOrder_joins (h : s.isQueued r.node r.channel = false) (hl : s.orders.queue.length < 8) :
    placeOrder r s = { s with orders := { s.orders with
      queue := s.orders.queue ++ [entryOf r], records := marked r false false s.orders.records } } := by
  rw [placeOrder, if_neg (Bool.eq_false_iff.mp h), if_pos (c := _ < orderCapacity) hl, clearMarks_eq]
  rfl

theorem placeOrder_full (h : s.isQueued r.node r.channel = false) (hl : 8 ≤ s.orders.queue.length) :
    placeOrder r s = placeFull r s := by
  rw [placeOrder, if_neg (Bool.eq_false_iff.mp h), if_neg (c := _ < orderCapacity) (Nat.not_lt.mpr hl)]

theorem evictDriving_some {a b : List OrderEntry} {x : OrderEntry} (ha : ∀ e ∈ a, e.drive.isStopping = true)
    (hx : x.drive.isStopping = false) : evictDriving (a ++ x :: b) = some (x, a ++ b) := by
  induction a with
  | nil => simp [evictDriving, hx]
  | cons e a ih =>
    simp [evictDriving, ha e List.mem_cons_self, ih fun e he => ha e (List.mem_cons_of_mem _ he)]

theorem evictDriving_none {q : List OrderEntry} (h : ∀ e ∈ q, e.drive.isStopping = true) : evictDriving q = none := by
  induction q with
  | nil => rfl
  | cons e q ih => simp [evictDriving, h e List.mem_cons_self, ih fun e he => h e (List.mem_cons_of_mem _ he)]

theorem placeFull_evicts (hr : r.drive.isStopping = true) {x : OrderEntry} {q : List OrderEntry}
    (he : evictDriving s.orders.queue = some (x, q)) : placeFull r s = { s with orders := { s.orders with
      queue := q ++ [entryOf r], evictions := min (s.orders.evictions + 1) 65535
      records := marked r false false (s.orders.records.map fun y =>
        if y.node = x.node ∧ y.channel = x.channel then { y with refresh := true } else y) } } := by
  simp only [placeFull, hr, if_true, he, clearMarks_eq, State.setQueue, State.mapOrder, isFor_record]
  rfl

theorem marked_again (r : OrderRecord) (g : OrderRecord → OrderRecord) (l : List OrderRecord) :
    (marked r false false l).map (fun x => if x.node = r.node ∧ x.channel = r.channel then g x else x)
      = l.map fun x => if x.node = r.node ∧ x.channel = r.channel then g { x with due := false, refresh := false } else x := by
  simp only [marked, List.map_map]
  refine List.map_congr_left fun x _ => ?_
  by_cases h : x.node = r.node ∧ x.channel = r.channel <;> simp [h]

theorem placeFull_due (hr : r.drive.isStopping = true) (he : evictDriving s.orders.queue = none) :
    placeFull r s = { s with orders := { s.orders with records := marked r true false s.orders.records } } := by
  simp only [placeFull, hr, if_true, he, clearMarks_eq, State.mapOrder, isFor_record, marked_again]
  rfl

theorem placeFull_defers (hr : r.drive.isStopping = false) : placeFull r s = { s with orders := { s.orders with
    records := marked r false true s.orders.records, deferrals := min (s.orders.deferrals + 1) 65535 } } := by
  simp only [placeFull, hr, Bool.false_eq_true, if_false, clearMarks_eq, State.mapOrder, isFor_record, marked_again]
  rfl

/-! ### Handing an order (R169) and sending it again (R174) -/

theorem orderRecord_some {n k : Nat} (h : s.orderRecord n k = some r) : r.node = n ∧ r.channel = k := by
  have hf : s.orders.records.find? (fun x => x.isFor n k) = some r := h
  have hp := List.find?_some hf
  exact isFor_record.mp hp

theorem mapOrder_eq (n k : Nat) (g : OrderRecord → OrderRecord) (s : State) : s.mapOrder n k g = { s with orders :=
    { s.orders with records := s.orders.records.map fun x => if x.node = n ∧ x.channel = k then g x else x } } := by
  simp only [State.mapOrder, isFor_record]

theorem placeOrder_sending {u : State} (h : u.path.mTransmit.isSome = true) : pumpM (placeOrder r u) = placeOrder r u :=
  pumpM_sending (by rw [placeOrder_shape]; exact h)

/-! ### The due channels (R170) -/

theorem placedBefore_iff {a b : OrderRecord} : placedBefore a b = true ↔ a.drive.isStopping = true ∧ b.drive.isStopping = false
    ∨ a.drive.isStopping = b.drive.isStopping ∧ (a.node < b.node ∨ a.node = b.node ∧ a.channel < b.channel) := by
  unfold placedBefore
  cases a.drive.isStopping <;> cases b.drive.isStopping <;> by_cases h : a.node = b.node <;> simp [h]

/-- One record of the search for the due channel placed next. -/
def better (best : Option OrderRecord) (r : OrderRecord) : Option OrderRecord :=
  if r.due then
    match best with
    | none => some r
    | some b => if placedBefore r b then some r else some b
  else best

theorem nextDue_eq (l : List OrderRecord) : nextDue l = l.foldl better none := rfl

theorem foldl_better (l : List OrderRecord) (best : Option OrderRecord) :
    (l.foldl better best = best ∧ (best = none → ∀ x ∈ l, x.due = false))
      ∨ ∃ x ∈ l, x.due = true ∧ l.foldl better best = some x := by
  induction l generalizing best with
  | nil => exact .inl ⟨rfl, fun _ => nofun⟩
  | cons y l ih =>
    rw [List.foldl_cons]
    by_cases hy : y.due = true
    · have hb : better best y = some y ∨ better best y = best ∧ best ≠ none := by
        cases best with
        | none => exact .inl (if_pos hy)
        | some b =>
          by_cases hp : placedBefore y b = true
          · exact .inl (by simp [better, hy, hp])
          · exact .inr ⟨by simp [better, hy, hp], nofun⟩
      rcases hb with hb | ⟨hb, hn⟩
      · rw [hb]
        rcases ih (some y) with ⟨h, -⟩ | ⟨x, hx, hd, h⟩
        · exact .inr ⟨y, List.mem_cons_self, hy, h⟩
        · exact .inr ⟨x, List.mem_cons_of_mem _ hx, hd, h⟩
      · rw [hb]
        rcases ih best with ⟨h, -⟩ | ⟨x, hx, hd, h⟩
        · exact .inl ⟨h, fun hn' => absurd hn' hn⟩
        · exact .inr ⟨x, List.mem_cons_of_mem _ hx, hd, h⟩
    · have hb : better best y = best := if_neg hy
      rw [hb]
      rcases ih best with ⟨h, hn⟩ | ⟨x, hx, hd, h⟩
      · exact .inl ⟨h, fun hn' => List.forall_mem_cons.mpr ⟨by simpa using hy, hn hn'⟩⟩
      · exact .inr ⟨x, List.mem_cons_of_mem _ hx, hd, h⟩

theorem nextDue_cases (l : List OrderRecord) : (nextDue l = none ∧ ∀ x ∈ l, x.due = false)
    ∨ ∃ x ∈ l, x.due = true ∧ nextDue l = some x := by
  rcases foldl_better l none with ⟨h, hn⟩ | h
  · exact .inl ⟨h, hn rfl⟩
  · exact .inr h

theorem nextDue_first {a b : List OrderRecord} (hr : r.due = true)
    (ha : ∀ x ∈ a, x.due = true → placedBefore r x = true) (hb : ∀ x ∈ b, x.due = true → placedBefore x r = false) :
    nextDue (a ++ r :: b) = some r := by
  have hstep : better (a.foldl better none) r = some r := by
    rcases foldl_better a none with ⟨h, -⟩ | ⟨x, hx, hd, h⟩
    · rw [h]
      exact if_pos hr
    · rw [h]
      simp [better, hr, ha x hx hd]
  rw [nextDue_eq, List.foldl_append, List.foldl_cons, hstep]
  induction b with
  | nil => rfl
  | cons y b ih =>
    have hy : better (some r) y = some r := by
      by_cases hd : y.due = true
      · simp [better, hd, hb y List.mem_cons_self hd]
      · exact if_neg hd
    rw [List.foldl_cons, hy]
    exact ih fun x hx => hb x (List.mem_cons_of_mem _ hx)

/-- How many channels are due. -/
def dueCount (s : State) : Nat := s.orders.records.countP (·.due)

theorem marked_due_le (r : OrderRecord) (l : List OrderRecord) :
    (marked r false false l).countP (·.due) ≤ l.countP (·.due) := by
  rw [marked, List.countP_map]
  refine List.countP_mono_left fun x _ h => ?_
  by_contra hx
  simp only [Function.comp_apply] at h
  split at h
  · cases h
  · exact hx h

theorem marked_due_lt (l : List OrderRecord) (hm : r ∈ l) (hd : r.due = true) :
    (marked r false false l).countP (·.due) < l.countP (·.due) := by
  obtain ⟨a, b, rfl⟩ := List.append_of_mem hm
  have hb := marked_due_le r b
  have ha := marked_due_le r a
  have hs : marked r false false (a ++ r :: b)
      = marked r false false a ++ { r with due := false, refresh := false } :: marked r false false b := by
    simp [marked]
  rw [hs, List.countP_append, List.countP_append, List.countP_cons, List.countP_cons]
  simp only [hd, if_true, Bool.false_eq_true, if_false]
  omega

/-- A placing with room in the queue takes a due channel off the list. -/
theorem placeOrder_dueCount (hl : s.orders.queue.length < 8) (hm : r ∈ s.orders.records) (hd : r.due = true) :
    dueCount (placeOrder r s) < dueCount s := by
  cases h : s.isQueued r.node r.channel with
  | true =>
    rw [placeOrder_merges h]
    exact marked_due_lt _ hm hd
  | false =>
    rw [placeOrder_joins h hl]
    exact marked_due_lt _ hm hd

theorem placeDueUpTo_full (n : Nat) (h : 8 ≤ s.orders.queue.length) : placeDueUpTo n s = s := by
  cases n with
  | zero => rfl
  | succ n => exact if_neg (Nat.not_lt.mpr h)

theorem placeDueUpTo_none (n : Nat) (h : nextDue s.orders.records = none) : placeDueUpTo n s = s := by
  cases n with
  | zero => rfl
  | succ n => simp [placeDueUpTo, h]

theorem placeDueUpTo_some {n : Nat} (hl : s.orders.queue.length < 8) (h : nextDue s.orders.records = some r) :
    placeDueUpTo (n + 1) s = placeDueUpTo n (placeOrder r s) := by
  have hl : s.orders.queue.length < orderCapacity := hl
  simp [placeDueUpTo, hl, h]

theorem dueCount_zero (h : dueCount s = 0) : ∀ x ∈ s.orders.records, x.due = false := by
  simpa [dueCount] using h

/-- One placing more than there are due channels does nothing. -/
theorem placeDueUpTo_enough (n : Nat) (s : State) (h : dueCount s ≤ n) : placeDueUpTo (n + 1) s = placeDueUpTo n s := by
  induction n generalizing s with
  | zero =>
    rcases nextDue_cases s.orders.records with ⟨hn, -⟩ | ⟨x, hx, hd, -⟩
    · exact placeDueUpTo_none _ hn
    · have := dueCount_zero (Nat.le_zero.mp h) x hx
      simp [hd] at this
  | succ n ih =>
    rcases Nat.lt_or_ge s.orders.queue.length 8 with hl | hl
    · rcases nextDue_cases s.orders.records with ⟨hn, -⟩ | ⟨x, hx, hd, hn⟩
      · rw [placeDueUpTo_none _ hn, placeDueUpTo_none _ hn]
      · rw [placeDueUpTo_some hl hn, placeDueUpTo_some hl hn]
        exact ih _ (Nat.le_of_lt_succ (Nat.lt_of_lt_of_le (placeOrder_dueCount hl hx hd) h))
    · rw [placeDueUpTo_full _ hl, placeDueUpTo_full _ hl]

/-- The placing ends with a full queue, or with no channel due. -/
theorem placeDueUpTo_ends (n : Nat) (s : State) (h : dueCount s ≤ n) (hl : s.orders.queue.length ≤ 8) :
    (placeDueUpTo n s).orders.queue.length = 8 ∨ ∀ x ∈ (placeDueUpTo n s).orders.records, x.due = false := by
  induction n generalizing s with
  | zero => exact .inr (dueCount_zero (Nat.le_zero.mp h))
  | succ n ih =>
    rcases Nat.lt_or_ge s.orders.queue.length 8 with hlt | hge
    · rcases nextDue_cases s.orders.records with ⟨hn, hno⟩ | ⟨x, hx, hd, hn⟩
      · rw [placeDueUpTo_none _ hn]
        exact .inr hno
      · rw [placeDueUpTo_some hlt hn]
        exact ih _ (Nat.le_of_lt_succ (Nat.lt_of_lt_of_le (placeOrder_dueCount hlt hx hd) h)) (placeOrder_length hl)
    · rw [placeDueUpTo_full _ hge]
      exact .inl (Nat.le_antisymm hl hge)

theorem dueCount_le (s : State) : dueCount s ≤ s.orders.records.length := List.countP_le_length

theorem placeOrder_records (hl : s.orders.queue.length < 8) :
    (placeOrder r s).orders.records.length = s.orders.records.length := by
  cases h : s.isQueued r.node r.channel with
  | true => rw [placeOrder_merges h]; simp [marked]
  | false => rw [placeOrder_joins h hl]; simp [marked]

theorem placeDue_first {a b : List OrderRecord} (hl : s.orders.queue.length < 8) (hrs : s.orders.records = a ++ r :: b)
    (hn : nextDue s.orders.records = some r) (hd : r.due = true) : placeDue s = placeDue (placeOrder r s) := by
  have hm : r ∈ s.orders.records := by simp [hrs]
  have hpos := List.length_pos_of_mem hm
  have hlt := Nat.lt_of_lt_of_le (placeOrder_dueCount hl hm hd) (dueCount_le s)
  rw [placeDue, placeDue, placeOrder_records hl]
  obtain ⟨m, hm'⟩ := Nat.exists_eq_add_of_le' hpos
  rw [hm', placeDueUpTo_some hl hn, placeDueUpTo_enough m _ (by omega)]

theorem handOrder_new {d : DriveRef} {code : DriveCode} {speed : Nat} (ht : s.path.mTransmit.isSome = true)
    (h : s.orderRecord d.node d.channel = none) : handOrder true d code speed s
      = placeOrder ⟨d.node, d.channel, code, speed, 0, false, false, none⟩ { s with orders := { s.orders with
          records := s.orders.records ++ [⟨d.node, d.channel, code, speed, 0, false, false, none⟩] } } := by
  simp only [handOrder, h, if_true]
  exact placeOrder_sending ht

theorem handOrder_equal {d : DriveRef} {place : Bool} (h : s.orderRecord d.node d.channel = some r) :
    handOrder place d r.drive r.speed s = s := by
  simp only [handOrder, h, and_self, if_true]

theorem handOrder_changed {d : DriveRef} {code : DriveCode} {speed : Nat} (ht : s.path.mTransmit.isSome = true)
    (h : s.orderRecord d.node d.channel = some r) (hne : r.drive ≠ code ∨ r.speed ≠ speed) (place : Bool) :
    handOrder place d code speed s
      = if place then placeOrder { r with drive := code, speed := speed, sequence := nextSequence r.sequence }
          (s.mapOrder d.node d.channel fun _ => { r with drive := code, speed := speed, sequence := nextSequence r.sequence })
        else s.mapOrder d.node d.channel fun _ => { r with drive := code, speed := speed, sequence := nextSequence r.sequence } := by
  have hn : ¬ (r.drive = code ∧ r.speed = speed) := fun ⟨h1, h2⟩ => hne.elim (absurd h1) (absurd h2)
  simp only [handOrder, h, if_neg hn]
  cases place
  · rfl
  · exact placeOrder_sending ht

theorem refreshes_iff (s : State) (r : OrderRecord) : refreshes s r = true ↔ r.refresh = true
    ∨ (∃ i, (s.fn i).activity = .moving ∧ ⟨r.node, r.channel⟩ ∈ (s.cfg i).drives)
    ∨ s.manifold.pump.isOn = true ∧ s.settings.manifold.pump = some ⟨r.node, r.channel⟩ := by
  simp [refreshes, State.movingSlots, State.moves, mem_slots, or_assoc]

theorem refreshExpired_placing (hm : ∀ i, (s.fn i).activity ≠ .moving) (ht : s.path.mTransmit.isSome = true) :
    refreshExpired s = placeDue (setDue (offerBeat (cycled s))) := by
  have hb := offerBeat_sending (s := cycled s) ht
  have hsend : (placeDue (setDue (offerBeat (cycled s)))).path.mTransmit.isSome = true := by
    rw [placeDue_path, hb]
    exact ht
  rw [refreshExpired_eq, movingSlots_none (s := cycled s) hm, List.foldl_nil, pumpM_sending hsend]

theorem placeDue_sameRead (s : State) : SameRead (placeDue s) s := by
  obtain ⟨hf, -, hm, hma, hb, hq, -⟩ := placeDue_frame s
  exact (placeDue_onlyMotion s).sameRead hf hm hma hb hq

/-- Settles O26. -/
theorem ordersArePlacedEvictedAndRepeated : Obligations.OrdersArePlacedEvictedAndRepeated := by
  intro s rs q entry stops queued marks before
  have hst : ∀ d : DriveCode, stops d ↔ d.isStopping = true := fun d => isStopping_iff.symm
  have hnst : ∀ d : DriveCode, ¬ stops d ↔ d.isStopping = false := fun d => by rw [hst]; simp
  have hq : ∀ r, queued r ↔ s.isQueued r.node r.channel = true := fun r => isQueued_iff.symm
  have hnq : ∀ r, ¬ queued r ↔ s.isQueued r.node r.channel = false := fun r => by rw [hq]; simp
  have hbefore : ∀ a b, before a b ↔ placedBefore a b = true := fun a b => by
    simp only [before, hst, placedBefore_iff]
    cases a.drive.isStopping <;> cases b.drive.isStopping <;> simp
  refine ⟨fun r => ⟨fun h => ?_, fun h hl => ?_, fun a x b h hl hr hab hx ha => ?_, fun h hl hr ha => ?_, fun h hl hr => ?_⟩,
    fun d code speed ht => ?_, fun hl => placeDueUpTo_full _ hl, fun hd => placeDue_none hd,
    fun a r b hl hrs hd ha hb => ?_, fun hl => ?_, ⟨rfl, ?_, fun k r x hr hx => ?_⟩, fun hs ht hm htr => ?_, fun node channel seen => ⟨fun h => ?_, fun r h => ?_⟩⟩
  · exact placeOrder_merges ((hq r).mp h)
  · exact placeOrder_joins ((hnq r).mp h) hl
  · rw [placeOrder_full ((hnq r).mp h) hl]
    refine placeFull_evicts ((hst _).mp hr) ?_
    rw [show s.orders.queue = a ++ x :: b from hab]
    exact evictDriving_some (fun e he => (hst _).mp (ha e he)) ((hnst _).mp hx)
  · rw [placeOrder_full ((hnq r).mp h) hl]
    exact placeFull_due ((hst _).mp hr) (evictDriving_none fun e he => (hst _).mp (ha e he))
  · rw [placeOrder_full ((hnq r).mp h) hl]
    exact placeFull_defers ((hnst _).mp hr)
  · intro new
    refine ⟨fun h => handOrder_new ht h, fun r h => ?_⟩
    obtain ⟨h1, h2⟩ := orderRecord_some h
    intro next held
    have hheld : (s.mapOrder d.node d.channel fun _ => next) = held := mapOrder_eq ..
    refine ⟨h1, h2, fun hc hsp => ?_, fun hne => ⟨?_, ?_⟩⟩
    · rw [← hc, ← hsp]
      exact handOrder_equal h
    · exact (handOrder_changed ht h hne true).trans (congrArg (placeOrder next) hheld)
    · exact (handOrder_changed ht h hne false).trans hheld
  · refine placeDue_first hl hrs ?_ hd
    rw [show s.orders.records = a ++ r :: b from hrs]
    exact nextDue_first hd (fun x hx hdx => (hbefore r x).mp (ha x hx hdx)) fun x hx hdx => by
      simpa [hbefore] using hb x hx hdx
  · exact placeDueUpTo_ends _ s (dueCount_le s) hl
  · simp [setDue, rs]
  · have hset : (setDue s).orders.records[k]? = some (if refreshes s r then { r with due := true } else r) := by
      simp [setDue, show s.orders.records[k]? = some r from hr]
    obtain rfl := Option.some.inj (hset.symm.trans hx)
    rw [← refreshes_iff]
    cases hf : refreshes s r <;> simp
  · intro cycle period
    refine exec_same (c := .refreshTimerExpiry) hs rfl (by simp [restartsAt])
      ((if_pos ht).trans (congrArg (·, []) ((refreshExpired_placing hm htr).trans ?_))) ?_
    · rw [offerBeat_sending (s := cycled s) htr]
      rfl
    · refine (placeDue_sameRead _).followed.trans (SameRead.followed ?_)
      exact ⟨by constructor <;> intros <;> rfl, rfl, rfl⟩
  · simp only [resendStop, h]
  · intro again next
    have hagain : again ↔ (r.drive.isStopping ∧ seen ≠ r.sequence ∧ ¬ s.isQueued node channel ∧ ¬ r.due
        ∧ r.resend ≠ some s.orders.cycle) := by
      obtain ⟨rfl, rfl⟩ := orderRecord_some h
      simp only [again, hst, hq, Bool.not_eq_true]
    refine ⟨fun hn => ?_, fun ha ht => ?_⟩
    · simp only [resendStop, h]
      exact if_neg (mt hagain.mpr hn)
    · simp only [resendStop, h]
      rw [if_pos (hagain.mp ha), mapOrder_eq]
      exact placeOrder_sending ht

end

end Sys2Proof.Proofs
end

section
/-! PROOFS. What the stops, the faults and the ends of a sequence write, said once for each: the record and the hold
record of every slot, the wait list and the sequence record. -/

namespace Sys2Proof.Proofs
open Sys2Proof.Machine Sys2Proof.Laws

/-! ### One slot among the others -/

theorem storeFn_fn_if (i j : Slot) (f : Function) (s : State) :
    (s.storeFn i f).fn j = if j = i then f else s.fn j := by
  by_cases h : j = i
  · subst h; simp
  · rw [if_neg h]; exact storeFn_fn_ne s f (Ne.symm h)

theorem putFn_fn_if (i j : Slot) (f : Function) (s : State) :
    (putFn i f s).fn j = if j = i then f else s.fn j := by
  by_cases h : j = i
  · subst h; simp
  · rw [if_neg h]; exact putFn_fn_ne f s (Ne.symm h)

theorem hold_congr {s t : State} (h : t.holds = s.holds) (j : Slot) : t.hold j = s.hold j := by
  simp [State.hold, h]

theorem putHold_hold_if (i j : Slot) (x : Hold) (s : State) :
    (putHold i x s).hold j = if j = i then x else s.hold j := by
  by_cases h : j = i
  · subst h; simp
  · rw [if_neg h]; exact putHold_hold_ne s x (Ne.symm h)

/-- An ACTIVE record turns REFUSED; any other stays (R18). -/
def refusedHold (h : Hold) : Hold := if h.state = .active then { h with state := .refused } else h

theorem refuseHold_hold (i j : Slot) (s : State) :
    (refuseHold i s).hold j = if j = i then refusedHold (s.hold i) else s.hold j := by
  unfold refuseHold refusedHold
  by_cases ha : (s.hold i).state = .active
  · rw [if_pos ha, if_pos ha]; exact putHold_hold_if ..
  · rw [if_neg ha, if_neg ha]
    by_cases h : j = i
    · rw [if_pos h, h]
    · rw [if_neg h]

/-! ### Stops (R18) -/

theorem stopFn_fn_if (place : Bool) (i j : Slot) (r : StopReason) (s : State) : (stopFn place i r s).fn j
    = if j = i ∧ (s.fn i).activity.isBusy = true then (s.fn i).stopped r else s.fn j := by
  by_cases h : j = i
  · subst h
    by_cases hb : (s.fn j).activity.isBusy = true
    · rw [if_pos ⟨rfl, hb⟩]; exact stopFn_fn place j r s hb
    · rw [if_neg (fun k => hb k.2), stopFn_rest place r (by simpa using hb)]
  · rw [if_neg (fun k => h k.1)]; exact stopFn_fn_ne place r s (Ne.symm h)

theorem windStopped_hold (i j : Slot) (r : StopReason) (s : State) : (windStopped i r s).hold j = s.hold j :=
  hold_congr (windStopped_frame i r s).2.1 j

/-- Every reason but HOLD_RELEASED turns an ACTIVE record of a function that it stops REFUSED. -/
theorem stopFn_hold (place : Bool) (i j : Slot) {r : StopReason} (hr : r ≠ .holdReleased) (s : State) :
    (stopFn place i r s).hold j
      = if j = i ∧ (s.fn i).activity.isBusy = true then refusedHold (s.hold i) else s.hold j := by
  cases hb : (s.fn i).activity.isBusy with
  | false => simp [stopFn_rest place r hb]
  | true =>
    have key : ∀ u : State, u.holds = s.holds → (refuseHold i u).hold j
        = if j = i ∧ True then refusedHold (s.hold i) else s.hold j := by
      intro u hu
      rw [refuseHold_hold, hold_congr hu i, hold_congr hu j]
      simp
    simp only [stopFn, hb, if_true, if_neg hr]
    split
    · rw [windStopped_hold]
      exact key _ (by simp)
    · exact key _ (by simp)

/-- A stop leaves the hold records of the other slots. -/
theorem stopFn_hold_ne (place : Bool) {i j : Slot} (hij : j ≠ i) (r : StopReason) (s : State) :
    (stopFn place i r s).hold j = s.hold j := by
  cases hb : (s.fn i).activity.isBusy with
  | false => rw [stopFn_rest place r hb]
  | true =>
    have key : ∀ u : State, u.holds = s.holds →
        (if r = .holdReleased then u else refuseHold i u).hold j = s.hold j := by
      intro u hu
      split
      · exact hold_congr hu j
      · rw [refuseHold_hold, if_neg hij, hold_congr hu j]
    simp only [stopFn, hb, if_true]
    split
    · rw [windStopped_hold]
      exact key _ (by simp)
    · exact key _ (by simp)

/-- A stopped function leaves the wait list. -/
theorem stopFn_manifold (place : Bool) (i : Slot) (r : StopReason) (s : State) : (stopFn place i r s).manifold
    = if (s.fn i).activity.isBusy then
        { s.manifold with waitList := s.manifold.waitList.filter fun e => e.slot != i } else s.manifold := by
  simp only [stopFn]
  split
  · have hl : (leaveList i s).manifold
        = { s.manifold with waitList := s.manifold.waitList.filter fun e => e.slot != i } := rfl
    (repeat' split) <;> simp [hl]
  · rfl

theorem stopAll_cons (place : Bool) (r : StopReason) (i : Slot) (is : List Slot) (s : State) :
    stopAll place r (i :: is) s = stopAll place r is (stopFn place i r s) := rfl

theorem stopAll_fn_if (place : Bool) (r : StopReason) (is : List Slot) (s : State) (j : Slot) :
    (stopAll place r is s).fn j
      = if j ∈ is ∧ (s.fn j).activity.isBusy = true then (s.fn j).stopped r else s.fn j := by
  by_cases hb : (s.fn j).activity.isBusy = true
  · by_cases hj : j ∈ is
    · rw [if_pos ⟨hj, hb⟩]; exact stopAll_fn place r is s hb hj
    · rw [if_neg (fun k => hj k.1)]
      induction is generalizing s with
      | nil => rfl
      | cons i is ih =>
        have hij : j ≠ i := fun e => hj (by simp [e])
        have hk : (stopFn place i r s).fn j = s.fn j := by rw [stopFn_fn_if, if_neg (fun k => hij k.1)]
        rw [stopAll_cons, ih _ (by rw [hk]; exact hb) (fun h => hj (List.mem_cons_of_mem _ h)), hk]
  · rw [if_neg (fun k => hb k.2)]
    exact stopAll_fn_rest place r is s (by simpa using hb)

theorem stopAll_hold (place : Bool) {r : StopReason} (hr : r ≠ .holdReleased) (is : List Slot) (s : State) (j : Slot) :
    (stopAll place r is s).hold j
      = if j ∈ is ∧ (s.fn j).activity.isBusy = true then refusedHold (s.hold j) else s.hold j := by
  induction is generalizing s with
  | nil => simp [stopAll]
  | cons i is ih =>
    rw [stopAll_cons, ih, stopFn_hold place i j hr, stopFn_fn_if]
    by_cases hji : j = i
    · subst hji
      cases hb : (s.fn j).activity.isBusy with
      | false => simp [hb]
      | true => simp [Function.stopped, Activity.isBusy]
    · simp [hji]

/-! ### The end of a sequence (R89, R93) -/

theorem closeSequence_fn (r : SeqResult) (s : State) (j : Slot) : (closeSequence r s).fn j = s.fn j :=
  fn_congr (by simp [closeSequence]) j

theorem closeSequence_hold (r : SeqResult) (s : State) (j : Slot) : (closeSequence r s).hold j = s.hold j :=
  hold_congr (by simp [closeSequence]) j

theorem closeSequence_sequence (r : SeqResult) (s : State) : (closeSequence r s).sequence = s.sequence.ended r := by
  simp [closeSequence]

theorem stopAll_sequence (place : Bool) (r : StopReason) (is : List Slot) (s : State) :
    (stopAll place r is s).sequence = s.sequence := by simp

theorem endSequence_none (place : Bool) (result : SeqResult) (r : StopReason) {s : State} (h : s.seqRuns = false) :
    endSequence place result r s = s := by simp [endSequence, h]

theorem endSequence_runs (place : Bool) (result : SeqResult) (r : StopReason) {s : State} (h : s.seqRuns = true) :
    endSequence place result r s = closeSequence result (stopAll place r s.sequence.taken s) := by
  simp [endSequence, h]

theorem isTaken_iff (s : State) (i : Slot) : s.isTaken i = true ↔ s.seqRuns = true ∧ i ∈ s.sequence.taken := by
  simp [State.isTaken]

theorem endSequence_fn (place : Bool) (result : SeqResult) (r : StopReason) (s : State) (j : Slot) :
    (endSequence place result r s).fn j
      = if s.isTaken j = true ∧ (s.fn j).activity.isBusy = true then (s.fn j).stopped r else s.fn j := by
  cases h : s.seqRuns with
  | false => simp [endSequence_none _ _ _ h, State.isTaken, h]
  | true => rw [endSequence_runs _ _ _ h, closeSequence_fn, stopAll_fn_if]; simp [State.isTaken, h]

theorem endSequence_hold (place : Bool) (result : SeqResult) {r : StopReason} (hr : r ≠ .holdReleased) (s : State)
    (j : Slot) : (endSequence place result r s).hold j
      = if s.isTaken j = true ∧ (s.fn j).activity.isBusy = true then refusedHold (s.hold j) else s.hold j := by
  cases h : s.seqRuns with
  | false => simp [endSequence_none _ _ _ h, State.isTaken, h]
  | true => rw [endSequence_runs _ _ _ h, closeSequence_hold, stopAll_hold _ hr]; simp [State.isTaken, h]

theorem endSequence_sequence (place : Bool) (result : SeqResult) (r : StopReason) (s : State) :
    (endSequence place result r s).sequence = if s.seqRuns then s.sequence.ended result else s.sequence := by
  cases h : s.seqRuns with
  | false => simp [endSequence_none _ _ _ h]
  | true => rw [endSequence_runs _ _ _ h, closeSequence_sequence, stopAll_sequence]; rfl

theorem stopReason_ne (a : AbortReason) : a.stopReason ≠ .holdReleased := by cases a <;> simp [AbortReason.stopReason]

theorem abortSequence_fn (place : Bool) (a : AbortReason) (s : State) (j : Slot) : (abortSequence place a s).fn j
    = if s.isTaken j = true ∧ (s.fn j).activity.isBusy = true then (s.fn j).stopped a.stopReason else s.fn j :=
  endSequence_fn ..

theorem abortSequence_hold (place : Bool) (a : AbortReason) (s : State) (j : Slot) :
    (abortSequence place a s).hold j
      = if s.isTaken j = true ∧ (s.fn j).activity.isBusy = true then refusedHold (s.hold j) else s.hold j :=
  endSequence_hold _ _ (stopReason_ne a) ..

theorem abortSequence_sequence (place : Bool) (a : AbortReason) (s : State) : (abortSequence place a s).sequence
    = if s.seqRuns then s.sequence.ended (.aborted a) else s.sequence := endSequence_sequence ..

theorem abortSequence_none (place : Bool) (a : AbortReason) {s : State} (h : s.seqRuns = false) :
    abortSequence place a s = s := endSequence_none _ _ _ h

/-! ### Faults (R16, R94) -/

theorem failFn_sequence (i : Slot) (c : FaultCode) (s : State) : (failFn i c s).sequence = s.sequence := by
  simp

theorem faultFn_eq (i : Slot) (c : FaultCode) (s : State) : faultFn i c s
    = if (s.fn i).activity.canFault = true ∧ s.isTaken i = true then
        endSequence true (faultResult c s.sequence.phase) .stopped (failFn i c s) else failFn i c s := by
  simp [faultFn, faultFns]

/-- A function that can fault is left FAULTED, also where the sequence that took it ends. -/
theorem faultFn_self {i : Slot} (c : FaultCode) {s : State} (h : (s.fn i).activity.canFault = true) :
    (faultFn i c s).fn i = (s.fn i).failed c := by
  have hf : (failFn i c s).fn i = (s.fn i).failed c := by rw [failFn_fn, if_pos ⟨rfl, h⟩]
  rw [faultFn_eq]
  split
  · rw [endSequence_fn, hf, if_neg (by simp [Function.failed, Activity.isBusy])]
  · exact hf

/-- The fault of a jack that a sequence took ends the sequence (R94). -/
theorem faultFn_sequence {i : Slot} (c : FaultCode) {s : State} (h : (s.fn i).activity.canFault = true)
    (ht : s.isTaken i = true) : (faultFn i c s).sequence = s.sequence.ended (faultResult c s.sequence.phase) := by
  have hr : (failFn i c s).seqRuns = true := by
    simp only [State.seqRuns, failFn_sequence]
    exact ((isTaken_iff s i).mp ht).1
  rw [faultFn_eq, if_pos ⟨h, ht⟩, endSequence_sequence, hr, failFn_sequence]
  rfl

end Sys2Proof.Proofs
end

section
/-! PROOFS. What motion leaves of a function's record. Its measured half, the positions, loads, class and contact,
is written by reports, re-zeroings and bindings alone; the orders of a moving function change the drive direction of
its channels and nothing else of any function. -/

namespace Sys2Proof.Proofs
open Sys2Proof.Machine Sys2Proof.Laws

/-! ### The measured half -/

/-- What reports write of a function. -/
def measured (f : Function) :
    (Option Nat × Option Nat) × (Option Nat × Option Nat) × PosClass × Bool × Timer :=
  ((f.chA.position, f.chA.load), (f.chB.position, f.chB.load), f.posClass, f.contact, f.contactTimer)

/-- Every function's measured half is as it was. -/
structure Measured (t s : State) : Prop where
  fn : ∀ j, measured (t.fn j) = measured (s.fn j)

theorem Measured.refl (s : State) : Measured s s := ⟨fun _ => rfl⟩

theorem Measured.trans {u t s : State} (h : Measured u t) (k : Measured t s) : Measured u s :=
  ⟨fun j => (h.fn j).trans (k.fn j)⟩

theorem Measured.of_functions {t s : State} (h : t.functions = s.functions) : Measured t s :=
  ⟨fun j => by rw [fn_congr h j]⟩

theorem Measured.ite {c : Prop} [Decidable c] {s t u : State} (h : Measured t s) (k : Measured u s) :
    Measured (if c then t else u) s := by
  split
  · exact h
  · exact k

theorem Measured.fold {α : Type} {f : State → α → State} (hf : ∀ s a, Measured (f s a) s) (l : List α) (s : State) :
    Measured (l.foldl f s) s := by
  induction l generalizing s with
  | nil => exact .refl s
  | cons a l ih => exact (ih _).trans (hf s a)

theorem Measured.storeFn {i : Slot} {f : Function} {s : State} (h : measured f = measured (s.fn i)) :
    Measured (s.storeFn i f) s := by
  refine ⟨fun j => ?_⟩
  rw [storeFn_fn_if]
  split
  · next e => rw [h, e]
  · rfl

theorem Measured.putFn {i : Slot} {f : Function} {s : State} (h : measured f = measured (s.fn i)) :
    Measured (putFn i f s) s := by
  refine ⟨fun j => ?_⟩
  rw [putFn_fn_if]
  split
  · next e => rw [h, e]
  · rfl

theorem Measured.stopFn (place : Bool) (i : Slot) (r : StopReason) (s : State) : Measured (stopFn place i r s) s := by
  refine ⟨fun j => ?_⟩
  rw [stopFn_fn_if]
  split
  · next e => rw [e.1]; rfl
  · rfl

theorem Measured.endSequence (place : Bool) (result : SeqResult) (r : StopReason) (s : State) :
    Measured (endSequence place result r s) s := by
  refine ⟨fun j => ?_⟩
  rw [endSequence_fn]
  split <;> rfl

theorem Measured.failFn (i : Slot) (c : FaultCode) (s : State) : Measured (failFn i c s) s := by
  refine ⟨fun j => ?_⟩
  rw [failFn_fn]
  split
  · next e => rw [e.1]; rfl
  · rfl

theorem Measured.faultFn (i : Slot) (c : FaultCode) (s : State) : Measured (faultFn i c s) s := by
  rw [faultFn_eq]
  exact ((Measured.endSequence _ _ _ _).trans (.failFn i c s)).ite (.failFn i c s)

/-! ### The orders of a moving function -/

/-- The record with other drive directions. -/
def turnedTo (f : Function) (a b : Option Direction) : Function :=
  { f with chA := { f.chA with direction := a }, chB := { f.chB with direction := b } }

/-- Nothing of the functions but drive directions, and nothing of the sequence but its twist-held jacks, changes. -/
structure Turned (t s : State) : Prop where
  fn : ∀ j, ∃ a b, t.fn j = turnedTo (s.fn j) a b
  sequence : ∃ h, t.sequence = { s.sequence with twistHeld := h }

theorem Turned.of_same {t s : State} (hf : t.functions = s.functions) (hq : t.sequence = s.sequence) : Turned t s where
  fn j := ⟨(s.fn j).chA.direction, (s.fn j).chB.direction, by rw [fn_congr hf j]; rfl⟩
  sequence := ⟨s.sequence.twistHeld, hq⟩

theorem Turned.refl (s : State) : Turned s s := .of_same rfl rfl

theorem Turned.trans {u t s : State} (h : Turned u t) (k : Turned t s) : Turned u s where
  fn j := by
    obtain ⟨a, b, e⟩ := h.fn j
    obtain ⟨a', b', e'⟩ := k.fn j
    exact ⟨a, b, by rw [e, e']; rfl⟩
  sequence := by
    obtain ⟨x, e⟩ := h.sequence
    obtain ⟨x', e'⟩ := k.sequence
    exact ⟨x, by rw [e, e']⟩

theorem Turned.ite {c : Prop} [Decidable c] {s t u : State} (h : Turned t s) (k : Turned u s) :
    Turned (if c then t else u) s := by
  split
  · exact h
  · exact k

theorem Turned.fold {α : Type} {f : State → α → State} (hf : ∀ s a, Turned (f s a) s) (l : List α) (s : State) :
    Turned (l.foldl f s) s := by
  induction l generalizing s with
  | nil => exact .refl s
  | cons a l ih => exact (ih _).trans (hf s a)

theorem turnChannel_turned (i : Slot) (e : Side) (s : State) : Turned (turnChannel i e s) s := by
  unfold turnChannel
  split
  · exact .refl s
  · refine ⟨fun j => ?_, s.sequence.twistHeld, rfl⟩
    rw [storeFn_fn_if]
    split
    · next h =>
        subst h
        cases e
        · exact ⟨_, (s.fn j).chB.direction, rfl⟩
        · exact ⟨(s.fn j).chA.direction, _, rfl⟩
    · exact ⟨(s.fn j).chA.direction, (s.fn j).chB.direction, rfl⟩

theorem orderChannel_turned (i : Slot) (e : Side) (s : State) : Turned (orderChannel i e s) s :=
  .of_same (by simp) (by simp)

theorem reorder_turned (i : Slot) (s : State) : Turned (reorder i s) s := by
  unfold reorder
  exact (Turned.fold (fun s e => (orderChannel_turned i e _).trans (turnChannel_turned i e s)) _ s).ite (.refl s)

theorem reorder_rest {i : Slot} {s : State} (h : (s.fn i).activity ≠ .moving) : reorder i s = s := by
  simp [reorder, h]

theorem twistHeld_turned (h : List Slot) (s : State) : Turned (s.setSeq { s.sequence with twistHeld := h }) s where
  fn j := ⟨(s.fn j).chA.direction, (s.fn j).chB.direction, rfl⟩
  sequence := ⟨h, rfl⟩

theorem releaseTwist_turned (i : Slot) (s : State) : Turned (releaseTwist i s) s := by
  unfold releaseTwist
  exact ((reorder_turned i _).trans (twistHeld_turned _ s)).ite (.refl s)

theorem twistMember_turned (limit : Nat) (i k : Slot) (s : State) : Turned (twistMember limit i k s) s := by
  unfold twistMember
  exact ((releaseTwist_turned i s).ite (.refl s)).ite
    (((reorder_turned i _).trans (twistHeld_turned _ s)).ite (.refl s))

theorem twistRule_turned (i : Slot) (s : State) : Turned (twistRule i s) s := by
  unfold twistRule
  split
  · split
    · exact .refl s
    · split
      · exact (twistMember_turned ..).trans (twistMember_turned ..)
      · exact .refl s
  · exact .refl s

/-- A jack's mark of being finished changes the sequence's lists, and drive directions. -/
theorem markFinished_turned (i : Slot) (s : State) : ∃ q, Turned (markFinished i s) (s.setSeq q)
    ∧ q.phase = s.sequence.phase ∧ q.taken = s.sequence.taken ∧ q.result = s.sequence.result
    ∧ (∀ j, j ∈ q.finished ↔ j = i ∨ j ∈ s.sequence.finished) := by
  unfold markFinished
  by_cases h : s.isFinished i = true
  · have hm : i ∈ s.sequence.finished := by simpa [State.isFinished] using h
    refine ⟨s.sequence, ?_, rfl, rfl, rfl, fun j => ⟨.inr, fun k => k.elim (fun e => e ▸ hm) id⟩⟩
    simp only [if_pos h]
    split
    · exact releaseTwist_turned _ _
    · exact .refl _
  · refine ⟨{ s.sequence with
      finished := s.sequence.finished ++ [i]
      twistHeld := s.sequence.twistHeld.filter (· != i) }, ?_, rfl, rfl, rfl, fun j => by simp [or_comm]⟩
    simp only [if_neg h]
    split
    · exact releaseTwist_turned _ _
    · exact .refl _

theorem Turned.measured {t s : State} (h : Turned t s) : Measured t s := by
  refine ⟨fun j => ?_⟩
  obtain ⟨a, b, e⟩ := h.fn j
  rw [e]
  rfl

/-! ### The other operations of a report -/

theorem Measured.settleFn (i : Slot) (r : StopReason) (e : Ending) (b : Bool) (s : State) :
    Measured (settleFn i r e b s) s := by
  have hf : ∀ j, (releaseDraw i (holdAll true i s)).fn j = s.fn j := fun j => fn_congr (by simp) j
  exact (Measured.putFn (by rw [hf]; rfl)).trans ⟨fun j => by rw [hf]⟩

theorem Measured.setChannel {i : Slot} {e : Side} {ch : Channel} {s : State}
    (h : (ch.position, ch.load) = (((s.fn i).chan e).position, ((s.fn i).chan e).load)) :
    Measured (setChannel i e ch s) s := by
  refine .storeFn ?_
  obtain ⟨hp, hl⟩ := Prod.mk.inj h
  cases e <;> simp_all [measured, Function.setChan, Function.chan]

theorem Measured.resumeChannel (i : Slot) (e : Side) (s : State) : Measured (resumeChannel i e s) s := by
  unfold Machine.resumeChannel
  exact (Measured.refl s).ite (.setChannel rfl)

theorem Measured.setMarker (i : Slot) (m : Option Side) (s : State) : Measured (setMarker i m s) s := .storeFn rfl

theorem Measured.clearMarker (i : Slot) (s : State) : Measured (clearMarker i s) s := by
  unfold Machine.clearMarker
  split
  · exact .refl s
  · exact (Measured.resumeChannel ..).trans (.setMarker ..)

theorem Measured.takeEndMark (i : Slot) (e : Side) (s : State) : Measured (takeEndMark i e s) s :=
  (Measured.clearMarker i _).trans (.setChannel rfl)

theorem Measured.takeArrivalMark (i : Slot) (e : Side) (s : State) : Measured (takeArrivalMark i e s) s :=
  (Measured.clearMarker i _).trans (.setChannel rfl)

theorem Measured.finishMotor (i : Slot) (s : State) : Measured (finishMotor i s) s := by
  unfold Machine.finishMotor
  exact ((Measured.settleFn ..).ite ((Measured.settleFn ..).ite (.settleFn ..))).ite (.refl s)

theorem Measured.judgeStall (i : Slot) (e : Side) (s : State) : Measured (judgeStall i e s) s := by
  unfold Machine.judgeStall
  dsimp only
  split
  · exact ((Measured.finishMotor ..).trans (.takeEndMark ..)).ite (.faultFn ..)
  · exact .refl s

theorem Measured.stallTest (i : Slot) (e : Side) (current : Nat) (flags : Byte) (s : State) :
    Measured (stallTest i e current flags s) s := by
  unfold Machine.stallTest
  dsimp only
  split
  · exact (Measured.judgeStall i e _).trans (.setChannel rfl)
  · exact .setChannel rfl

theorem Measured.arrivalTest (i : Slot) (e : Side) (s : State) : Measured (arrivalTest i e s) s := by
  unfold Machine.arrivalTest
  dsimp only
  split
  · split
    · exact (Measured.refl s).ite ((Measured.finishMotor ..).trans (.takeArrivalMark ..))
    · split
      · exact (Measured.resumeChannel i e _).trans (.setChannel rfl)
      · exact .refl s
  · exact .refl s

theorem Measured.holdEnd (i : Slot) (e : Side) (s : State) : Measured (holdEnd i e s) s := by
  refine Measured.trans (.setChannel ?_) (.setMarker i (some e) s)
  cases e <;> simp [Machine.setMarker, Function.chan]

theorem Measured.softSkewTest (i : Slot) (s : State) : Measured (softSkewTest i s) s := by
  unfold Machine.softSkewTest
  dsimp only
  split
  · exact .refl s
  · refine (Measured.refl s).ite ?_
    split
    · exact (Measured.holdEnd ..).ite (.refl s)
    · exact (Measured.clearMarker ..).ite (((Measured.resumeChannel ..).trans (.holdEnd ..)).ite (.refl s))

theorem Measured.whileMoving {i : Slot} {test : State → State} (h : ∀ s, Measured (test s) s) (s : State) :
    Measured (whileMoving i test s) s := (h s).ite (.refl s)

theorem Measured.hardSkewTest (i : Slot) (s : State) : Measured (hardSkewTest i s) s := (Measured.faultFn ..).ite (.refl s)

theorem Measured.clearanceStop (i : Slot) (s : State) : Measured (clearanceStop i s) s := by
  unfold Machine.clearanceStop
  split
  · exact .refl s
  · exact (Measured.stopFn ..).ite (.refl s)

theorem Measured.motorReport (i : Slot) (e : Side) (current : Nat) (flags : Byte) (s : State) :
    Measured (motorReport i e current flags s) s := by
  unfold Machine.motorReport
  exact (Measured.whileMoving (fun s => (Measured.softSkewTest i s).ite (.refl s)) _).trans
    ((Measured.whileMoving (fun s => (Measured.arrivalTest i e s).ite (.refl s)) _).trans
      ((Measured.whileMoving (.stallTest i e current flags) _).trans
        ((Measured.clearanceStop i _).trans (.hardSkewTest i s))))

theorem Measured.slideHydReport (i : Slot) (pressure : Nat) (s : State) : Measured (slideHydReport i pressure s) s := by
  unfold Machine.slideHydReport
  dsimp only
  split
  · exact ((Measured.settleFn ..).ite (.faultFn ..)).ite ((Measured.settleFn ..).ite (.refl s))
  · exact .refl s

theorem Measured.markFinished (i : Slot) (s : State) : Measured (markFinished i s) s := by
  obtain ⟨q, h, -⟩ := markFinished_turned i s
  exact h.measured.trans (.of_functions rfl)

theorem Measured.groundReport (i : Slot) (s : State) : Measured (groundReport i s) s := by
  unfold Machine.groundReport
  exact ((Measured.markFinished ..).trans (.stopFn ..)).ite ((Measured.faultFn ..).ite (.refl s))

theorem Measured.jackReport (i : Slot) (pressure : Nat) (s : State) : Measured (jackReport i pressure s) s := by
  unfold Machine.jackReport
  refine (Measured.faultFn ..).ite ((Measured.groundReport i s).ite (Measured.ite ?_ (.refl s)))
  split
  · exact (Measured.settleFn ..).ite (.refl s)
  · exact (Measured.settleFn ..).ite (.refl s)
  · exact (Measured.settleFn ..).ite (.refl s)
  · exact .refl s

theorem Measured.hydReport (i : Slot) (pressure : Nat) (s : State) : Measured (hydReport i pressure s) s := by
  unfold Machine.hydReport
  exact ((Measured.faultFn ..).ite (.slideHydReport ..)).ite (.refl s)

theorem Measured.twinReport (i : Slot) (e : Side) (current : Nat) (flags : Byte) (s : State) :
    Measured (twinReport i e current flags s) s := by
  unfold Machine.twinReport
  exact (Measured.motorReport ..).ite ((Measured.hardSkewTest ..).ite (.refl s))

theorem Measured.kindReport (i : Slot) (d : DriveRef) (load : Nat) (flags : Byte) (s : State) :
    Measured (kindReport i d load flags s) s := by
  unfold Machine.kindReport
  split
  · exact (reorder_turned ..).measured.trans ((twistRule_turned ..).measured.trans (.jackReport ..))
  · exact (reorder_turned ..).measured.trans (.hydReport ..)
  · exact (reorder_turned ..).measured.trans (.fold (fun s e => .twinReport i e load flags s) _ _)
  · exact (reorder_turned ..).measured.trans (.fold (fun s e => .twinReport i e load flags s) _ _)
  · exact .refl s

theorem Measured.activityReport (i : Slot) (d : DriveRef) (load : Nat) (flags : Byte) (s : State) :
    Measured (activityReport i d load flags s).1 s := by
  unfold Machine.activityReport
  split
  · exact (Measured.faultFn ..).ite ((Measured.faultFn ..).ite (.kindReport ..))
  · split <;> exact .refl s

theorem Measured.slideTest (i : Slot) (s : State) : Measured (slideTest i s) s := by
  unfold Machine.slideTest
  split
  · exact .refl s
  · exact (Measured.stopFn ..).ite (.refl s)

end Sys2Proof.Proofs
end

section
/-! PROOFS. What a report does to the slot whose drive channel it is: the record it writes, and the judgement of a
JACK and of a SLIDE_HYD. -/

namespace Sys2Proof.Proofs
open Sys2Proof.Machine Sys2Proof.Laws

/-! ### The record a report writes (R5, R6, R30) -/

theorem drives_of_drive {c : FunctionConfig} {e : Side} {d : DriveRef} (h : c.drive e = some d) : e ∈ c.sides := by
  unfold FunctionConfig.sides
  cases e with
  | a =>
    have : 0 < c.drives.length := (List.getElem?_eq_some_iff.mp h).1
    split
    · omega
    · simp
    · simp
  | b =>
    have : 1 < c.drives.length := (List.getElem?_eq_some_iff.mp h).1
    split
    · omega
    · omega
    · simp

/-- The record with what a report gives the ends on its channel. -/
def endsRead (c : FunctionConfig) (d : DriveRef) (r : ChannelRecord) (f : Function) : Function :=
  { f with
    chA := if c.drive .a = some d then f.chA.reported c .a r else f.chA
    chB := if c.drive .b = some d then f.chB.reported c .b r else f.chB }

theorem foldl_readEnd (c : FunctionConfig) (d : DriveRef) (r : ChannelRecord) (f : Function) :
    c.sides.foldl (Function.readEnd c d r) f = endsRead c d r f := by
  unfold FunctionConfig.sides endsRead
  split
  · next h =>
      have : c.drives = [] := List.length_eq_zero_iff.mp h
      simp [FunctionConfig.drive, this]
  · next h =>
      have hb : c.drive .b = none := by simp [FunctionConfig.drive, h]
      simp only [List.foldl_cons, List.foldl_nil, Function.readEnd, hb, reduceCtorEq, if_false]
      split <;> rfl
  · simp only [List.foldl_cons, List.foldl_nil, Function.readEnd]
    split <;> split <;> rfl

/-- A report's record before the contact flag: the ends read, and the class computed again. -/
def classRead (c : FunctionConfig) (d : DriveRef) (r : ChannelRecord) (f : Function) : Function :=
  { endsRead c d r f with posClass := classOf c (endsRead c d r f) }

theorem readReport_eq (s : State) (c : FunctionConfig) (d : DriveRef) (r : ChannelRecord) (f : Function) :
    f.readReport s c d r = if c.kind = .jack then
      judgeContact s.settings.levelling s.now ((r.load.map Int.toNat).getD 0) (classRead c d r f)
      else classRead c d r f := by
  unfold Function.readReport classRead
  rw [foldl_readEnd]

/-- Only the contact flag and its timer are judged by the pressure. -/
theorem judgeContact_shape (p : LevelParams) (now pressure : Nat) (f : Function) :
    ∃ co ct, judgeContact p now pressure f = { f with contact := co, contactTimer := ct } := by
  unfold judgeContact
  (repeat' split)
  · exact ⟨f.contact, _, rfl⟩
  · exact ⟨f.contact, f.contactTimer, rfl⟩
  · exact ⟨f.contact, _, rfl⟩
  · exact ⟨_, f.contactTimer, rfl⟩
  · exact ⟨f.contact, f.contactTimer, rfl⟩

theorem readReport_shape (s : State) (c : FunctionConfig) (d : DriveRef) (r : ChannelRecord) (f : Function) :
    ∃ co ct, f.readReport s c d r = { classRead c d r f with contact := co, contactTimer := ct } := by
  rw [readReport_eq]
  split
  · exact judgeContact_shape ..
  · exact ⟨(classRead c d r f).contact, (classRead c d r f).contactTimer, rfl⟩

theorem readReport_chan (s : State) {c : FunctionConfig} {d : DriveRef} {r : ChannelRecord} (f : Function) {e : Side}
    (h : c.drive e = some d) :
    ((f.readReport s c d r).chan e).position = r.raw.map (positionOf c e)
      ∧ ((f.readReport s c d r).chan e).load = r.load.map Int.toNat := by
  obtain ⟨co, ct, e'⟩ := readReport_shape s c d r f
  rw [e']
  cases e <;> simp [Function.chan, classRead, endsRead, h, Channel.reported]

theorem readReport_posClass (s : State) (c : FunctionConfig) (d : DriveRef) (r : ChannelRecord) (f : Function) :
    (f.readReport s c d r).posClass = classOf c (f.readReport s c d r) := by
  obtain ⟨co, ct, e⟩ := readReport_shape s c d r f
  rw [e]
  rfl

/-- A report leaves what a move is and how far its stop has come. -/
theorem readReport_move (s : State) (c : FunctionConfig) (d : DriveRef) (r : ChannelRecord) (f : Function) :
    (f.readReport s c d r).activity = f.activity ∧ (f.readReport s c d r).owner = f.owner
      ∧ (f.readReport s c d r).verb = f.verb ∧ (f.readReport s c d r).target = f.target
      ∧ (f.readReport s c d r).fault = f.fault ∧ (f.readReport s c d r).lastStop = f.lastStop
      ∧ (f.readReport s c d r).chA.direction = f.chA.direction
      ∧ (f.readReport s c d r).chA.startTime = f.chA.startTime := by
  obtain ⟨co, ct, e⟩ := readReport_shape s c d r f
  rw [e]
  refine ⟨rfl, rfl, rfl, rfl, rfl, rfl, ?_, ?_⟩ <;> simp only [classRead, endsRead] <;> split <;> rfl

theorem classRead_contact (c : FunctionConfig) (d : DriveRef) (r : ChannelRecord) (f : Function) :
    (classRead c d r f).contact = f.contact ∧ (classRead c d r f).contactTimer = f.contactTimer := ⟨rfl, rfl⟩

theorem positionOf_hydraulic {c : FunctionConfig} (h : c.kind.isMotor = false) (e : Side) (raw : Nat) :
    positionOf c e (raw : Int) = min raw c.stroke := by
  simp only [positionOf, h, clampInt, Bool.false_eq_true, if_false]
  omega

theorem positionOf_motor {c : FunctionConfig} (h : c.kind.isMotor = true) (e : Side) (raw : Int) :
    positionOf c e raw = (min (c.stroke : Int) (max 0 ((raw - c.offset e) * c.sense e))).toNat := by
  simp [positionOf, h, clampInt]

/-! ### The stages of a report -/

/-- The part with the report written into the slot's record. -/
def reportRead (i : Slot) (d : DriveRef) (r : ChannelRecord) (s : State) : State :=
  putFn i ((s.fn i).readReport s (s.cfg i) d r) s

theorem slotReport_some {i : Slot} {d : DriveRef} {r : ChannelRecord} {s : State} (h : s.channelRecord d = some r) :
    (slotReport i d s).1 = slideTest i
      (activityReport i d ((r.load.map Int.toNat).getD 0) (r.flags.getD 0) (reportRead i d r s)).1 := by
  simp only [slotReport, h, reportRead]

theorem reportRead_fn (i : Slot) (d : DriveRef) (r : ChannelRecord) (s : State) :
    (reportRead i d r s).fn i = (s.fn i).readReport s (s.cfg i) d r := putFn_fn ..

theorem reportRead_settings (i : Slot) (d : DriveRef) (r : ChannelRecord) (s : State) :
    (reportRead i d r s).settings = s.settings := by simp [reportRead]

theorem reportRead_cfg (i j : Slot) (d : DriveRef) (r : ChannelRecord) (s : State) :
    (reportRead i d r s).cfg j = s.cfg j := by simp only [State.cfg, reportRead_settings]

theorem reportRead_sequence (i : Slot) (d : DriveRef) (r : ChannelRecord) (s : State) :
    (reportRead i d r s).sequence = s.sequence := by simp [reportRead]

theorem reportRead_now (i : Slot) (d : DriveRef) (r : ChannelRecord) (s : State) :
    (reportRead i d r s).now = s.now := by simp [reportRead]

theorem reportRead_onGround (i : Slot) (d : DriveRef) (r : ChannelRecord) (s : State) :
    (reportRead i d r s).onGround i = s.onGround i := by
  simp [State.onGround, State.isTaken, State.seqRuns, State.isFinished, reportRead_sequence]

/-- The test of an awning's partner slide leaves the awning itself. -/
theorem slideTest_fn_self (i : Slot) (s : State) : (slideTest i s).fn i = s.fn i := by
  unfold slideTest
  split
  · rfl
  · next p _ =>
      split
      · next h =>
          have hip : i ≠ p := by
            rintro rfl
            have := h.2.1
            simp [h.1, Kind.isSlide] at this
          rw [stopFn_fn_if, if_neg (fun k => hip k.1)]
      · rfl

/-- No slot but the awning's partner changes at its test. -/
theorem slideTest_fn_ne {i j : Slot} {s : State} (h : (s.cfg i).partner ≠ some j) : (slideTest i s).fn j = s.fn j := by
  unfold slideTest
  split
  · rfl
  · next p hp =>
      split
      · rw [stopFn_fn_if, if_neg (fun k => h (by rw [hp, k.1]))]
      · rfl

theorem slideTest_id {i : Slot} {s : State} (h : (s.cfg i).kind ≠ .awning) : slideTest i s = s := by
  unfold slideTest
  split
  · rfl
  · simp [h]

theorem settleFn_fn (i : Slot) (r : StopReason) (e : Ending) (b : Bool) (s : State) :
    (settleFn i r e b s).fn i = (s.fn i).settlingAs r e b (some (s.now + (s.cfg i).settleTime)) := by
  have hf : (releaseDraw i (holdAll true i s)).fn i = s.fn i := fn_congr (by simp) i
  simp only [settleFn, putFn_fn, hf]
  simp [startTimer, State.cfg]

end Sys2Proof.Proofs
end

section
/-! PROOFS. The judgement of a report by the flags, and of a JACK and a SLIDE_HYD by their tests (O22). -/

namespace Sys2Proof.Proofs
open Sys2Proof.Machine Sys2Proof.Laws

/-! ### What an outcome comes to, whatever directions are turned after it -/

theorem Turned.failed {t w : State} {i : Slot} {c : FaultCode} (h : Turned t (faultFn i c w))
    (hf : (w.fn i).activity.canFault = true) : (t.fn i).activity = .faulted ∧ (t.fn i).fault = some c
      ∧ (t.fn i).owner = .none ∧ (t.fn i).lastStop = (w.fn i).lastStop := by
  obtain ⟨a, b, e⟩ := h.fn i
  rw [e, faultFn_self c hf]
  exact ⟨rfl, rfl, rfl, rfl⟩

theorem Turned.ended {t w : State} {i : Slot} {r : StopReason} {e : Ending} (h : Turned t (settleFn i r e false w)) :
    (t.fn i).activity = .settling ∧ (t.fn i).lastStop = some r ∧ (t.fn i).ending = some e ∧ (t.fn i).byStall = false
      ∧ (t.fn i).settleTimer = some (w.now + (w.cfg i).settleTime) ∧ (t.fn i).owner = (w.fn i).owner := by
  obtain ⟨a, b, e'⟩ := h.fn i
  rw [e', settleFn_fn]
  exact ⟨rfl, rfl, rfl, rfl, rfl, rfl⟩

theorem Turned.stays {t w : State} {i : Slot} (h : Turned t w) : (t.fn i).activity = (w.fn i).activity
    ∧ (t.fn i).owner = (w.fn i).owner ∧ (t.fn i).lastStop = (w.fn i).lastStop := by
  obtain ⟨a, b, e⟩ := h.fn i
  rw [e]
  exact ⟨rfl, rfl, rfl⟩

/-! ### A JACK's report (R15, R79) -/

section
variable {i : Slot} {load : Nat} {w : State}

theorem jackReport_overload (hm : (w.fn i).activity = .moving) (ho : (w.cfg i).overload ≤ load) :
    jackReport i load w = faultFn i .overload w := by simp [jackReport, hm, ho]

theorem jackReport_ground (hn : ¬((w.fn i).activity = .moving ∧ (w.cfg i).overload ≤ load)) (hg : w.onGround i = true) :
    jackReport i load w = groundReport i w := by simp [jackReport, hn, hg]

theorem jackReport_still (hn : (w.fn i).activity ≠ .moving) (hg : w.onGround i = false) : jackReport i load w = w := by
  simp [jackReport, hn, hg]

/-- A MOVING jack off its ground request is judged by its verb (R14, R15): a GOTO near its target. -/
theorem jackReport_goto (hm : (w.fn i).activity = .moving) (ho : load < (w.cfg i).overload)
    (hg : w.onGround i = false) (hv : (w.fn i).verb = some .goto) : jackReport i load w
      = if allWithin (w.cfg i) (w.fn i) ((w.fn i).target.getD 0) (arrivalWidth (w.cfg i).kind) then targetReached i w
        else w := by
  simp [jackReport, hm, hg, hv, Nat.not_le.mpr ho]

theorem jackReport_extend (hm : (w.fn i).activity = .moving) (ho : load < (w.cfg i).overload)
    (hg : w.onGround i = false) (hv : (w.fn i).verb = some .extend) : jackReport i load w
      = if (w.fn i).chA.position.any (inWindow (w.cfg i) .extend) then endReached i .extend false w else w := by
  simp [jackReport, hm, hg, hv, Nat.not_le.mpr ho]

theorem jackReport_retract (hm : (w.fn i).activity = .moving) (ho : load < (w.cfg i).overload)
    (hg : w.onGround i = false) (hv : (w.fn i).verb = some .retract) : jackReport i load w
      = if (w.fn i).chA.position.any (inWindow (w.cfg i) .retract) then endReached i .retract false w else w := by
  simp [jackReport, hm, hg, hv, Nat.not_le.mpr ho]

theorem groundReport_contact (hc : (w.fn i).contact = true)
    (hm : (w.fn i).activity = .waiting ∨ (w.fn i).activity = .moving) :
    groundReport i w = markFinished i (stopFn true i .endReached w) := by simp [groundReport, hc, hm]

theorem groundReport_end (hc : (w.fn i).contact = false) (hm : (w.fn i).activity = .moving) :
    groundReport i w = if (w.fn i).chA.position.any (inWindow (w.cfg i) .extend) then faultFn i .noGround w else w := by
  simp [groundReport, hc, hm]

theorem markFinished_stopped (hb : (w.fn i).activity.isBusy = true) (r : StopReason) :
    ∃ q, Turned (markFinished i (stopFn true i r w)) ((stopFn true i r w).setSeq q) ∧ q.phase = w.sequence.phase
      ∧ i ∈ q.finished ∧ ((stopFn true i r w).setSeq q).fn i = (w.fn i).stopped r := by
  obtain ⟨q, h, hp, -, -, hq⟩ := markFinished_turned i (stopFn true i r w)
  exact ⟨q, h, hp.trans (by simp), (hq i).mpr (.inl rfl), stopFn_fn true i r w hb⟩

end

theorem onGround_iff (s : State) (i : Slot) : s.onGround i = true
    ↔ s.sequence.phase = .ground ∧ s.isTaken i = true ∧ i ∉ s.sequence.finished := by
  simp [State.onGround, State.isFinished, and_assoc]

theorem allWithin_single {c : FunctionConfig} (hs : c.sides = [.a]) (f : Function) (t d : Nat) {x : Nat}
    (hx : f.chA.position = some x) : allWithin c f t d = decide (gap t x ≤ d) := by
  simp [allWithin, hs, Function.chan, hx]

/-! ### A SLIDE_HYD's report (R100) -/

theorem pastStart_iff (now : Nat) (ch : Channel) :
    pastStart now ch = true ↔ ¬∃ t0, ch.startTime = some t0 ∧ now < t0 + 250 := by
  cases h : ch.startTime with
  | none => simp [pastStart, h]
  | some t => simpa [pastStart, h, startInterval] using ⟨of_decide_eq_true, decide_eq_true⟩

/-! ### The whole report -/

section
variable {s : State} {i : Slot} {d : DriveRef} {r : ChannelRecord} {raw load : Nat}

theorem slotReport_ignored (hr : s.channelRecord d = some r) (h : (s.fn i).activity.canFault = false) :
    (slotReport i d s).1 = slideTest i (reportRead i d r s) := by
  have ha : ((reportRead i d r s).fn i).activity.canFault = false := by
    rw [reportRead_fn, (readReport_move ..).1, h]
  rw [slotReport_some hr]
  simp only [activityReport, ha, Bool.false_eq_true, if_false]
  split <;> rfl

theorem slotReport_judged (hr : s.channelRecord d = some r) (hload : r.load = some (load : Int))
    (h : (s.fn i).activity.canFault = true) : (slotReport i d s).1 = slideTest i
      (if reportDriverFault (r.flags.getD 0) then faultFn i .driverFault (reportRead i d r s)
        else if reportOverTemp (r.flags.getD 0) then faultFn i .overTemp (reportRead i d r s)
        else kindReport i d load (r.flags.getD 0) (reportRead i d r s)) := by
  have ha : ((reportRead i d r s).fn i).activity.canFault = true := by
    rw [reportRead_fn, (readReport_move ..).1, h]
  rw [slotReport_some hr]
  simp [activityReport, ha, hload]

theorem reportRead_canFault (c : FaultCode) (h : (s.fn i).activity.canFault = true) :
    (slideTest i (faultFn i c (reportRead i d r s))).fn i = ((reportRead i d r s).fn i).failed c := by
  rw [slideTest_fn_self, faultFn_self c (by rw [reportRead_fn, (readReport_move ..).1, h])]

theorem slotReport_faulted (c : FaultCode) (h : (s.fn i).activity.canFault = true)
    (ht : (slotReport i d s).1 = slideTest i (faultFn i c (reportRead i d r s))) :
    ((slotReport i d s).1.fn i).activity = .faulted ∧ ((slotReport i d s).1.fn i).fault = some c
      ∧ ((slotReport i d s).1.fn i).owner = .none ∧ ((slotReport i d s).1.fn i).lastStop = (s.fn i).lastStop := by
  rw [ht, reportRead_canFault c h, reportRead_fn]
  obtain ⟨-, -, -, -, -, hls, -, -⟩ := readReport_move s (s.cfg i) d r (s.fn i)
  exact ⟨rfl, rfl, rfl, hls⟩

/-- After the quiet flags a JACK's report is judged by its tests, and then directions are turned. -/
theorem slotReport_jack (hr : s.channelRecord d = some r) (hload : r.load = some (load : Int))
    (h : (s.fn i).activity.canFault = true) (hk : (s.cfg i).kind = .jack)
    (hq : (r.flags.getD 0).getLsbD 0 = false ∧ (r.flags.getD 0).getLsbD 1 = false) :
    Turned (slotReport i d s).1 (jackReport i load (reportRead i d r s)) := by
  have hk' : ((reportRead i d r s).cfg i).kind = .jack := by rw [reportRead_cfg, hk]
  rw [slotReport_judged hr hload h, if_neg (by simpa only [reportDriverFault, hq.1] using Bool.false_ne_true),
    if_neg (by simpa only [reportOverTemp, hq.2] using Bool.false_ne_true)]
  simp only [kindReport, hk']
  rw [slideTest_id (by
    rw [show (reorder i (twistRule i (jackReport i load (reportRead i d r s)))).cfg i = s.cfg i by
      simp [State.cfg, reportRead_settings], hk]
    simp)]
  exact (reorder_turned ..).trans (twistRule_turned ..)

theorem slotReport_slideHyd (hr : s.channelRecord d = some r) (hload : r.load = some (load : Int))
    (h : (s.fn i).activity.canFault = true) (hk : (s.cfg i).kind = .slideHyd)
    (hq : (r.flags.getD 0).getLsbD 0 = false ∧ (r.flags.getD 0).getLsbD 1 = false) :
    Turned (slotReport i d s).1 (hydReport i load (reportRead i d r s)) := by
  have hk' : ((reportRead i d r s).cfg i).kind = .slideHyd := by rw [reportRead_cfg, hk]
  rw [slotReport_judged hr hload h, if_neg (by simpa only [reportDriverFault, hq.1] using Bool.false_ne_true),
    if_neg (by simpa only [reportOverTemp, hq.2] using Bool.false_ne_true)]
  simp only [kindReport, hk']
  rw [slideTest_id (by
    rw [show (reorder i (hydReport i load (reportRead i d r s))).cfg i = s.cfg i by
      simp [State.cfg, reportRead_settings], hk]
    simp)]
  exact reorder_turned ..

/-- The measured half after a report: the report's own slot has what was read, the others what they had. -/
theorem slotReport_measured (hr : s.channelRecord d = some r) : Measured (slotReport i d s).1 (reportRead i d r s) := by
  rw [slotReport_some hr]
  exact (Measured.slideTest ..).trans (.activityReport ..)

end

/-! ### O22 -/

section
variable {s : State} {i : Slot} {d : DriveRef} {r : ChannelRecord} {raw load : Nat}

/-- The contact flag of a JACK as a report's pressure judges it (R30). -/
theorem readReport_contact (hk : (s.cfg i).kind = .jack) (hload : r.load = some (load : Int)) :
    (s.fn i).readReport s (s.cfg i) d r
      = judgeContact s.settings.levelling s.now load (classRead (s.cfg i) d r (s.fn i)) := by
  simp [readReport_eq, hk, hload]

theorem readReport_touches (hk : (s.cfg i).kind = .jack) (hload : r.load = some (load : Int)) :
    ((s.fn i).readReport s (s.cfg i) d r).contact = true
      ↔ (s.fn i).contact = true ∨ s.settings.levelling.contactPressure ≤ load := by
  rw [readReport_contact hk hload]
  simp only [judgeContact, (classRead_contact ..).1]
  cases hc : (s.fn i).contact with
  | true =>
    simp only [if_true]
    (repeat' split) <;> simp [(classRead_contact ..).1, hc]
  | false =>
    simp only [Bool.false_eq_true, if_false]
    split <;> simp_all [(classRead_contact ..).1]

/-- The contact-loss timer of a jack in contact: idle at or above the lower threshold, else it runs (R30). -/
theorem readReport_contactTimer (hk : (s.cfg i).kind = .jack) (hload : r.load = some (load : Int))
    (hc : (s.fn i).contact = true) : ((s.fn i).readReport s (s.cfg i) d r).contactTimer
      = if s.settings.levelling.contactPressure - s.settings.levelling.contactHysteresis ≤ load then none
        else if (s.fn i).contactTimer.isSome then (s.fn i).contactTimer else some (s.now + 1000) := by
  rw [readReport_contact hk hload]
  simp only [judgeContact, (classRead_contact ..).1, hc, if_true, LevelParams.lowerContact, (classRead_contact ..).2]
  split
  · rfl
  · split <;> rfl

end

end Sys2Proof.Proofs
end

section
/-! PROOFS. A report moves and judges hydraulics (O22): the clauses of a JACK's and a SLIDE_HYD's tests, and the
obligation put together. -/

namespace Sys2Proof.Proofs
open Sys2Proof.Machine Sys2Proof.Laws

section
variable {s : State} {i : Slot} {d : DriveRef} {r : ChannelRecord} {raw load : Nat}

/-- The position that a hydraulic slot's report gives end A. -/
theorem reportRead_position (hraw : r.raw = some (raw : Int)) (hm : (s.cfg i).kind.isMotor = false)
    (hd : (s.cfg i).drive .a = some d) :
    ((reportRead i d r s).fn i).chA.position = some (min raw (s.cfg i).stroke) := by
  have h := (readReport_chan s (r := r) (s.fn i) hd).1
  rw [reportRead_fn]
  rw [hraw] at h
  exact h.trans (congrArg some (positionOf_hydraulic hm .a raw))

theorem slotReport_stays {t : State} (h : Turned t (reportRead i d r s)) : (t.fn i).activity = (s.fn i).activity
    ∧ (t.fn i).owner = (s.fn i).owner ∧ (t.fn i).lastStop = (s.fn i).lastStop := by
  obtain ⟨ha, ho, hl⟩ := h.stays (i := i)
  obtain ⟨ha', ho', -, -, -, hl', -, -⟩ := readReport_move s (s.cfg i) d r (s.fn i)
  rw [ha, ho, hl, reportRead_fn]
  exact ⟨ha', ho', hl'⟩

theorem slotReport_ended {t : State} {why : StopReason} {e : Ending}
    (h : Turned t (settleFn i why e false (reportRead i d r s))) :
    (t.fn i).activity = .settling ∧ (t.fn i).lastStop = some why ∧ (t.fn i).ending = some e ∧ (t.fn i).byStall = false
      ∧ (t.fn i).settleTimer = some (s.now + (s.cfg i).settleTime) ∧ (t.fn i).owner = (s.fn i).owner := by
  obtain ⟨h1, h2, h3, h4, h5, h6⟩ := h.ended
  obtain ⟨-, ho, -, -, -, -, -, -⟩ := readReport_move s (s.cfg i) d r (s.fn i)
  rw [reportRead_fn, ho] at h6
  rw [reportRead_now, reportRead_cfg] at h5
  exact ⟨h1, h2, h3, h4, h5, h6⟩

theorem slotReport_failed {t : State} {c : FaultCode} (h : Turned t (faultFn i c (reportRead i d r s)))
    (hf : (s.fn i).activity.canFault = true) : (t.fn i).activity = .faulted ∧ (t.fn i).fault = some c
      ∧ (t.fn i).owner = .none ∧ (t.fn i).lastStop = (s.fn i).lastStop := by
  obtain ⟨ha, -, -, -, -, hl, -, -⟩ := readReport_move s (s.cfg i) d r (s.fn i)
  obtain ⟨h1, h2, h3, h4⟩ := h.failed (by rw [reportRead_fn, ha, hf])
  rw [reportRead_fn, hl] at h4
  exact ⟨h1, h2, h3, h4⟩

/-! ### JACK -/

section
variable (hr : s.channelRecord d = some r) (hload : r.load = some (load : Int)) (hk : (s.cfg i).kind = .jack)
  (hq : (r.flags.getD 0).getLsbD 0 = false ∧ (r.flags.getD 0).getLsbD 1 = false)
include hr hload hk hq

theorem jack_overloads (hm : (s.fn i).activity = .moving) (ho : (s.cfg i).overload ≤ load) :
    ((slotReport i d s).1.fn i).activity = .faulted ∧ ((slotReport i d s).1.fn i).fault = some .overload
      ∧ ((slotReport i d s).1.fn i).owner = .none ∧ ((slotReport i d s).1.fn i).lastStop = (s.fn i).lastStop := by
  have hf : (s.fn i).activity.canFault = true := by rw [hm]; rfl
  have h := slotReport_jack hr hload hf hk hq
  rw [jackReport_overload (by rw [reportRead_fn, (readReport_move ..).1, hm]) (by rw [reportRead_cfg]; exact ho)] at h
  exact slotReport_failed h hf

theorem jack_grounds (hg : s.onGround i = true)
    (hc : (s.fn i).contact = true ∨ s.settings.levelling.contactPressure ≤ load)
    (hm : (s.fn i).activity = .waiting ∨ ((s.fn i).activity = .moving ∧ load < (s.cfg i).overload)) :
    ((slotReport i d s).1.fn i).activity = .idle ∧ ((slotReport i d s).1.fn i).lastStop = some .endReached
      ∧ i ∈ (slotReport i d s).1.sequence.finished ∧ (slotReport i d s).1.sequence.phase = .ground := by
  have hf : (s.fn i).activity.canFault = true := by rcases hm with h | ⟨h, -⟩ <;> rw [h] <;> rfl
  have hb : (s.fn i).activity.isBusy = true := by rcases hm with h | ⟨h, -⟩ <;> rw [h] <;> rfl
  have ha : ((reportRead i d r s).fn i).activity = (s.fn i).activity := by
    rw [reportRead_fn, (readReport_move ..).1]
  have h := slotReport_jack hr hload hf hk hq
  rw [jackReport_ground (by
        rw [ha, reportRead_cfg]
        rcases hm with h | ⟨-, h⟩
        · simp [h]
        · omega) (by rw [reportRead_onGround, hg]),
    groundReport_contact (by rw [reportRead_fn]; exact (readReport_touches hk hload).mpr hc)
      (by rw [ha]; exact hm.imp id (·.1))] at h
  obtain ⟨q, ht, hp, hi, hfn⟩ := markFinished_stopped (w := reportRead i d r s) (by rw [ha, hb]) .endReached
  have hall := h.trans ht
  obtain ⟨x, y, hxy⟩ := hall.fn i
  obtain ⟨z, hz⟩ := hall.sequence
  rw [hxy, hfn, hz]
  exact ⟨rfl, rfl, hi, hp.trans (by rw [reportRead_sequence]; exact ((onGround_iff s i).mp hg).1)⟩

/-- On the ground request, without contact, only the extend end is judged. -/
theorem jack_reaches (hg : s.onGround i = true)
    (hc : ¬((s.fn i).contact = true ∨ s.settings.levelling.contactPressure ≤ load))
    (hm : (s.fn i).activity = .moving) (ho : load < (s.cfg i).overload) :
    Turned (slotReport i d s).1
      (if ((reportRead i d r s).fn i).chA.position.any (inWindow (s.cfg i) .extend)
        then faultFn i .noGround (reportRead i d r s) else reportRead i d r s) := by
  have hf : (s.fn i).activity.canFault = true := by rw [hm]; rfl
  have ha : ((reportRead i d r s).fn i).activity = .moving := by rw [reportRead_fn, (readReport_move ..).1, hm]
  have h := slotReport_jack hr hload hf hk hq
  rw [jackReport_ground (by rw [reportRead_cfg]; omega) (by rw [reportRead_onGround, hg]),
    groundReport_end (by
      rw [reportRead_fn, ← Bool.not_eq_true]
      exact fun k => hc ((readReport_touches hk hload).mp k)) ha, reportRead_cfg] at h
  exact h

/-- Off its ground request a MOVING jack within its overload pressure is judged by its verb. -/
theorem jack_judged (hg : s.onGround i = false) (hm : (s.fn i).activity = .moving) (ho : load < (s.cfg i).overload) :
    ((s.fn i).verb = some .goto → Turned (slotReport i d s).1
      (if allWithin (s.cfg i) ((reportRead i d r s).fn i) ((s.fn i).target.getD 0) 2
        then targetReached i (reportRead i d r s) else reportRead i d r s))
    ∧ ((s.fn i).verb = some .extend → Turned (slotReport i d s).1
      (if ((reportRead i d r s).fn i).chA.position.any (inWindow (s.cfg i) .extend)
        then endReached i .extend false (reportRead i d r s) else reportRead i d r s))
    ∧ ((s.fn i).verb = some .retract → Turned (slotReport i d s).1
      (if ((reportRead i d r s).fn i).chA.position.any (inWindow (s.cfg i) .retract)
        then endReached i .retract false (reportRead i d r s) else reportRead i d r s)) := by
  have hf : (s.fn i).activity.canFault = true := by rw [hm]; rfl
  obtain ⟨ha, -, hv, htg, -, -, -, -⟩ := readReport_move s (s.cfg i) d r (s.fn i)
  have ha' : ((reportRead i d r s).fn i).activity = .moving := by rw [reportRead_fn, ha, hm]
  have hv' : ((reportRead i d r s).fn i).verb = (s.fn i).verb := by rw [reportRead_fn, hv]
  have htg' : ((reportRead i d r s).fn i).target = (s.fn i).target := by rw [reportRead_fn, htg]
  have hg' : (reportRead i d r s).onGround i = false := by rw [reportRead_onGround, hg]
  have ho' : load < ((reportRead i d r s).cfg i).overload := by rw [reportRead_cfg]; exact ho
  have h := slotReport_jack hr hload hf hk hq
  refine ⟨fun e => ?_, fun e => ?_, fun e => ?_⟩
  · rw [jackReport_goto ha' ho' hg' (hv'.trans e), reportRead_cfg, htg', hk] at h
    exact h
  · rw [jackReport_extend ha' ho' hg' (hv'.trans e), reportRead_cfg] at h
    exact h
  · rw [jackReport_retract ha' ho' hg' (hv'.trans e), reportRead_cfg] at h
    exact h

theorem jack_rests (hg : s.onGround i = false) (hf : (s.fn i).activity.canFault = true)
    (hm : (s.fn i).activity ≠ .moving) : ((slotReport i d s).1.fn i).activity = (s.fn i).activity
      ∧ ((slotReport i d s).1.fn i).owner = (s.fn i).owner
      ∧ ((slotReport i d s).1.fn i).lastStop = (s.fn i).lastStop := by
  have h := slotReport_jack hr hload hf hk hq
  rw [jackReport_still (by rw [reportRead_fn, (readReport_move ..).1]; exact hm)
    (by rw [reportRead_onGround, hg])] at h
  exact slotReport_stays h

/-- A ground request that reaches the extend end without contact ends the sequence NO_GROUND (R79, R94). -/
theorem jack_noGround (hraw : r.raw = some (raw : Int)) (hd : (s.cfg i).drive .a = some d) (hg : s.onGround i = true)
    (hc : ¬((s.fn i).contact = true ∨ s.settings.levelling.contactPressure ≤ load))
    (hm : (s.fn i).activity = .moving) (ho : load < (s.cfg i).overload)
    (he : (s.cfg i).stroke - (s.cfg i).endWindow ≤ min raw (s.cfg i).stroke) :
    (((slotReport i d s).1.fn i).activity = .faulted ∧ ((slotReport i d s).1.fn i).fault = some .noGround
      ∧ ((slotReport i d s).1.fn i).owner = .none ∧ ((slotReport i d s).1.fn i).lastStop = (s.fn i).lastStop)
    ∧ (slotReport i d s).1.sequence.result = some .noGround ∧ (slotReport i d s).1.sequence.phase = .idle := by
  have hp := reportRead_position hraw (i := i) (s := s) (by rw [hk]; rfl) hd
  have hf : (s.fn i).activity.canFault = true := by rw [hm]; rfl
  obtain ⟨hph, htk, -⟩ := (onGround_iff s i).mp hg
  have h := jack_reaches hr hload hk hq hg hc hm ho
  rw [hp, if_pos (by simpa [inWindow] using he)] at h
  refine ⟨slotReport_failed h hf, ?_⟩
  obtain ⟨z, hz⟩ := h.sequence
  rw [hz, faultFn_sequence _ (by rw [reportRead_fn, (readReport_move ..).1, hf]) (by
    rw [isTaken_iff, State.seqRuns, reportRead_sequence]; exact (isTaken_iff s i).mp htk), reportRead_sequence, hph]
  exact ⟨rfl, rfl⟩

theorem jack_groundStays (hraw : r.raw = some (raw : Int)) (hd : (s.cfg i).drive .a = some d) (hg : s.onGround i = true)
    (hc : ¬((s.fn i).contact = true ∨ s.settings.levelling.contactPressure ≤ load))
    (hm : (s.fn i).activity = .moving) (ho : load < (s.cfg i).overload)
    (he : min raw (s.cfg i).stroke < (s.cfg i).stroke - (s.cfg i).endWindow) :
    ((slotReport i d s).1.fn i).activity = (s.fn i).activity ∧ ((slotReport i d s).1.fn i).owner = (s.fn i).owner
      ∧ ((slotReport i d s).1.fn i).lastStop = (s.fn i).lastStop := by
  have hp := reportRead_position hraw (i := i) (s := s) (by rw [hk]; rfl) hd
  have h := jack_reaches hr hload hk hq hg hc hm ho
  rw [hp, if_neg (by simp only [Option.any_some, inWindow, decide_eq_true_eq]; omega)] at h
  exact slotReport_stays h

end

/-! ### SLIDE_HYD -/

section
variable (hr : s.channelRecord d = some r) (hload : r.load = some (load : Int)) (hk : (s.cfg i).kind = .slideHyd)
  (hq : (r.flags.getD 0).getLsbD 0 = false ∧ (r.flags.getD 0).getLsbD 1 = false)
include hr hload hk hq

theorem slideHyd_rests (hf : (s.fn i).activity.canFault = true) (hm : (s.fn i).activity ≠ .moving) :
    ((slotReport i d s).1.fn i).activity = (s.fn i).activity ∧ ((slotReport i d s).1.fn i).owner = (s.fn i).owner
      ∧ ((slotReport i d s).1.fn i).lastStop = (s.fn i).lastStop := by
  have h := slotReport_slideHyd hr hload hf hk hq
  have ha : (reportRead i d r s).moves i = false := by
    simp only [State.moves, reportRead_fn, (readReport_move ..).1]
    simpa using hm
  rw [hydReport, if_neg (by simp [ha])] at h
  exact slotReport_stays h

theorem slideHyd_moving (hm : (s.fn i).activity = .moving) : Turned (slotReport i d s).1
    (if (s.cfg i).overload ≤ load then faultFn i .overload (reportRead i d r s)
      else slideHydReport i load (reportRead i d r s)) := by
  have h := slotReport_slideHyd hr hload (by rw [hm]; rfl) hk hq
  have ha : (reportRead i d r s).moves i = true := by
    simp [State.moves, reportRead_fn, (readReport_move ..).1, hm]
  rw [hydReport, if_pos ha, reportRead_cfg] at h
  exact h

/-- The tests of a driven SLIDE_HYD (R100), with its position and direction. -/
theorem slideHyd_driven (hraw : r.raw = some (raw : Int)) (hd : (s.cfg i).drive .a = some d)
    (hm : (s.fn i).activity = .moving) (ho : load < (s.cfg i).overload) {dir : Direction}
    (hdir : (s.fn i).chA.direction = some dir) : Turned (slotReport i d s).1
      (if pastStart s.now (s.fn i).chA ∧ (s.cfg i).endPressure ≤ load then
        if inWindow (s.cfg i) dir (min raw (s.cfg i).stroke) then endReached i dir false (reportRead i d r s)
        else faultFn i .obstruction (reportRead i d r s)
      else if (s.fn i).verb = some .goto ∧ gap ((s.fn i).target.getD 0) (min raw (s.cfg i).stroke) ≤ 2 then
        targetReached i (reportRead i d r s)
      else reportRead i d r s) := by
  have h := slideHyd_moving hr hload hk hq hm
  rw [if_neg (by omega)] at h
  have hp := reportRead_position hraw (i := i) (s := s) (by rw [hk]; rfl) hd
  obtain ⟨-, -, hv, htg, -, -, hdi, hst⟩ := readReport_move s (s.cfg i) d r (s.fn i)
  have hv' : ((reportRead i d r s).fn i).verb = (s.fn i).verb := by rw [reportRead_fn, hv]
  have htg' : ((reportRead i d r s).fn i).target = (s.fn i).target := by rw [reportRead_fn, htg]
  have hdi' : ((reportRead i d r s).fn i).chA.direction = some dir := by rw [reportRead_fn, hdi, hdir]
  have hps : pastStart (reportRead i d r s).now ((reportRead i d r s).fn i).chA = pastStart s.now (s.fn i).chA := by
    simp only [pastStart, reportRead_fn, reportRead_now, hst]
  simp only [slideHydReport, hp, hdi', hps, hv', htg', reportRead_cfg, hk] at h
  exact h

end

end

/-! ### The measured half (R5, R6, R30) -/

theorem measured_eq {f g : Function} (h : measured f = measured g) :
    (∀ e, (f.chan e).position = (g.chan e).position ∧ (f.chan e).load = (g.chan e).load) ∧ f.posClass = g.posClass
      ∧ f.contact = g.contact ∧ f.contactTimer = g.contactTimer := by
  simp only [measured, Prod.mk.injEq] at h
  obtain ⟨⟨h1, h2⟩, ⟨h3, h4⟩, h5, h6, h7⟩ := h
  refine ⟨fun e => ?_, h5, h6, h7⟩
  cases e
  · exact ⟨h1, h2⟩
  · exact ⟨h3, h4⟩

theorem classOf_measured (c : FunctionConfig) {f g : Function} (h : measured f = measured g) :
    classOf c f = classOf c g := by
  obtain ⟨h1, -, -, -⟩ := measured_eq h
  have ha : f.chA.position = g.chA.position := (h1 .a).1
  have hb : f.chB.position = g.chB.position := (h1 .b).1
  simp only [classOf, ha, hb]

/-- Another slot's measured half is as it was before the report. -/
theorem reportRead_other {s : State} {i j : Slot} {d : DriveRef} {r : ChannelRecord} (h : j ≠ i) :
    (reportRead i d r s).fn j = s.fn j := putFn_fn_ne _ s (Ne.symm h)

/-- Settles O22: the report is written, the flags are judged, and then the kind's tests in their order. -/
theorem reportsMoveAndJudgeHydraulics : Obligations.ReportsMoveAndJudgeHydraulics := by
  intro s i d r raw load hl hr hraw hload c f p t
  have hme := slotReport_measured (i := i) hr
  obtain ⟨mchan, mclass, mcontact, mtimer⟩ := measured_eq (hme.fn i)
  rw [reportRead_fn] at mclass mcontact mtimer
  have hnc : f.activity = .unavailable ∨ f.activity = .faulted → f.activity.canFault = false := by
    rintro (h | h) <;> rw [h] <;> rfl
  obtain ⟨ra, ro, -, -, rf, -, -, -⟩ := readReport_move s c d r f
  refine ⟨fun e he => ?_, ?_, fun hk hp => ?_, fun hk hc hp => ?_, fun hk hc => ⟨?_, fun hp => ?_, fun hp => ?_⟩,
    fun j hj => ?_, (Acts.slotReport .refl).onlyMotionChanges hl, fun hu => ⟨?_, ?_, fun j hj hpj => ?_⟩, ?_⟩
  · obtain ⟨hp, hld⟩ := readReport_chan s (r := r) f he
    obtain ⟨mp, ml⟩ := mchan e
    rw [reportRead_fn] at mp ml
    rw [hraw] at hp
    refine ⟨ml.trans (hld.trans (by rw [hload]; rfl)), fun hm => ?_, fun hm => ?_⟩
    · exact (mp.trans hp).trans (congrArg some (positionOf_hydraulic hm e raw))
    · exact (mp.trans hp).trans (congrArg some (positionOf_motor hm e raw))
  · rw [classOf_measured c (hme.fn i), mclass, readReport_posClass, reportRead_fn]
  · exact mcontact.trans ((readReport_touches hk hload).mpr (.inr hp))
  · rw [mcontact, ← Bool.not_eq_true, readReport_touches hk hload]
    rintro (h | h)
    · simp [hc] at h
    · exact absurd h (Nat.not_le.mpr hp)
  · exact mcontact.trans ((readReport_touches hk hload).mpr (.inl hc))
  · exact mtimer.trans ((readReport_contactTimer hk hload hc).trans (if_pos hp))
  · exact mtimer.trans ((readReport_contactTimer hk hload hc).trans (if_neg (Nat.not_le.mpr hp)))
  · have hj' := hme.fn j
    rw [reportRead_other hj] at hj'
    obtain ⟨h1, h2, h3, -⟩ := measured_eq hj'
    exact ⟨h1, h2, h3⟩
  · show ((slotReport i d s).1.fn i).activity = _
    rw [slotReport_ignored hr (hnc (.inl hu)), slideTest_fn_self, reportRead_fn, ra, hu]
  · show ((slotReport i d s).1.fn i).fault = _
    rw [slotReport_ignored hr (hnc (.inl hu)), slideTest_fn_self, reportRead_fn, rf]
  · show (slotReport i d s).1.fn j = _
    rw [slotReport_ignored hr (hnc (.inl hu)), slideTest_fn_ne (by rw [reportRead_cfg]; exact hpj), reportRead_other hj]
  · intro b at_ failed ended stays quiet near
    refine ⟨fun hu => ⟨?_, ?_⟩, fun hf hb => ?_, fun hf hb hb' => ?_, fun hk hs hd hq => ?_, fun hk hd hq => ?_⟩
    · show ((slotReport i d s).1.fn i).activity = _
      rw [slotReport_ignored hr (hnc (.inr hu)), slideTest_fn_self, reportRead_fn, ra, hu]
    · show ((slotReport i d s).1.fn i).fault = _
      rw [slotReport_ignored hr (hnc (.inr hu)), slideTest_fn_self, reportRead_fn, rf]
    · exact slotReport_faulted _ hf ((slotReport_judged hr hload hf).trans (by rw [if_pos (by exact hb)]))
    · exact slotReport_faulted _ hf ((slotReport_judged hr hload hf).trans (by
        rw [if_neg (by simpa only [reportDriverFault, b, hb] using Bool.false_ne_true), if_pos (by exact hb')]))
    · intro grounding touches
      have hg : grounding ↔ s.onGround i = true := (onGround_iff s i).symm
      have hng : ¬grounding → s.onGround i = false := fun h => by simpa using fun k => h (hg.mpr k)
      have hpos := reportRead_position hraw (i := i) (s := s) (by rw [hk]; rfl) hd
      have hnear : f.target.isSome = true → (allWithin c ((reportRead i d r s).fn i) (f.target.getD 0) 2 = true ↔ near) := by
        intro ht
        obtain ⟨x, hx⟩ := Option.isSome_iff_exists.mp ht
        rw [allWithin_single hs _ _ _ hpos]
        simp [near, hx, at_, c]
      refine ⟨fun hm ho => jack_overloads hr hload hk hq hm ho, fun h ht hm => jack_grounds hr hload hk hq (hg.mp h) ht hm,
        fun h ht hm ho he => jack_noGround hr hload hk hq hraw hd (hg.mp h) ht hm ho he,
        fun h ht hm ho he => jack_groundStays hr hload hk hq hraw hd (hg.mp h) ht hm ho he,
        fun h hm ho => ⟨fun hv hn => ?_, fun hv ht hn => ?_, fun hv he => ?_, fun hv he => ?_, fun hv he => ?_,
          fun hv he => ?_⟩,
        fun h hf hm => jack_rests hr hload hk hq (hng h) hf hm⟩
      all_goals obtain ⟨jg, je, jr⟩ := jack_judged hr hload hk hq (hng h) hm ho
      · have ht : f.target.isSome = true := by
          cases hx : f.target with
          | none => simp [near, hx] at hn
          | some x => rfl
        have h' := jg hv
        rw [if_pos ((hnear ht).mpr hn)] at h'
        exact slotReport_ended h'
      · have h' := jg hv
        rw [if_neg (fun k => hn ((hnear ht).mp k))] at h'
        exact slotReport_stays h'
      · have h' := je hv
        rw [hpos, if_pos (by simpa only [Option.any_some, inWindow, decide_eq_true_eq] using he)] at h'
        exact slotReport_ended h'
      · have h' := je hv
        rw [hpos, if_neg (by simpa only [Option.any_some, inWindow, decide_eq_true_eq] using Nat.not_le.mpr he)] at h'
        exact slotReport_stays h'
      · have h' := jr hv
        rw [hpos, if_pos (by simpa only [Option.any_some, inWindow, decide_eq_true_eq] using he)] at h'
        exact slotReport_ended h'
      · have h' := jr hv
        rw [hpos, if_neg (by simpa only [Option.any_some, inWindow, decide_eq_true_eq] using Nat.not_le.mpr he)] at h'
        exact slotReport_stays h'
    · refine ⟨fun hf hm => slideHyd_rests hr hload hk hq hf hm, fun hm ho => ?_, fun dir hm ho hdir => ?_⟩
      · have h' := slideHyd_moving hr hload hk hq hm
        rw [if_pos ho] at h'
        exact slotReport_failed h' (by rw [hm]; rfl)
      · intro inside early
        have h' := slideHyd_driven hr hload hk hq hraw hd hm ho hdir
        have hps : pastStart s.now (s.fn i).chA = true ↔ ¬early := pastStart_iff ..
        have hin : inWindow c dir at_ = true ↔ inside := by cases dir <;> simp [inWindow, inside]
        have hnot : early ∨ load < c.endPressure → ¬(pastStart s.now (s.fn i).chA = true ∧ (s.cfg i).endPressure ≤ load) := by
          rintro (h | h) ⟨k1, k2⟩
          · exact hps.mp k1 h
          · exact absurd k2 (Nat.not_le.mpr h)
        refine ⟨fun he hp hi => ?_, fun he hp hi => ?_, fun hep hv hn => ?_, fun hep hv => ?_⟩
        · rw [if_pos ⟨hps.mpr he, hp⟩, if_pos (hin.mpr hi)] at h'
          exact slotReport_ended h'
        · rw [if_pos ⟨hps.mpr he, hp⟩, if_neg (fun k => hi (hin.mp k))] at h'
          exact slotReport_failed h' (by rw [hm]; rfl)
        · rw [if_neg (hnot hep), if_pos ⟨hv, by
            cases hx : f.target with
            | none => simp [near, hx] at hn
            | some x => simpa [near, hx, at_, c] using hn⟩] at h'
          exact slotReport_ended h'
        · rw [if_neg (hnot hep), if_neg (by
            rintro ⟨k1, k2⟩
            rcases hv with h | ⟨h1, h2⟩
            · exact h k1
            · obtain ⟨x, hx⟩ := Option.isSome_iff_exists.mp h1
              have hx' : (s.fn i).target = some x := hx
              rw [hx'] at k2
              exact h2 (by simpa [near, hx, at_, c] using k2))] at h'
          exact slotReport_stays h'

end Sys2Proof.Proofs
end

section
/-! PROOFS. The hold, wait, contact-loss, stale and silence timers (O29): what each expiry writes, and that it is the
command's next state where nothing follows from it. -/

namespace Sys2Proof.Proofs
open Sys2Proof.Machine Sys2Proof.Laws

/-! ### Rules of the operations the expiries use -/

/-- A release of a hold leaves every hold record as it was. -/
theorem stopFn_released_hold (place : Bool) (i j : Slot) (s : State) :
    (stopFn place i .holdReleased s).hold j = s.hold j := by
  apply hold_congr
  simp only [stopFn]
  (repeat' split) <;> simp_all

/-- A stop, like every end of a move, adds nothing to the wait list. -/
theorem stopFn_waits {place : Bool} {i : Slot} {r : StopReason} {s : State} {e : WaitEntry}
    (h : e ∈ (stopFn place i r s).manifold.waitList) : e ∈ s.manifold.waitList := by
  rw [stopFn_manifold] at h
  split at h
  · exact List.mem_of_mem_filter h
  · exact h

theorem stopAll_waits {place : Bool} {r : StopReason} {is : List Slot} {s : State} {e : WaitEntry}
    (h : e ∈ (stopAll place r is s).manifold.waitList) : e ∈ s.manifold.waitList := by
  induction is generalizing s with
  | nil => exact h
  | cons i is ih => exact stopFn_waits (ih (s := stopFn place i r s) h)

theorem closeSequence_waits (r : SeqResult) (s : State) :
    (closeSequence r s).manifold.waitList = s.manifold.waitList := by
  simp only [closeSequence, (levelFrame_frame _).2.2.2.1, releaseSequenceGrant]
  (repeat' split) <;> rfl

theorem endSequence_waits {place : Bool} {result : SeqResult} {r : StopReason} {s : State} {e : WaitEntry}
    (h : e ∈ (endSequence place result r s).manifold.waitList) : e ∈ s.manifold.waitList := by
  cases hr : s.seqRuns with
  | false => rwa [endSequence_none _ _ _ hr] at h
  | true =>
    rw [endSequence_runs _ _ _ hr, closeSequence_waits] at h
    exact stopAll_waits h

/-- A jack's disturbance clears the levelled flag (R32). -/
theorem putFn_disturbs {i : Slot} {f : Function} {s : State} (hj : s.isJack i = true)
    (hd : disturbsLevel (s.fn i) f = true) : (putFn i f s).monitor.levelled = false := by
  have hj' : (s.storeFn i f).isJack i = true := hj
  have hl : (judgeLevelled i (s.fn i) f (s.storeFn i f)).monitor.levelled = false := by
    simp [judgeLevelled, hj', hd]
  simp only [putFn]
  split
  · simpa [judgeOwedStowed, apply_ite] using hl
  · rw [(functionFrame_frame ..).2.2.1]
    simpa [judgeOwedStowed, apply_ite] using hl

/-- One cause faults every slot of a list that can fault, and no other. -/
theorem foldl_failFn_fn (is : List Slot) (c : FaultCode) (s : State) (j : Slot) :
    (is.foldl (fun s i => failFn i c s) s).fn j
      = if j ∈ is ∧ (s.fn j).activity.canFault = true then (s.fn j).failed c else s.fn j := by
  induction is generalizing s with
  | nil => simp
  | cons i is ih =>
    rw [List.foldl_cons, ih, failFn_fn]
    by_cases hji : j = i
    · subst hji
      have hfail : ((s.fn j).failed c).activity.canFault = false := rfl
      cases hf : (s.fn j).activity.canFault <;> simp [hf, hfail]
    · simp [hji]

theorem foldl_failFn_sequence (is : List Slot) (c : FaultCode) (s : State) :
    (is.foldl (fun s i => failFn i c s) s).sequence = s.sequence :=
  foldl_sequence (fun _ _ => failFn_sequence ..) is s

/-- What one cause does to every slot: those of its list that can fault do, and where it took one of a running
sequence, the other jacks of the sequence stop (R16, R94). -/
theorem faultFns_fn (is : List Slot) (c : FaultCode) (s : State) (j : Slot) : (faultFns is c s).fn j
    = if j ∈ is ∧ (s.fn j).activity.canFault = true then (s.fn j).failed c
      else if (∃ i ∈ is, (s.fn i).activity.canFault = true ∧ s.isTaken i = true) ∧ s.isTaken j = true
          ∧ (s.fn j).activity.isBusy = true then (s.fn j).stopped .stopped
      else s.fn j := by
  have ht : ∀ i, (is.foldl (fun s i => failFn i c s) s).isTaken i = s.isTaken i := fun i => by
    simp only [State.isTaken, State.seqRuns, foldl_failFn_sequence]
  have hany : (is.any fun i => (s.fn i).activity.canFault && s.isTaken i) = true
      ↔ ∃ i ∈ is, (s.fn i).activity.canFault = true ∧ s.isTaken i = true := by simp
  simp only [faultFns]
  by_cases h : (is.any fun i => (s.fn i).activity.canFault && s.isTaken i) = true
  · rw [if_pos h, endSequence_fn, foldl_failFn_fn, ht]
    by_cases hj : j ∈ is ∧ (s.fn j).activity.canFault = true
    · simp only [if_pos hj, Function.failed, Activity.isBusy, Bool.false_eq_true, and_false, if_false]
    · simp only [if_neg hj, hany.mp h, true_and]
  · rw [if_neg h, foldl_failFn_fn]
    by_cases hj : j ∈ is ∧ (s.fn j).activity.canFault = true
    · rw [if_pos hj, if_pos hj]
    · rw [if_neg hj, if_neg hj, if_neg (fun k => h (hany.mpr k.1))]

theorem setNode_node_ne (s : State) {n k : Nat} (x : Node) (h : k ≠ n) : (s.setNode n x).node k = s.node k := by
  simp only [State.setNode]
  split
  · next i hi =>
      simp only [nodeIndex] at hi
      split at hi
      · obtain rfl := Option.some.inj hi
        simp only [State.node, nodeIndex]
        split
        · next k' hk =>
            split at hk
            · obtain rfl := Option.some.inj hk
              rename_i h1 h2
              simp only [Fin.getElem_fin]
              exact Vector.getElem_set_ne _ _ (by omega)
            · simp at hk
        · rfl
      · simp at hi
  · rfl

/-! ### Hold, wait and contact-loss timers (R23, R57, R30) -/

theorem putHold_followed (i : Slot) (h : Hold) (s : State) : SameFollowed (putHold i h s) s :=
  ⟨by constructor <;> intros <;> rfl, rfl, rfl, rfl⟩

theorem holdExpiry_acts {s : State} {i : Slot} (hs : s.isReady = true) (hd : s.LinkDrained) :
    let released := putHold i { s.hold i with state := .none, verb := none, timer := none } s
    let t := stopFn true i .holdReleased released
    let mine := (s.hold i).state = .active ∧ (s.cfg i).mode = .hold ∧ (s.fn i).owner = .operator
      ∧ ((s.fn i).activity = .waiting ∨ (s.fn i).activity = .moving)
    ((s.hold i).timer.isSome = true → ¬ mine → exec (.holdTimerExpiry i) s = .next released)
    ∧ ((s.hold i).timer.isSome = true → mine → nothingFollows s t = true →
      exec (.holdTimerExpiry i) s = .next t
        ∧ t.fn i = (s.fn i).stopped .holdReleased ∧ (t.hold i).state = .none
        ∧ (∀ j, j ≠ i → t.fn j = s.fn j) ∧ onlyMotionChanges s t) := by
  intro released t mine
  have hfirst : (s.hold i).timer.isSome = true →
      firstOf (.holdTimerExpiry i) s = (holdExpired i s, []) := fun ht => if_pos ht
  have hfn : ∀ j, released.fn j = s.fn j := fun j => rfl
  refine ⟨fun ht hm => ?_, fun ht hm hn => ⟨?_, ?_, ?_, fun j hj => ?_, ?_⟩⟩
  · exact exec_same hs rfl (by simp [restartsAt])
      ((hfirst ht).trans (congrArg (·, []) (if_neg hm))) (putHold_followed ..)
  · exact exec_quiet hs rfl (by simp [restartsAt]) ((hfirst ht).trans (congrArg (·, []) (if_pos hm))) hn
  · have hb : (released.fn i).activity.isBusy = true := by
      rw [hfn]
      rcases hm.2.2.2 with h | h <;> rw [h] <;> rfl
    exact stopFn_fn true i .holdReleased released hb
  · simp only [t, released, stopFn_released_hold, putHold_hold]
  · simp only [t, stopFn_fn_if, if_neg (fun k : j = i ∧ _ => hj k.1), hfn]
  · exact (Acts.stopFn (Acts.putHold .refl)).onlyMotionChanges hd

theorem waitExpired_taken {s : State} {i : Slot} (ht : s.isTaken i = true) :
    waitExpired i s = abortSequence true .stopped (stopFn true i .resourceTimeout s) := by simp [waitExpired, ht]

theorem waitExpired_free {s : State} {i : Slot} (ht : s.isTaken i = false) :
    waitExpired i s = stopFn true i .resourceTimeout s := by simp [waitExpired, ht]

theorem isTaken_congr {s t : State} (h : t.sequence = s.sequence) (i : Slot) : t.isTaken i = s.isTaken i := by
  simp only [State.isTaken, State.seqRuns, h]

/-- The stop of a function that a sequence took, and the abort that follows (R57, R92). -/
theorem waitExpired_fn_self {s : State} {i : Slot} (hb : (s.fn i).activity.isBusy = true) :
    (waitExpired i s).fn i = (s.fn i).stopped .resourceTimeout := by
  have h := stopFn_fn true i .resourceTimeout s hb
  cases ht : s.isTaken i with
  | false => rw [waitExpired_free ht, h]
  | true => rw [waitExpired_taken ht, abortSequence_fn, h, if_neg (by simp [Function.stopped, Activity.isBusy])]

theorem waitExpiry_acts {s : State} {i : Slot} (hs : s.isReady = true) (hd : s.LinkDrained) :
    let t := waitExpired i s
    (s.waitTimer i).isSome = true → (s.fn i).activity.isBusy = true →
    (nothingFollows s t = true → exec (.waitTimerExpiry i) s = .next t)
    ∧ t.fn i = (s.fn i).stopped .resourceTimeout ∧ (∀ e ∈ t.manifold.waitList, e.slot ≠ i) ∧ onlyMotionChanges s t
    ∧ (s.isTaken i = false → t.sequence = s.sequence ∧ ∀ j, j ≠ i → t.fn j = s.fn j)
    ∧ (s.isTaken i = true → t.sequence.phase = .idle ∧ t.sequence.result = some (.aborted .stopped)
      ∧ (∀ j, j ≠ i → j ∉ s.sequence.taken → t.fn j = s.fn j)
      ∧ ∀ j ∈ s.sequence.taken, j ≠ i → t.fn j
        = if (s.fn j).activity.isBusy then (s.fn j).stopped .stopped else s.fn j) := by
  intro t ht hb
  have hq : (stopFn true i .resourceTimeout s).sequence = s.sequence := by simp
  have hne : ∀ j, j ≠ i → (stopFn true i .resourceTimeout s).fn j = s.fn j := fun j hj =>
    stopFn_fn_ne true .resourceTimeout s (Ne.symm hj)
  refine ⟨fun hn => exec_quiet hs rfl (by simp [restartsAt]) (if_pos ht) hn, waitExpired_fn_self hb, fun e he => ?_,
    (Acts.waitExpired .refl).onlyMotionChanges hd, fun hf => ?_, fun hk => ?_⟩
  · have hmem : e ∈ (stopFn true i .resourceTimeout s).manifold.waitList := by
      cases hk : s.isTaken i with
      | false => simpa only [t, waitExpired_free hk] using he
      | true =>
        simp only [t, waitExpired_taken hk] at he
        exact endSequence_waits he
    rw [stopFn_manifold, if_pos hb] at hmem
    simpa using (List.mem_filter.mp hmem).2
  · simp only [t, waitExpired_free hf]
    exact ⟨hq, hne⟩
  · have hr : (stopFn true i .resourceTimeout s).seqRuns = true := by
      simp only [State.seqRuns, hq]
      exact ((isTaken_iff s i).mp hk).1
    have hrs : s.seqRuns = true := ((isTaken_iff s i).mp hk).1
    simp only [t, waitExpired_taken hk, abortSequence_sequence, hr, if_true, hq, abortSequence_fn, isTaken_congr hq]
    refine ⟨rfl, rfl, fun j hj hjt => ?_, fun j hj hji => ?_⟩
    · rw [if_neg (fun k => hjt ((isTaken_iff s j).mp k.1).2), hne j hj]
    · rw [hne j hji]
      simp [State.isTaken, hrs, hj, AbortReason.stopReason]

theorem contactLost_finished {s : State} {i : Slot} (h : s.sequence.phase = .ground ∧ s.isTaken i = true
    ∧ i ∈ s.sequence.finished) : contactLost i s
      = ({ putFn i { s.fn i with contact := false, contactTimer := none } s with
          sequence := { s.sequence with finished := s.sequence.finished.filter (· != i) } }, [.groundRequest i]) := by
  have hq : (putFn i { s.fn i with contact := false, contactTimer := none } s).sequence = s.sequence := by simp
  simp only [contactLost, hq, isTaken_congr hq, State.isFinished, State.setSeq]
  exact if_pos (by simpa using h)

theorem contactLost_other {s : State} {i : Slot} (h : ¬(s.sequence.phase = .ground ∧ s.isTaken i = true
    ∧ i ∈ s.sequence.finished)) : contactLost i s
      = (putFn i { s.fn i with contact := false, contactTimer := none } s, []) := by
  have hq : (putFn i { s.fn i with contact := false, contactTimer := none } s).sequence = s.sequence := by simp
  simp only [contactLost, hq, isTaken_congr hq, State.isFinished]
  exact if_neg (by simpa using h)

theorem contactLoss_acts {s : State} {i : Slot} (hs : s.isReady = true) (hd : s.LinkDrained) :
    let t := putFn i { s.fn i with contact := false, contactTimer := none } s
    let regained := s.sequence.phase = .ground ∧ s.isTaken i = true ∧ i ∈ s.sequence.finished
    ((s.fn i).contactTimer.isSome = true → ¬ regained → nothingFollows s t = true →
      exec (.contactLossTimerExpiry i) s = .next t)
    ∧ (regained → contactLost i s = ({ t with
        sequence := { s.sequence with finished := s.sequence.finished.filter (· != i) } }, [.groundRequest i]))
    ∧ (t.fn i).contact = false ∧ (t.fn i).contactTimer = none ∧ (t.fn i).activity = (s.fn i).activity
    ∧ (∀ j, j ≠ i → t.fn j = s.fn j) ∧ onlyMotionChanges s t
    ∧ (s.isJack i = true → (s.fn i).contact = true → t.monitor.levelled = false) := by
  intro t regained
  have hfn : t.fn i = { s.fn i with contact := false, contactTimer := none } := putFn_fn ..
  refine ⟨fun ht hg hn => exec_quiet hs rfl (by simp [restartsAt]) ((if_pos ht).trans (contactLost_other hg)) hn,
    contactLost_finished, by rw [hfn], by rw [hfn], by rw [hfn], fun j hj => putFn_fn_ne _ s (Ne.symm hj),
    (Acts.putFn .refl).onlyMotionChanges hd, fun hj hc => putFn_disturbs hj (by simp [disturbsLevel, hc])⟩

/-! ### Stale signals (R27) -/

/-- A signal that keeps its value reads as before. -/
theorem setSignal_followed {s : State} {g : Signal} {r : SignalRecord} (h : r.value = (s.signal g).value) :
    SameFollowed (s.setSignal g r) s := by
  refine ⟨?_, rfl, rfl, rfl⟩
  constructor
  case signals =>
    refine Vector.ext fun k hk => ?_
    simp only [State.setSignal, Vector.getElem_map, Vector.getElem_set]
    split
    · next e => subst e; exact h
    · rfl
  all_goals intros; rfl

theorem staleExpiry_acts {s : State} {g : Signal} (hs : s.isReady = true) :
    let r := s.signal g
    let c := s.settings.signals[signalIndex g]
    let v := match c.policy with
      | .hold => r.value
      | .safe => c.safeValue
    let t := s.setSignal g { r with value := v, fresh := false, timer := none }
    r.timer.isSome = true →
      (v = r.value → exec (.staleTimerExpiry g) s = .next t)
      ∧ (v ≠ r.value → nothingFollows s (handOver g t) = true →
        exec (.staleTimerExpiry g) s = .next (handOver g t)) := by
  intro r c v t ht
  have hfirst : firstOf (.staleTimerExpiry g) s = (staleExpired g s, []) := if_pos ht
  have hst : staleExpired g s = if v = r.value then t else handOver g t := rfl
  refine ⟨fun hv => ?_, fun hv hn => ?_⟩
  · exact exec_same hs rfl (by simp [restartsAt]) (hfirst.trans (congrArg (·, []) (hst.trans (if_pos hv))))
      (setSignal_followed hv)
  · exact exec_quiet hs rfl (by simp [restartsAt]) (hfirst.trans (congrArg (·, []) (hst.trans (if_neg hv)))) hn

/-! ### Silence (R63, R166) -/

/-- The node is SILENT. -/
def silenced (n : Nat) (s : State) : State := s.setNode n { s.node n with state := .silent, silenceTimer := none }

/-- The faults of the slots bound to it. -/
def silenceFaults (n : Nat) (s : State) : State :=
  faultFns (slots.filter fun i => (s.boundNodes i).contains n) .nodeSilent (silenced n s)

theorem silenced_settings (n : Nat) (s : State) : (silenced n s).settings = s.settings := by simp [silenced]

theorem silenced_fn (n : Nat) (s : State) (i : Slot) : (silenced n s).fn i = s.fn i := fn_congr (by simp [silenced]) i

theorem silentNode_eq (n : Nat) (s : State) : silentNode n s
    = if s.settings.manifold.pump.any (fun d => d.node == n) then stopPump true (silenceFaults n s)
      else silenceFaults n s := by
  have hset : (silenced n s).settings = s.settings := silenced_settings n s
  have hb : ∀ i, (silenced n s).boundNodes i = s.boundNodes i := fun i => by
    unfold State.boundNodes State.cfg
    rw [hset]
  have hf : (silenceFaults n s).settings = s.settings := by
    simp only [silenceFaults, (faultFns_kept _ _ _).2, hset]
  simp only [silentNode]
  rw [show s.setNode n { s.node n with state := .silent, silenceTimer := none } = silenced n s from rfl]
  simp only [hb]
  rw [show faultFns (slots.filter fun i => (s.boundNodes i).contains n) .nodeSilent (silenced n s)
    = silenceFaults n s from rfl, hf]

theorem silentNode_fn (n : Nat) (s : State) (i : Slot) : (silentNode n s).fn i = (silenceFaults n s).fn i := by
  rw [silentNode_eq]
  split
  · exact fn_congr (by simp) i
  · rfl

theorem silenceFaults_acts (n : Nat) (s : State) : Acts (silenced n s) (silentNode n s) := by
  rw [silentNode_eq]
  exact (Acts.faultFns .refl).stopPump.ite (.faultFns .refl)

theorem silenced_drained {n : Nat} {s : State} (hd : s.LinkDrained) : (silenced n s).LinkDrained := by
  simpa [State.LinkDrained, silenced] using hd

theorem silentNode_node {n : Nat} {s : State} (hd : s.LinkDrained) (k : Nat) :
    (silentNode n s).node k = (silenced n s).node k := by
  simp only [State.node, (silenceFaults_acts n s).nodes (silenced_drained hd)]

theorem silenceFaults_fn (n : Nat) (s : State) (j : Slot) : (silenceFaults n s).fn j
    = if n ∈ s.boundNodes j ∧ (s.fn j).activity.canFault = true then (s.fn j).failed .nodeSilent
      else if (∃ i, n ∈ s.boundNodes i ∧ (s.fn i).activity.canFault = true ∧ s.isTaken i = true) ∧ s.isTaken j = true
          ∧ (s.fn j).activity.isBusy = true then (s.fn j).stopped .stopped
      else s.fn j := by
  have hq : (silenced n s).sequence = s.sequence := by simp [silenced]
  rw [silenceFaults, faultFns_fn]
  simp only [silenced_fn, isTaken_congr hq, List.mem_filter, mem_slots, true_and, List.contains_iff_mem]

theorem canFault_of_busy {a : Activity} (h : a.isBusy = true) : a.canFault = true := by
  revert h
  cases a <;> decide

theorem silence_acts {s : State} {n : Nat} (hs : s.isReady = true) (hd : s.LinkDrained) (h1 : 1 ≤ n) (h24 : n ≤ 24)
    (ht : (s.node n).silenceTimer.isSome = true) :
    let t := silentNode n s
    (nothingFollows s t = true → exec (.silenceTimerExpiry n) s = .next t)
    ∧ (∀ i, n ∈ s.boundNodes i → (s.fn i).activity.canFault = true →
      (t.fn i).activity = .faulted ∧ (t.fn i).fault = some .nodeSilent ∧ (t.fn i).lastStop = (s.fn i).lastStop)
    ∧ (∀ i, (s.fn i).activity.canFault = false → t.fn i = s.fn i)
    ∧ (∀ i, n ∉ s.boundNodes i → s.isTaken i = false → t.fn i = s.fn i)
    ∧ (∀ d, s.settings.manifold.pump = some d → d.node = n → t.manifold.pump.isOn = false)
    ∧ (t.node n).state = .silent ∧ (t.node n).silenceTimer = none
    ∧ (∀ k, 1 ≤ k → k ≤ 24 → k ≠ n → t.node k = s.node k)
    ∧ onlyMotionChanges { s with link := { s.link with nodes := t.link.nodes } } t := by
  intro t
  have hn : t.node n = { s.node n with state := .silent, silenceTimer := none } :=
    (silentNode_node hd n).trans (setNode_node s _ ⟨h1, h24⟩)
  refine ⟨fun hq => exec_quiet hs rfl (by simp [restartsAt]) (if_pos ht) hq, fun i hi hf => ?_, fun i hf => ?_,
    fun i hi hk => ?_, fun d hp hdn => ?_, by rw [hn], by rw [hn], fun k _ _ hk => ?_,
    (setNode_onlyMotion ..).trans (silenceFaults_acts n s).onlyMotion⟩
  · rw [silentNode_fn, silenceFaults_fn, if_pos ⟨hi, hf⟩]
    exact ⟨rfl, rfl, rfl⟩
  · rw [silentNode_fn, silenceFaults_fn, if_neg (by simp [hf]), if_neg (fun k => by simp [canFault_of_busy k.2.2] at hf)]
  · rw [silentNode_fn, silenceFaults_fn, if_neg (fun k => hi k.1), if_neg (by simp [hk])]
  · simp only [t]
    rw [silentNode_eq, if_pos (by simp [hp, hdn])]
    exact stopPump_off ..
  · exact (silentNode_node hd k).trans (setNode_node_ne s _ hk)

/-- Settles O29. -/
theorem holdWaitStaleContactAndSilenceTimersAct : Obligations.HoldWaitStaleContactAndSilenceTimersAct :=
  fun _ hs hd => ⟨fun _ => holdExpiry_acts hs hd, fun _ => waitExpiry_acts hs hd, fun _ => contactLoss_acts hs hd,
    fun _ => staleExpiry_acts hs, fun _ h1 h24 ht => silence_acts hs hd h1 h24 ht⟩

end Sys2Proof.Proofs
end

section
/-! PROOFS. The pump and the alarms through the ends of moves, and what an accepted request writes: rules for the
expiries of the pump, the supply and the wind, and for the requests. -/

namespace Sys2Proof.Proofs
open Sys2Proof.Machine Sys2Proof.Laws

/-! ### The pump's half of the manifold -/

/-- Of the manifold only the wait list and the holder change. -/
def PumpKept (t s : State) : Prop := ∃ w h, t.manifold = { s.manifold with waitList := w, holder := h }

theorem PumpKept.refl (s : State) : PumpKept s s := ⟨s.manifold.waitList, s.manifold.holder, rfl⟩

theorem PumpKept.trans {u t s : State} (h : PumpKept u t) (k : PumpKept t s) : PumpKept u s := by
  obtain ⟨w, g, e⟩ := h
  obtain ⟨w', g', e'⟩ := k
  exact ⟨w, g, by rw [e, e']⟩

theorem PumpKept.of_manifold {t s : State} (h : t.manifold = s.manifold) : PumpKept t s :=
  ⟨s.manifold.waitList, s.manifold.holder, h⟩

theorem PumpKept.ite {c : Prop} [Decidable c] {t u s : State} (h : PumpKept t s) (k : PumpKept u s) :
    PumpKept (if c then t else u) s := by
  split
  · exact h
  · exact k

theorem PumpKept.fold {α : Type} {f : State → α → State} (hf : ∀ s a, PumpKept (f s a) s) (l : List α) (s : State) :
    PumpKept (l.foldl f s) s := by
  induction l generalizing s with
  | nil => exact .refl s
  | cons a l ih => exact (ih _).trans (hf s a)

theorem PumpKept.stopFn (place : Bool) (i : Slot) (r : StopReason) (s : State) : PumpKept (stopFn place i r s) s := by
  refine ⟨(Machine.stopFn place i r s).manifold.waitList, s.manifold.holder, ?_⟩
  rw [stopFn_manifold]
  split <;> rfl

theorem PumpKept.stopAll (place : Bool) (r : StopReason) (is : List Slot) (s : State) :
    PumpKept (stopAll place r is s) s := .fold (fun s i => .stopFn place i r s) is s

theorem PumpKept.closeSequence (r : SeqResult) (s : State) : PumpKept (closeSequence r s) s := by
  refine ⟨s.manifold.waitList, (Machine.closeSequence r s).manifold.holder, ?_⟩
  simp only [Machine.closeSequence, (levelFrame_frame _).2.2.2.1, releaseSequenceGrant]
  (repeat' split) <;> rfl

theorem PumpKept.endSequence (place : Bool) (result : SeqResult) (r : StopReason) (s : State) :
    PumpKept (endSequence place result r s) s :=
  ((PumpKept.closeSequence ..).trans (.stopAll ..)).ite (.refl s)

theorem PumpKept.failFn (i : Slot) (c : FaultCode) (s : State) : PumpKept (failFn i c s) s := by
  have hleave : PumpKept (leaveList i (holdMoved true i s)) s :=
    PumpKept.trans ⟨_, _, rfl⟩ (.of_manifold (by simp))
  unfold Machine.failFn
  exact ((PumpKept.of_manifold (by simp)).trans hleave).ite (.refl s)

theorem PumpKept.faultFns (is : List Slot) (c : FaultCode) (s : State) : PumpKept (faultFns is c s) s :=
  ((PumpKept.endSequence ..).trans (.fold (fun s i => .failFn i c s) is s)).ite (.fold (fun s i => .failFn i c s) is s)

/-- A running pump that is stopped gives up its claim and rests (R60). -/
theorem stopPump_stopped {place : Bool} {s : State} (h : s.manifold.pump.isOn = true) :
    (stopPump place s).manifold = { s.manifold with
        pump := .stopped, primeTimer := none, holdOnTimer := none
        restTimer := some (s.now + s.settings.manifold.coolDown * 1000) }
      ∧ ∀ c ∈ (stopPump place s).budget.claims, c.claimant ≠ .pump := by
  have hs : stopPump place s = (dropClaim .pump (pumpOrder place .pumpStop 0 s)).setManifold
      { (pumpOrder place .pumpStop 0 s).manifold with
        pump := .stopped, primeTimer := none, holdOnTimer := none
        restTimer := startTimer (pumpOrder place .pumpStop 0 s).now
          ((pumpOrder place .pumpStop 0 s).settings.manifold.coolDown * 1000) } := if_pos h
  rw [hs]
  refine ⟨?_, fun c hc => ?_⟩
  · simp [startTimer]
  · simpa using (List.mem_filter.mp hc).2

theorem stopPump_fn (place : Bool) (s : State) (j : Slot) : (stopPump place s).fn j = s.fn j := fn_congr (by simp) j

/-! ### Alarms -/

theorem setAlarm_onlyAlarms (k : Alarm) (v : Bool) (s : State) : onlyMotionAndAlarmsChange s (setAlarm k v s) := by
  unfold setAlarm
  split
  · rfl
  · obtain ⟨b, q, d, o, h⟩ := queueC_shape ⟨.change, some .alarm, dataFrame (statusIdent s.store.straps 4)
      [alarmByte (s.monitor.alarms.put k v)]⟩ { s with monitor := { s.monitor with alarms := s.monitor.alarms.put k v } }
    show onlyMotionAndAlarmsChange s (queueC _ { s with monitor := { s.monitor with alarms := s.monitor.alarms.put k v } })
    rw [h]
    rfl

theorem onlyAlarms_trans {s t u : State} (h : onlyMotionAndAlarmsChange s t) (k : onlyMotionAndAlarmsChange t u) :
    onlyMotionAndAlarmsChange s u := by
  unfold onlyMotionAndAlarmsChange onlyMotionChanges at *
  rw [h] at k
  exact k

theorem onlyAlarms_of_motion {s t : State} (h : onlyMotionChanges s t) : onlyMotionAndAlarmsChange s t := by
  unfold onlyMotionAndAlarmsChange onlyMotionChanges at *
  rw [h]

theorem setAlarm_drained {k : Alarm} {v : Bool} {s : State} (hd : s.LinkDrained) : (setAlarm k v s).LinkDrained := by
  unfold setAlarm
  split
  · exact hd
  · obtain ⟨b, q, d, o, h⟩ := queueC_shape ⟨.change, some .alarm, dataFrame (statusIdent s.store.straps 4)
      [alarmByte (s.monitor.alarms.put k v)]⟩ { s with monitor := { s.monitor with alarms := s.monitor.alarms.put k v } }
    show (queueC _ { s with monitor := { s.monitor with alarms := s.monitor.alarms.put k v } }).LinkDrained
    rw [h]
    exact hd

theorem setAlarm_fn (k : Alarm) (v : Bool) (s : State) (j : Slot) : (setAlarm k v s).fn j = s.fn j :=
  fn_congr (by simp) j

theorem setAlarm_has (k : Alarm) (v : Bool) (s : State) : (setAlarm k v s).monitor.alarms.has k = v := by
  rw [setAlarm_monitor]
  exact alarms_put_has ..

/-! ### Accepted requests (R11, R12) -/

theorem preemptManifold_other {i : Slot} {s : State} (h : (s.fn i).owner ≠ .travel) : preemptManifold i s = s := by
  unfold preemptManifold
  split
  · rfl
  · simp [h]

/-- The part with an accepted request's function at its place, before the arbiter hears of it. -/
def requested (r : Request) (s : State) : State :=
  windTaken r (putFn r.slot (((preempt r s).fn r.slot).taking ((preempt r s).cfg r.slot) r) (preempt r s))

theorem accept_eq (r : Request) (s : State) : accept r s = preemptManifold r.slot (joinList r.slot (requested r s)) := rfl

theorem requested_fn (r : Request) (s : State) (j : Slot) : (requested r s).fn j
    = if j = r.slot then ((preempt r s).fn r.slot).taking (s.cfg r.slot) r else (preempt r s).fn j := by
  have hw : ∀ u : State, (windTaken r u).fn j = u.fn j := fun u => fn_congr (by simp) j
  have hc : (preempt r s).cfg r.slot = s.cfg r.slot := by simp only [State.cfg, (preempt_kept r s).2]
  rw [requested, hw, putFn_fn_if, hc]

/-- Only a TRAVEL request can take the manifold from another (R58). -/
theorem accept_other {r : Request} (h : r.owner ≠ .travel) (s : State) :
    accept r s = joinList r.slot (requested r s) := by
  rw [accept_eq]
  refine preemptManifold_other ?_
  rw [show (joinList r.slot (requested r s)).fn r.slot = (requested r s).fn r.slot from rfl, requested_fn, if_pos rfl]
  exact h

theorem accept_fn {r : Request} (h : r.owner ≠ .travel) (s : State) (j : Slot) : (accept r s).fn j
    = if j = r.slot then ((preempt r s).fn r.slot).taking (s.cfg r.slot) r else (preempt r s).fn j := by
  rw [accept_other h]
  exact requested_fn r s j

theorem accept_hold {r : Request} (h : r.owner ≠ .travel) (s : State) (j : Slot) :
    (accept r s).hold j = (preempt r s).hold j := by
  rw [accept_other h]
  refine hold_congr ?_ j
  simp [requested]

theorem accept_sequence {r : Request} (h : r.owner ≠ .travel) (s : State) :
    (accept r s).sequence = (preempt r s).sequence := by
  rw [accept_other h]
  simp [requested]

theorem preempt_fn_ne {r : Request} {s : State} (ht : s.isTaken r.slot = false ∨ r.own = true) {j : Slot}
    (hj : j ≠ r.slot) : (preempt r s).fn j = s.fn j := by
  have : (s.isTaken r.slot && !r.own) = false := by rcases ht with h | h <;> simp [h]
  simp only [preempt, this, Bool.false_eq_true, if_false]
  exact stopFn_fn_ne true .preempted s (Ne.symm hj)

theorem preempt_hold_ne {r : Request} {s : State} (ht : s.isTaken r.slot = false ∨ r.own = true) {j : Slot}
    (hj : j ≠ r.slot) : (preempt r s).hold j = s.hold j := by
  have : (s.isTaken r.slot && !r.own) = false := by rcases ht with h | h <;> simp [h]
  simp only [preempt, this, Bool.false_eq_true, if_false]
  exact stopFn_hold_ne true hj .preempted s

/-- The record an accepted request leaves. -/
theorem accept_fn_self {r : Request} (h : r.owner ≠ .travel) (s : State) :
    ((accept r s).fn r.slot).activity = .waiting ∧ ((accept r s).fn r.slot).owner = r.owner
      ∧ ((accept r s).fn r.slot).verb = some (if r.target.isSome then .goto else MoveVerb.ofDirection r.verb)
      ∧ ((accept r s).fn r.slot).target = r.target.map (clampNat 0 (s.cfg r.slot).stroke)
      ∧ ((accept r s).fn r.slot).moveSpeed = some (r.speed.getD (s.cfg r.slot).fullSpeed)
      ∧ ((accept r s).fn r.slot).lastStop = none ∧ ((accept r s).fn r.slot).drift = none := by
  rw [accept_fn h, if_pos rfl]
  exact ⟨rfl, rfl, rfl, rfl, rfl, rfl, rfl⟩

end Sys2Proof.Proofs
end

section
/-! PROOFS. The pump's, the supply's and the wind's timers (O31). -/

namespace Sys2Proof.Proofs
open Sys2Proof.Machine Sys2Proof.Laws

/-! ### What little follows from a change of the arbiter's timers -/

/-- A change that leaves the functions, the wait list, the claims, the grant, the limit and the pump calls for
nothing where the judgements hold of it. -/
theorem nothingFollows_unfollowed {s t : State} (hf : t.functions = s.functions)
    (hw : t.manifold.waitList = s.manifold.waitList) (hc : t.budget.claims = s.budget.claims)
    (hh : t.manifold.holder = s.manifold.holder) (hl : t.budget.effectiveLimit = s.budget.effectiveLimit)
    (hp : t.manifold.pump = s.manifold.pump) (hr : react [] t = none) : nothingFollows s t = true := by
  have hn : follow s (t, []) = [] := follow_nil rfl hf hw hc hh hl hp
  simp only [follow, List.append_nil, List.append_eq_nil_iff] at hn
  have hpass : passDue s t = false := by
    by_contra hne
    simp [Bool.not_eq_false _ |>.mp hne] at hn
  exact (nothingFollows_iff s t).mpr ⟨hn.1, .inl hpass, hr⟩

/-- With no function changed no clearance test is called for. -/
theorem clearanceTasks_same {s t : State} (hf : t.functions = s.functions) : clearanceTasks s t = [] := by
  simp only [clearanceTasks, List.map_eq_nil_iff, List.filter_eq_nil_iff]
  intro i _
  split <;> simp [fn_congr hf]

/-- The run time of a pump that rests plays no part in the judgements. -/
theorem react_rested {s : State} (hr : react [] s = none) :
    react [] { s with manifold := { s.manifold with runTime := 0, restTimer := none } } = none := by
  obtain ⟨h1, h2, h3, h4, h5, h6, h7, h8, h9, h10⟩ := (react_none_iff s).mp hr
  refine (react_none_iff _).mpr ⟨h1, h2, h3, ?_, h5, h6, h7, h8, h9, h10⟩
  simp only [dutyReached, Bool.and_eq_false_iff, decide_eq_false_iff_not] at h4 ⊢
  rcases h4 with h | h
  · exact .inl h
  · exact .inr (by omega)

/-- Nor does a pump that stops with no function at work. -/
theorem react_cooled {s : State} (hr : react [] s = none) : react [] { s with manifold := { s.manifold with
    pump := .stopped, runTime := 0, coolTimer := none } } = none := by
  obtain ⟨h1, h2, h3, -, -, h6, h7, h8, h9, h10⟩ := (react_none_iff s).mp hr
  exact (react_none_iff _).mpr ⟨h1, h2, h3, rfl, rfl, h6, h7, h8, h9, h10⟩

/-! ### The prime, hold-on and rest timers (R60 to R62) -/

theorem primeSlots_iff (s : State) (i : Slot) : i ∈ s.primeSlots
    ↔ (s.fn i).activity = .waiting ∧ (s.fn i).waitReason = some .prime := by
  simp [State.primeSlots, mem_slots]

theorem slotsIn_iff (s : State) (a : Activity) (i : Slot) : i ∈ s.slotsIn a ↔ (s.fn i).activity = a := by
  simp [State.slotsIn, mem_slots]

/-- A stopped pump: its claim given up, its timers idle, its rest timer started, its run time kept (R60, R61). -/
theorem stopPump_rests {s t : State} (hk : PumpKept t s) (ho : OnlyMotion s t) (h : s.manifold.pump.isOn = true) :
    (stopPump true t).manifold.pump = .stopped
      ∧ (stopPump true t).manifold.restTimer = some (s.now + s.settings.manifold.coolDown * 1000)
      ∧ (stopPump true t).manifold.primeTimer = none ∧ (stopPump true t).manifold.holdOnTimer = none
      ∧ (∀ c ∈ (stopPump true t).budget.claims, c.claimant ≠ .pump)
      ∧ (stopPump true t).manifold.runTime = s.manifold.runTime := by
  obtain ⟨w, g, e⟩ := hk
  obtain ⟨hm, hc⟩ := stopPump_stopped (place := true) (s := t) (by rw [e]; exact h)
  rw [hm, e, ho.now, ho.settings]
  exact ⟨rfl, rfl, rfl, rfl, hc, rfl⟩

theorem primeExpiry_acts {s : State} (hs : s.isReady = true) (hd : s.LinkDrained) :
    let t := primeExpired s
    s.manifold.primeTimer.isSome = true →
    (nothingFollows s t = true → exec .primeTimerExpiry s = .next t) ∧ onlyMotionChanges s t
      ∧ (∀ i, (s.fn i).activity.isBusy = false → t.fn i = s.fn i)
      ∧ (∀ i, (s.fn i).activity = .waiting → (s.fn i).waitReason = some .prime →
        (t.fn i).activity = .faulted ∧ (t.fn i).fault = some .pumpNoPressure
          ∧ (t.fn i).lastStop = (s.fn i).lastStop) := by
  intro t ht
  refine ⟨fun hn => exec_quiet hs rfl (by simp [restartsAt]) (if_pos ht) hn,
    (Acts.primeExpired .refl).onlyMotionChanges hd, fun i hb => ?_, fun i hw hp => ?_⟩
  · have hnot : i ∉ s.primeSlots := fun k => by simp [((primeSlots_iff s i).mp k).1, Activity.isBusy] at hb
    simp only [t, primeExpired, stopPump_fn, faultFns_fn, hnot, false_and, if_false, hb, Bool.false_eq_true, and_false]
  · have hf : (s.fn i).activity.canFault = true := by rw [hw]; rfl
    have hfn : t.fn i = (s.fn i).failed .pumpNoPressure := by
      simp only [t, primeExpired, stopPump_fn, faultFns_fn, if_pos (And.intro ((primeSlots_iff s i).mpr ⟨hw, hp⟩) hf)]
    rw [hfn]
    exact ⟨rfl, rfl, rfl⟩

theorem holdOnExpiry_acts {s : State} (hs : s.isReady = true) (hd : s.LinkDrained) :
    let t := stopPump true s
    s.manifold.holdOnTimer.isSome = true →
    (nothingFollows s t = true → exec .holdOnTimerExpiry s = .next t) ∧ t.functions = s.functions
      ∧ onlyMotionChanges s t :=
  fun ht => ⟨fun hn => exec_quiet hs rfl (by simp [restartsAt]) (if_pos ht) hn, by simp,
    (Acts.stopPump .refl).onlyMotionChanges hd⟩

theorem restExpiry_acts {s : State} (hs : s.isReady = true) (ht : s.manifold.restTimer.isSome = true) :
    exec .restTimerExpiry s = .next { s with manifold := { s.manifold with runTime := 0, restTimer := none } } :=
  exec_quiet hs rfl (by simp [restartsAt]) (if_pos ht)
    (nothingFollows_unfollowed rfl rfl rfl rfl rfl rfl (react_rested (ready_quiet hs)))

/-! ### The duty limit and the cool-down (R62) -/

/-- What the pump drives stops, and its waiters with it. -/
def dutyStopped (s : State) : State :=
  abortHolder (stopAll true .pumpDuty s.primeSlots (stopAll true .pumpDuty s.movingHydraulics s))

theorem dutyExpired_eq (s : State) : dutyExpired s
    = coolPump ((dutyStopped s).setManifold { (dutyStopped s).manifold with holder := none }) := rfl

theorem abortHolder_cases (s : State) : abortHolder s = s ∨ abortHolder s = abortSequence true .pumpDuty s := by
  unfold abortHolder
  split
  · split
    · exact .inr rfl
    · exact .inl rfl
  · exact .inl rfl

theorem dutyStopped_acts (s : State) : Acts s (dutyStopped s) := by
  have h : Acts s (stopAll true .pumpDuty s.primeSlots (stopAll true .pumpDuty s.movingHydraulics s)) :=
    Acts.refl.stopAll.stopAll
  rw [dutyStopped]
  rcases abortHolder_cases (stopAll true .pumpDuty s.primeSlots (stopAll true .pumpDuty s.movingHydraulics s))
    with e | e <;> rw [e]
  · exact h
  · exact h.abortSequence

theorem stopped_notBusy (f : Function) (r : StopReason) : (f.stopped r).activity.isBusy = false := rfl

/-- A busy slot that the pump drives or that waits for its pressure stops; one at rest stays. -/
theorem dutyStopped_fn (s : State) (i : Slot) :
    (i ∈ s.movingHydraulics ∨ i ∈ s.primeSlots → (dutyStopped s).fn i = (s.fn i).stopped .pumpDuty)
      ∧ ((s.fn i).activity.isBusy = false → (dutyStopped s).fn i = s.fn i) := by
  have hm : i ∈ s.movingHydraulics → (s.fn i).activity.isBusy = true := fun h => by
    rw [((slotsIn_iff s .moving i).mp (List.mem_of_mem_filter h))]; rfl
  have hp : i ∈ s.primeSlots → (s.fn i).activity.isBusy = true := fun h => by
    rw [((primeSlots_iff s i).mp h).1]; rfl
  have hstop : (stopAll true .pumpDuty s.primeSlots (stopAll true .pumpDuty s.movingHydraulics s)).fn i
      = if (i ∈ s.movingHydraulics ∨ i ∈ s.primeSlots) ∧ (s.fn i).activity.isBusy = true
        then (s.fn i).stopped .pumpDuty else s.fn i := by
    rw [stopAll_fn_if, stopAll_fn_if]
    by_cases h1 : i ∈ s.movingHydraulics
    · simp [h1, hm h1, stopped_notBusy]
    · simp [h1]
  have hkeep : ∀ u : State, (u.fn i).activity.isBusy = false → (abortHolder u).fn i = u.fn i := fun u hu => by
    rcases abortHolder_cases u with e | e <;> rw [e]
    rw [abortSequence_fn, if_neg (by simp [hu])]
  refine ⟨fun h => ?_, fun h => ?_⟩
  · have hb : (s.fn i).activity.isBusy = true := h.elim hm hp
    rw [dutyStopped, hkeep _ (by rw [hstop, if_pos ⟨h, hb⟩]; rfl), hstop, if_pos ⟨h, hb⟩]
  · rw [dutyStopped, hkeep _ (by rw [hstop, if_neg (by simp [h])]; exact h), hstop, if_neg (by simp [h])]

/-- The pump with its cool-down started, before the alarm. -/
def cooling (s : State) : State :=
  (dropClaim .pump (pumpOrder true .pumpStop 0 s)).setManifold { s.manifold with
    pump := .coolDown, primeTimer := none, holdOnTimer := none
    coolTimer := some (s.now + s.settings.manifold.coolDown * 1000) }

theorem coolPump_eq (s : State) : coolPump s = setAlarm .pumpDuty true (cooling s) := by
  simp [coolPump, cooling, startTimer]

theorem cooling_acts {s t : State} (h : Acts s t) : Acts s (cooling t) := h.pumpOrder.dropClaim.setManifold

theorem cooling_fn (s : State) (j : Slot) : (cooling s).fn j = s.fn j :=
  fn_congr (show (pumpOrder true .pumpStop 0 s).functions = s.functions by simp) j

theorem cooling_claims (s : State) : ∀ c ∈ (cooling s).budget.claims, c.claimant ≠ .pump := fun c hc => by
  simpa using (List.mem_filter.mp (show c ∈ (pumpOrder true .pumpStop 0 s).budget.claims.filter _ from hc)).2

theorem dutyExpiry_acts {s : State} (hs : s.isReady = true) (hd : s.LinkDrained) :
    s.manifold.pump.isOn = true →
      let rest := some (s.now + s.settings.manifold.coolDown * 1000)
      let t := dutyExpired { s with manifold := { s.manifold with
        runTime := s.settings.manifold.dutyLimit * 1000 } }
      (nothingFollows s t = true → exec .pumpDutyLimitReached s = .next t)
        ∧ t.manifold.pump = .coolDown ∧ t.manifold.coolTimer = rest ∧ t.manifold.holder = none
        ∧ t.monitor.alarms.pumpDuty = true ∧ (∀ c ∈ t.budget.claims, c.claimant ≠ .pump)
        ∧ (∀ i, (s.cfg i).kind.isHydraulic = true → (s.fn i).activity = .moving →
          t.fn i = (s.fn i).stopped .pumpDuty)
        ∧ (∀ i, (s.fn i).activity = .waiting → (s.fn i).waitReason = some .prime →
          t.fn i = (s.fn i).stopped .pumpDuty)
        ∧ (∀ i, (s.fn i).activity.isBusy = false → t.fn i = s.fn i) ∧ onlyMotionAndAlarmsChange s t := by
  intro hon rest t
  let full : State := { s with manifold := { s.manifold with runTime := s.settings.manifold.dutyLimit * 1000 } }
  let open_ : State := (dutyStopped full).setManifold { (dutyStopped full).manifold with holder := none }
  have hfull : Acts s full := Acts.refl.setManifold
  have hopen : Acts s open_ := (hfull.trans (dutyStopped_acts full)).setManifold
  have ht : t = setAlarm .pumpDuty true (cooling open_) := coolPump_eq open_
  have hman : t.manifold = (cooling open_).manifold := by rw [ht]; simp
  have hbud : t.budget = (cooling open_).budget := by rw [ht]; simp
  have hfn : ∀ i, t.fn i = (dutyStopped full).fn i := fun i => by rw [ht, setAlarm_fn, cooling_fn]; rfl
  have hmo := hopen.onlyMotion
  refine ⟨fun hn => exec_quiet hs rfl (by simp [restartsAt]) (congrArg (·, []) (if_pos hon)) hn, by rw [hman]; rfl, ?_,
    by rw [hman]; rfl, by rw [ht]; exact setAlarm_has .pumpDuty true _, by rw [hbud]; exact cooling_claims _,
    fun i hk hm => ?_, fun i hw hp => ?_, fun i hb => ?_, ?_⟩
  · rw [hman]
    show some (open_.now + open_.settings.manifold.coolDown * 1000) = rest
    rw [hmo.now, hmo.settings]
  · rw [hfn]
    exact (dutyStopped_fn full i).1 (.inl (List.mem_filter.mpr ⟨(slotsIn_iff full .moving i).mpr hm, hk⟩))
  · rw [hfn]
    exact (dutyStopped_fn full i).1 (.inr ((primeSlots_iff full i).mpr ⟨hw, hp⟩))
  · rw [hfn]
    exact (dutyStopped_fn full i).2 hb
  · rw [ht]
    exact onlyAlarms_trans (onlyAlarms_of_motion ((cooling_acts hopen).onlyMotionChanges hd)) (setAlarm_onlyAlarms ..)

theorem coolExpiry_acts {s : State} (hs : s.isReady = true) (ht : s.manifold.coolTimer.isSome = true) :
    let t := setAlarm .pumpDuty false { s with manifold := { s.manifold with
      pump := .stopped, runTime := 0, coolTimer := none } }
    (s.manifold.waitList = [] → exec .coolDownTimerExpiry s = .next t)
    ∧ (s.manifold.pump = .coolDown → (react [] t).isNone = true → passSettles t = true →
      exec .coolDownTimerExpiry s = .next (servicePass t)) := by
  intro t
  have hfirst : firstOf .coolDownTimerExpiry s = (t, []) := if_pos ht
  have hread : react [] t = none :=
    (setAlarm_sameRead (k := .pumpDuty) nofun false _).followed.judged.react.mpr (react_cooled (ready_quiet hs))
  have hfn : t.functions = s.functions := by simp [t]
  have hm : t.manifold = { s.manifold with pump := .stopped, runTime := 0, coolTimer := none } := by simp [t]
  have hc : clearanceTasks s t = [] := clearanceTasks_same hfn
  refine ⟨fun hw => ?_, fun hp _ hset => ?_⟩
  · exact exec_quiet hs rfl (by simp [restartsAt]) hfirst
      ((nothingFollows_iff s t).mpr ⟨hc, .inr (by rw [hm]; exact hw), hread⟩)
  · have hpass : passDue s t = true := by simp [passDue, hm, hp]
    refine exec_runs (k := 1) hs rfl (by simp [restartsAt]) hfirst ?_ (by omega)
    have hf : follow s (t, []) = [.servicePass] := by simp [follow, hc, hpass]
    rw [hf]
    simp only [passSettles, Bool.and_eq_true, List.isEmpty_iff, Option.isNone_iff_eq_none] at hset
    refine .task ((react_nil rfl t).trans hread) rfl ?_
    rw [List.append_nil]
    show Runs 0 (passAgain t (servicePass t)) (servicePass t) (servicePass t)
    rw [hset.1]
    exact .done hset.2

/-! ### Low supply (R67) -/

/-- What a low supply stops. -/
def lowStopped (s : State) : State :=
  abortSequence true .stopped (stopAll true .lowSupply s.primeSlots (stopAll true .lowSupply (s.slotsIn .moving) s))

theorem lowStopped_acts (s : State) : Acts s (lowStopped s) := Acts.refl.stopAll.stopAll.abortSequence

theorem lowSupplyExpired_eq (s : State) : lowSupplyExpired s = stopPump true (lowStopped
    (setAlarm .lowSupply true { s with budget := { s.budget with lowTimer := .expired } })) := rfl

/-- The two lists of a low supply, as one stop. -/
theorem lowStops_fn (s : State) (i : Slot) :
    (stopAll true .lowSupply s.primeSlots (stopAll true .lowSupply (s.slotsIn .moving) s)).fn i
      = if (s.fn i).activity = .moving ∨ ((s.fn i).activity = .waiting ∧ (s.fn i).waitReason = some .prime)
        then (s.fn i).stopped .lowSupply else s.fn i := by
  rw [stopAll_fn_if, stopAll_fn_if]
  simp only [slotsIn_iff, primeSlots_iff]
  by_cases hm : (s.fn i).activity = .moving
  · simp [hm, Activity.isBusy]
  · by_cases hw : (s.fn i).activity = .waiting
    · simp [hw, Activity.isBusy]
    · simp [hm, hw]

theorem lowStopped_fn (s : State) (i : Slot) :
    ((s.fn i).activity = .moving ∨ ((s.fn i).activity = .waiting ∧ (s.fn i).waitReason = some .prime) →
      (lowStopped s).fn i = (s.fn i).stopped .lowSupply)
    ∧ ((s.fn i).activity.isBusy = false → (lowStopped s).fn i = s.fn i)
    ∧ ((lowStopped s).fn i).activity ≠ .moving := by
  refine ⟨fun h => ?_, fun h => ?_, ?_⟩
  · rw [lowStopped, abortSequence_fn, lowStops_fn, if_pos h, if_neg (by simp [stopped_notBusy])]
  · have hn : ¬((s.fn i).activity = .moving ∨ ((s.fn i).activity = .waiting ∧ (s.fn i).waitReason = some .prime)) := by
      rintro (k | ⟨k, -⟩) <;> simp [k, Activity.isBusy] at h
    rw [lowStopped, abortSequence_fn, lowStops_fn, if_neg hn, if_neg (by simp [h])]
  · rw [lowStopped, abortSequence_fn]
    split
    · simp [Function.stopped]
    · rw [lowStops_fn]
      split
      · simp [Function.stopped]
      · next h => exact fun k => h (.inl k)

theorem lowTimer_of_motion {s t : State} (h : onlyMotionChanges s t) : t.budget.lowTimer = s.budget.lowTimer :=
  congrArg (·.budget.lowTimer) h

theorem lowExpiry_acts {s : State} (hs : s.isReady = true) (hd : s.LinkDrained) :
    s.budget.lowTimer.expiry.isSome = true →
      let t := lowSupplyExpired s
      (nothingFollows s t = true → exec .lowSupplyTimerExpiry s = .next t)
      ∧ t.budget.lowTimer = .expired ∧ t.monitor.alarms.lowSupply = true ∧ t.manifold.pump.isOn = false
      ∧ t.seqRuns = false
      ∧ (∀ i, (s.fn i).activity = .moving ∨ ((s.fn i).activity = .waiting ∧ (s.fn i).waitReason = some .prime) →
        t.fn i = (s.fn i).stopped .lowSupply)
      ∧ (∀ i, (t.fn i).activity ≠ .moving)
      ∧ (∀ i, (s.fn i).activity.isBusy = false → t.fn i = s.fn i)
      ∧ onlyMotionAndAlarmsChange { s with budget := { s.budget with lowTimer := .expired } } t := by
  intro ht t
  let expired : State := { s with budget := { s.budget with lowTimer := .expired } }
  let alarmed : State := setAlarm .lowSupply true expired
  have hfn : ∀ i, alarmed.fn i = s.fn i := fun i => setAlarm_fn .lowSupply true expired i
  have htn : ∀ i, t.fn i = (lowStopped alarmed).fn i := fun i => stopPump_fn ..
  have hmo : onlyMotionChanges alarmed t :=
    (Acts.stopPump (lowStopped_acts alarmed)).onlyMotionChanges (setAlarm_drained (s := expired) hd)
  refine ⟨fun hn => exec_quiet hs rfl (by simp [restartsAt]) (if_pos ht) hn, ?_, ?_, stopPump_off .., ?_, fun i h => ?_,
    fun i => ?_, fun i h => ?_, onlyAlarms_trans (setAlarm_onlyAlarms ..) (onlyAlarms_of_motion hmo)⟩
  · rw [lowTimer_of_motion hmo]
    simp [alarmed, expired]
  · rw [show t.monitor.alarms = alarmed.monitor.alarms from OnlyMotion.alarms (s := alarmed) (t := t)
      (Acts.stopPump (lowStopped_acts alarmed)).onlyMotion]
    exact setAlarm_has .lowSupply true expired
  · have hq : t.sequence = (lowStopped alarmed).sequence := by simp [t, lowSupplyExpired_eq, alarmed, expired]
    simp only [State.seqRuns, hq, lowStopped, abortSequence_sequence, stopAll_sequence]
    split
    · rfl
    · next h => simpa [State.seqRuns, stopAll_sequence] using h
  · have h' := (lowStopped_fn alarmed i).1
    rw [hfn] at h'
    rw [htn, h' h]
  · rw [htn]
    exact (lowStopped_fn alarmed i).2.2
  · have h' := (lowStopped_fn alarmed i).2.1
    rw [hfn] at h'
    rw [htn, h' h]

/-! ### Wind (R116 to R120) -/

theorem windJudged_windy {s : State} (h : s.isWindy = true) : windJudged s = s.setWind { s.wind with
    gustTimer := if s.wind.gustTimer.isSome then s.wind.gustTimer else some (s.now + s.settings.wind.gustTime)
    calmTimer := none } := by simp [windJudged, h, startTimer]

theorem windJudged_calm {s : State} (h : s.isWindy = false) : windJudged s = s.setWind { s.wind with
    gustTimer := none
    calmTimer := if s.wind.calmTimer.isSome then s.wind.calmTimer
      else if s.wind.lockout then some (s.now + s.settings.wind.calmTime * 1000) else none } := by
  simp [windJudged, h, startTimer]

theorem windSpeed_delivers (s : State) (v : Nat) (src : EntryIndex) :
    let w := s.settings.wind
    let r := deliver .windSpeed v src s
    let written := s.setSignal .windSpeed
      ⟨v, true, some src, some (s.now + s.settings.signals[signalIndex .windSpeed].staleLimit)⟩
    r.2 = [] ∧ r.1 = { written with wind := r.1.wind }
    ∧ r.1.wind = { s.wind with gustTimer := r.1.wind.gustTimer, calmTimer := r.1.wind.calmTimer }
    ∧ (v = s.value .windSpeed → r.1.wind = s.wind)
    ∧ (v ≠ s.value .windSpeed → w.gustThreshold ≤ v → r.1.wind.calmTimer = none
      ∧ r.1.wind.gustTimer = if s.wind.gustTimer.isSome then s.wind.gustTimer else some (s.now + w.gustTime))
    ∧ (v ≠ s.value .windSpeed → v < w.gustThreshold → r.1.wind.gustTimer = none
      ∧ r.1.wind.calmTimer = if s.wind.calmTimer.isSome then s.wind.calmTimer
        else if s.wind.lockout then some (s.now + w.calmTime * 1000) else none) := by
  intro w r written
  have hr : r = if v = s.value .windSpeed then (written, []) else (windJudged written, []) := by
    simp only [r, deliver, handOver, reduceCtorEq, false_and, if_false]
    rfl
  have hwindy : written.isWindy = decide (w.gustThreshold ≤ v) := by
    simp [State.isWindy, State.value, written, State.setSignal, State.signal, w]
  by_cases hv : v = s.value .windSpeed
  · rw [if_pos hv] at hr
    rw [hr]
    exact ⟨rfl, rfl, rfl, fun _ => rfl, fun h => absurd hv h, fun h => absurd hv h⟩
  · rw [if_neg hv] at hr
    rw [hr]
    by_cases hg : w.gustThreshold ≤ v
    · rw [windJudged_windy (by rw [hwindy]; exact decide_eq_true hg)]
      exact ⟨rfl, rfl, rfl, fun h => absurd h hv, fun _ _ => ⟨rfl, rfl⟩, fun _ h => absurd hg (Nat.not_le.mpr h)⟩
    · rw [windJudged_calm (by rw [hwindy]; exact decide_eq_false hg)]
      exact ⟨rfl, rfl, rfl, fun h => absurd h hv, fun _ h => absurd h hg, fun _ _ => ⟨rfl, rfl⟩⟩

/-- Nothing that the judgements read is the wind record's. -/
theorem windAlarm_followed (v : Bool) (w : WindRecord) (s : State) :
    SameFollowed (setAlarm .wind v { s with wind := w }) s :=
  (setAlarm_sameRead (k := .wind) nofun v _).followed.trans ⟨by constructor <;> intros <;> rfl, rfl, rfl, rfl⟩

theorem gustExpired_eq (s : State) : gustExpired s
    = (setAlarm .wind true { s with wind := { s.wind with gustTimer := none, lockout := true } },
      (slots.filter fun i => (s.cfg i).kind == .awning).map .gustRetract) := by
  have hc : ∀ i, (setAlarm .wind true { s with wind := { s.wind with gustTimer := none, lockout := true } }).cfg i
      = s.cfg i := fun i => by simp only [State.cfg, (setAlarm_kept ..).2]
  simp only [gustExpired, State.setWind, State.awnings, hc]

theorem gustRetract_stowed {i : Slot} {s : State} (h : (s.fn i).posClass = .stowed) : gustRetract i s = (s, []) := by
  simp [gustRetract, h]

theorem gustExpiry_stowed {s : State} (hs : s.isReady = true) (ht : s.wind.gustTimer.isSome = true)
    (h : ∀ i, (s.cfg i).kind = .awning → (s.fn i).posClass = .stowed) : exec .gustTimerExpiry s
      = .next (setAlarm .wind true { s with wind := { s.wind with gustTimer := none, lockout := true } }) := by
  have hf := windAlarm_followed true { s.wind with gustTimer := none, lockout := true } s
  have hr := hf.judged.react.mpr (ready_quiet hs)
  have hfn := fun i => hf.judged.fn i
  have hlen : ((slots.filter fun i => (s.cfg i).kind == .awning).map Task.gustRetract).length ≤ 16 := by
    rw [List.length_map]
    exact List.length_filter_le _ slots
  refine exec_runs (k := 16) hs rfl (by simp [restartsAt]) ((if_pos ht).trans (gustExpired_eq s)) ?_ (by omega)
  have hfollow := follow_nil (old := s) (r := (setAlarm .wind true
    { s with wind := { s.wind with gustTimer := none, lockout := true } }, [])) rfl hf.judged.functions hf.waitList
    hf.claims hf.judged.holder hf.limit hf.judged.pump
  simp only [follow, List.append_nil, List.append_eq_nil_iff] at hfollow
  have hp : passDue s (setAlarm .wind true { s with wind := { s.wind with gustTimer := none, lockout := true } })
      = false := by
    by_contra hne
    simp [Bool.not_eq_false _ |>.mp hne] at hfollow
  refine Runs.mono ?_ hlen
  simp only [follow, hfollow.1, hp, Bool.false_and, Bool.false_eq_true, if_false, List.nil_append]
  refine Runs.idleTasks hr fun a ha => ?_
  obtain ⟨i, hi, rfl⟩ := List.mem_map.mp ha
  refine ⟨nofun, gustRetract_stowed ?_⟩
  rw [hfn]
  exact h i (by simpa using (List.mem_filter.mp hi).2)

theorem calmExpiry_acts {s : State} (hs : s.isReady = true) (ht : s.wind.calmTimer.isSome = true) :
    exec .calmTimerExpiry s = .next (setAlarm .wind false { s with wind := { s.wind with
      calmTimer := none, lockout := false
      retryUsed := Vector.replicate 16 false, owed := Vector.replicate 16 false } }) :=
  exec_same hs rfl (by simp [restartsAt]) (if_pos ht) (windAlarm_followed ..)

/-- What a gust expiry asks of an awning that is out and can be asked (R117, R118). -/
theorem gustRetract_asks {i : Slot} {s : State} (hp : (s.fn i).posClass ≠ .stowed) (hf : (s.fn i).activity ≠ .faulted)
    (hd : s.store.doze = false) (hq : s.monitor.posture ≠ .fault) : gustRetract i s = windRetract i s := by
  simp [gustRetract, hp, hf, hd, hq]

theorem windRetract_accepted {i : Slot} {s : State} (hv : verdict s (retractRequest i .wind) = none) :
    windRetract i s = (accept (retractRequest i .wind) s, [.servicePass]) := by simp [windRetract, hv]

theorem accept_wind_owed (i : Slot) (s : State) : (accept (retractRequest i .wind) s).wind.owed[i] = false := by
  rw [accept_other (by simp [retractRequest])]
  simp [requested, windTaken, retractRequest, State.setOwed]

/-- Settles O31. -/
theorem pumpSupplyAndWindTimersAct : Obligations.PumpSupplyAndWindTimersAct := by
  intro s hs hd
  refine ⟨?_, lowExpiry_acts hs hd, windSpeed_delivers s, fun ht => ⟨gustExpired_eq s, gustExpiry_stowed hs ht⟩,
    calmExpiry_acts hs, fun i => ?_⟩
  · intro rest stopped
    refine ⟨fun ht hon => ?_, fun ht hon => ?_, restExpiry_acts hs, dutyExpiry_acts hs hd, coolExpiry_acts hs⟩
    · obtain ⟨hn, ho, hb, hw⟩ := primeExpiry_acts hs hd ht
      exact ⟨hn, stopPump_rests (PumpKept.faultFns ..) (Acts.faultFns .refl).onlyMotion hon, ho, hb, hw⟩
    · obtain ⟨hn, hf, ho⟩ := holdOnExpiry_acts hs hd ht
      exact ⟨hn, stopPump_rests (.refl s) (.refl s) hon, hf, ho⟩
  · intro f request marked
    refine ⟨gustRetract_stowed, fun hp hf ho => ?_, fun hp hf h => ?_, fun hp hf hz hq => ⟨fun h => ?_, fun h => ?_,
      fun h => ?_⟩⟩
    · simp [gustRetract, show (s.fn i).posClass ≠ .stowed from hp, show (s.fn i).activity = .faulted from hf,
        show (s.fn i).fault ≠ some .obstruction from ho]
    · simp only [gustRetract, if_neg (show (s.fn i).posClass ≠ .stowed from hp),
        if_neg (show (s.fn i).activity ≠ .faulted from hf), if_pos h]
      rfl
    · have hr : request = retractRequest i .wind := rfl
      rw [hr] at h
      rw [gustRetract_asks hp hf hz hq]
      rcases h with h | h <;> simp only [windRetract, h] <;> rfl
    · have hr : request = retractRequest i .wind := rfl
      rw [hr] at h
      rw [gustRetract_asks hp hf hz hq]
      simp only [windRetract, h]
    · have ht : gustRetract i s = (accept request s, [.servicePass]) :=
        (gustRetract_asks hp hf hz hq).trans (windRetract_accepted h)
      have how : request.owner ≠ .travel := nofun
      obtain ⟨h1, h2, h3, -⟩ := accept_fn_self how s
      intro t
      have htt : t = accept request s := congrArg Prod.fst ht
      rw [htt]
      exact ⟨congrArg Prod.snd ht, h1, h2, h3, accept_wind_owed i s,
        fun j hj hk => (accept_fn how s j).trans ((if_neg hj).trans (preempt_fn_ne (.inl hk) hj)),
        (Acts.accept .refl).onlyMotionChanges hd⟩

end Sys2Proof.Proofs
end

section
/-! PROOFS. The requests and presses of REQUEST and HOLD entries (O15), refuted. Check 9 of R9 reads the owner of a
SETTLING function that a sequence took as the sequence's owner; where the sequence record has no owner, which the
statement's hypotheses allow, an OPERATOR request is accepted although the function is at work, and the preempting stop
turns its ACTIVE hold record REFUSED. -/

namespace Sys2Proof.Proofs
open Sys2Proof.Machine Sys2Proof.Laws

/-- A SLIDE_TWIN of mode LATCH. -/
def latchedTwin : FunctionConfig := { FunctionConfig.factory with kind := .slideTwin, mode := .latch }

/-- A function of the OPERATOR in SETTLING. -/
def settlingTwin : Function :=
  { Function.start with
    activity := .settling, posClass := .midway, owner := .operator, verb := some .extend, moveSpeed := some 0 }

/-- A part that allows every move, slot 0 a latched twin, and a running sequence with no owner that took it. -/
def ownerless : State :=
  { State.reset with
    settings := { State.reset.settings with
      functions := State.reset.settings.functions.set 0 latchedTwin
      bankA := Vector.replicate 7 (Vector.replicate 16 7) }
    sequence := { Sequence.start with phase := .ground, taken := [0] } }

/-- There slot 0 settles, under an ACTIVE hold record. -/
def heldSettling : State := putHold 0 { Hold.start with state := .active } (ownerless.storeFn 0 settlingTwin)

theorem heldSettling_fn (i : Slot) : heldSettling.fn i = if i = 0 then settlingTwin else Function.start := by
  have hr : ownerless.fn i = Function.start := by
    show (Vector.replicate 16 Function.start)[i] = Function.start
    simp
  exact (storeFn_fn_if 0 i settlingTwin ownerless).trans (by rw [hr])

theorem heldSettling_owners : heldSettling.OwnersHold := by
  intro i
  rw [heldSettling_fn]
  split <;> decide

theorem heldSettling_drained : heldSettling.LinkDrained := drained_of_sending rfl

theorem heldSettling_verdict : verdict heldSettling (operatorRequest 0 .extend true) = none := by decide

/-- The acceptance stops the function it found at work, and so refuses its hold. -/
theorem heldSettling_refuses : ((operatorTask 0 .extend heldSettling).1.hold 0).state = .refused := by
  have hrev : reverses heldSettling 0 .extend = false := by decide
  have ht : operatorTask 0 .extend heldSettling = (accept (operatorRequest 0 .extend true) heldSettling, [.servicePass]) := by
    simp only [operatorTask, moveRequest, hrev, Bool.false_eq_true, if_false, heldSettling_verdict]
  have hb : (heldSettling.fn 0).activity.isBusy = true := by rw [heldSettling_fn]; rfl
  have hstop : (stopFn true 0 .preempted heldSettling).hold 0 = refusedHold (heldSettling.hold 0) := by
    rw [stopFn_hold true 0 0 (by simp), if_pos ⟨rfl, hb⟩]
  have hpre : preempt (operatorRequest 0 .extend true) heldSettling
      = abortSequence true .preempted (stopFn true 0 .preempted heldSettling) := rfl
  have hrest : ((stopFn true 0 .preempted heldSettling).fn 0).activity.isBusy = false := stopFn_notBusy ..
  rw [ht, accept_hold (by simp [operatorRequest]), hpre, abortSequence_hold, if_neg (by simp [hrest]), hstop]
  rfl

/-- Refutes O15: an accepted OPERATOR request leaves the hold record REFUSED that was ACTIVE before. -/
theorem not_requestsAndPressesMoveFunctions : ¬ Obligations.RequestsAndPressesMoveFunctions := by
  intro h
  obtain ⟨-, -, -, -, -, -, hmove, -⟩ := h.2 heldSettling 0 heldSettling_drained heldSettling_owners
  obtain ⟨-, -, -, haccept⟩ := hmove .extend
  obtain ⟨-, -, hhold, -⟩ := haccept (by decide) heldSettling_verdict
  have hactive : (heldSettling.hold 0).state = .active := by simp [heldSettling]
  have hstate := congrArg Hold.state hhold
  rw [heldSettling_refuses, hactive] at hstate
  exact absurd hstate (by decide)

end Sys2Proof.Proofs
end

section
/-! PROOFS. Sequence requests and posture changes (O20): the verdicts of AUTO_LEVEL and STOW_JACKS, their acceptance
with the jacks at rest, aborts, and the judgement of moves and sequences at a posture change. -/

namespace Sys2Proof.Proofs
open Sys2Proof.Machine Sys2Proof.Laws

/-! ### The verdicts (R75, R90) -/

/-- A chain of checks passes exactly where its first check does not hold and the rest passes. -/
theorem check_passes {α : Type} {c : Prop} [Decidable c] {a : α} {rest : Option α} :
    (if c then some a else rest) = none ↔ ¬c ∧ rest = none := by
  by_cases h : c <;> simp [h]

theorem levelVerdict_passes (s : State) : levelVerdict s = none ↔ s.seqRuns = false ∧ 2 ≤ s.jacks.length
    ∧ s.jacks.length ≤ 6 ∧ (∃ n, s.settings.levelling.sensorNode = some n ∧ (s.node n).state = .live)
    ∧ (∀ i ∈ s.jacks, (s.fn i).activity ≠ .faulted) ∧ s.store.storing = none ∧ s.monitor.swapPending = false
    ∧ ∀ i ∈ s.jacks, cellAuto (s.cell s.monitor.posture i) = true := by
  have hnode : ¬((s.settings.levelling.sensorNode.map fun n => (s.node n).state) ≠ some .live)
      ↔ ∃ n, s.settings.levelling.sensorNode = some n ∧ (s.node n).state = .live := by
    simp [Option.map_eq_some_iff]
  have hlen : ¬(s.jacks.length < 2 ∨ 6 < s.jacks.length) ↔ 2 ≤ s.jacks.length ∧ s.jacks.length ≤ 6 := by omega
  have hfault : ¬((s.jacks.any fun i => (s.fn i).activity == .faulted) = true)
      ↔ ∀ i ∈ s.jacks, (s.fn i).activity ≠ .faulted := by simp
  have hauto : ¬((s.jacks.any fun i => !cellAuto (s.cell s.monitor.posture i)) = true)
      ↔ ∀ i ∈ s.jacks, cellAuto (s.cell s.monitor.posture i) = true := by simp
  have hstore : ¬(s.store.storing.isSome = true) ↔ s.store.storing = none := by simp
  simp only [levelVerdict, check_passes, hnode, hlen, hfault, hauto, hstore, Bool.not_eq_true, and_true, and_assoc]

theorem stowVerdict_passes (o : Owner) (s : State) : stowVerdict o s = none ↔
    (s.seqRuns = true → s.sequence.owner ≠ some .travel ∧ o ≠ .level) ∧ s.stowable ≠ [] ∧ s.store.storing = none
      ∧ (o = .level → s.monitor.swapPending = false
        ∧ ∀ i ∈ s.stowable, cellAuto (s.cell s.monitor.posture i) = true) := by
  have hrun : ¬(s.seqRuns = true ∧ (s.sequence.owner = some .travel ∨ o = .level))
      ↔ (s.seqRuns = true → s.sequence.owner ≠ some .travel ∧ o ≠ .level) := by
    rw [not_and, not_or]
  have hempty : ¬(s.stowable.isEmpty = true) ↔ s.stowable ≠ [] := by simp
  have hstore : ¬(s.store.storing.isSome = true) ↔ s.store.storing = none := by simp
  have hswap : ¬(o = .level ∧ s.monitor.swapPending = true) ↔ (o = .level → s.monitor.swapPending = false) := by simp
  have hauto : ¬(o = .level ∧ (s.stowable.any fun i => !cellAuto (s.cell s.monitor.posture i)) = true)
      ↔ (o = .level → ∀ i ∈ s.stowable, cellAuto (s.cell s.monitor.posture i) = true) := by simp
  simp only [stowVerdict, check_passes, hrun, hempty, hstore, hswap, hauto, and_true, ← imp_and]

/-! ### Acceptance with the jacks at rest (R76, R91) -/

theorem preemptJacks_resting (o : Owner) {is : List Slot} {s : State}
    (h : ∀ i ∈ is, (s.fn i).activity.isBusy = false) : preemptJacks o is s = s := by
  unfold preemptJacks
  induction is with
  | nil => rfl
  | cons i is ih =>
    rw [List.foldl_cons, stopFn_rest true .preempted (h i (List.mem_cons_self ..)), ite_self]
    exact ih fun j hj => h j (List.mem_cons_of_mem i hj)

theorem any_busy_resting {is : List Slot} {s : State} (h : ∀ i ∈ is, (s.fn i).activity.isBusy = false) :
    (is.any fun i => (s.fn i).activity.isBusy) = false := by
  simpa using h

/-- The members of a list that a test of theirs has not put among the done. -/
theorem filter_undone (is : List Slot) (p : Slot → Bool) :
    (is.filter fun i => !(is.filter p).contains i) = is.filter fun i => !p i := by
  refine List.filter_congr fun i hi => ?_
  rw [Bool.eq_iff_iff]
  simp [hi]

theorem startLevel_resting {s : State} (h : ∀ i ∈ s.jacks, (s.fn i).activity.isBusy = false) : startLevel s
    = (levelFrame { s with sequence := { Sequence.start with
          kind := some .autoLevel, owner := some .level, phase := .ground, taken := s.jacks
          finished := s.jacks.filter fun i => (s.fn i).contact
          starts := some (s.jacks.map fun i => (i, (s.fn i).position.getD 0)) } },
        (s.jacks.filter fun i => !(s.fn i).contact).map .groundRequest) := by
  simp only [startLevel, any_busy_resting h, preemptJacks_resting .level h, firstRequests, Bool.false_eq_true, if_false,
    filter_undone]
  rfl

theorem startStow_resting (o : Owner) {s : State} (h : ∀ i ∈ s.stowable, (s.fn i).activity.isBusy = false) :
    startStow o s
      = (levelFrame { s with sequence := { Sequence.start with
            kind := some .stowJacks, owner := some o, phase := .stowing, taken := s.stowable
            finished := s.stowable.filter fun i => (s.fn i).posClass == .stowed
            starts := some (s.stowable.map fun i => (i, (s.fn i).position.getD 0)) } },
          (s.stowable.filter fun i => (s.fn i).posClass != .stowed).map .stowRequest) := by
  simp only [startStow, any_busy_resting h, preemptJacks_resting o h, firstRequests, Bool.false_eq_true, if_false,
    filter_undone]
  rfl

/-! ### Aborts (R93, R95) -/

/-- What an abort comes to, for the sequence record and every function. -/
theorem abort_ends {s : State} (hr : s.seqRuns = true) (why : AbortReason) :
    let t := abortSequence true why s
    t.sequence.phase = .idle ∧ t.sequence.result = some (.aborted why) ∧ t.sequence.taken = []
      ∧ (∀ j ∈ s.sequence.taken, t.fn j
          = if (s.fn j).activity.isBusy then (s.fn j).stopped why.stopReason else s.fn j)
      ∧ (∀ j, j ∉ s.sequence.taken → t.fn j = s.fn j) := by
  intro t
  have hq : t.sequence = s.sequence.ended (.aborted why) := by
    simp only [t, abortSequence_sequence, hr, if_true]
  rw [hq]
  refine ⟨rfl, rfl, rfl, fun j hj => ?_, fun j hj => ?_⟩
  · simp [t, abortSequence_fn, isTaken_iff, hr, hj]
  · simp [t, abortSequence_fn, isTaken_iff, hj]

theorem abort_refuses {s : State} (hr : s.seqRuns = true) (why : AbortReason) (j : Slot) :
    (abortSequence true why s).hold j
      = if j ∈ s.sequence.taken ∧ (s.fn j).activity.isBusy = true ∧ (s.hold j).state = .active
        then { s.hold j with state := .refused } else s.hold j := by
  rw [abortSequence_hold]
  by_cases hj : j ∈ s.sequence.taken ∧ (s.fn j).activity.isBusy = true
  · rw [if_pos ⟨(isTaken_iff s j).mpr ⟨hr, hj.1⟩, hj.2⟩, refusedHold]
    simp [hj.1, hj.2]
  · rw [if_neg (fun k => hj ⟨((isTaken_iff s j).mp k.1).2, k.2⟩), if_neg (fun k => hj ⟨k.1, k.2.1⟩)]

/-! ### The judgement of moves (R35, R36) -/

theorem judgeMove_taken {s : State} {i : Slot} (hb : (s.fn i).activity.isBusy = true) (ha : moveAllowed s i = false)
    (ht : s.isTaken i = true) :
    judgeMove i s = abortSequence true .postureChanged (stopFn true i .postureChanged s) := by
  simp [judgeMove, hb, ha, ht]

theorem judgeMove_free {s : State} {i : Slot} (hb : (s.fn i).activity.isBusy = true) (ha : moveAllowed s i = false)
    (ht : s.isTaken i = false) : judgeMove i s = stopFn true i .postureChanged s := by
  simp [judgeMove, hb, ha, ht]

/-- A busy function whose move the new row forbids stops, and a sequence that took it aborts. -/
theorem judgeMove_stops {s : State} {i : Slot} (hb : (s.fn i).activity.isBusy = true) (ha : moveAllowed s i = false) :
    (judgeMove i s).fn i = (s.fn i).stopped .postureChanged
      ∧ (s.isTaken i = false → ∀ j, j ≠ i → (judgeMove i s).fn j = s.fn j)
      ∧ (s.isTaken i = true → (judgeMove i s).sequence.result = some (.aborted .postureChanged)) := by
  have hs := stopFn_fn true i .postureChanged s hb
  refine ⟨?_, fun ht j hj => ?_, fun ht => ?_⟩
  · cases ht : s.isTaken i with
    | false => rw [judgeMove_free hb ha ht, hs]
    | true => rw [judgeMove_taken hb ha ht, abortSequence_fn, hs, if_neg (by simp [stopped_notBusy])]
  · rw [judgeMove_free hb ha ht, stopFn_fn_if, if_neg (fun k => hj k.1)]
  · have hr : (stopFn true i .postureChanged s).seqRuns = true := by
      rw [State.seqRuns, (show (stopFn true i .postureChanged s).sequence = s.sequence by simp)]
      exact ((isTaken_iff s i).mp ht).1
    rw [judgeMove_taken hb ha ht, abortSequence_sequence, hr]
    rfl

theorem judgeMove_stays {s : State} {i : Slot} (h : (s.fn i).activity.isBusy = false ∨ moveAllowed s i = true) :
    judgeMove i s = s := by
  rcases h with h | h <;> simp [judgeMove, h]

/-! ### The ignition (R39) -/

theorem ignition_delivers (s : State) (value : Nat) (src : EntryIndex) :
    let t := s.setSignal .ignition
      ⟨value, true, some src, some (s.now + s.settings.signals[signalIndex .ignition].staleLimit)⟩
    deliver .ignition value src s = if value = s.value .ignition then (t, [])
      else if value = 1 then ignitionOn t else (t, []) := by
  intro t
  simp only [deliver, handOver, true_and]
  rfl

theorem jackOut_iff (s : State) :
    s.jackOut = true ↔ ∃ i, (s.cfg i).kind = .jack ∧ (s.fn i).posClass ≠ .stowed := by
  simp [State.jackOut, State.isJack, mem_slots]

/-- Settles O20. -/
theorem sequenceRequestsAndPostureChanges : Obligations.SequenceRequestsAndPostureChanges := by
  intro s hd cell refused begun aborted recordsRefused
  have haborts : ∀ why, s.seqRuns = true → aborted why (abortSequence true why s) := fun why hr => by
    obtain ⟨h1, h2, h3, h4, h5⟩ := abort_ends hr why
    exact ⟨h1, h2, h3, h4, h5, (Acts.abortSequence .refl).onlyMotionChanges hd⟩
  refine ⟨levelVerdict_passes s, fun r hr => by simp only [operatorSequence, hr]; rfl, fun hv hb => ?_,
    fun o => stowVerdict_passes o s, fun r hr => by simp only [operatorSequence, hr]; rfl, fun hv hb => ?_,
    fun hv hr hb => ?_, fun hv hr => ?_, fun hr => ?_, fun hr => ⟨rfl, ?_, rfl⟩, fun p hp hne => ⟨?_, fun hf => ?_⟩,
    fun i => ?_, ?_, fun value src => ?_⟩
  · simp only [operatorSequence, hv, startLevel_resting hb]
    exact ⟨rfl, trivial⟩
  · simp only [operatorSequence, hv, startStow_resting .level hb]
    exact ⟨rfl, trivial⟩
  · simp only [travelStow, hv, hr, Bool.false_eq_true, if_false, startStow_resting .travel hb]
    rfl
  · simp only [travelStow, hv, hr, if_true]
    exact ⟨haborts .preempted hr, fun j => abort_refuses hr .preempted j, trivial⟩
  · simp only [operatorSequence, stopSequence, abortSequence_none true .stopped hr]
  · obtain ⟨h1, h2, h3, h4, h5⟩ := abort_ends hr .stopped
    exact ⟨h1, h2, h3, h4, h5, (Acts.holds (Acts.abortSequence .refl)).onlyMotionChanges hd⟩
  · simp only [changePosture, if_neg hp]
    simp [setPosture, Ne.symm hne]
  · simp only [changePosture, if_neg hp, if_neg hf, List.append_nil]
  · intro f toward allowed ht
    have hdir : matrixDirection f = toward := by
      simp only [matrixDirection, toward]
      split
      · simp_all
      · next t p hv htg hpos =>
          have hne : t ≠ p := by
            rintro rfl
            rcases ht with h | h
            · simp [htg] at h
            · exact h (htg.trans hpos.symm)
          simp only [hv, htg, directionTo]
          rw [show f.position = some p from hpos]
          dsimp only
          split
          · rfl
          · rw [if_pos (by omega)]
      · next h1 h2 =>
          split
          · next x y hv htg hpos => exact (h2 x y hv htg hpos).elim
          · next hv => exact absurd hv h1
          · rfl
    have hall : moveAllowed s i = allowed := by
      simp only [moveAllowed, allowed]
      rw [show matrixDirection (s.fn i) = toward from hdir]
      cases (s.fn i).owner <;> rfl
    refine ⟨fun h => judgeMove_stays (h.imp id fun k => hall.trans k), fun hb ha => ?_⟩
    obtain ⟨h1, h2, h3⟩ := judgeMove_stops hb (hall.trans ha)
    exact ⟨h1, (Acts.judgeMove .refl).onlyMotionChanges hd, h2, h3⟩
  · intro lacks
    refine ⟨fun hr ho hl => ?_, fun h => if_neg ?_⟩
    · have hj : judgeSequence s = abortSequence true .postureChanged s := if_pos ⟨hr, ho, hl⟩
      rw [hj]
      exact ⟨haborts .postureChanged hr, fun j => abort_refuses hr .postureChanged j⟩
    · rintro ⟨h1, h2, h3⟩
      rcases h with h | h | h
      · simp [h] at h1
      · exact h h2
      · exact absurd h3 (by rw [show (s.sequence.taken.any _) = lacks from rfl, h]; simp)
  · intro old t r
    have hr : r = if value = old then (t, []) else if value = 1 then ignitionOn t else (t, []) :=
      ignition_delivers s value src
    refine ⟨fun h => ?_, fun hv ho hz hq => ?_, fun hv ho hz hq => ?_⟩
    · rw [hr]
      rcases h with h | h
      · rw [if_pos h]
      · rw [if_neg h, ite_self]
    · have hn : value ≠ old := fun e => ho (e ▸ hv)
      rw [hr, if_neg hn, if_pos hv]
      simp [ignitionOn, t, State.setSignal, hz, hq]
    · have hn : value ≠ old := fun e => ho (e ▸ hv)
      have hon : r = (t, ignitionTasks t) := by
        rw [hr, if_neg hn, if_pos hv]
        simp [ignitionOn, t, State.setSignal, hz, hq]
      rw [hon]
      have hout : t.jackOut = true ↔ ∃ i, (s.cfg i).kind = .jack ∧ (s.fn i).posClass ≠ .stowed := jackOut_iff t
      refine ⟨rfl, _, _, rfl, fun hf ho => ?_, fun hf => ?_, fun hf => ?_, fun hf => ?_⟩
      · exact if_pos (by rw [Bool.and_eq_true]; exact ⟨hf, hout.mpr ho⟩)
      · refine if_neg fun k => ?_
        rw [Bool.and_eq_true] at k
        rcases hf with h | h
        · exact Bool.false_ne_true (h.symm.trans k.1)
        · obtain ⟨i, hk, hs⟩ := hout.mp k.2
          exact hs (h i hk)
      · exact if_neg (by rw [show t.settings = s.settings from rfl, hf]; simp)
      · refine (if_pos (show t.settings.levelling.travelStowAwnings = true from hf)).trans ?_
        simp only [travelRetracts, State.awnings, List.filter_filter, Bool.and_comm]
        rfl

end Sys2Proof.Proofs
end

section
/-! PROOFS. The readings of the level sensor (O23): the rounded heights, the solve, the lift steps, the evaluation of a
reading, and the requests of a lift step. -/

namespace Sys2Proof.Proofs
open Sys2Proof.Machine Sys2Proof.Laws

/-! ### The heights and the solve (R84, R85) -/

/-- Rounded half away from zero, a quotient lies within a half of the exact one. -/
theorem heightOf_bounds (x y gp gr : Int) :
    (0 ≤ x * gp + y * gr → 10000 * heightOf x y gp gr ≤ x * gp + y * gr + 5000
      ∧ x * gp + y * gr + 5000 < 10000 * (heightOf x y gp gr + 1))
    ∧ (x * gp + y * gr ≤ 0 → 10000 * heightOf x y gp gr ≥ x * gp + y * gr - 5000
      ∧ x * gp + y * gr - 5000 > 10000 * (heightOf x y gp gr - 1)) := by
  simp only [heightOf]
  generalize x * gp + y * gr = n
  rcases Int.lt_trichotomy n 0 with h | h | h
  · rw [Int.sign_eq_neg_one_of_neg h]
    omega
  · subst h
    decide
  · rw [Int.sign_eq_one_of_pos h]
    omega

/-- The highest of a list is the value that a member has and none exceeds. -/
theorem highest_eq {l : List (Slot × Int)} {top : Int} (hm : ∃ p ∈ l, p.2 = top) (hb : ∀ p ∈ l, p.2 ≤ top) :
    highest l = top := by
  induction l with
  | nil => simp at hm
  | cons p l ih =>
    cases l with
    | nil =>
      obtain ⟨q, hq, rfl⟩ := hm
      rw [List.mem_singleton.mp hq]
      rfl
    | cons q l =>
      have hp : p.2 ≤ top := hb p (List.mem_cons_self ..)
      show max p.2 (highest (q :: l)) = top
      by_cases hin : ∃ x ∈ q :: l, x.2 = top
      · rw [ih hin fun x hx => hb x (List.mem_cons_of_mem p hx), max_eq_right hp]
      · obtain ⟨x, hx, htop⟩ := hm
        rcases List.mem_cons.mp hx with rfl | hx
        · have hlt : ∀ (m : List (Slot × Int)), m ≠ [] → (∀ y ∈ m, y.2 ≤ x.2) → highest m ≤ x.2 := by
            intro m
            induction m with
            | nil => simp
            | cons y m ihm =>
              intro _ hall
              cases m with
              | nil => exact hall y (List.mem_cons_self ..)
              | cons z m =>
                exact max_le (hall y (List.mem_cons_self ..))
                  (ihm (by simp) fun w hw => hall w (List.mem_cons_of_mem y hw))
          rw [max_eq_left (hlt (q :: l) (by simp) fun y hy =>
            (hb y (List.mem_cons_of_mem _ hy)).trans_eq htop.symm), htop]
        · exact absurd ⟨x, hx, htop⟩ hin

/-! ### Lift steps (R86, R87) -/

theorem mem_nextStep (s : State) (i : Slot) (n : Nat) : (i, n) ∈ nextStep s ↔
    ∃ x, (i, x) ∈ s.sequence.targets.getD [] ∧ (s.fn i).position.getD 0 + 2 < x
      ∧ n = (s.fn i).position.getD 0 + min (x - (s.fn i).position.getD 0) s.settings.levelling.liftStep := by
  simp only [nextStep, List.mem_filterMap]
  constructor
  · rintro ⟨⟨j, x⟩, hm, h⟩
    simp only at h
    split at h
    · next hlt =>
      obtain ⟨rfl, rfl⟩ := Prod.mk.inj (Option.some.inj h)
      exact ⟨x, hm, hlt, rfl⟩
    · simp at h
  · rintro ⟨x, hm, hlt, rfl⟩
    exact ⟨(i, x), hm, if_pos hlt⟩

/-- A phase written touches nothing else that the sequencer reads. -/
theorem setPhase_reads (p : Phase) (s : State) : (setPhase p s).sequence = { s.sequence with phase := p }
    ∧ (setPhase p s).functions = s.functions ∧ (setPhase p s).settings = s.settings ∧ (setPhase p s).now = s.now := by
  unfold setPhase
  split
  · next h => exact ⟨by rw [← h], rfl, rfl, rfl⟩
  · exact ⟨(levelFrame_frame _).2.2.2.2.2.1, (levelFrame_frame _).1, (levelFrame_kept _).2, by simp [State.setSeq]⟩

theorem nextStep_congr {s t : State} (hq : t.sequence.targets = s.sequence.targets) (hf : t.functions = s.functions)
    (hp : t.settings = s.settings) : nextStep t = nextStep s := by
  simp only [nextStep, hq, fn_congr hf, hp]

/-- A lift step is formed of the jacks that are short of their targets; with none short LIFT ends in SETTLE. -/
theorem formStep_forms (s : State) :
    (formStep s).1.sequence.targets = s.sequence.targets ∧ (formStep s).1.sequence.pass = s.sequence.pass
    ∧ (formStep s).1.sequence.limited = s.sequence.limited ∧ (formStep s).1.functions = s.functions
    ∧ (nextStep s = [] → (formStep s).1.sequence.phase = .settle ∧ (formStep s).1.sequence.stepTargets = none
      ∧ (formStep s).2 = []
      ∧ (formStep s).1.sequence.settleTimer = some (s.now + s.settings.levelling.settleTime))
    ∧ (nextStep s ≠ [] → (formStep s).1.sequence.phase = .lift
      ∧ (formStep s).1.sequence.stepTargets = some (nextStep s)
      ∧ (formStep s).2 = (nextStep s).map fun x => .liftRequest x.1) := by
  obtain ⟨hq, hf, hp, hn⟩ := setPhase_reads .lift s
  have hstep : nextStep (setPhase .lift s) = nextStep s := nextStep_congr (by rw [hq]) hf hp
  unfold formStep
  simp only [hstep]
  split
  · next h =>
    have hsettle : ∀ w : State, w.sequence = { s.sequence with
          phase := .lift, stepTargets := none
          settleTimer := some (s.now + s.settings.levelling.settleTime) } → w.functions = s.functions →
        (setPhase .settle w).sequence = { s.sequence with
          phase := .settle, stepTargets := none
          settleTimer := some (s.now + s.settings.levelling.settleTime) }
          ∧ (setPhase .settle w).functions = s.functions := by
      intro w hw hfw
      obtain ⟨h1, h2, -⟩ := setPhase_reads .settle w
      exact ⟨by rw [h1, hw], h2.trans hfw⟩
    obtain ⟨h1, h2⟩ := hsettle ((setPhase .lift s).setSeq { (setPhase .lift s).sequence with
      stepTargets := none
      settleTimer := startTimer (setPhase .lift s).now (setPhase .lift s).settings.levelling.settleTime })
      (by simp only [State.setSeq, hq, hp, hn, startTimer]) hf
    exact ⟨by rw [h1], by rw [h1], by rw [h1], h2, fun _ => ⟨by rw [h1], by rw [h1], rfl, by rw [h1]⟩,
      fun k => absurd h k⟩
  · next h =>
    have hne : nextStep s ≠ [] := h
    simp [State.setSeq, hq, hne]

/-! ### The end of a sequence by its own result (R89) -/

/-- A sequence that ends by itself keeps its pass and its reading; jacks at rest are left as they are. -/
theorem endSequenceAs_ends {s : State} (hr : s.seqRuns = true) (x : SeqResult) :
    (endSequenceAs x s).sequence = s.sequence.ended x
    ∧ (endSequenceAs x s).monitor.levelled = (x == .levelOk || s.monitor.levelled)
    ∧ ((∀ i ∈ s.sequence.taken, (s.fn i).activity.isBusy = false) → (endSequenceAs x s).functions = s.functions) := by
  have hq : (endSequence true x .stopped s).sequence = s.sequence.ended x := by
    rw [endSequence_sequence, if_pos hr]
  have hm : (endSequence true x .stopped s).monitor = s.monitor := endSequence_monitor ..
  have hf : (∀ i ∈ s.sequence.taken, (s.fn i).activity.isBusy = false) →
      (endSequence true x .stopped s).functions = s.functions := by
    intro h
    rw [endSequence_runs _ _ _ hr, closeSequence, (levelFrame_frame _).1]
    have hstop : stopAll true .stopped s.sequence.taken s = s := stopAll_resting h
    rw [hstop]
    exact (releaseSequenceGrant_frame _).1
  simp only [endSequenceAs]
  split
  · next hx =>
    subst hx
    exact ⟨hq, rfl, hf⟩
  · next hx => exact ⟨hq, by rw [hm, beq_false_of_ne hx, Bool.false_or], hf⟩

/-! ### The sequence's own requests (R12, R77, R86) -/

/-- A request of the sequence never loses its jack to the manifold's preemption. -/
theorem accept_own_fn {r : Request} {s : State} (hown : r.own = true)
    (hq : r.owner = .travel → s.sequence.owner ≠ some .level) :
    (accept r s).fn r.slot = ((stopFn true r.slot .preempted s).fn r.slot).taking (s.cfg r.slot) r := by
  have hp : preempt r s = stopFn true r.slot .preempted s := by simp [preempt, hown]
  rw [accept_eq]
  have hu : (joinList r.slot (requested r s)).fn r.slot
      = ((stopFn true r.slot .preempted s).fn r.slot).taking (s.cfg r.slot) r := by
    rw [show (joinList r.slot (requested r s)).fn r.slot = (requested r s).fn r.slot from rfl, requested_fn, if_pos rfl,
      hp]
  have hsq : (joinList r.slot (requested r s)).sequence = s.sequence := by
    show (requested r s).sequence = s.sequence
    simp [requested, hp]
  revert hu hsq
  generalize joinList r.slot (requested r s) = u
  intro hu hsq
  have howner : (u.fn r.slot).owner = r.owner := by rw [hu]; rfl
  refine Eq.trans ?_ hu
  unfold preemptManifold
  split
  · rfl
  · next g _ =>
    split
    · next hc =>
      have htravel : r.owner = .travel := howner.symm.trans hc.1
      have hnot : r.slot ∉ u.grantSlots g := by
        intro hm
        have hg : (u.fn r.slot).owner = g.owner := by
          simp only [State.grantSlots, State.underGrant, List.mem_filter, Bool.and_eq_true, beq_iff_eq] at hm
          exact hm.2.1.2
        have := hc.2.2
        rw [← hg, hc.1] at this
        exact absurd this (by decide)
      have hkeep : (stopAll true .preempted (u.grantSlots g) u).fn r.slot = u.fn r.slot := by
        rw [stopAll_fn_if, if_neg fun h => hnot h.1]
      have hsame : (stopAll true .preempted (u.grantSlots g) u).sequence = s.sequence :=
        (stopAll_sequence ..).trans hsq
      simp only [hsame, hq htravel, and_false, if_false]
      exact hkeep
    · rfl

/-- What a refusal of a lift request does. -/
theorem seqRefused_lift {s : State} (hp : s.sequence.phase = .lift) (why : RefusalReason) : seqRefused why s
    = abortSequence true (if why = .notPermitted then .postureChanged
        else if why = .notReady ∨ why = .faulted then .fault else .stopped) s := by
  cases why <;> simp [seqRefused, hp]

/-- A lift request is the sequence's GOTO to the step target. -/
theorem liftRequest_sends {s : State} {ts : List (Slot × Nat)} {i : Slot} {n : Nat} (hp : s.sequence.phase = .lift)
    (hts : s.sequence.stepTargets = some ts) (ht : s.isTaken i = true)
    (hf : ts.find? (fun x => x.1 == i) = some (i, n)) :
    liftRequest i s = sendSeqRequest
      ⟨i, .extend, s.sequence.owner.getD .none, some n, some s.settings.levelling.liftSpeed, false, true⟩
      (seqRefused .atEnd) s := by
  have hany : ts.any (fun p => p.1 == i) = true := by
    rw [List.any_eq_true]
    exact ⟨(i, n), List.mem_of_find?_eq_some hf, by simp⟩
  simp only [liftRequest, hts, hp, ht, hany, and_self, if_true, lookupPos, hf, Option.map_some, Option.getD_some,
    seqRequest]

theorem sendSeqRequest_refused {r : Request} {s : State} {why : RefusalReason} (h : verdict s r = some why) :
    sendSeqRequest r (seqRefused .atEnd) s = (seqRefused why s, []) := by
  simp only [sendSeqRequest, h]
  split
  · next k => exact absurd k (by simp)
  · next k => rw [Option.some.inj k]
  · next k => rw [Option.some.inj k]

/-! ### A reading (R74, R82, R83) -/

theorem takeReading_none {s : State} (h : ¬(s.seqRuns = true ∧ s.sequence.kind = some .autoLevel)) (pitch roll : Int)
    (stable : Bool) : takeReading pitch roll stable s = (s, []) := if_neg h

theorem natAbs_le_abs {x : Int} {n : Nat} : x.natAbs ≤ n ↔ |x| ≤ (n : Int) := by
  rw [Int.abs_eq_natAbs]
  omega

theorem lt_natAbs_abs {x : Int} {n : Nat} : n < x.natAbs ↔ (n : Int) < |x| := by
  rw [Int.abs_eq_natAbs]
  omega

/-- The evaluation of a reading goes by the four cases of R83, in their order. -/
theorem evaluate_eq (gp gr : Int) (s : State) :
    let p := s.settings.levelling
    let steep := s.sequence.pass = 0 ∧ ((p.maxStartGrade : Int) < |gp| ∨ (p.maxStartGrade : Int) < |gr|)
    let flat := |gp| ≤ (p.tolerance : Int) ∧ |gr| ≤ (p.tolerance : Int)
    (steep → evaluate gp gr s = (endSequenceAs .tooSteep s, []))
    ∧ (¬ steep → flat → evaluate gp gr s = (endSequenceAs .levelOk s, []))
    ∧ (¬ steep → ¬ flat → s.sequence.pass = p.maxPasses →
      evaluate gp gr s = (endSequenceAs (if s.sequence.limited then .levelLimited else .outOfTolerance) s, []))
    ∧ (¬ steep → ¬ flat → s.sequence.pass ≠ p.maxPasses →
      evaluate gp gr s = formStep { s with sequence := { s.sequence with
        pass := s.sequence.pass + 1, targets := some (solve s (s.sequence.pass + 1) gp gr).1
        limited := s.sequence.limited || (solve s (s.sequence.pass + 1) gp gr).2 } }) := by
  intro p steep flat
  simp only [steep, flat, p, ← natAbs_le_abs, ← lt_natAbs_abs]
  refine ⟨fun h => if_pos h, fun h k => ?_, fun h k l => ?_, fun h k l => ?_⟩
  · exact (if_neg h).trans (if_pos k)
  · exact (if_neg h).trans ((if_neg k).trans (if_pos l))
  · exact (if_neg h).trans ((if_neg k).trans (if_neg l))

/-- The solve does not read the reading's record. -/
theorem solve_congr {s t : State} (hq : t.sequence.taken = s.sequence.taken) (hf : t.functions = s.functions)
    (hp : t.settings = s.settings) (pass : Nat) (gp gr : Int) : solve t pass gp gr = solve s pass gp gr := by
  simp only [solve, heights, rawTarget, hq, hp, fn_congr hf, State.cfg]
  rfl

theorem solve_eq {s : State} {pass : Nat} {gp gr top : Int}
    (hm : ∃ j ∈ s.sequence.taken, heightOf s.settings.geometry[j].x s.settings.geometry[j].y gp gr = top)
    (hb : ∀ j ∈ s.sequence.taken, heightOf s.settings.geometry[j].x s.settings.geometry[j].y gp gr ≤ top) :
    let want := fun i : Slot => (s.fn i).position.getD 0
      + (top - heightOf s.settings.geometry[i].x s.settings.geometry[i].y gp gr).toNat
      + (if pass = 1 then s.settings.levelling.liftMargin else 0)
    let bound := fun i : Slot => (s.cfg i).stroke - (s.cfg i).endWindow
    (solve s pass gp gr).1 = s.sequence.taken.map (fun i => (i, min (bound i) (want i)))
    ∧ ((solve s pass gp gr).2 = true ↔ ∃ i ∈ s.sequence.taken, bound i < want i) := by
  have htop : highest (heights s gp gr) = top := by
    refine highest_eq ?_ ?_
    · obtain ⟨j, hj, h⟩ := hm
      exact ⟨_, List.mem_map.mpr ⟨j, hj, rfl⟩, h⟩
    · intro p hp
      obtain ⟨j, hj, rfl⟩ := List.mem_map.mp hp
      exact hb j hj
  simp only [solve, htop]
  simp only [heights, List.map_map]
  refine ⟨List.map_congr_left fun i _ => rfl, ?_⟩
  simp only [List.any_map, List.any_eq_true, Function.comp_apply, decide_eq_true_eq]
  exact Iff.rfl

/-- The gap count by the sequence number that the channel showed last. -/
theorem gaps_counted (last : Option Nat) (q gaps : Nat) :
    (if (match last with | none => false | some k => decide (q ≠ (k + 1) % 256)) = true
      then min (gaps + 1) 65535 else gaps)
    = match last with | none => gaps | some k => if q = (k + 1) % 256 then gaps else min (gaps + 1) 65535 := by
  cases last with
  | none => rfl
  | some k => by_cases h : q = (k + 1) % 256 <;> simp [h]

/-- A TILT of the level sensor node is recorded and handed to the sequencer. -/
theorem takeTilt_sensor {s : State} {n : Nat} {pitch roll : Word16} {flags seq : Byte} (hn : n < 128)
    (hx : (s.node n).state ≠ .absent) (hk : (s.node n).kind = .levelSensor)
    (hp : s.settings.levelling.sensorNode = some n) :
    takeTilt (tiltFrame n pitch roll flags seq) s
      = takeReading pitch.toInt roll.toInt (flags.getLsbD 0)
        (recordReport n 0 ⟨some pitch.toInt, some roll.toInt, some (if flags.getLsbD 0 then 1 else 0),
          some seq.toNat, ((s.node n).channels[0]?).bind (·.orderSeen)⟩ s) := by
  have hl : linkNode (tiltFrame n pitch roll flags seq).ident = n := linkNode_linkIdent hn
  have hr : tiltIsStray (tiltFrame n pitch roll flags seq) s = false := by simp [tiltIsStray, hl, hx, hk]
  have hraw : word16Of (frameByte (tiltFrame n pitch roll flags seq) 0)
      (frameByte (tiltFrame n pitch roll flags seq) 1) = pitch := word16_bytes pitch
  have hload : word16Of (frameByte (tiltFrame n pitch roll flags seq) 2)
      (frameByte (tiltFrame n pitch roll flags seq) 3) = roll := word16_bytes roll
  simp only [takeTilt, hr, hl, hraw, hload, hp, Bool.false_eq_true, if_false, if_true]
  rfl

/-- Settles O23: the heights by their sign, the reading by R83's cases, and the lift requests by R77's. -/
theorem readingsAreSolvedIntoLiftSteps : Obligations.ReadingsAreSolvedIntoLiftSteps := by
  refine ⟨heightOf_bounds, ?_⟩
  intro s p pos short formed
  have hforms : ∀ u : State, u.now = s.now → u.settings = s.settings → formed u (formStep u) := by
    intro u hn hp l hl
    obtain ⟨h1, h2, h3, h4, h5, h6⟩ := formStep_forms u
    refine ⟨h1.trans hl, h2, h4, fun h => ?_, h6⟩
    obtain ⟨k1, k2, k3, k4⟩ := h5 h
    exact ⟨k1, k2, k3, by rw [k4, hn, hp]⟩
  refine ⟨fun pass gp gr top => fun hm hb => solve_eq hm hb, fun i n => mem_nextStep s i n, ?_, ?_, ?_⟩
  · intro pitch roll stable level gp gr read usable r u pass steep flat done
    have hread : level → usable → r = evaluate gp gr u := by
      intro hl hu
      refine (if_pos hl).trans (if_pos ⟨hu.1, ?_, hu.2.2⟩)
      exact Option.isNone_iff_eq_none.mpr hu.2.1
    have hdone : ∀ x, usable → r = (endSequenceAs x u, []) → done x := by
      intro x hu hr
      have hrun : u.seqRuns = true := by
        show (s.sequence.phase != .idle) = true
        rw [hu.1]
        rfl
      obtain ⟨h1, h2, h3⟩ := endSequenceAs_ends hrun x
      simp only [done, hr, h1]
      exact ⟨trivial, rfl, rfl, rfl, rfl, rfl, rfl, rfl, h2, h3⟩
    obtain ⟨e1, e2, e3, e4⟩ := evaluate_eq gp gr u
    refine ⟨fun h => if_neg h, fun h k => ?_, fun h k l => hdone _ k ((hread h k).trans (e1 l)),
      fun h k l m => hdone _ k ((hread h k).trans (e2 l m)),
      fun h k l m o => hdone _ k ((hread h k).trans (e3 l m o)), fun h k l m o => ?_⟩
    · refine (if_pos h).trans (if_neg fun hc => k ⟨hc.1, Option.isNone_iff_eq_none.mp hc.2.1, hc.2.2⟩)
    · have hsolve : solve u (pass + 1) gp gr = solve s (pass + 1) gp gr := solve_congr rfl rfl rfl ..
      have hr := (hread h k).trans (e4 l m o)
      rw [show u.sequence.pass + 1 = pass + 1 from rfl, hsolve] at hr
      intro solved
      rw [hr]
      obtain ⟨h1, h2, h3, -⟩ := formStep_forms { u with sequence := { u.sequence with
        pass := pass + 1, targets := some solved.1, limited := s.sequence.limited || solved.2 } }
      exact ⟨hforms _ rfl rfl, h2, h1, h3⟩
  · intro ts hp hts
    refine ⟨fun h => ?_, fun ⟨x, hx, hne⟩ => ?_, ?_⟩
    · have hdone : stepDone s = true := by
        simpa [stepDone, hp, hts] using h
      rw [stepEnd, if_pos hdone]
      intro l hl
      exact hforms (s.setSeq { s.sequence with stepTargets := none }) rfl rfl l hl
    · have hdone : stepDone s = false := by
        simp only [stepDone, hp, hts, beq_self_eq_true, Bool.true_and, List.all_eq_false, Bool.not_eq_true,
          beq_eq_false_iff_ne]
        exact ⟨x, hx, hne⟩
      simp only [stepEnd, hdone, Bool.false_eq_true, if_false]
    · intro i n ht hf hd request r ends
      have hsend : r = sendSeqRequest request (seqRefused .atEnd) s := liftRequest_sends hp hts ht hf
      have hrun : s.seqRuns = true := ((isTaken_iff s i).mp ht).1
      refine ⟨fun hv => ?_, fun why hv => ?_⟩
      · have hr : r = (accept request s, [.servicePass]) := by simp only [hsend, sendSeqRequest, hv]
        have hown : (accept request s).fn i
            = ((stopFn true i .preempted s).fn i).taking (s.cfg i) request := by
          refine accept_own_fn (r := request) rfl fun h hl => ?_
          have : request.owner = .level := by simp only [request, hl, Option.getD_some]
          rw [this] at h
          exact absurd h (by simp)
        rw [hr]
        refine ⟨rfl, ?_, ?_, ?_, ?_, ?_, (Acts.accept .refl).onlyMotionChanges hd⟩
        · rw [hown]; rfl
        · rw [hown]; rfl
        · rw [hown]; rfl
        · rw [hown]
          simp [Function.taking, request, clampNat]
        · rw [hown]; rfl
      · have hends : ∀ a, r = (abortSequence true a s, []) → ends a := by
          intro a hr
          obtain ⟨h1, h2, -, h4, -⟩ := abort_ends hrun a
          exact ⟨by rw [hr], by rw [hr]; exact h1, by rw [hr]; exact h2, by rw [hr]; exact h4⟩
        have hr := hsend.trans (sendSeqRequest_refused hv)
        rw [seqRefused_lift hp] at hr
        refine ⟨?_, ?_, fun h1 h2 h3 => hends .stopped ?_⟩
        · rintro rfl
          exact hends _ hr
        · rintro (rfl | rfl) <;> exact hends _ hr
        · rw [hr]
          rw [if_neg h1, if_neg (not_or.mpr ⟨h2, h3⟩)]
  · intro n pitch roll flags seq rest hs hd hsn hk hx ha hf x v r
    have hn := node_lt hx
    let t : State := { s with path := { s.path with mReceive := rest } }
    have hv : recordReport n 0 ⟨some pitch.toInt, some roll.toInt, some (if flags.getLsbD 0 then 1 else 0),
        some seq.toNat, ((t.node n).channels[0]?).bind (·.orderSeen)⟩ t = v :=
      (recordReport_awake (s := t) hd n 0 _ rfl).trans (by
        simp only [v]
        congr 2
        exact gaps_counted ..)
    have hfirst : firstOf .tilt s = r :=
      ((takeHead_motion (fits := fun _ f => isTiltFrame f) (act := takeTilt) hf (isTiltFrame_tiltFrame hn)).trans
        (takeTilt_sensor (s := t) hn hx hk hsn)).trans (congrArg _ hv)
    have hsame : SameFollowed v s := by
      rw [← hv]
      exact (recordReport_sameRead ..).followed.trans (.of_path rfl)
    refine ⟨fun h => ?_, fun h1 h2 => ?_⟩
    · refine exec_same hs rfl (by simp [restartsAt]) (hfirst.trans (takeReading_none ?_ ..)) hsame
      have hq : v.sequence = s.sequence := by simp [v]
      rw [State.seqRuns, hq]
      exact fun k => h.elim (fun h => Bool.false_ne_true (h.symm.trans k.1)) fun h => h k.2
    · exact exec_quiet hs rfl (by simp [restartsAt]) (hfirst.trans (Prod.ext rfl h1)) h2

end Sys2Proof.Proofs
end

section
/-! PROOFS. The report and the stall of one motor channel, of a slot no sequence took: nothing but the slot's own
record changes among the functions, and what becomes of it is said at the level of the record. -/

namespace Sys2Proof.Proofs
open Sys2Proof.Machine Sys2Proof.Laws

/-! ### One slot alone -/

/-- No other slot's record changes, and the sequence stays. -/
structure Alone (i : Slot) (t s : State) : Prop where
  fn : ∀ j, j ≠ i → t.fn j = s.fn j
  sequence : t.sequence = s.sequence

section
variable {i : Slot} {s t u : State}

theorem Alone.refl : Alone i s s := ⟨fun _ _ => rfl, rfl⟩

theorem Alone.trans (h : Alone i u t) (k : Alone i t s) : Alone i u s :=
  ⟨fun j hj => (h.fn j hj).trans (k.fn j hj), h.sequence.trans k.sequence⟩

theorem Alone.ite {c : Prop} [Decidable c] (h : Alone i t s) (k : Alone i u s) : Alone i (if c then t else u) s := by
  split
  · exact h
  · exact k

theorem Alone.taken (h : Alone i t s) (j : Slot) : t.isTaken j = s.isTaken j := isTaken_congr h.sequence j

theorem Alone.storeFn (f : Function) : Alone i (s.storeFn i f) s :=
  ⟨fun _ hj => storeFn_fn_ne s f (Ne.symm hj), rfl⟩

theorem Alone.putFn (f : Function) : Alone i (putFn i f s) s :=
  ⟨fun _ hj => putFn_fn_ne f s (Ne.symm hj), by simp⟩

theorem Alone.stopFn (place : Bool) (r : StopReason) : Alone i (stopFn place i r s) s :=
  ⟨fun _ hj => stopFn_fn_ne place r s (Ne.symm hj), by simp⟩

theorem Alone.faultFn (h : s.isTaken i = false) (c : FaultCode) : Alone i (faultFn i c s) s := by
  rw [faultFn_free c h]
  refine ⟨fun j hj => ?_, by simp⟩
  rw [failFn_fn, if_neg fun k => hj k.1]

theorem Alone.settleFn (r : StopReason) (e : Ending) (b : Bool) : Alone i (settleFn i r e b s) s := by
  unfold Machine.settleFn
  exact (Alone.putFn _).trans ⟨fun j _ => fn_congr (by simp) j, by simp⟩

theorem Alone.resumeChannel (e : Side) : Alone i (resumeChannel i e s) s := .ite .refl (.storeFn _)

theorem Alone.clearMarker : Alone i (clearMarker i s) s := by
  unfold Machine.clearMarker
  split
  · exact .refl
  · exact (Alone.resumeChannel _).trans (.storeFn _)

theorem Alone.takeEndMark (e : Side) : Alone i (takeEndMark i e s) s := Alone.clearMarker.trans (.storeFn _)

theorem Alone.takeArrivalMark (e : Side) : Alone i (takeArrivalMark i e s) s := Alone.clearMarker.trans (.storeFn _)

theorem Alone.holdEnd (e : Side) : Alone i (holdEnd i e s) s := (Alone.storeFn _).trans (.storeFn _)

theorem Alone.finishMotor : Alone i (finishMotor i s) s :=
  .ite (.ite (.settleFn ..) (.ite (.settleFn ..) (.settleFn ..))) .refl

theorem Alone.judgeStall (h : s.isTaken i = false) (e : Side) : Alone i (judgeStall i e s) s := by
  unfold Machine.judgeStall
  dsimp only
  split
  · exact .ite (Alone.finishMotor.trans (.takeEndMark e)) (.faultFn h _)
  · exact .refl

theorem Alone.stallTest (h : s.isTaken i = false) (e : Side) (current : Nat) (flags : Byte) :
    Alone i (stallTest i e current flags s) s := .ite ((Alone.judgeStall (s := setChannel i e _ s) h e).trans (.storeFn _)) (.storeFn _)

theorem Alone.arrivalTest (e : Side) : Alone i (arrivalTest i e s) s := by
  unfold Machine.arrivalTest
  dsimp only
  split
  · exact .ite (.ite .refl (Alone.finishMotor.trans (.takeArrivalMark e)))
      (.ite ((Alone.resumeChannel e).trans (.storeFn _)) .refl)
  · exact .refl

theorem Alone.softSkewTest : Alone i (softSkewTest i s) s := by
  unfold Machine.softSkewTest
  dsimp only
  split
  · exact .refl
  · refine .ite .refl ?_
    split
    · exact .ite (.holdEnd _) .refl
    · exact .ite .clearMarker (.ite ((Alone.resumeChannel _).trans (.holdEnd _)) .refl)

theorem Alone.whileMoving {test : State → State} (h : Alone i (test s) s) : Alone i (whileMoving i test s) s :=
  .ite h .refl

theorem Alone.hardSkewTest (h : s.isTaken i = false) : Alone i (hardSkewTest i s) s := .ite (.faultFn h _) .refl

theorem Alone.clearanceStop : Alone i (clearanceStop i s) s := by
  unfold Machine.clearanceStop
  split
  · exact .refl
  · exact .ite (.stopFn ..) .refl

theorem Alone.motorReport (h : s.isTaken i = false) (e : Side) (current : Nat) (flags : Byte) :
    Alone i (motorReport i e current flags s) s := by
  have h1 : Alone i (Machine.clearanceStop i (Machine.hardSkewTest i s)) s :=
    Alone.clearanceStop.trans (.hardSkewTest h)
  have h2 := (Alone.whileMoving (Alone.stallTest ((h1.taken i).trans h) e current flags)).trans h1
  have h3 : ∀ u : State, Alone i
      (Machine.whileMoving i (fun s => if (s.fn i).verb = some .goto then Machine.arrivalTest i e s else s) u) u :=
    fun _ => .whileMoving (.ite (.arrivalTest e) .refl)
  have h4 : ∀ u : State, Alone i
      (Machine.whileMoving i (fun s => if (s.cfg i).kind = .slideTwin then Machine.softSkewTest i s else s) u) u :=
    fun _ => .whileMoving (.ite .softSkewTest .refl)
  exact (h4 _).trans ((h3 _).trans h2)

theorem Alone.turnChannel (e : Side) : Alone i (turnChannel i e s) s := .ite .refl (.storeFn _)

theorem Alone.orderChannel (e : Side) : Alone i (orderChannel i e s) s :=
  ⟨fun j _ => fn_congr (by simp) j, by simp⟩

theorem Alone.reorder : Alone i (reorder i s) s := by
  refine .ite ?_ .refl
  induction (s.cfg i).sides generalizing s with
  | nil => exact .refl
  | cons e l ih => exact ih.trans ((Alone.orderChannel e).trans (.turnChannel e))

theorem Alone.stallExpired (h : s.isTaken i = false) (e : Side) : Alone i (stallExpired i e s) s :=
  Alone.reorder.trans ((Alone.judgeStall (s := setChannel i e _ s) h e).trans (.storeFn _))

end

/-! ### Holds, marks and the marker at the level of the record (R97, R102, R104, R105) -/

theorem storeFn_storeFn (s : State) (i : Slot) (f g : Function) : (s.storeFn i f).storeFn i g = s.storeFn i g := by
  simp [State.storeFn]

theorem storeFn_same (s : State) (i : Slot) : s.storeFn i (s.fn i) = s := by
  simp [State.storeFn, State.fn]

/-- One of its marks, or the marker, holds the end. -/
def heldAt (f : Function) (e : Side) : Bool := (f.chan e).endMark || (f.chan e).arrivalMark || f.skewHold == some e

/-- The record once the end is driven again, unless something holds it. -/
def resumedAt (f : Function) (e : Side) (now : Nat) : Function :=
  if heldAt f e then f else f.setChan e { f.chan e with startTime := some now }

/-- The record once the marker names no end. -/
def unheldAt (f : Function) (now : Nat) : Function :=
  match f.skewHold with
  | none => f
  | some e => resumedAt { f with skewHold := none } e now

/-- The record with an end mark. -/
def endMarkedAt (f : Function) (e : Side) (now : Nat) : Function :=
  unheldAt (f.setChan e { f.chan e with endMark := true, stallTimer := none }) now

/-- The record with an arrival mark. -/
def arrivedAt (f : Function) (e : Side) (now : Nat) : Function :=
  unheldAt (f.setChan e { f.chan e with arrivalMark := true, stallTimer := none }) now

section
variable {s : State} {i : Slot} {f : Function} {now : Nat}

@[simp] theorem chan_setChan (f : Function) (e : Side) (ch : Channel) : (f.setChan e ch).chan e = ch := by cases e <;> rfl

theorem chan_setChan_other (f : Function) {e g : Side} (h : g ≠ e) (ch : Channel) : (f.setChan e ch).chan g = f.chan g := by
  cases e with
  | a =>
    cases g with
    | a => exact absurd rfl h
    | b => rfl
  | b =>
    cases g with
    | a => rfl
    | b => exact absurd rfl h

theorem setChan_setChan (f : Function) (e : Side) (a b : Channel) : (f.setChan e a).setChan e b = f.setChan e b := by
  cases e <;> rfl

theorem setChan_chan (f : Function) (e : Side) : f.setChan e (f.chan e) = f := by cases e <;> rfl

theorem channelHeld_free (h : s.isTaken i = false) (e : Side) : s.channelHeld i e = heldAt (s.fn i) e := by
  simp only [State.channelHeld, h, heldAt, Bool.false_and, Bool.or_false]

theorem setChannel_eq (e : Side) (ch : Channel) : setChannel i e ch s = s.storeFn i ((s.fn i).setChan e ch) := rfl

theorem resumeChannel_free (h : s.isTaken i = false) (e : Side) :
    resumeChannel i e s = s.storeFn i (resumedAt (s.fn i) e s.now) := by
  simp only [resumeChannel, channelHeld_free h, resumedAt]
  split
  · rw [storeFn_same]
  · rfl

theorem clearMarker_free (h : s.isTaken i = false) : clearMarker i s = s.storeFn i (unheldAt (s.fn i) s.now) := by
  cases hm : (s.fn i).skewHold with
  | none => simp only [clearMarker, unheldAt, hm, storeFn_same]
  | some e =>
    simp only [clearMarker, unheldAt, hm, resumeChannel_free (s := setMarker i none s) h]
    simp only [setMarker, storeFn_storeFn, storeFn_fn]
    rfl

theorem takeEndMark_free (h : s.isTaken i = false) (e : Side) :
    takeEndMark i e s = s.storeFn i (endMarkedAt (s.fn i) e s.now) := by
  unfold takeEndMark endMarkedAt
  rw [clearMarker_free (s := setChannel i e _ s) h]
  simp only [setChannel, storeFn_storeFn, storeFn_fn]
  rfl

theorem takeArrivalMark_free (h : s.isTaken i = false) (e : Side) :
    takeArrivalMark i e s = s.storeFn i (arrivedAt (s.fn i) e s.now) := by
  unfold takeArrivalMark arrivedAt
  rw [clearMarker_free (s := setChannel i e _ s) h]
  simp only [setChannel, storeFn_storeFn, storeFn_fn]
  rfl

/-- Nothing but the marker and start times differs where the marker names no end any more. -/
theorem unheldAt_shape (f : Function) (now : Nat) : ∃ x y, unheldAt f now = { f with
    skewHold := none, chA := { f.chA with startTime := x }, chB := { f.chB with startTime := y } } := by
  unfold unheldAt
  split
  · next h => exact ⟨f.chA.startTime, f.chB.startTime, by rw [← h]⟩
  · next e _ =>
    unfold resumedAt
    split
    · exact ⟨f.chA.startTime, f.chB.startTime, rfl⟩
    · cases e
      · exact ⟨some now, f.chB.startTime, rfl⟩
      · exact ⟨f.chA.startTime, some now, rfl⟩

/-- What a mark leaves of the record: the mark stands, the marker names no end, and the rest but start times is kept.
-/
theorem unheldAt_reads (f : Function) (now : Nat) : (unheldAt f now).activity = f.activity
    ∧ (unheldAt f now).owner = f.owner ∧ (unheldAt f now).verb = f.verb ∧ (unheldAt f now).target = f.target
    ∧ (unheldAt f now).skewHold = none
    ∧ ∀ e, ∃ x, (unheldAt f now).chan e = { f.chan e with startTime := x } := by
  obtain ⟨x, y, h⟩ := unheldAt_shape f now
  rw [h]
  refine ⟨rfl, rfl, rfl, rfl, rfl, fun e => ?_⟩
  cases e
  · exact ⟨x, rfl⟩
  · exact ⟨y, rfl⟩

end

/-! ### The end of a motor move (R102, R105) -/

section
variable {s : State} {i : Slot} {f : Function}

theorem finishMotor_open (h : ∃ e ∈ (s.cfg i).sides, ((s.fn i).chan e).endMark = false
    ∧ ((s.fn i).chan e).arrivalMark = false) : finishMotor i s = s := by
  refine if_neg ?_
  simp only [State.allMarked, List.all_eq_true, Bool.or_eq_true, not_forall]
  obtain ⟨e, he, h1, h2⟩ := h
  exact ⟨e, he, by simp [h1, h2]⟩

theorem finishMotor_end {d : Direction} (hm : ∀ e ∈ (s.cfg i).sides, ((s.fn i).chan e).endMark = true
      ∨ ((s.fn i).chan e).arrivalMark = true)
    (hd : ∃ e ∈ (s.cfg i).sides, ((s.fn i).chan e).endMark = true ∧ ((s.fn i).chan e).direction = some d)
    (hall : ∀ e ∈ (s.cfg i).sides, ((s.fn i).chan e).endMark = true → ((s.fn i).chan e).direction = some d) :
    finishMotor i s = settleFn i .endReached (Ending.ofDirection d) true s := by
  have hmarked : s.allMarked i = true := by
    simpa only [State.allMarked, List.all_eq_true, Bool.or_eq_true] using hm
  have hsome : s.endMarkedAs i d = true := by
    simpa only [State.endMarkedAs, List.any_eq_true, Bool.and_eq_true, beq_iff_eq] using hd
  have hnot : ∀ d', d' ≠ d → s.endMarkedAs i d' = false := by
    intro d' hne
    simp only [State.endMarkedAs, List.any_eq_false, Bool.and_eq_true, beq_iff_eq, not_and]
    exact fun e he h1 h2 => hne (Option.some.inj (h2.symm.trans (hall e he h1)))
  refine (if_pos hmarked).trans ?_
  cases d with
  | retract => exact if_pos hsome
  | extend => exact (if_neg (Bool.eq_false_iff.mp (hnot .retract (by decide)))).trans (if_pos hsome)

theorem finishMotor_target (hm : ∀ e ∈ (s.cfg i).sides, ((s.fn i).chan e).endMark = true
      ∨ ((s.fn i).chan e).arrivalMark = true) (hn : ∀ e ∈ (s.cfg i).sides, ((s.fn i).chan e).endMark = false) :
    finishMotor i s = settleFn i .targetReached .target false s := by
  have hmarked : s.allMarked i = true := by
    simpa only [State.allMarked, List.all_eq_true, Bool.or_eq_true] using hm
  have hnot : ∀ d, ¬ s.endMarkedAs i d = true := by
    intro d
    simp only [State.endMarkedAs, List.any_eq_true, Bool.and_eq_true, not_exists, not_and]
    exact fun e he h1 => absurd (h1.symm.trans (hn e he)) (by simp)
  exact (if_pos hmarked).trans ((if_neg (hnot .retract)).trans (if_neg (hnot .extend)))

end

/-! ### The stages of a motor report (R106) -/

/-- The arrival test of a GOTO, while the function is MOVING still. -/
def arrivalStage (i : Slot) (e : Side) (s : State) : State :=
  whileMoving i (fun s => if (s.fn i).verb = some .goto then arrivalTest i e s else s) s

/-- The soft-skew test of a twin, while the function is MOVING still. -/
def skewStage (i : Slot) (s : State) : State :=
  whileMoving i (fun s => if (s.cfg i).kind = .slideTwin then softSkewTest i s else s) s

theorem motorReport_eq (i : Slot) (e : Side) (current : Nat) (flags : Byte) (s : State) :
    motorReport i e current flags s = skewStage i (arrivalStage i e (whileMoving i (stallTest i e current flags)
      (clearanceStop i (hardSkewTest i s)))) := rfl

section
variable {s : State} {i : Slot}

theorem whileMoving_moving {test : State → State} (h : (s.fn i).activity = .moving) : whileMoving i test s = test s :=
  if_pos (by simp [State.moves, h])

theorem whileMoving_over {test : State → State} (h : (s.fn i).activity ≠ .moving) : whileMoving i test s = s :=
  if_neg (by simp [State.moves, h])

theorem stages_over (h : (s.fn i).activity ≠ .moving) (e : Side) : skewStage i (arrivalStage i e s) = s := by
  rw [arrivalStage, whileMoving_over h, skewStage, whileMoving_over h]

theorem arrivalStage_goto (h : (s.fn i).activity = .moving) (hv : (s.fn i).verb = some .goto) (e : Side) :
    arrivalStage i e s = arrivalTest i e s := (whileMoving_moving h).trans (if_pos hv)

theorem arrivalStage_other (hv : (s.fn i).verb ≠ some .goto) (e : Side) : arrivalStage i e s = s := by
  unfold arrivalStage whileMoving
  simp only [if_neg hv, ite_self]

theorem skewStage_twin (h : (s.fn i).activity = .moving) (hk : (s.cfg i).kind = .slideTwin) :
    skewStage i s = softSkewTest i s := (whileMoving_moving h).trans (if_pos hk)

theorem skewStage_other (hk : (s.cfg i).kind ≠ .slideTwin) : skewStage i s = s := by
  unfold skewStage whileMoving
  simp only [if_neg hk, ite_self]

/-- With a mark at either end only the hard skew applies. -/
theorem softSkewTest_marked (h : ∃ e, ((s.fn i).chan e).endMark = true ∨ ((s.fn i).chan e).arrivalMark = true) :
    softSkewTest i s = s := by
  have ha : (s.fn i).anyMark = true := by
    obtain ⟨e, he⟩ := h
    cases e <;> rcases he with he | he <;>
      simp only [Function.chan] at he <;> simp only [Function.anyMark, he, Bool.true_or, Bool.or_true]
  simp only [softSkewTest, ha, if_true]
  split <;> rfl

theorem skewStage_marked (h : ∃ e, ((s.fn i).chan e).endMark = true ∨ ((s.fn i).chan e).arrivalMark = true) :
    skewStage i s = s := by
  unfold skewStage whileMoving
  simp only [softSkewTest_marked h, ite_self]

theorem arrivalTest_near {e : Side} {x p : Nat} (ht : s.isTaken i = false) (hx : (s.fn i).target = some x)
    (hp : ((s.fn i).chan e).position = some p) (hg : gap x p ≤ arrivalWidth (s.cfg i).kind)
    (hm : ((s.fn i).chan e).arrivalMark = false) :
    arrivalTest i e s = finishMotor i (s.storeFn i (arrivedAt (s.fn i) e s.now)) := by
  simp only [arrivalTest, hx, hp, hg, hm, if_true, Bool.false_eq_true, if_false, takeArrivalMark_free ht]

theorem arrivalTest_apart {e : Side} {x p : Nat} (hx : (s.fn i).target = some x)
    (hp : ((s.fn i).chan e).position = some p) (hg : ¬ gap x p ≤ arrivalWidth (s.cfg i).kind)
    (hm : ((s.fn i).chan e).arrivalMark = false) : arrivalTest i e s = s := by
  simp only [arrivalTest, hx, hp, hg, hm, if_false, Bool.false_eq_true]

theorem arrivalTest_far {e : Side} {x p : Nat} (ht : s.isTaken i = false) (hx : (s.fn i).target = some x)
    (hp : ((s.fn i).chan e).position = some p) (hg : ¬ gap x p ≤ arrivalWidth (s.cfg i).kind)
    (hm : ((s.fn i).chan e).arrivalMark = true) :
    arrivalTest i e s = s.storeFn i
      (resumedAt ((s.fn i).setChan e { (s.fn i).chan e with arrivalMark := false }) e s.now) := by
  simp only [arrivalTest, hx, hp, hg, hm, if_true, if_false]
  rw [resumeChannel_free (s := setChannel i e _ s) ht]
  simp only [setChannel, storeFn_storeFn, storeFn_fn]
  rfl

/-- The record whose marker names an end. -/
def heldEndAt (f : Function) (e : Side) : Function :=
  ({ f with skewHold := some e } : Function).setChan e { f.chan e with stallTimer := none }

/-- The marker names the end and cancels its stall timer; nothing else of the record differs. -/
theorem heldEndAt_reads (f : Function) (e : Side) : (heldEndAt f e).activity = f.activity
    ∧ (heldEndAt f e).skewHold = some e ∧ ((heldEndAt f e).chan e).stallTimer = none
    ∧ ∀ g, ((heldEndAt f e).chan g).arrivalMark = (f.chan g).arrivalMark
      ∧ ((heldEndAt f e).chan g).startTime = (f.chan g).startTime := by
  cases e <;> refine ⟨rfl, rfl, rfl, fun g => ?_⟩ <;> cases g <;> exact ⟨rfl, rfl⟩

theorem holdEnd_eq (e : Side) : holdEnd i e s = s.storeFn i (heldEndAt (s.fn i) e) := by
  simp only [holdEnd, setChannel, setMarker, storeFn_storeFn, storeFn_fn]
  rfl

section
variable {k : Nat} (hk : skewOf (s.fn i) = some k)
  (hm : ∀ e, ¬(((s.fn i).chan e).endMark = true ∨ ((s.fn i).chan e).arrivalMark = true))
include hk hm

omit hk in
theorem anyMark_unmarked : (s.fn i).anyMark = false := by
  have h1 := hm .a
  have h2 := hm .b
  simp only [Function.chan, not_or, Bool.not_eq_true] at h1 h2
  simp only [Function.anyMark, h1.1, h1.2, h2.1, h2.2, Bool.or_false]

/-- Without a mark the soft skew is judged by the marker (R104). -/
theorem softSkewTest_held {e : Side} (hs : (s.fn i).skewHold = some e) : softSkewTest i s
    = if k ≤ (s.cfg i).softSkew / 2 then clearMarker i s
      else if e ≠ leaderOf (s.cfg i) (s.fn i) ∧ (s.cfg i).softSkew < k then
        resumeChannel i e (holdEnd i (leaderOf (s.cfg i) (s.fn i)) s)
      else s := by
  simp only [softSkewTest, hk, hs, anyMark_unmarked hm, Bool.false_eq_true, if_false]

theorem softSkewTest_begins (hs : (s.fn i).skewHold = none) : softSkewTest i s
    = if (s.cfg i).softSkew < k then s.storeFn i (heldEndAt (s.fn i) (leaderOf (s.cfg i) (s.fn i))) else s := by
  simp only [softSkewTest, hk, hs, anyMark_unmarked hm, Bool.false_eq_true, if_false, holdEnd_eq]

theorem softSkewTest_ends (ht : s.isTaken i = false) {g : Side} (hs : (s.fn i).skewHold = some g)
    (hl : k ≤ (s.cfg i).softSkew / 2) :
    softSkewTest i s = s.storeFn i (({ s.fn i with skewHold := none } : Function).setChan g
      { (s.fn i).chan g with startTime := some s.now }) := by
  have hfree : heldAt { s.fn i with skewHold := none } g = false := by
    have := hm g
    simp only [not_or, Bool.not_eq_true] at this
    cases g <;> simp only [Function.chan] at this <;> simp [heldAt, Function.chan, this.1, this.2]
  rw [softSkewTest_held hk hm hs, if_pos hl, clearMarker_free ht, unheldAt, hs]
  dsimp only
  rw [resumedAt, hfree]
  cases g <;> rfl

theorem softSkewTest_stays {g : Side} (hs : (s.fn i).skewHold = some g) (hl : (s.cfg i).softSkew / 2 < k)
    (hg : g = leaderOf (s.cfg i) (s.fn i) ∨ k ≤ (s.cfg i).softSkew) : softSkewTest i s = s := by
  rw [softSkewTest_held hk hm hs, if_neg (Nat.not_le.mpr hl), if_neg]
  rintro ⟨h1, h2⟩
  exact hg.elim h1 fun h => absurd h2 (Nat.not_lt.mpr h)

theorem softSkewTest_moves (ht : s.isTaken i = false) {g : Side} (hs : (s.fn i).skewHold = some g)
    (hl : (s.cfg i).softSkew < k) (hg : g ≠ leaderOf (s.cfg i) (s.fn i)) :
    softSkewTest i s = s.storeFn i ((heldEndAt (s.fn i) (leaderOf (s.cfg i) (s.fn i))).setChan g
      { (s.fn i).chan g with startTime := some s.now }) := by
  have hhalf : ¬ k ≤ (s.cfg i).softSkew / 2 := by omega
  rw [softSkewTest_held hk hm hs, if_neg hhalf, if_pos ⟨hg, hl⟩, holdEnd_eq, resumeChannel_free (s := s.storeFn i _) ht, storeFn_storeFn, storeFn_fn]
  generalize leaderOf (s.cfg i) (s.fn i) = l at hg ⊢
  have hch : (heldEndAt (s.fn i) l).chan g = (s.fn i).chan g := by
    rw [heldEndAt, chan_setChan_other _ hg]
    cases g <;> rfl
  have hmark : (heldEndAt (s.fn i) l).skewHold = some l := by cases l <;> rfl
  have hfree : heldAt (heldEndAt (s.fn i) l) g = false := by
    have := hm g
    simp only [not_or, Bool.not_eq_true] at this
    simp [heldAt, hch, hmark, this.1, this.2, Ne.symm hg]
  rw [resumedAt, hfree, hch]
  rfl

end

end

end Sys2Proof.Proofs
end

section
/-! PROOFS. The judgement of a motor channel's report, stage by stage: what each test of R106 makes of the record of a
slot no sequence took. -/

namespace Sys2Proof.Proofs
open Sys2Proof.Machine Sys2Proof.Laws

/-! ### Marked records -/

theorem endMarkedAt_reads (f : Function) (e : Side) (now : Nat) : (endMarkedAt f e now).activity = f.activity
    ∧ (endMarkedAt f e now).owner = f.owner ∧ (endMarkedAt f e now).verb = f.verb
    ∧ (endMarkedAt f e now).target = f.target ∧ (endMarkedAt f e now).skewHold = none
    ∧ (∃ x, (endMarkedAt f e now).chan e = { f.chan e with endMark := true, stallTimer := none, startTime := x })
    ∧ ∀ g, g ≠ e → ∃ x, (endMarkedAt f e now).chan g = { f.chan g with startTime := x } := by
  obtain ⟨h1, h2, h3, h4, h5, h6⟩ := unheldAt_reads
    (f.setChan e { f.chan e with endMark := true, stallTimer := none }) now
  have hset : ∀ ch, (f.setChan e ch).activity = f.activity ∧ (f.setChan e ch).owner = f.owner
      ∧ (f.setChan e ch).verb = f.verb ∧ (f.setChan e ch).target = f.target := by
    intro ch
    cases e <;> exact ⟨rfl, rfl, rfl, rfl⟩
  obtain ⟨k1, k2, k3, k4⟩ := hset { f.chan e with endMark := true, stallTimer := none }
  refine ⟨h1.trans k1, h2.trans k2, h3.trans k3, h4.trans k4, h5, ?_, fun g hg => ?_⟩
  · obtain ⟨x, hx⟩ := h6 e
    exact ⟨x, by rw [endMarkedAt, hx, chan_setChan]⟩
  · obtain ⟨x, hx⟩ := h6 g
    exact ⟨x, by rw [endMarkedAt, hx, chan_setChan_other f hg]⟩

theorem arrivedAt_reads (f : Function) (e : Side) (now : Nat) : (arrivedAt f e now).activity = f.activity
    ∧ (arrivedAt f e now).owner = f.owner ∧ (arrivedAt f e now).skewHold = none
    ∧ (∃ x, (arrivedAt f e now).chan e = { f.chan e with arrivalMark := true, stallTimer := none, startTime := x })
    ∧ ∀ g, g ≠ e → ∃ x, (arrivedAt f e now).chan g = { f.chan g with startTime := x } := by
  obtain ⟨h1, h2, -, -, h5, h6⟩ := unheldAt_reads
    (f.setChan e { f.chan e with arrivalMark := true, stallTimer := none }) now
  have hset : ∀ ch, (f.setChan e ch).activity = f.activity ∧ (f.setChan e ch).owner = f.owner := by
    intro ch
    cases e <;> exact ⟨rfl, rfl⟩
  obtain ⟨k1, k2⟩ := hset { f.chan e with arrivalMark := true, stallTimer := none }
  refine ⟨h1.trans k1, h2.trans k2, h5, ?_, fun g hg => ?_⟩
  · obtain ⟨x, hx⟩ := h6 e
    exact ⟨x, by rw [arrivedAt, hx, chan_setChan]⟩
  · obtain ⟨x, hx⟩ := h6 g
    exact ⟨x, by rw [arrivedAt, hx, chan_setChan_other f hg]⟩

/-- A stall timer that a mark cancels anyway need not have run. -/
theorem endMarkedAt_cleared (f : Function) (e : Side) (now : Nat) (x : Timer) :
    endMarkedAt (f.setChan e { f.chan e with stallTimer := x }) e now = endMarkedAt f e now := by
  simp only [endMarkedAt, setChan_setChan, chan_setChan]

theorem arrivedAt_cleared (f : Function) (e : Side) (now : Nat) (x : Timer) :
    arrivedAt (f.setChan e { f.chan e with stallTimer := x }) e now = arrivedAt f e now := by
  simp only [arrivedAt, setChan_setChan, chan_setChan]

/-! ### The stall (R101, R102) -/

section
variable {s : State} {i : Slot} {e : Side} {p : Nat} {d : Direction}

theorem judgeStall_outside (hp : ((s.fn i).chan e).position = some p) (hd : ((s.fn i).chan e).direction = some d)
    (hw : inWindow (s.cfg i) d p = false) : judgeStall i e s = faultFn i .obstruction s := by
  simp only [judgeStall, hp, hd, hw, Bool.false_eq_true, if_false]

theorem judgeStall_inside (ht : s.isTaken i = false) (hp : ((s.fn i).chan e).position = some p)
    (hd : ((s.fn i).chan e).direction = some d) (hw : inWindow (s.cfg i) d p = true) :
    judgeStall i e s = finishMotor i (s.storeFn i (endMarkedAt (s.fn i) e s.now)) := by
  simp only [judgeStall, hp, hd, hw, if_true, takeEndMark_free ht]

/-- The record with the channel's stall timer cancelled, as the judgement of its stall finds it. -/
theorem cleared_reads (f : Function) (e : Side) : ((f.setChan e { f.chan e with stallTimer := none }).chan e).position
      = (f.chan e).position
    ∧ ((f.setChan e { f.chan e with stallTimer := none }).chan e).direction = (f.chan e).direction
    ∧ (f.setChan e { f.chan e with stallTimer := none }).activity = f.activity
    ∧ (f.setChan e { f.chan e with stallTimer := none }).lastStop = f.lastStop := by
  rw [chan_setChan]
  cases e <;> exact ⟨rfl, rfl, rfl, rfl⟩

/-- A stall outside the window faults the function OBSTRUCTION. -/
theorem stalled_outside (hp : ((s.fn i).chan e).position = some p) (hd : ((s.fn i).chan e).direction = some d)
    (ha : (s.fn i).activity = .moving) (hw : inWindow (s.cfg i) d p = false) :
    ∃ f : Function, (judgeStall i e (setChannel i e { (s.fn i).chan e with stallTimer := none } s)).fn i
      = f.failed .obstruction ∧ f.lastStop = (s.fn i).lastStop := by
  obtain ⟨h1, h2, h3, h4⟩ := cleared_reads (s.fn i) e
  rw [setChannel_eq, judgeStall_outside (s := s.storeFn i _) (p := p) (d := d) (by rw [storeFn_fn]; exact h1.trans hp)
    (by rw [storeFn_fn]; exact h2.trans hd) hw]
  refine ⟨_, faultFn_self .obstruction ?_, ?_⟩
  · rw [storeFn_fn, h3, ha]
    rfl
  · rw [storeFn_fn, h4]

/-- A stall inside the window marks the end. -/
theorem stalled_inside (ht : s.isTaken i = false) (hp : ((s.fn i).chan e).position = some p)
    (hd : ((s.fn i).chan e).direction = some d) (hw : inWindow (s.cfg i) d p = true) :
    judgeStall i e (setChannel i e { (s.fn i).chan e with stallTimer := none } s)
      = finishMotor i (s.storeFn i (endMarkedAt (s.fn i) e s.now)) := by
  obtain ⟨h1, h2, -, -⟩ := cleared_reads (s.fn i) e
  rw [setChannel_eq, judgeStall_inside (s := s.storeFn i _) (p := p) (d := d) ht (by rw [storeFn_fn]; exact h1.trans hp)
    (by rw [storeFn_fn]; exact h2.trans hd) hw]
  rw [storeFn_storeFn, storeFn_fn, endMarkedAt_cleared]
  rfl

theorem stallTest_end {flags : Byte} (hf : flags.getLsbD 3 = true)
    (hh : s.channelHeld i e = false) (current : Nat) : stallTest i e current flags s
      = judgeStall i e (setChannel i e { (s.fn i).chan e with stallTimer := none } s) :=
  if_pos (by simp [reportEnd, hf, hh])

theorem stallTest_timed {flags : Byte} (h : ¬(flags.getLsbD 3 = true ∧ s.channelHeld i e = false)) (current : Nat) :
    stallTest i e current flags s = s.storeFn i ((s.fn i).setChan e { (s.fn i).chan e with
      stallTimer := stallTimerAfter (s.cfg i) (s.channelHeld i e) s.now current flags ((s.fn i).chan e) }) :=
  if_neg (by simpa [reportEnd] using h)

theorem stallTimerAfter_eq (c : FunctionConfig) (held : Bool) (now current : Nat) (flags : Byte) (ch : Channel) :
    stallTimerAfter c held now current flags ch
      = if ch.stallTimer.isSome then if c.stallCurrent ≤ current ∨ flags.getLsbD 2 = true then ch.stallTimer else none
        else if (c.stallCurrent ≤ current ∨ flags.getLsbD 2 = true) ∧ held = false
          ∧ (∀ t0, ch.startTime = some t0 → t0 + 250 ≤ now) then some (now + c.stallTime) else none := by
  have hhigh : (decide (c.stallCurrent ≤ current) || reportStall flags) = true
      ↔ (c.stallCurrent ≤ current ∨ flags.getLsbD 2 = true) := by simp [reportStall]
  have hpast : pastStart now ch = true ↔ ∀ t0, ch.startTime = some t0 → t0 + 250 ≤ now := by
    cases h : ch.startTime with
    | none => simp [pastStart, h]
    | some t =>
      simp only [pastStart, h, startInterval, Option.some.injEq, forall_eq']
      exact decide_eq_true_iff
  simp only [stallTimerAfter, hhigh, Bool.and_eq_true, hpast, Bool.not_eq_true', and_assoc]
  rfl

/-- The ends of a move that a mark at this channel leaves no channel of a motor without. -/
theorem marked_ended {f g : Function} (hfin : finishMotor i (s.storeFn i g) = settleFn i .endReached (Ending.ofDirection d) true (s.storeFn i g))
    (ho : g.owner = f.owner) : let t := finishMotor i (s.storeFn i g)
    (t.fn i).activity = .settling ∧ (t.fn i).lastStop = some .endReached
      ∧ (t.fn i).ending = some (Ending.ofDirection d) ∧ (t.fn i).byStall = true
      ∧ (t.fn i).settleTimer = some (s.now + (s.cfg i).settleTime) ∧ (t.fn i).owner = f.owner := by
  intro t
  have hf : t.fn i = g.settlingAs .endReached (Ending.ofDirection d) true (some (s.now + (s.cfg i).settleTime)) := by
    rw [show t = _ from hfin, settleFn_fn, storeFn_fn]
    rfl
  rw [hf]
  exact ⟨rfl, rfl, rfl, rfl, rfl, ho⟩

end

/-! ### The judgement in R106's order -/

/-- The record as the stall timer's judgement leaves it. -/
def timedAt (f : Function) (e : Side) (x : Timer) : Function := f.setChan e { f.chan e with stallTimer := x }

/-- The stall timer is all that its judgement writes. -/
theorem timedAt_reads (f : Function) (e : Side) (x : Timer) : (timedAt f e x).activity = f.activity
    ∧ (timedAt f e x).owner = f.owner ∧ (timedAt f e x).verb = f.verb ∧ (timedAt f e x).target = f.target
    ∧ (timedAt f e x).skewHold = f.skewHold ∧ skewOf (timedAt f e x) = skewOf f
    ∧ (∀ c, leaderOf c (timedAt f e x) = leaderOf c f)
    ∧ ((timedAt f e x).chan e).stallTimer = x
    ∧ ∀ g, ((timedAt f e x).chan g).position = (f.chan g).position
      ∧ ((timedAt f e x).chan g).endMark = (f.chan g).endMark
      ∧ ((timedAt f e x).chan g).arrivalMark = (f.chan g).arrivalMark := by
  cases e <;> refine ⟨rfl, rfl, rfl, rfl, rfl, rfl, fun _ => rfl, rfl, fun g => ?_⟩ <;> cases g <;> exact ⟨rfl, rfl, rfl⟩

section
variable {s : State} {i : Slot} {e : Side} {p current : Nat} {flags : Byte} {d : Direction}

theorem skewTooHard_iff (s : State) (i : Slot) : s.skewTooHard i = true
    ↔ (s.cfg i).kind = .slideTwin ∧ ∃ k, skewOf (s.fn i) = some k ∧ (s.cfg i).hardSkew < k := by
  cases h : skewOf (s.fn i) <;> simp [State.skewTooHard, h]

/-- A hard skew faults the twin, and the tests that follow find no move. -/
theorem report_tooHard (hh : s.skewTooHard i = true) (ha : (s.fn i).activity = .moving) :
    (motorReport i e current flags s).fn i = (s.fn i).failed .skew := by
  have hf : (faultFn i .skew s).fn i = (s.fn i).failed .skew := faultFn_self .skew (by rw [ha]; rfl)
  have hover : ((faultFn i .skew s).fn i).activity ≠ .moving := by rw [hf]; simp [Function.failed]
  have hstop : clearanceStop i (faultFn i .skew s) = faultFn i .skew s := by
    unfold clearanceStop
    split
    · rfl
    · simp [State.moves, hover]
  rw [motorReport_eq, hardSkewTest, if_pos hh, hstop, whileMoving_over hover, stages_over hover, hf]

/-- The clearance stop of an awning ends its report. -/
theorem report_blocked (hh : s.skewTooHard i = false) (hc : clearanceStop i s = stopFn true i .clearance s)
    (ha : (s.fn i).activity = .moving) :
    (motorReport i e current flags s).fn i = (s.fn i).stopped .clearance := by
  have hf : (stopFn true i .clearance s).fn i = (s.fn i).stopped .clearance := by
    rw [stopFn_fn_if, if_pos ⟨rfl, by rw [ha]; rfl⟩]
  have hover : ((stopFn true i .clearance s).fn i).activity ≠ .moving := by rw [hf]; simp [Function.stopped]
  rw [motorReport_eq, hardSkewTest, if_neg (Bool.eq_false_iff.mp hh), hc, whileMoving_over hover, stages_over hover, hf]

/-- Past the hard skew and the clearance, the stall is judged first. -/
theorem report_judged (hh : s.skewTooHard i = false) (hc : clearanceStop i s = s) (ha : (s.fn i).activity = .moving)
    (e : Side) (current : Nat) (flags : Byte) :
    motorReport i e current flags s = skewStage i (arrivalStage i e (stallTest i e current flags s)) := by
  rw [motorReport_eq, hardSkewTest, if_neg (Bool.eq_false_iff.mp hh), hc, whileMoving_moving ha]

section
variable (ht : s.isTaken i = false) (hh : s.skewTooHard i = false) (hc : clearanceStop i s = s)
  (ha : (s.fn i).activity = .moving) (hp : ((s.fn i).chan e).position = some p)
include ht hh hc ha hp

section
variable (hd : ((s.fn i).chan e).direction = some d) (hflag : flags.getLsbD 3 = true)
  (hheld : s.channelHeld i e = false)
include hd hflag hheld

omit ht in
theorem report_outside (hw : inWindow (s.cfg i) d p = false) : ∃ f : Function,
    (motorReport i e current flags s).fn i = f.failed .obstruction ∧ f.lastStop = (s.fn i).lastStop := by
  obtain ⟨f, hf, hl⟩ := stalled_outside hp hd ha hw
  refine ⟨f, ?_, hl⟩
  rw [report_judged hh hc ha, stallTest_end hflag hheld, stages_over (by rw [hf]; simp [Function.failed]), hf]

/-- An end mark that leaves no channel unmarked ends the move. -/
theorem report_ended (hw : inWindow (s.cfg i) d p = true)
    (hfin : finishMotor i (s.storeFn i (endMarkedAt (s.fn i) e s.now))
      = settleFn i .endReached (Ending.ofDirection d) true (s.storeFn i (endMarkedAt (s.fn i) e s.now))) :
    let t := motorReport i e current flags s
    (t.fn i).activity = .settling ∧ (t.fn i).lastStop = some .endReached
      ∧ (t.fn i).ending = some (Ending.ofDirection d) ∧ (t.fn i).byStall = true
      ∧ (t.fn i).settleTimer = some (s.now + (s.cfg i).settleTime) ∧ (t.fn i).owner = (s.fn i).owner := by
  intro t
  have hs := marked_ended hfin (endMarkedAt_reads (s.fn i) e s.now).2.1
  have ht' : t = finishMotor i (s.storeFn i (endMarkedAt (s.fn i) e s.now)) := by
    simp only [t]
    rw [report_judged hh hc ha, stallTest_end hflag hheld, stalled_inside ht hp hd hw,
      stages_over (by rw [hs.1]; decide)]
  rw [ht']
  exact hs

/-- The first end mark of a twin leaves it MOVING. -/
theorem report_firstEnd {g : Side} (hge : g ≠ e) (hgs : g ∈ (s.cfg i).sides)
    (hg : ((s.fn i).chan g).endMark = false ∧ ((s.fn i).chan g).arrivalMark = false)
    (hw : inWindow (s.cfg i) d p = true) : let t := motorReport i e current flags s
    (t.fn i).activity = .moving ∧ ((t.fn i).chan e).endMark = true ∧ ((t.fn i).chan e).stallTimer = none
      ∧ (t.fn i).skewHold = none := by
  obtain ⟨k1, -, -, -, k5, ⟨x, k6⟩, k7⟩ := endMarkedAt_reads (s.fn i) e s.now
  obtain ⟨y, k8⟩ := k7 g hge
  generalize hw' : endMarkedAt (s.fn i) e s.now = f at k1 k5 k6 k8
  have hopen : ∀ h : Function, (h.chan g).endMark = false → (h.chan g).arrivalMark = false →
      finishMotor i (s.storeFn i h) = s.storeFn i h := fun h h1 h2 =>
    finishMotor_open (s := s.storeFn i h) ⟨g, hgs, by rw [storeFn_fn]; exact h1, by rw [storeFn_fn]; exact h2⟩
  have hunmarked : ((s.fn i).chan e).arrivalMark = false := by
    rw [channelHeld_free ht, heldAt, Bool.or_eq_false_iff, Bool.or_eq_false_iff] at hheld
    exact hheld.1.2
  -- the record that the arrival test leaves, with the end mark standing
  have hstage : ∃ h : Function, arrivalStage i e (s.storeFn i f) = s.storeFn i h ∧ h.activity = .moving
      ∧ (h.chan e).endMark = true ∧ (h.chan e).stallTimer = none ∧ h.skewHold = none := by
    have hkeep : ∃ h : Function, s.storeFn i f = s.storeFn i h ∧ h.activity = .moving
        ∧ (h.chan e).endMark = true ∧ (h.chan e).stallTimer = none ∧ h.skewHold = none :=
      ⟨f, rfl, k1.trans ha, by rw [k6], by rw [k6], k5⟩
    by_cases hv : f.verb = some .goto
    · rw [arrivalStage_goto (by rw [storeFn_fn]; exact k1.trans ha) (by rw [storeFn_fn]; exact hv)]
      have hpos : (((s.storeFn i f).fn i).chan e).position = some p := by rw [storeFn_fn, k6]; exact hp
      have hmark : (((s.storeFn i f).fn i).chan e).arrivalMark = false := by rw [storeFn_fn, k6]; exact hunmarked
      cases hx : f.target with
      | none =>
        rw [show arrivalTest i e (s.storeFn i f) = s.storeFn i f by simp only [arrivalTest, storeFn_fn, hx]]
        exact hkeep
      | some x =>
        by_cases hgap : gap x p ≤ arrivalWidth (s.cfg i).kind
        · rw [arrivalTest_near (s := s.storeFn i f) ht (by rw [storeFn_fn]; exact hx) hpos hgap hmark, storeFn_fn,
            storeFn_storeFn]
          obtain ⟨m1, -, m3, ⟨z, m4⟩, m5⟩ := arrivedAt_reads f e (s.storeFn i f).now
          obtain ⟨z', m6⟩ := m5 g hge
          rw [hopen _ (by rw [m6, k8]; exact hg.1) (by rw [m6, k8]; exact hg.2)]
          exact ⟨_, rfl, m1.trans (k1.trans ha), by rw [m4, k6], by rw [m4], m3⟩
        · rw [arrivalTest_apart (s := s.storeFn i f) (by rw [storeFn_fn]; exact hx) hpos hgap hmark]
          exact hkeep
    · rw [arrivalStage_other (by rw [storeFn_fn]; exact hv)]
      exact hkeep
  obtain ⟨h, h1, h2, h3, h4, h5⟩ := hstage
  intro t
  have ht' : t = s.storeFn i h := by
    simp only [t]
    rw [report_judged hh hc ha, stallTest_end hflag hheld, stalled_inside ht hp hd hw, hw',
      hopen f (by rw [k8]; exact hg.1) (by rw [k8]; exact hg.2), h1,
      skewStage_marked ⟨e, .inl (by rw [storeFn_fn]; exact h3)⟩]
  rw [ht', storeFn_fn]
  exact ⟨h2, h3, h4, h5⟩

end

/-! ### Without an end (R101, R104, R105) -/

section
variable (hn : ¬(flags.getLsbD 3 = true ∧ s.channelHeld i e = false))
include hn

omit ht hp in
theorem report_timed : motorReport i e current flags s = skewStage i (arrivalStage i e (s.storeFn i (timedAt (s.fn i) e
    (stallTimerAfter (s.cfg i) (s.channelHeld i e) s.now current flags ((s.fn i).chan e))))) := by
  rw [report_judged hh hc ha, stallTest_timed hn]
  rfl

omit ht hp in
/-- Outside a GOTO the arrival is not judged. -/
theorem report_driven (hv : (s.fn i).verb ≠ some .goto) : motorReport i e current flags s
    = skewStage i (s.storeFn i (timedAt (s.fn i) e
      (stallTimerAfter (s.cfg i) (s.channelHeld i e) s.now current flags ((s.fn i).chan e)))) := by
  obtain ⟨-, -, h, -⟩ := timedAt_reads (s.fn i) e
    (stallTimerAfter (s.cfg i) (s.channelHeld i e) s.now current flags ((s.fn i).chan e))
  rw [report_timed hh hc ha hn, arrivalStage_other (by rw [storeFn_fn, h]; exact hv)]

section
variable (hv : (s.fn i).verb = some .goto) {x : Nat} (hx : (s.fn i).target = some x)
include hv hx

/-- At its target a channel takes its arrival mark. -/
theorem report_arrives (hg : gap x p ≤ arrivalWidth (s.cfg i).kind) (hm : ((s.fn i).chan e).arrivalMark = false) :
    motorReport i e current flags s
      = skewStage i (finishMotor i (s.storeFn i (arrivedAt (s.fn i) e s.now))) := by
  obtain ⟨h1, -, h3, h4, -, -, -, -, h9⟩ := timedAt_reads (s.fn i) e
    (stallTimerAfter (s.cfg i) (s.channelHeld i e) s.now current flags ((s.fn i).chan e))
  obtain ⟨h9, -, h11⟩ := h9 e
  rw [report_timed hh hc ha hn, arrivalStage_goto (by rw [storeFn_fn, h1, ha]) (by rw [storeFn_fn, h3, hv]),
    arrivalTest_near (s := s.storeFn i _) ht (by rw [storeFn_fn, h4, hx]) (by rw [storeFn_fn, h9, hp]) hg
      (by rw [storeFn_fn, h11, hm]), storeFn_fn, storeFn_storeFn, timedAt, arrivedAt_cleared]
  rfl

/-- The last arrival mark, with no end mark, ends the move at its target. -/
theorem report_targetReached (hg : gap x p ≤ arrivalWidth (s.cfg i).kind)
    (hm : ((s.fn i).chan e).arrivalMark = false) (he : ∀ g ∈ (s.cfg i).sides, ((s.fn i).chan g).endMark = false)
    (hothers : ∀ g ∈ (s.cfg i).sides, g ≠ e → ((s.fn i).chan g).arrivalMark = true) :
    let t := motorReport i e current flags s
    (t.fn i).activity = .settling ∧ (t.fn i).lastStop = some .targetReached
      ∧ (t.fn i).ending = some .target ∧ (t.fn i).byStall = false
      ∧ (t.fn i).settleTimer = some (s.now + (s.cfg i).settleTime) ∧ (t.fn i).owner = (s.fn i).owner := by
  intro t
  obtain ⟨-, k2, -, ⟨y, k4⟩, k5⟩ := arrivedAt_reads (s.fn i) e s.now
  have hend : ∀ g ∈ (s.cfg i).sides, ((arrivedAt (s.fn i) e s.now).chan g).endMark = false
      ∧ ((arrivedAt (s.fn i) e s.now).chan g).arrivalMark = true := by
    intro g hgs
    by_cases hge : g = e
    · subst hge
      rw [k4]
      exact ⟨he g hgs, rfl⟩
    · obtain ⟨z, hz⟩ := k5 g hge
      rw [hz]
      exact ⟨he g hgs, hothers g hgs hge⟩
  have hfin := finishMotor_target (s := s.storeFn i (arrivedAt (s.fn i) e s.now)) (i := i)
    (fun g hgs => .inr (by rw [storeFn_fn]; exact (hend g hgs).2))
    (fun g hgs => by rw [storeFn_fn]; exact (hend g hgs).1)
  have hf : (finishMotor i (s.storeFn i (arrivedAt (s.fn i) e s.now))).fn i
      = (arrivedAt (s.fn i) e s.now).settlingAs .targetReached .target false
        (some (s.now + (s.cfg i).settleTime)) := by
    rw [hfin, settleFn_fn, storeFn_fn]
    rfl
  have ht' : t.fn i = (finishMotor i (s.storeFn i (arrivedAt (s.fn i) e s.now))).fn i := by
    simp only [t]
    rw [report_arrives ht hh hc ha hp hn hv hx hg hm, skewStage, whileMoving_over]
    rw [hf]
    simp [Function.settlingAs]
  rw [ht', hf]
  exact ⟨rfl, rfl, rfl, rfl, rfl, k2⟩

/-- The first arrival mark of a twin leaves it MOVING. -/
theorem report_firstArrival (hg : gap x p ≤ arrivalWidth (s.cfg i).kind)
    (hm : ((s.fn i).chan e).arrivalMark = false) {g : Side} (hge : g ≠ e) (hgs : g ∈ (s.cfg i).sides)
    (hgm : ((s.fn i).chan g).endMark = false ∧ ((s.fn i).chan g).arrivalMark = false) :
    let t := motorReport i e current flags s
    (t.fn i).activity = .moving ∧ ((t.fn i).chan e).arrivalMark = true ∧ ((t.fn i).chan e).stallTimer = none
      ∧ (t.fn i).skewHold = none := by
  intro t
  obtain ⟨k1, -, k3, ⟨y, k4⟩, k5⟩ := arrivedAt_reads (s.fn i) e s.now
  obtain ⟨z, hz⟩ := k5 g hge
  have hfin := finishMotor_open (s := s.storeFn i (arrivedAt (s.fn i) e s.now)) (i := i)
    ⟨g, hgs, by rw [storeFn_fn, hz]; exact hgm.1, by rw [storeFn_fn, hz]; exact hgm.2⟩
  have ht' : t = s.storeFn i (arrivedAt (s.fn i) e s.now) := by
    simp only [t]
    rw [report_arrives ht hh hc ha hp hn hv hx hg hm, hfin,
      skewStage_marked ⟨e, .inr (by rw [storeFn_fn, k4])⟩]
  rw [ht', storeFn_fn]
  exact ⟨k1.trans ha, by rw [k4], by rw [k4], k3⟩

/-- A channel that has left its target again loses its arrival mark, and is driven from now. -/
theorem report_departs (hg : ¬ gap x p ≤ arrivalWidth (s.cfg i).kind) (hm : ((s.fn i).chan e).arrivalMark = true)
    (hem : ((s.fn i).chan e).endMark = false) (hs : (s.fn i).skewHold = none) (hk : (s.cfg i).kind = .slideTwin) :
    let t := motorReport i e current flags s
    (t.fn i).activity = .moving ∧ ((t.fn i).chan e).arrivalMark = false
      ∧ ∀ k, skewOf (s.fn i) = some k → k ≤ (s.cfg i).softSkew → ((t.fn i).chan e).startTime = some s.now := by
  intro t
  obtain ⟨h1, -, h3, h4, h5, h6, -, -, h9⟩ := timedAt_reads (s.fn i) e
    (stallTimerAfter (s.cfg i) (s.channelHeld i e) s.now current flags ((s.fn i).chan e))
  have ht' : t = _ := report_timed hh hc ha hn
  revert h1 h3 h4 h5 h6 h9 ht'
  generalize timedAt (s.fn i) e
    (stallTimerAfter (s.cfg i) (s.channelHeld i e) s.now current flags ((s.fn i).chan e)) = f
  intro h1 h3 h4 h5 h6 h9 ht'
  obtain ⟨hpos, hend, harr⟩ := h9 e
  rw [arrivalStage_goto (by rw [storeFn_fn, h1, ha]) (by rw [storeFn_fn, h3, hv]),
    arrivalTest_far (s := s.storeFn i f) ht (by rw [storeFn_fn, h4, hx]) (by rw [storeFn_fn, hpos, hp]) hg
      (by rw [storeFn_fn, harr, hm]), storeFn_fn, storeFn_storeFn] at ht'
  -- the mark is gone, nothing holds the channel, and it is driven from now
  obtain ⟨u, hu, hact, hmark, hstart, hskew, hhold⟩ : ∃ u : Function,
      resumedAt (f.setChan e { f.chan e with arrivalMark := false }) e s.now = u ∧ u.activity = .moving
        ∧ (u.chan e).arrivalMark = false ∧ (u.chan e).startTime = some s.now ∧ skewOf u = skewOf (s.fn i)
        ∧ u.skewHold = none := by
    refine ⟨_, rfl, ?_⟩
    have hfree : heldAt (f.setChan e { f.chan e with arrivalMark := false }) e = false := by
      have hnone : (f.setChan e { f.chan e with arrivalMark := false }).skewHold = none := by
        cases e <;> exact h5.trans hs
      rw [heldAt, chan_setChan, hnone]
      simp only [hend.trans hem]
      rfl
    rw [resumedAt, hfree, if_neg Bool.false_ne_true, chan_setChan, setChan_setChan, chan_setChan, ← h6]
    cases e <;> exact ⟨h1.trans ha, rfl, rfl, rfl, h5.trans hs⟩
  have hu' : resumedAt (f.setChan e { f.chan e with arrivalMark := false }) e (s.storeFn i f).now = u := hu
  rw [hu', skewStage_twin (s := s.storeFn i u) (by rw [storeFn_fn]; exact hact) hk] at ht'
  have hsame : t = s.storeFn i u → (t.fn i).activity = .moving ∧ ((t.fn i).chan e).arrivalMark = false
      ∧ ∀ k, skewOf (s.fn i) = some k → k ≤ (s.cfg i).softSkew → ((t.fn i).chan e).startTime = some s.now := by
    intro h
    rw [h, storeFn_fn]
    exact ⟨hact, hmark, fun _ _ _ => hstart⟩
  by_cases hany : ∃ g, (u.chan g).endMark = true ∨ (u.chan g).arrivalMark = true
  · rw [softSkewTest_marked (s := s.storeFn i u) (by simpa only [storeFn_fn] using hany)] at ht'
    exact hsame ht'
  · cases hsk : skewOf u with
    | none =>
      rw [show softSkewTest i (s.storeFn i u) = s.storeFn i u by simp only [softSkewTest, storeFn_fn, hsk]] at ht'
      exact hsame ht'
    | some k =>
      rw [softSkewTest_begins (s := s.storeFn i u) (k := k) (by rw [storeFn_fn, hsk])
        (by simpa only [storeFn_fn, not_exists] using hany) (by rw [storeFn_fn, hhold])] at ht'
      by_cases hsoft : (s.cfg i).softSkew < k
      · rw [if_pos (show ((s.storeFn i u).cfg i).softSkew < k from hsoft), storeFn_storeFn, storeFn_fn] at ht'
        obtain ⟨m1, -, -, m4⟩ := heldEndAt_reads u (leaderOf ((s.storeFn i u).cfg i) u)
        rw [ht', storeFn_fn]
        refine ⟨m1.trans hact, (m4 e).1.trans hmark, fun k' hk' hle => ?_⟩
        rw [← hskew, hsk] at hk'
        exact absurd hsoft (Nat.not_lt.mpr (Option.some.inj hk' ▸ hle))
      · rw [if_neg (show ¬ ((s.storeFn i u).cfg i).softSkew < k from hsoft)] at ht'
        exact hsame ht'

end

omit hp in
/-- Outside a GOTO the soft skew of a twin goes by its marks and its marker. -/
theorem report_twinDriven (hv : (s.fn i).verb ≠ some .goto) (hk : (s.cfg i).kind = .slideTwin) {k : Nat}
    (hs : skewOf (s.fn i) = some k) :
    let t := motorReport i e current flags s
    let c := s.cfg i
    let f := s.fn i
    let timer := stallTimerAfter c (s.channelHeld i e) s.now current flags (f.chan e)
    let leader := leaderOf c f
    let marker := (t.fn i).skewHold
    let marked := fun g : Side => (f.chan g).endMark = true ∨ (f.chan g).arrivalMark = true
    (t.fn i).activity = .moving
    ∧ (marked .a ∨ marked .b → marker = f.skewHold ∧ ((t.fn i).chan e).stallTimer = timer)
    ∧ (¬ marked .a → ¬ marked .b →
      (f.skewHold = none → k ≤ c.softSkew → marker = none ∧ ((t.fn i).chan e).stallTimer = timer)
      ∧ (f.skewHold = none → c.softSkew < k → marker = some leader ∧ ((t.fn i).chan leader).stallTimer = none)
      ∧ (∀ g, f.skewHold = some g →
        (k ≤ c.softSkew / 2 → marker = none ∧ ((t.fn i).chan g).startTime = some s.now)
        ∧ (c.softSkew / 2 < k → g = leader ∨ k ≤ c.softSkew → marker = some g)
        ∧ (c.softSkew < k → g ≠ leader → marker = some leader ∧ ((t.fn i).chan leader).stallTimer = none
          ∧ ((t.fn i).chan g).startTime = some s.now))) := by
  intro t c f timer leader marker marked
  obtain ⟨h1, -, -, -, h5, h6, h7, h8, h9⟩ := timedAt_reads f e timer
  have ht' : t = _ := report_driven hh hc ha hn hv
  rw [show timedAt (s.fn i) e (stallTimerAfter (s.cfg i) (s.channelHeld i e) s.now current flags ((s.fn i).chan e))
    = timedAt f e timer from rfl] at ht'
  revert h1 h5 h6 h7 h8 h9 ht'
  generalize timedAt f e timer = u
  intro h1 h5 h6 h7 h8 h9 ht'
  have hact : u.activity = .moving := h1.trans ha
  have hsk : skewOf ((s.storeFn i u).fn i) = some k := by rw [storeFn_fn, h6]; exact hs
  have hlead : leaderOf ((s.storeFn i u).cfg i) ((s.storeFn i u).fn i) = leader := by rw [storeFn_fn]; exact h7 c
  have hhold : ((s.storeFn i u).fn i).skewHold = f.skewHold := by rw [storeFn_fn, h5]
  rw [skewStage_twin (s := s.storeFn i u) (by rw [storeFn_fn]; exact hact) hk] at ht'
  have hsame : t = s.storeFn i u → (t.fn i).activity = .moving ∧ marker = f.skewHold
      ∧ ((t.fn i).chan e).stallTimer = timer := by
    intro h
    simp only [marker]
    rw [h, storeFn_fn]
    exact ⟨hact, h5, h8⟩
  by_cases hany : marked .a ∨ marked .b
  · rw [softSkewTest_marked (s := s.storeFn i u) (by
      rw [storeFn_fn]
      rcases hany with h | h
      · exact ⟨.a, by rw [(h9 .a).2.1, (h9 .a).2.2]; exact h⟩
      · exact ⟨.b, by rw [(h9 .b).2.1, (h9 .b).2.2]; exact h⟩)] at ht'
    obtain ⟨k1, k2, k3⟩ := hsame ht'
    exact ⟨k1, fun _ => ⟨k2, k3⟩, fun ha hb => absurd hany (not_or.mpr ⟨ha, hb⟩)⟩
  · have hm : ∀ g, ¬((((s.storeFn i u).fn i).chan g).endMark = true
        ∨ (((s.storeFn i u).fn i).chan g).arrivalMark = true) := by
      intro g
      rw [storeFn_fn, (h9 g).2.1, (h9 g).2.2]
      exact fun h => hany (by cases g <;> simp only [marked, h, or_true, true_or])
    cases hcase : f.skewHold with
    | none =>
      rw [softSkewTest_begins hsk hm (hhold.trans hcase), hlead] at ht'
      by_cases hsoft : c.softSkew < k
      · rw [if_pos (show ((s.storeFn i u).cfg i).softSkew < k from hsoft), storeFn_storeFn, storeFn_fn] at ht'
        obtain ⟨m1, m2, m3, -⟩ := heldEndAt_reads u leader
        have hf : t.fn i = heldEndAt u leader := by rw [ht', storeFn_fn]
        refine ⟨by rw [hf, m1, hact], fun h => absurd h hany, fun _ _ => ⟨fun _ h => absurd hsoft (Nat.not_lt.mpr h),
          fun _ _ => ⟨?_, by rw [hf, m3]⟩, nofun⟩⟩
        simp only [marker, hf, m2]
      · rw [if_neg (show ¬ ((s.storeFn i u).cfg i).softSkew < k from hsoft)] at ht'
        obtain ⟨k1, k2, k3⟩ := hsame ht'
        exact ⟨k1, fun h => absurd h hany, fun _ _ => ⟨fun _ _ => ⟨k2.trans hcase, k3⟩,
          fun _ h => absurd h hsoft, nofun⟩⟩
    | some g =>
      have hg := hhold.trans hcase
      by_cases hhalf : k ≤ c.softSkew / 2
      · rw [softSkewTest_ends hsk hm ht hg hhalf, storeFn_fn, storeFn_storeFn] at ht'
        have hle : ¬ c.softSkew < k := by omega
        have hf : t.fn i = ({ u with skewHold := none } : Function).setChan g
            { u.chan g with startTime := some s.now } := by
          rw [ht', storeFn_fn]
          rfl
        have hread : (t.fn i).activity = .moving ∧ marker = none ∧ ((t.fn i).chan g).startTime = some s.now := by
          simp only [marker]
          rw [hf]
          cases g <;> exact ⟨hact, rfl, rfl⟩
        obtain ⟨m1, m2, m3⟩ := hread
        refine ⟨m1, fun h => absurd h hany, fun _ _ => ⟨nofun, nofun, fun g' h => ?_⟩⟩
        obtain rfl := Option.some.inj h
        exact ⟨fun _ => ⟨m2, m3⟩, fun h => absurd hhalf (Nat.not_le.mpr h), fun h => absurd h hle⟩
      · by_cases hchange : g ≠ leader ∧ c.softSkew < k
        · have hlast := softSkewTest_moves hsk hm ht hg hchange.2 (by rw [hlead]; exact hchange.1)
          rw [hlead, storeFn_storeFn, storeFn_fn] at hlast
          have hf : t.fn i = (heldEndAt u leader).setChan g { u.chan g with startTime := some s.now } := by
            rw [ht', hlast, storeFn_fn]
            rfl
          obtain ⟨m1, m2, m3, -⟩ := heldEndAt_reads u leader
          have hread : (t.fn i).activity = .moving ∧ marker = some leader
              ∧ ((t.fn i).chan g).startTime = some s.now := by
            simp only [marker]
            rw [hf]
            cases g <;> exact ⟨m1.trans hact, m2, rfl⟩
          have hstall : ((t.fn i).chan leader).stallTimer = none := by
            rw [hf, chan_setChan_other _ (Ne.symm hchange.1)]
            exact m3
          obtain ⟨k1, k2, k3⟩ := hread
          refine ⟨k1, fun h => absurd h hany, fun _ _ => ⟨nofun, nofun, fun g' h => ?_⟩⟩
          obtain rfl := Option.some.inj h
          exact ⟨fun h => absurd h hhalf, fun _ h => h.elim (fun e => absurd e hchange.1)
            fun e => absurd hchange.2 (Nat.not_lt.mpr e), fun _ _ => ⟨k2, hstall, k3⟩⟩
        · have hor : g = leader ∨ k ≤ c.softSkew := by
            by_cases hgl : g = leader
            · exact .inl hgl
            · exact .inr (Nat.not_lt.mp fun h => hchange ⟨hgl, h⟩)
          rw [softSkewTest_stays hsk hm hg (Nat.not_le.mp hhalf) (by rw [hlead]; exact hor)] at ht'
          obtain ⟨k1, k2, k3⟩ := hsame ht'
          refine ⟨k1, fun h => absurd h hany, fun _ _ => ⟨nofun, nofun, fun g' h => ?_⟩⟩
          obtain rfl := Option.some.inj h
          exact ⟨fun h => absurd h hhalf, fun _ _ => k2.trans hcase, fun h1 h2 => absurd ⟨h2, h1⟩ hchange⟩

end

end

end

end Sys2Proof.Proofs
end

section
/-! PROOFS. The verify at rest, the stall timer's expiry and the reports of the motor kinds (O30). -/

namespace Sys2Proof.Proofs
open Sys2Proof.Machine Sys2Proof.Laws

/-! ### The verify of a function no sequence took (R17) -/

section
variable {s : State} {i : Slot}

theorem cfg_of_settings {s t : State} (h : t.settings = s.settings) (i : Slot) : t.cfg i = s.cfg i := by
  simp only [State.cfg, h]

/-- The record of a verify that is passed. -/
theorem passVerify_fn (i : Slot) (s : State) : (passVerify i s).fn i = { (s.fn i).resting with activity := .idle } :=
  putFn_fn ..

theorem verifyRetract_plain (h : (s.cfg i).kind.isMotor = false ∨ (s.fn i).byStall = false) :
    verifyRetract i s = if s.allStowed i then passVerify i s else faultFn i .stowFailed s := by
  have hb : ((s.cfg i).kind.isMotor && (s.fn i).byStall) = false := by rcases h with h | h <;> simp [h]
  simp only [verifyRetract, hb, Bool.false_and, Bool.false_eq_true, if_false]

theorem Alone.setCfg (c : FunctionConfig) : Alone i (s.setCfg i c) s := ⟨fun _ _ => rfl, rfl⟩

theorem Alone.rezeroChannel (e : Side) : Alone i (rezeroChannel i s e) s := by
  unfold Machine.rezeroChannel
  split
  · exact .refl
  · exact (Alone.storeFn _).trans (.setCfg _)

theorem Alone.rezero : Alone i (rezero i s) s := by
  unfold Machine.rezero
  refine (Alone.putFn _).trans ?_
  induction (s.cfg i).sides generalizing s with
  | nil => exact .refl
  | cons e l ih => exact ih.trans (.rezeroChannel e)

theorem Alone.verifyRetract (h : s.isTaken i = false) : Alone i (verifyRetract i s) s := by
  have hz : Alone i (if (s.cfg i).kind.isMotor && (s.fn i).byStall then Machine.rezero i s else s) s := .ite .rezero .refl
  have hf := (hz.taken i).trans h
  exact Alone.trans (.ite (.faultFn hf _) (.ite (.putFn _) (.faultFn hf _))) hz

theorem Alone.verify (h : s.isTaken i = false) : Alone i (verify i s) s := by
  unfold Machine.verify
  split
  · exact .verifyRetract h
  · exact (Alone.putFn _).trans (.storeFn _)
  · exact .ite (.putFn _) (.faultFn h _)
  · exact .refl

/-- One channel is re-zeroed. -/
theorem rezeroChannel_some {e : Side} {raw : Nat} (h : s.lastRaw i e = some (raw : Int)) :
    rezeroChannel i s e = (s.setCfg i ((s.cfg i).setOffset e raw)).storeFn i ((s.fn i).setChan e
      { (s.fn i).chan e with noted := ((s.fn i).chan e).position, position := some 0 }) := by
  simp only [rezeroChannel, h]
  rfl

/-- The last raw counts do not depend on the offsets. -/
theorem lastRaw_offset (s : State) (i : Slot) (e g : Side) (n : Nat) (f : Function) :
    ((s.setCfg i ((s.cfg i).setOffset e n)).storeFn i f).lastRaw i g = s.lastRaw i g := by
  have hd : (((s.setCfg i ((s.cfg i).setOffset e n)).storeFn i f).cfg i).drive g = (s.cfg i).drive g := by
    rw [show ((s.setCfg i ((s.cfg i).setOffset e n)).storeFn i f).cfg i = (s.cfg i).setOffset e n by
      simp [State.cfg, State.setCfg, State.storeFn]]
    cases e <;> rfl
  unfold State.lastRaw
  rw [hd]
  rfl

theorem rezeroed_cfg (s : State) (i : Slot) (c : FunctionConfig) (f : Function) :
    ((s.setCfg i c).storeFn i f).cfg i = c := by
  simp [State.cfg, State.setCfg, State.storeFn]

theorem rezeroed_again (s : State) (i : Slot) (c c' : FunctionConfig) (f f' : Function) :
    (((s.setCfg i c).storeFn i f).setCfg i c').storeFn i f' = (s.setCfg i c').storeFn i f' := by
  simp [State.setCfg, State.storeFn]

/-- The record of an awning that has been re-zeroed, but for its class. -/
theorem rezero_awning {ra : Nat} (hs : (s.cfg i).sides = [.a]) (h : s.lastRaw i .a = some (ra : Int)) :
    (rezero i s).cfg i = { s.cfg i with offsetA := ra }
    ∧ ∃ x, (rezero i s).fn i = { s.fn i with
        posClass := x, chA := { (s.fn i).chA with noted := (s.fn i).chA.position, position := some 0 } } := by
  unfold rezero
  rw [hs, List.foldl_cons, List.foldl_nil, rezeroChannel_some h]
  refine ⟨?_, ?_⟩
  · exact (cfg_of_settings (putFn_kept ..).2 i).trans (rezeroed_cfg ..)
  · rw [putFn_fn, storeFn_fn]
    exact ⟨_, rfl⟩

/-- The record of a twin that has been re-zeroed, but for its class. -/
theorem rezero_twin {ra rb : Nat} (hs : (s.cfg i).sides = [.a, .b]) (ha : s.lastRaw i .a = some (ra : Int))
    (hb : s.lastRaw i .b = some (rb : Int)) :
    (rezero i s).cfg i = { s.cfg i with offsetA := ra, offsetB := rb }
    ∧ ∃ x, (rezero i s).fn i = { s.fn i with
        posClass := x
        chA := { (s.fn i).chA with noted := (s.fn i).chA.position, position := some 0 }
        chB := { (s.fn i).chB with noted := (s.fn i).chB.position, position := some 0 } } := by
  unfold rezero
  rw [hs, List.foldl_cons, List.foldl_cons, List.foldl_nil, rezeroChannel_some ha,
    rezeroChannel_some (e := .b) (raw := rb) ((lastRaw_offset ..).trans hb), rezeroed_cfg, storeFn_fn, rezeroed_again]
  refine ⟨?_, ?_⟩
  · exact (cfg_of_settings (putFn_kept ..).2 i).trans (rezeroed_cfg ..)
  · rw [putFn_fn, storeFn_fn]
    exact ⟨_, rfl⟩

theorem verifyRetract_rezeroed (hm : (s.cfg i).kind.isMotor = true) (hb : (s.fn i).byStall = true)
    (hm' : ((rezero i s).cfg i).kind.isMotor = true) (hb' : ((rezero i s).fn i).byStall = true)
    (hstow : (rezero i s).allStowed i = true) :
    verifyRetract i s = if (rezero i s).rezeroSkewed i then faultFn i .skew (rezero i s)
      else passVerify i (rezero i s) := by
  simp only [verifyRetract, hm, hb, hm', hb', hstow, Bool.and_true, Bool.true_and, if_true]

end

/-! ### The expiry of a stall timer (R101, R102) -/

section
variable {s : State} {i : Slot} {e : Side} {p : Nat} {d : Direction}

theorem stallExpired_rest (h : ((judgeStall i e (setChannel i e { (s.fn i).chan e with stallTimer := none } s)).fn i).activity
    ≠ .moving) : stallExpired i e s = judgeStall i e (setChannel i e { (s.fn i).chan e with stallTimer := none } s) :=
  reorder_rest h

theorem stallExpired_outside (hp : ((s.fn i).chan e).position = some p) (hd : ((s.fn i).chan e).direction = some d)
    (ha : (s.fn i).activity = .moving) (hw : inWindow (s.cfg i) d p = false) :
    ∃ f : Function, (stallExpired i e s).fn i = f.failed .obstruction ∧ f.lastStop = (s.fn i).lastStop := by
  obtain ⟨f, hf, hl⟩ := stalled_outside hp hd ha hw
  exact ⟨f, by rw [stallExpired_rest (by rw [hf]; simp [Function.failed]), hf], hl⟩

/-- The only channel's end mark ends the move. -/
theorem finishMotor_only {f : Function} (hs : (s.cfg i).sides = [.a]) (hm : f.chA.endMark = true)
    (hd : f.chA.direction = some d) :
    finishMotor i (s.storeFn i f) = settleFn i .endReached (Ending.ofDirection d) true (s.storeFn i f) := by
  have hs' : ((s.storeFn i f).cfg i).sides = [.a] := hs
  refine finishMotor_end ?_ ?_ ?_ <;> simp [hs', storeFn_fn, Function.chan, hm, hd]

theorem stallExpired_inside (ht : s.isTaken i = false) (hs : (s.cfg i).sides = [.a])
    (hp : (s.fn i).chA.position = some p) (hd : (s.fn i).chA.direction = some d)
    (hw : inWindow (s.cfg i) d p = true) : let t := stallExpired i .a s
    (t.fn i).activity = .settling ∧ (t.fn i).lastStop = some .endReached
      ∧ (t.fn i).ending = some (Ending.ofDirection d) ∧ (t.fn i).byStall = true
      ∧ (t.fn i).settleTimer = some (s.now + (s.cfg i).settleTime) ∧ (t.fn i).owner = (s.fn i).owner := by
  obtain ⟨-, k2, -, -, -, ⟨x, k6⟩, -⟩ := endMarkedAt_reads (s.fn i) .a s.now
  have hchan : (endMarkedAt (s.fn i) .a s.now).chA = { (s.fn i).chA with
    endMark := true, stallTimer := none, startTime := x } := k6
  have hfin := finishMotor_only (s := s) (f := endMarkedAt (s.fn i) .a s.now) hs (by rw [hchan])
    (by rw [hchan]; exact hd)
  have hin := stalled_inside (e := .a) ht hp hd hw
  have h := marked_ended hfin k2
  intro t
  have ht' : t = finishMotor i (s.storeFn i (endMarkedAt (s.fn i) .a s.now)) := by
    simp only [t]
    rw [stallExpired_rest (by rw [hin, h.1]; decide), hin]
  rw [ht']
  exact h

end

/-! ### An awning's report and its partner slide (R111) -/

section
variable {s : State} {i q : Slot}

theorem Alone.kindReport_awning (h : s.isTaken i = false) (hk : (s.cfg i).kind = .awning) (d : DriveRef) (load : Nat)
    (flags : Byte) : Alone i (kindReport i d load flags s) s := by
  simp only [Machine.kindReport, hk]
  refine Alone.trans .reorder ?_
  generalize (s.cfg i).sides.filter (fun e => (s.cfg i).drive e == some d) = l
  clear hk
  induction l generalizing s with
  | nil => exact .refl
  | cons e l ih =>
    have h1 : Alone i (twinReport i e load flags s) s :=
      .ite (.motorReport h e load flags) (.ite (.hardSkewTest h) .refl)
    exact (ih ((h1.taken i).trans h)).trans h1

theorem Alone.activityReport_awning (h : s.isTaken i = false) (hk : (s.cfg i).kind = .awning) (d : DriveRef)
    (load : Nat) (flags : Byte) : Alone i (activityReport i d load flags s).1 s := by
  unfold Machine.activityReport
  split
  · exact .ite (.faultFn h _) (.ite (.faultFn h _) (.kindReport_awning h hk d load flags))
  · split <;> exact .refl

theorem slideTest_blocks (hp : (s.cfg i).partner = some q) (hk : (s.cfg i).kind = .awning)
    (hs : (s.cfg q).kind.isSlide = true) (ha : (s.fn q).activity = .waiting ∨ (s.fn q).activity = .moving)
    (hb : s.awningBlocks i = true) : (slideTest i s).fn q = (s.fn q).stopped .clearance := by
  have hbusy : (s.fn q).activity.isBusy = true := by rcases ha with h | h <;> rw [h] <;> rfl
  simp only [slideTest, hp]
  rw [if_pos ⟨hk, hs, ha, hb⟩, stopFn_fn_if, if_pos ⟨rfl, hbusy⟩]

theorem slideTest_lets (hp : (s.cfg i).partner = some q)
    (h : ¬(((s.fn q).activity = .waiting ∨ (s.fn q).activity = .moving) ∧ s.awningBlocks i = true)) :
    slideTest i s = s := by
  simp only [slideTest, hp]
  exact if_neg fun k => h k.2.2

/-- The report of an awning stops its partner slide only by the awning's position. -/
theorem slotReport_partner {d : DriveRef} {r : ChannelRecord} {x : Nat} (ht : s.isTaken i = false)
    (hr : s.channelRecord d = some r) (hk : (s.cfg i).kind = .awning) (hp : (s.cfg i).partner = some q)
    (hs : (s.cfg q).kind.isSlide = true)
    (hx : ((reportRead i d r s).fn i).position = some x) :
    let t := (slotReport i d s).1
    ((s.fn q).activity = .waiting ∨ (s.fn q).activity = .moving → (s.cfg i).clearance < x →
        t.fn q = (s.fn q).stopped .clearance)
      ∧ (x ≤ (s.cfg i).clearance → t.fn q = s.fn q)
      ∧ ((s.fn q).activity ≠ .waiting → (s.fn q).activity ≠ .moving → t.fn q = s.fn q) := by
  have hqi : q ≠ i := by
    rintro rfl
    rw [hk] at hs
    exact Bool.false_ne_true hs
  have hread : Alone i (reportRead i d r s) s := .putFn _
  have hall : Alone i (activityReport i d ((r.load.map Int.toNat).getD 0) (r.flags.getD 0) (reportRead i d r s)).1 s :=
    (Alone.activityReport_awning ((hread.taken i).trans ht) (by rw [reportRead_cfg, hk]) ..).trans hread
  have hcfg : ∀ j, (activityReport i d ((r.load.map Int.toNat).getD 0) (r.flags.getD 0) (reportRead i d r s)).1.cfg j
      = s.cfg j := fun j => (cfg_of_settings (activityReport_kept ..).2 j).trans (reportRead_cfg ..)
  have hpos := (measured_eq ((Measured.activityReport i d ((r.load.map Int.toNat).getD 0) (r.flags.getD 0)
    (reportRead i d r s)).fn i)).1 .a
  rw [slotReport_some hr]
  revert hall hcfg hpos
  generalize (activityReport i d ((r.load.map Int.toNat).getD 0) (r.flags.getD 0) (reportRead i d r s)).1 = u
  intro hall hcfg hpos
  have hq : u.fn q = s.fn q := hall.fn q hqi
  have hblocks : u.awningBlocks i = decide ((s.cfg i).clearance < x) := by
    have : (u.fn i).position = some x := hpos.1.trans hx
    simp only [State.awningBlocks, this, hcfg]
  intro t
  have hstay : ¬(((s.fn q).activity = .waiting ∨ (s.fn q).activity = .moving) ∧ (s.cfg i).clearance < x) →
      t.fn q = s.fn q := by
    intro h
    have : t = u := slideTest_lets (by rw [hcfg, hp]) (by rw [hq, hblocks, decide_eq_true_eq]; exact h)
    rw [this, hq]
  refine ⟨fun ha hc => ?_, fun hc => hstay fun h => absurd h.2 (Nat.not_lt.mpr hc),
    fun h1 h2 => hstay fun h => h.1.elim h1 h2⟩
  rw [← hq]
  exact slideTest_blocks (by rw [hcfg, hp]) (by rw [hcfg, hk]) (by rw [hcfg, hs]) (by rw [hq]; exact ha)
    (by rw [hblocks, decide_eq_true_eq]; exact hc)

end

/-! ### O30 -/

section
variable {s : State} {i : Slot} {e : Side} {p : Nat} {d : Direction}

/-- Where nothing blocks the awning, its clearance stop lets the move go on. -/
theorem clearanceStop_lets (hs : (s.cfg i).sides = if (s.cfg i).kind = .slideTwin then [.a, .b] else [.a])
    (he : e ∈ (s.cfg i).sides) (hp : ((s.fn i).chan e).position = some p)
    (hd : ((s.fn i).chan e).direction = some d)
    (h : ¬((s.cfg i).kind = .awning ∧ d = .extend ∧ (s.cfg i).clearance ≤ p
      ∧ ∃ q, (s.cfg i).partner = some q ∧ s.slideAllows q = false)) : clearanceStop i s = s := by
  unfold clearanceStop
  split
  · rfl
  · next q hq =>
    refine if_neg ?_
    rintro ⟨hk, -, hdir, hat, hallow⟩
    have hea : e = .a := by
      rw [hs, if_neg (by rw [hk]; decide)] at he
      exact List.mem_singleton.mp he
    subst hea
    have hpos : (s.fn i).position = some p := hp
    rw [State.awningAtClearance, hpos] at hat
    exact h ⟨hk, Option.some.inj (hd.symm.trans hdir), of_decide_eq_true hat, q, hq, by simpa using hallow⟩

theorem clearanceStop_blocks (ha : (s.fn i).activity = .moving)
    (hs : (s.cfg i).sides = if (s.cfg i).kind = .slideTwin then [.a, .b] else [.a])
    (he : e ∈ (s.cfg i).sides) (hp : ((s.fn i).chan e).position = some p)
    (hd : ((s.fn i).chan e).direction = some d)
    (h : (s.cfg i).kind = .awning ∧ d = .extend ∧ (s.cfg i).clearance ≤ p
      ∧ ∃ q, (s.cfg i).partner = some q ∧ s.slideAllows q = false) :
    clearanceStop i s = stopFn true i .clearance s := by
  obtain ⟨hk, rfl, hc, q, hq, hallow⟩ := h
  have hea : e = .a := by
    rw [hs, if_neg (by rw [hk]; decide)] at he
    exact List.mem_singleton.mp he
  subst hea
  have hpos : (s.fn i).position = some p := hp
  simp only [clearanceStop, hq]
  refine if_pos ⟨hk, by simp [State.moves, ha], hd, ?_, by simp [hallow]⟩
  rw [State.awningAtClearance, hpos]
  exact decide_eq_true hc

end

/-- Settles O30: the verify by its ending, the stall by its window, and the report in R106's order. -/
theorem settleAndStallTimersAndMotorReports : Obligations.SettleAndStallTimersAndMotorReports := by
  intro s i hs hd ht f c failed ended alone
  have hfailed : ∀ {t : State} {code : FaultCode} {g : Function}, t.fn i = g.failed code → g.lastStop = f.lastStop →
      failed t code := by
    intro t code g h hl
    simp only [failed, h]
    exact ⟨rfl, rfl, rfl, hl⟩
  refine ⟨fun hst hset => ?_, fun e p d htm hp hdir ha => ?_, ?_, ?_⟩
  · intro t passed
    have hal : Alone i t s := .verify ht
    have hpassed : ∀ {g : Function}, t.fn i = { g.resting with activity := .idle } → g.lastStop = f.lastStop →
        g.fault = f.fault → passed := by
      intro g h hl hf
      show (t.fn i).activity = _ ∧ _
      rw [h]
      exact ⟨rfl, rfl, rfl, rfl, rfl, rfl, hl, hf⟩
    have hcan : f.activity.canFault = true := by rw [hset]; rfl
    refine ⟨fun hn => ?_, hal.fn, fun he => ?_, fun he hw => ?_, fun he hw => ?_, fun he hm hstow => ?_,
      fun he hm hstow => ?_, fun h => ?_, fun ra he hb hk hsd hra => ?_, fun ra rb pa pb he hb hk hsd hra hrb hpa hpb => ?_⟩
    · have hfirst : firstOf (.settleTimerExpiry i) s = (t, []) := by
        refine (if_pos hst).trans (if_neg fun k => ?_)
        rw [hal.taken, ht] at k
        exact Bool.false_ne_true k.1
      exact exec_quiet hs rfl (by simp [restartsAt]) hfirst hn
    · have hv : t = verifyExtend i s := by simp only [t, verify, show (s.fn i).ending = _ from he]
      have hf : t.fn i = { (({ f with drift := recordedDrift c f } : Function).resting) with activity := .idle } := by
        rw [hv, verifyExtend, passVerify_fn, storeFn_fn]
      exact ⟨hpassed hf rfl rfl, by rw [hf]; rfl⟩
    · have hv : t = passVerify i s := by
        simp only [t, verify, show (s.fn i).ending = _ from he]
        exact if_pos hw
      exact hpassed (by rw [hv, passVerify_fn]) rfl rfl
    · have hv : t = faultFn i .positionMismatch s := by
        simp only [t, verify, show (s.fn i).ending = _ from he]
        exact if_neg (Bool.eq_false_iff.mp hw)
      exact hfailed (by rw [hv]; exact faultFn_self _ hcan) rfl
    · have hv : t = passVerify i s := by
        simp only [t, verify, show (s.fn i).ending = _ from he]
        rw [verifyRetract_plain hm, if_pos hstow]
      exact hpassed (by rw [hv, passVerify_fn]) rfl rfl
    · have hv : t = faultFn i .stowFailed s := by
        simp only [t, verify, show (s.fn i).ending = _ from he]
        rw [verifyRetract_plain hm, if_neg (Bool.eq_false_iff.mp hstow)]
      exact hfailed (by rw [hv]; exact faultFn_self _ hcan) rfl
    · have hacts : Acts s t := by
        simp only [t, verify]
        split
        · next he =>
          rw [verifyRetract_plain (by
            rcases h with h | h | h
            · exact absurd he h
            · exact .inr h
            · exact .inl h)]
          exact Acts.ite (Acts.passVerify .refl) (Acts.faultFn .refl)
        · exact Acts.verifyExtend .refl
        · exact Acts.verifyTarget .refl
        · exact .refl
      exact hacts.onlyMotionChanges hd
    · obtain ⟨hc, x, hf⟩ := rezero_awning hsd hra
      have hmot : ((rezero i s).cfg i).kind.isMotor = true := by rw [hc]; exact congrArg Kind.isMotor hk
      have hstow : (rezero i s).allStowed i = true := by
        have hsd' : ((rezero i s).cfg i).sides = [.a] := by rw [hc]; exact hsd
        simp only [State.allStowed, hsd', hf, Function.chan, List.all_cons, List.all_nil, Bool.and_true]
        simp [inWindow]
      have hskew : (rezero i s).rezeroSkewed i = false := by
        have : ((rezero i s).cfg i).kind = .awning := by rw [hc]; exact hk
        simp [State.rezeroSkewed, this]
      have hv : t = passVerify i (rezero i s) := by
        simp only [t, verify, show (s.fn i).ending = _ from he]
        rw [verifyRetract_rezeroed (by rw [show (s.cfg i).kind = _ from hk]; rfl) hb hmot (by rw [hf]; exact hb) hstow,
          hskew, if_neg Bool.false_ne_true]
      have hfn : t.fn i = { ((rezero i s).fn i).resting with activity := .idle } := by rw [hv, passVerify_fn]
      refine ⟨hpassed hfn (by rw [hf]) (by rw [hf]), ?_, by rw [hfn, hf]; rfl, by rw [hfn, hf]; rfl⟩
      rw [hv]
      exact (cfg_of_settings (passVerify_kept ..).2 i).trans hc
    · obtain ⟨hc, x, hf⟩ := rezero_twin hsd hra hrb
      have hmot : ((rezero i s).cfg i).kind.isMotor = true := by rw [hc]; exact congrArg Kind.isMotor hk
      have hstow : (rezero i s).allStowed i = true := by
        have hsd' : ((rezero i s).cfg i).sides = [.a, .b] := by rw [hc]; exact hsd
        simp only [State.allStowed, hsd', hf, Function.chan, List.all_cons, List.all_nil, Bool.and_true]
        simp [inWindow]
      have hskew : (rezero i s).rezeroSkewed i = decide (c.softSkew < gap pa pb) := by
        have hk' : ((rezero i s).cfg i).kind = .slideTwin := by rw [hc]; exact hk
        have hsoft : ((rezero i s).cfg i).softSkew = c.softSkew := by rw [hc]
        have hna : ((rezero i s).fn i).chA.noted = some pa := by rw [hf]; exact hpa
        have hnb : ((rezero i s).fn i).chB.noted = some pb := by rw [hf]; exact hpb
        simp [State.rezeroSkewed, hk', hsoft, hna, hnb]
      have hv : t = if decide (c.softSkew < gap pa pb) = true then faultFn i .skew (rezero i s)
          else passVerify i (rezero i s) := by
        simp only [t, verify, show (s.fn i).ending = _ from he]
        rw [verifyRetract_rezeroed (by rw [show (s.cfg i).kind = _ from hk]; rfl) hb hmot (by rw [hf]; exact hb) hstow,
          hskew]
      have hcfg : t.cfg i = { c with offsetA := ra, offsetB := rb } := by
        rw [hv]
        split
        · exact (cfg_of_settings (faultFn_kept ..).2 i).trans hc
        · exact (cfg_of_settings (passVerify_kept ..).2 i).trans hc
      have hfail : c.softSkew < gap pa pb → t.fn i = ((rezero i s).fn i).failed .skew := by
        intro h
        rw [hv, if_pos (decide_eq_true h)]
        exact faultFn_self _ (by rw [hf]; exact hcan)
      have hpass : gap pa pb ≤ c.softSkew → t.fn i = { ((rezero i s).fn i).resting with activity := .idle } := by
        intro h
        rw [hv, if_neg (by rw [decide_eq_true_eq]; exact Nat.not_lt.mpr h), passVerify_fn]
      have hread : (t.fn i).chA.noted = some pa ∧ (t.fn i).chB.noted = some pb
          ∧ (t.fn i).chA.position = some 0 ∧ (t.fn i).chB.position = some 0 := by
        rcases Nat.lt_or_ge c.softSkew (gap pa pb) with h | h
        · rw [hfail h, hf]
          exact ⟨hpa, hpb, rfl, rfl⟩
        · rw [hpass h, hf]
          exact ⟨hpa, hpb, rfl, rfl⟩
      obtain ⟨h1, h2, h3, h4⟩ := hread
      exact ⟨hcfg, h1, h2, h3, h4, fun h => hpassed (hpass h) (by rw [hf]) (by rw [hf]),
        fun h => hfailed (hfail h) (by rw [hf])⟩
  · intro t
    refine ⟨fun hn => exec_quiet hs rfl (by simp [restartsAt]) (if_pos htm) hn,
      (Acts.stallExpired .refl).onlyMotionChanges hd, (Alone.stallExpired ht e).fn, fun hw => ?_, fun hw hsd he => ?_⟩
    · obtain ⟨g, hg, hl⟩ := stallExpired_outside hp hdir ha hw
      exact hfailed hg hl
    · subst he
      exact stallExpired_inside ht hsd hp hdir hw
  · intro e p current flags d hm he hsd ha hp hdir t skew tooHard blocked held atEnd high old timer there across marked
    have htwin : c.kind = .slideTwin → across ∈ (s.cfg i).sides ∧ across ≠ e ∧ ∀ g, g ≠ e → g = across := by
      intro hk
      rw [show (s.cfg i).sides = _ from hsd, if_pos hk]
      cases e with
      | a => exact ⟨by simp [across], by simp [across], fun g hg => by cases g <;> simp_all [across]⟩
      | b => exact ⟨by simp [across], by simp [across], fun g hg => by cases g <;> simp_all [across]⟩
    have hsingle : c.kind = .awning → (s.cfg i).sides = [.a] ∧ e = .a := by
      intro hk
      have h1 : c.sides = [.a] := hsd.trans (if_neg (by rw [hk]; decide))
      exact ⟨h1, List.mem_singleton.mp (h1 ▸ he)⟩
    have hskew : ¬ tooHard → s.skewTooHard i = false := fun h =>
      Bool.eq_false_iff.mpr fun k => h ((skewTooHard_iff s i).mp k)
    have hclear : ¬ blocked → clearanceStop i s = s := clearanceStop_lets hsd he hp hdir
    have hnotAwning : c.kind = .slideTwin → ¬ blocked := fun hk h => absurd (hk.symm.trans h.1) (by decide)
    have htimer : stallTimerAfter c held s.now current flags (f.chan e) = timer := stallTimerAfter_eq ..
    have hnear : arrivalWidth (s.cfg i).kind = 20 := if_pos hm
    have hunmarked : ∀ g, ¬ marked g → ((s.fn i).chan g).endMark = false ∧ ((s.fn i).chan g).arrivalMark = false := by
      intro g h
      simpa only [marked, not_or, Bool.not_eq_true] using h
    refine ⟨(Acts.motorReport .refl).onlyMotionChanges hd, (Alone.motorReport ht e current flags).fn, fun h => ?_,
      fun h => ?_, fun h1 h2 h3 hw => ?_, fun h1 h2 h3 hw => ?_, fun h1 h2 h3 hk hv => ?_, fun h1 h2 h3 hv hth ham => ?_,
      fun h1 h3 hv hth htg hk ham hem hsh => ?_, fun k h1 h3 hv hk hsk => ?_⟩
    · exact hfailed (report_tooHard ((skewTooHard_iff s i).mpr h) ha) rfl
    · refine report_blocked (Bool.eq_false_iff.mpr fun k => ?_) (clearanceStop_blocks ha hsd he hp hdir h) ha
      have hk := ((skewTooHard_iff s i).mp k).1
      exact hnotAwning hk h
    · obtain ⟨g, hg, hl⟩ := report_outside (current := current) (hskew h1) (hclear h2) ha hp hdir h3.1 h3.2 hw
      exact hfailed hg hl
    · obtain ⟨-, -, -, -, -, ⟨x, k6⟩, k7⟩ := endMarkedAt_reads (s.fn i) e s.now
      refine ⟨fun hk => ?_, fun hk hmk => ?_, fun hk hmk hag => ?_⟩
      · obtain ⟨hsides, rfl⟩ := hsingle hk
        have hchan : (endMarkedAt (s.fn i) .a s.now).chA = { (s.fn i).chA with
          endMark := true, stallTimer := none, startTime := x } := k6
        exact report_ended ht (hskew h1) (hclear h2) ha hp hdir h3.1 h3.2 hw
          (finishMotor_only hsides (by rw [hchan]) (by rw [hchan]; exact hdir))
      · obtain ⟨hin, hne, -⟩ := htwin hk
        exact report_firstEnd ht (hskew h1) (hclear h2) ha hp hdir h3.1 h3.2 hne hin (hunmarked across hmk) hw
      · obtain ⟨hin, hne, honly⟩ := htwin hk
        obtain ⟨y, k8⟩ := k7 across hne
        have hboth : ∀ g, g = e ∨ g = across := fun g => (em (g = e)).imp id (honly g)
        refine report_ended ht (hskew h1) (hclear h2) ha hp hdir h3.1 h3.2 hw (finishMotor_end ?_ ?_ ?_)
        · intro g _
          rw [storeFn_fn]
          rcases hboth g with rfl | rfl
          · exact .inl (by rw [k6])
          · rw [k8]
            exact hmk
        · exact ⟨e, he, by rw [storeFn_fn, k6], by rw [storeFn_fn, k6]; exact hdir⟩
        · intro g _ hg
          rw [storeFn_fn] at hg ⊢
          rcases hboth g with rfl | rfl
          · rw [k6]
            exact hdir
          · rw [k8] at hg ⊢
            exact hag hg
    · have h := report_driven (e := e) (current := current) (hskew h1) (hclear h2) ha h3 hv
      rw [skewStage_other (s := s.storeFn i _) (by rw [show ((s.storeFn i _).cfg i).kind = .awning from hk]; decide),
        show stallTimerAfter (s.cfg i) (s.channelHeld i e) s.now current flags ((s.fn i).chan e) = timer from htimer] at h
      exact h
    · obtain ⟨x, hx, hg⟩ := hth
      have hg' : gap x p ≤ arrivalWidth (s.cfg i).kind := hnear.symm ▸ hg
      refine ⟨fun hk hem => ?_, fun hk hma hmb => ?_, fun hk hem hoe hoa => ?_⟩
      · obtain ⟨hsides, rfl⟩ := hsingle hk
        refine report_targetReached ht (hskew h1) (hclear h2) ha hp h3 hv hx hg' ham ?_ ?_
        · rw [hsides]
          simpa [Function.chan] using hem
        · rw [hsides]
          simp
      · obtain ⟨hin, hne, -⟩ := htwin hk
        have hmk : ¬ marked across := by
          cases e
          · exact hmb
          · exact hma
        exact report_firstArrival ht (hskew h1) (hclear h2) ha hp h3 hv hx hg' ham hne hin (hunmarked across hmk)
      · obtain ⟨-, -, honly⟩ := htwin hk
        refine report_targetReached ht (hskew h1) (hclear h2) ha hp h3 hv hx hg' ham (fun g _ => ?_) fun g _ hge => ?_
        · by_cases hge : g = e
          · rw [hge]
            exact hem
          · rw [honly g hge]
            exact hoe
        · rw [honly g hge]
          exact hoa
    · obtain ⟨x, hx⟩ := Option.isSome_iff_exists.mp htg
      exact report_departs ht (hskew h1) (hclear (hnotAwning hk)) ha hp h3 hv hx
        (by rw [hnear]; exact fun h => hth ⟨x, hx, h⟩) ham hem hsh hk
    · have h := report_twinDriven ht (hskew h1) (hclear (hnotAwning hk)) ha h3 hv hk hsk (current := current) (e := e)
      rw [← htimer]
      exact h
  · intro d r raw load q hr hraw hload hk hsd hdrive hp hq t reached
    refine slotReport_partner ht hr hk hp hq ?_
    have h := (readReport_chan s (r := r) (s.fn i) hdrive).1
    rw [hraw] at h
    rw [reportRead_fn]
    exact h.trans (congrArg some (positionOf_motor (by rw [show (s.cfg i).kind = _ from hk]; rfl) .a raw))

end Sys2Proof.Proofs
end

section
/-! PROOFS. What handing an order comes to, and the entry into MOVING and the pump's start (O27): an order's code and
speed stand in its channel's record, and no other channel's code or speed changes. -/

namespace Sys2Proof.Proofs
open Sys2Proof.Machine Sys2Proof.Laws

/-! ### The codes and speeds of the order records (R169, R170) -/

/-- What a record orders, and of which channel. -/
def ordered (r : OrderRecord) : (Nat × Nat) × (DriveCode × Nat) := ((r.node, r.channel), (r.drive, r.speed))

/-- The orders that stand, without the scheduler's marks. -/
def orderedAll (s : State) : List ((Nat × Nat) × (DriveCode × Nat)) := s.orders.records.map ordered

section
variable {s t : State}

theorem mapOrder_ordered {node channel : Nat} {g : OrderRecord → OrderRecord} (h : ∀ r, ordered (g r) = ordered r)
    (s : State) : orderedAll (s.mapOrder node channel g) = orderedAll s := by
  simp only [orderedAll, State.mapOrder, List.map_map]
  refine List.map_congr_left fun r _ => ?_
  simp only [Function.comp_apply]
  split
  · exact h r
  · rfl

theorem clearMarks_ordered (r : OrderRecord) (s : State) : orderedAll (clearMarks r s) = orderedAll s :=
  mapOrder_ordered (g := fun x => { x with due := false, refresh := false }) (fun _ => rfl) s

theorem placeFull_ordered (r : OrderRecord) (s : State) : orderedAll (placeFull r s) = orderedAll s := by
  have hdue : ∀ n c u, orderedAll (u.mapOrder n c fun x => { x with due := true }) = orderedAll u := fun _ _ =>
    mapOrder_ordered (g := fun x => { x with due := true }) fun _ => rfl
  have hrefresh : ∀ n c u, orderedAll (u.mapOrder n c fun x => { x with refresh := true }) = orderedAll u :=
    fun _ _ => mapOrder_ordered (g := fun x => { x with refresh := true }) fun _ => rfl
  unfold placeFull
  split
  · split
    · next e q _ => exact (clearMarks_ordered r _).trans (hrefresh e.node e.channel (s.setQueue (q ++ [entryOf r])))
    · exact (hdue ..).trans (clearMarks_ordered r s)
  · exact (hrefresh r.node r.channel (clearMarks r s)).trans (clearMarks_ordered r s)

theorem placeOrder_ordered (r : OrderRecord) (s : State) : orderedAll (placeOrder r s) = orderedAll s := by
  unfold placeOrder
  split
  · exact clearMarks_ordered r _
  · split
    · exact clearMarks_ordered r _
    · exact placeFull_ordered r s

theorem placeDueUpTo_ordered (n : Nat) (s : State) : orderedAll (placeDueUpTo n s) = orderedAll s := by
  induction n generalizing s with
  | zero => rfl
  | succ n ih =>
    unfold placeDueUpTo
    split
    · split
      · rfl
      · exact (ih _).trans (placeOrder_ordered ..)
    · rfl

theorem pumpM_ordered (s : State) : orderedAll (pumpM s) = orderedAll s := by
  have hslot : ∀ c u, orderedAll (slotEmptied c u) = orderedAll u := fun c u => by
    have : (slotEmptied c u).orders = u.orders := by simp
    simp only [orderedAll, this]
  unfold pumpM
  split
  · rfl
  · split
    · exact hslot _ _
    · split
      · exact placeDueUpTo_ordered ..
      · split <;> rfl

/-- The order that stands for a channel. -/
theorem orderRecord_ordered (node channel : Nat) (s : State) : (s.orderRecord node channel).map ordered
    = (orderedAll s).find? fun x => x.1 == (node, channel) := by
  have hfor : (OrderRecord.isFor · node channel) = ((fun x : (Nat × Nat) × (DriveCode × Nat) => x.1 == (node, channel)) ∘ ordered) := by
    funext r
    rw [Bool.eq_iff_iff]
    simp [OrderRecord.isFor, ordered]
  rw [orderedAll, List.find?_map, State.orderRecord, hfor]

theorem orderRecord_of_ordered {node channel : Nat} (h : orderedAll t = orderedAll s) :
    (t.orderRecord node channel).map ordered = (s.orderRecord node channel).map ordered := by
  rw [orderRecord_ordered, orderRecord_ordered, h]

/-- A channel's record that is written anew is the one found for it. -/
theorem mapOrder_found {node channel : Nat} {r r' : OrderRecord} (h : s.orderRecord node channel = some r)
    (hn : r'.node = node) (hc : r'.channel = channel) :
    (s.mapOrder node channel fun _ => r').orderRecord node channel = some r' := by
  have hfor : ((OrderRecord.isFor · node channel) ∘ fun x : OrderRecord => if x.isFor node channel then r' else x)
      = (OrderRecord.isFor · node channel) := by
    funext x
    simp only [Function.comp_apply]
    split
    · next hx => rw [hx]; simp [OrderRecord.isFor, hn, hc]
    · rfl
  simp only [State.orderRecord, State.mapOrder, List.find?_map, hfor]
  rw [show s.orders.records.find? (·.isFor node channel) = some r from h, Option.map_some,
    if_pos (List.find?_some h)]

theorem mapOrder_missed {node channel node' channel' : Nat} {r' : OrderRecord} (hn : r'.node = node)
    (hc : r'.channel = channel) (hne : (node', channel') ≠ (node, channel)) :
    (s.mapOrder node channel fun _ => r').orderRecord node' channel' = s.orderRecord node' channel' := by
  have hapart : ∀ x : OrderRecord, x.isFor node channel = true → x.isFor node' channel' = false := by
    intro x hx
    rw [isFor_record] at hx
    rw [Bool.eq_false_iff, ne_eq, isFor_record]
    exact fun k => hne (by rw [← hx.1, ← hx.2, ← k.1, ← k.2])
  have hfor : ((OrderRecord.isFor · node' channel') ∘ fun x : OrderRecord => if x.isFor node channel then r' else x)
      = (OrderRecord.isFor · node' channel') := by
    funext x
    simp only [Function.comp_apply]
    split
    · next hx =>
      rw [hapart x hx]
      exact hapart r' (isFor_record.mpr ⟨hn, hc⟩)
    · rfl
  simp only [State.orderRecord, State.mapOrder, List.find?_map, hfor]
  cases hf : s.orders.records.find? (·.isFor node' channel') with
  | none => rfl
  | some x =>
    rw [Option.map_some, if_neg]
    intro hx
    have hx' : x.isFor node' channel' = true := by simpa using List.find?_some hf
    exact Bool.false_ne_true ((hapart x hx).symm.trans hx')

section
variable (place : Bool) (d : DriveRef) (code : DriveCode) (speed : Nat)

/-- The placing of a handed order changes no order. -/
theorem placed_ordered (r : OrderRecord) (u : State) :
    orderedAll (if place then pumpM (placeOrder r u) else u) = orderedAll u := by
  split
  · exact (pumpM_ordered _).trans (placeOrder_ordered r u)
  · rfl

/-- The order stands in its channel's record once it is handed. -/
theorem handOrder_ordered (s : State) : ((handOrder place d code speed s).orderRecord d.node d.channel).map ordered
    = some ((d.node, d.channel), (code, speed)) := by
  unfold handOrder
  cases h : s.orderRecord d.node d.channel with
  | none =>
    refine (orderRecord_of_ordered (placed_ordered place ..)).trans ?_
    have hnone : s.orders.records.find? (·.isFor d.node d.channel) = none := h
    have hnew : OrderRecord.isFor ⟨d.node, d.channel, code, speed, 0, false, false, none⟩ d.node d.channel = true :=
      isFor_record.mpr ⟨rfl, rfl⟩
    simp only [State.orderRecord, List.find?_append, hnone, List.find?_cons, hnew, Option.none_or, Option.map_some, ordered]
  | some r =>
    obtain ⟨h1, h2⟩ := orderRecord_some h
    dsimp only
    split
    · next he =>
      rw [h, ← he.1, ← he.2, ← h1, ← h2]
      rfl
    · refine (orderRecord_of_ordered (placed_ordered place ..)).trans ?_
      rw [mapOrder_found (r' := { r with drive := code, speed := speed, sequence := nextSequence r.sequence }) h h1 h2]
      simp only [Option.map_some, ordered, h1, h2]

/-- An order handed for one channel leaves the order of another as it stands. -/
theorem handOrder_ordered_ne {d' : DriveRef} (hne : d' ≠ d) (s : State) :
    ((handOrder place d code speed s).orderRecord d'.node d'.channel).map ordered
      = (s.orderRecord d'.node d'.channel).map ordered := by
  have hpair : (d'.node, d'.channel) ≠ (d.node, d.channel) := by
    intro h
    obtain ⟨h1, h2⟩ := Prod.mk.inj h
    exact hne (by cases d; cases d'; simp_all)
  unfold handOrder
  cases h : s.orderRecord d.node d.channel with
  | none =>
    refine (orderRecord_of_ordered (placed_ordered place ..)).trans ?_
    have hnot : OrderRecord.isFor ⟨d.node, d.channel, code, speed, 0, false, false, none⟩ d'.node d'.channel = false := by
      rw [Bool.eq_false_iff, ne_eq, isFor_record]
      exact fun k => hpair (Prod.ext k.1.symm k.2.symm)
    simp only [State.orderRecord, List.find?_append, List.find?_cons, hnot, List.find?_nil, Option.or_none]
  | some r =>
    obtain ⟨h1, h2⟩ := orderRecord_some h
    dsimp only
    split
    · rfl
    · refine (orderRecord_of_ordered (placed_ordered place ..)).trans ?_
      rw [mapOrder_missed (r' := { r with drive := code, speed := speed, sequence := nextSequence r.sequence }) h1 h2 hpair]

end

/-- A record found with its order. -/
theorem record_of_ordered {node channel : Nat} {code : DriveCode} {speed : Nat}
    (h : (s.orderRecord node channel).map ordered = some ((node, channel), (code, speed))) :
    ∃ r, s.orderRecord node channel = some r ∧ r.drive = code ∧ r.speed = speed := by
  obtain ⟨r, hr, ho⟩ := Option.map_eq_some_iff.mp h
  simp only [ordered, Prod.mk.injEq] at ho
  exact ⟨r, hr, ho.2.1, ho.2.2⟩

end

/-! ### The pump's start (R59) -/

theorem startPump_functions (s : State) : (startPump s).functions = s.functions := by simp [startPump, addClaim]

theorem startPump_manifold (s : State) : (startPump s).manifold = { s.manifold with
    pump := .priming, primeTimer := some (s.now + s.settings.manifold.primeLimit), restTimer := none } := by
  simp [startPump, addClaim, startTimer]

theorem startPump_budget (s : State) : (startPump s).budget = { s.budget with
    claims := s.budget.claims ++ [⟨.pump, s.settings.manifold.pumpClaim⟩] } := by
  simp [startPump, addClaim]

theorem startPump_ordered {s : State} {d : DriveRef} (h : s.settings.manifold.pump = some d) :
    ∃ r, (startPump s).orderRecord d.node d.channel = some r ∧ r.drive = .pumpRun ∧ r.speed = 100 := by
  have hs : startPump s = (pumpOrder true .pumpRun 100 (addClaim .pump s.settings.manifold.pumpClaim s)).setManifold
      (startPump s).manifold := by simp [startPump]
  refine record_of_ordered ?_
  rw [hs]
  have hp : (addClaim .pump s.settings.manifold.pumpClaim s).settings.manifold.pump = some d := h
  simp only [pumpOrder, hp]
  exact handOrder_ordered true d .pumpRun 100 _

end Sys2Proof.Proofs
end

section
/-! PROOFS. The entry into MOVING (O27, R13, R97, R103): what it makes of the slot's record, and the orders it hands. -/

namespace Sys2Proof.Proofs
open Sys2Proof.Machine Sys2Proof.Laws

section
variable {s : State} {i : Slot}

/-! ### The record -/

/-- The part with the slot's record passed into MOVING, before it is driven. -/
def movingAt (i : Slot) (s : State) : State := putFn i ((s.fn i).started s.now) s

theorem movingAt_fn (i : Slot) (s : State) : (movingAt i s).fn i = (s.fn i).started s.now := putFn_fn ..

theorem movingAt_cfg (i j : Slot) (s : State) : (movingAt i s).cfg j = s.cfg j :=
  cfg_of_settings (putFn_kept ..).2 j

theorem movingAt_taken (i j : Slot) (s : State) : (movingAt i s).isTaken j = s.isTaken j :=
  isTaken_congr (by simp [movingAt]) j

/-- The entry keeps the positions, and so the skew. -/
theorem movingAt_skew (i : Slot) (s : State) : (movingAt i s).skewTooHard i = s.skewTooHard i := by
  have : skewOf ((movingAt i s).fn i) = skewOf (s.fn i) := by
    rw [movingAt_fn]
    rfl
  simp only [State.skewTooHard, movingAt_cfg, this]

theorem startMove_skewed (h : s.skewTooHard i = true) : startMove i s = faultFn i .skew (movingAt i s) :=
  if_pos ((movingAt_skew i s).trans h)

theorem startMove_driven (h : s.skewTooHard i = false) : startMove i s = reorder i (movingAt i s) :=
  if_neg (Bool.eq_false_iff.mp ((movingAt_skew i s).trans h))

theorem Alone.startMove (h : s.isTaken i = false ∨ s.skewTooHard i = false) : Alone i (startMove i s) s := by
  have hm : Alone i (movingAt i s) s := .putFn _
  by_cases hk : s.skewTooHard i = true
  · rw [startMove_skewed hk]
    exact (Alone.faultFn ((movingAt_taken i i s).trans (h.resolve_right (by simp [hk]))) _).trans hm
  · rw [startMove_driven (Bool.not_eq_true _ ▸ hk)]
    exact Alone.reorder.trans hm

theorem startMove_faults (h : s.skewTooHard i = true) :
    (startMove i s).fn i = ((s.fn i).started s.now).failed .skew := by
  rw [startMove_skewed h, faultFn_self .skew (by rw [movingAt_fn]; rfl), movingAt_fn]

/-- Driven, only the channels' directions are not yet said. -/
theorem startMove_moves (h : s.skewTooHard i = false) :
    ∃ a b, (startMove i s).fn i = turnedTo ((s.fn i).started s.now) a b := by
  rw [startMove_driven h, ← movingAt_fn]
  exact (reorder_turned ..).fn i

/-! ### The manifold and the claims -/

theorem startMove_manifold (h : s.isTaken i = false ∨ s.skewTooHard i = false)
    (hw : i ∉ s.manifold.waitList.map (·.slot)) : (startMove i s).manifold = s.manifold := by
  by_cases hk : s.skewTooHard i = true
  · have ht : (movingAt i s).isTaken i = false := (movingAt_taken i i s).trans (h.resolve_right (by simp [hk]))
    have hkeep : s.manifold.waitList.filter (fun e => e.slot != i) = s.manifold.waitList := by
      refine List.filter_eq_self.mpr fun e he => ?_
      rw [bne_iff_ne]
      rintro rfl
      exact hw (List.mem_map_of_mem he)
    rw [startMove_skewed hk, faultFn_free _ ht, failFn, if_pos (by rw [movingAt_fn]; rfl)]
    simp [leaveList, State.setManifold, movingAt, hkeep]
  · rw [startMove_driven (Bool.not_eq_true _ ▸ hk)]
    simp [movingAt]

theorem startMove_budget (h : s.isTaken i = false ∨ s.skewTooHard i = false) : (startMove i s).budget
    = if s.skewTooHard i then { s.budget with claims := s.budget.claims.filter fun c => c.claimant != .motor i }
      else s.budget := by
  by_cases hk : s.skewTooHard i = true
  · have ht : (movingAt i s).isTaken i = false := (movingAt_taken i i s).trans (h.resolve_right (by simp [hk]))
    have hact : ((leaveList i (holdMoved true i (movingAt i s))) : State).fn i = (s.fn i).started s.now := by
      rw [← movingAt_fn]
      exact fn_congr (by simp) i
    have hb : (leaveList i (holdMoved true i (movingAt i s))).budget = s.budget := by simp [movingAt]
    rw [if_pos hk, startMove_skewed hk, faultFn_free _ ht, failFn, if_pos (by rw [movingAt_fn]; rfl)]
    simp only [refuseHold_frame, putFn_frame, releaseDraw, hact]
    rw [if_pos (show ((s.fn i).started s.now).activity = .moving from rfl)]
    simp only [dropClaim, hb]
  · rw [if_neg hk, startMove_driven (Bool.not_eq_true _ ▸ hk)]
    simp [movingAt]

/-! ### The orders -/

/-- Just driven, a motor kind creeps and another goes at its full speed. -/
theorem orderSpeed_begun (c : FunctionConfig) (f : Function) (now : Nat) :
    orderSpeed c (f.started now) now = (let full := f.moveSpeed.getD 0
      let begin_ := if c.kind.isMotor then c.creepSpeed else full
      if inCreepZone c f then min c.creepSpeed begin_ else begin_) := by
  have hramp : ∀ v, rampValue c v (now - ((f.started now).moveBegan.getD now)) = c.creepSpeed := by
    intro v
    have hpos : 0 < rampTime c.rampCode := by
      unfold rampTime
      split <;> decide
    have h0 : now - (f.started now).moveBegan.getD now = 0 := Nat.sub_self now
    rw [rampValue, h0, if_pos hpos, Nat.mul_zero, Nat.zero_div, Nat.add_zero]
  have hzone : inCreepZone c (f.started now) = inCreepZone c f := by
    have hpos : ∀ e, ((f.started now).chan e).position = (f.chan e).position := fun e => by cases e <;> rfl
    simp only [inCreepZone, distances, hpos]
    rfl
  simp only [orderSpeed, hramp, hzone]
  rfl

/-- A channel's turn and order, of a function that nothing holds. -/
theorem turned_ordered {w : State} {e : Side} {d : DriveRef} {dir : Direction}
    (hfree : w.channelHeld i e = false) (hd : (w.cfg i).drive e = some d)
    (hdir : driveDirection (w.fn i) ((w.fn i).chan e) = some dir) :
    let u := orderChannel i e (turnChannel i e w)
    u.fn i = (w.fn i).setChan e { (w.fn i).chan e with direction := some dir }
      ∧ (u.orderRecord d.node d.channel).map ordered
        = some ((d.node, d.channel), (dir.drive, orderSpeed (w.cfg i) (u.fn i) w.now)) := by
  intro u
  have hturn : turnChannel i e w = w.storeFn i ((w.fn i).setChan e { (w.fn i).chan e with direction := some dir }) := by
    simp only [turnChannel, hfree, Bool.false_eq_true, if_false, hdir]
  have hfn : (turnChannel i e w).fn i = (w.fn i).setChan e { (w.fn i).chan e with direction := some dir } := by
    rw [hturn, storeFn_fn]
  have hu : u.fn i = (w.fn i).setChan e { (w.fn i).chan e with direction := some dir } := by
    rw [← hfn]
    exact fn_congr (by simp [u]) i
  have hheld : (turnChannel i e w).channelHeld i e = false := by
    rw [State.channelHeld, hfn, chan_setChan]
    have hs : ((w.fn i).setChan e { (w.fn i).chan e with direction := some dir }).skewHold = (w.fn i).skewHold := by
      cases e <;> rfl
    rw [hs]
    have ht : (turnChannel i e w).isTaken i = w.isTaken i := isTaken_congr (by simp) i
    have hq : (turnChannel i e w).sequence = w.sequence := by simp
    rw [ht, hq]
    exact hfree
  refine ⟨hu, ?_⟩
  have hcfg : (turnChannel i e w).cfg i = w.cfg i := cfg_of_settings (turnChannel_kept ..).2 i
  have hnow : (turnChannel i e w).now = w.now := by simp
  have hord : u = handOrder true d dir.drive (orderSpeed (w.cfg i) ((turnChannel i e w).fn i) w.now)
      (turnChannel i e w) := by
    simp only [u, orderChannel, hcfg, hd, hheld, Bool.false_eq_true, if_false, hnow]
    rw [hfn, chan_setChan]
  rw [hu, ← hfn, hord]
  exact handOrder_ordered ..

/-- The turn and order of one end leave the other end's channel, and its order. -/
theorem stepped_other {w : State} {e g : Side} {d : DriveRef} (hge : e ≠ g) (hd : (w.cfg i).drive g ≠ some d) :
    let u := orderChannel i g (turnChannel i g w)
    (u.fn i).chan e = (w.fn i).chan e
      ∧ (u.orderRecord d.node d.channel).map ordered = (w.orderRecord d.node d.channel).map ordered := by
  intro u
  have hfn : u.fn i = (turnChannel i g w).fn i := fn_congr (by simp [u]) i
  have hcfg : (turnChannel i g w).cfg i = w.cfg i := cfg_of_settings (turnChannel_kept ..).2 i
  have hturn : ((turnChannel i g w).fn i).chan e = (w.fn i).chan e := by
    unfold turnChannel
    split
    · rfl
    · rw [storeFn_fn, chan_setChan_other _ hge]
  have hrec : ((turnChannel i g w).orderRecord d.node d.channel) = w.orderRecord d.node d.channel := by
    have : (turnChannel i g w).orders = w.orders := by simp
    simp only [State.orderRecord, this]
  refine ⟨by rw [hfn, hturn], Eq.trans ?_ (congrArg _ hrec)⟩
  simp only [u, orderChannel, hcfg]
  split
  · rfl
  · next d' hd' =>
    have hne : d ≠ d' := fun h => hd (h ▸ hd')
    split
    · exact handOrder_ordered_ne true d' .holdStill 0 hne _
    · split
      · rfl
      · exact handOrder_ordered_ne true d' _ _ hne _

/-- Just driven, a channel away from its target has the direction of its verb, or of its target. -/
theorem driveDirection_begun {f : Function} {ch : Channel} {p : Nat} {way : Direction} (hp : ch.position = some p)
    (h : f.verb = some .extend ∧ way = .extend ∨ f.verb = some .retract ∧ way = .retract
      ∨ f.verb = some .goto ∧ (∃ x, f.target = some x ∧ (p < x ∧ way = .extend ∨ x < p ∧ way = .retract))) :
    driveDirection f ch = some way := by
  rcases h with ⟨hv, rfl⟩ | ⟨hv, rfl⟩ | ⟨hv, x, hx, ⟨hlt, rfl⟩ | ⟨hlt, rfl⟩⟩
  · simp only [driveDirection, hv]
  · simp only [driveDirection, hv]
  · simp only [driveDirection, hv, hx, hp, directionTo, if_pos hlt, if_neg (fun k : p = x ∧ _ => absurd k.1 (Nat.ne_of_lt hlt))]
  · simp only [driveDirection, hv, hx, hp, directionTo, if_pos hlt, if_neg (Nat.not_lt.mpr (Nat.le_of_lt hlt)),
      if_neg (fun k : p = x ∧ _ => absurd k.1 (Nat.ne_of_gt hlt))]

/-- The order speed does not depend on the directions. -/
theorem orderSpeed_turned (c : FunctionConfig) (f : Function) (a b : Option Direction) (now : Nat) :
    orderSpeed c (turnedTo f a b) now = orderSpeed c f now := by
  have hpos : ∀ e, ((turnedTo f a b).chan e).position = (f.chan e).position := fun e => by cases e <;> rfl
  have hzone : inCreepZone c (turnedTo f a b) = inCreepZone c f := by
    simp only [inCreepZone, distances, hpos]
    rfl
  simp only [orderSpeed, hzone]
  rfl

/-- The record as a step of the drive may find it: just started, with directions. -/
theorem begun_free {f : Function} {now : Nat} {a b : Option Direction} (e : Side) :
    heldAt (turnedTo (f.started now) a b) e = false := by cases e <;> rfl

/-- The orders of a function that passes into MOVING with nothing to hold it. -/
theorem startMove_ordered (ht : s.isTaken i = false) (hk : s.skewTooHard i = false) {e : Side} {d : DriveRef} {p : Nat}
    {way : Direction} (hn : (s.cfg i).drives.Nodup) (hd : (s.cfg i).drive e = some d)
    (hp : ((s.fn i).chan e).position = some p)
    (hw : (s.fn i).verb = some .extend ∧ way = .extend ∨ (s.fn i).verb = some .retract ∧ way = .retract
      ∨ (s.fn i).verb = some .goto ∧ (∃ x, (s.fn i).target = some x ∧ (p < x ∧ way = .extend ∨ x < p ∧ way = .retract))) :
    (((startMove i s).fn i).chan e).direction = some way
      ∧ ((startMove i s).orderRecord d.node d.channel).map ordered = some ((d.node, d.channel),
        (way.drive, orderSpeed (s.cfg i) ((s.fn i).started s.now) s.now)) := by
  -- a step for this end, of a part whose slot has the record just started
  have hstep : ∀ w : State, w.isTaken i = false → w.cfg i = s.cfg i → w.now = s.now →
      (∃ a b, w.fn i = turnedTo ((s.fn i).started s.now) a b) →
      let u := orderChannel i e (turnChannel i e w)
      ((u.fn i).chan e).direction = some way ∧ (u.orderRecord d.node d.channel).map ordered
        = some ((d.node, d.channel), (way.drive, orderSpeed (s.cfg i) ((s.fn i).started s.now) s.now)) := by
    rintro w hwt hwc hwn ⟨a, b, hwf⟩ u
    have hpos : ((w.fn i).chan e).position = some p := by
      rw [hwf]
      cases e <;> exact hp
    have hdir : driveDirection (w.fn i) ((w.fn i).chan e) = some way :=
      driveDirection_begun hpos (by rw [hwf]; exact hw)
    have hfree : w.channelHeld i e = false := by rw [channelHeld_free hwt, hwf, begun_free]
    obtain ⟨h1, h2⟩ := turned_ordered hfree (hwc ▸ hd) hdir
    obtain ⟨a', b', h3⟩ := (((orderChannel_turned i e _).trans (turnChannel_turned i e w))).fn i
    refine ⟨by rw [h1, chan_setChan], h2.trans ?_⟩
    rw [h3, hwf, hwc, hwn]
    have : turnedTo (turnedTo ((s.fn i).started s.now) a b) a' b' = turnedTo ((s.fn i).started s.now) a' b' := rfl
    rw [this, orderSpeed_turned]
  have hmove : startMove i s = (s.cfg i).sides.foldl (fun s e => orderChannel i e (turnChannel i e s)) (movingAt i s) := by
    rw [startMove_driven hk, reorder, if_pos (by rw [movingAt_fn]; rfl), movingAt_cfg]
  have h0 : ∃ a b, (movingAt i s).fn i = turnedTo ((s.fn i).started s.now) a b := ⟨none, none, movingAt_fn i s⟩
  have hnow : (movingAt i s).now = s.now := by simp [movingAt]
  rw [hmove]
  match hdr : (s.cfg i).drives with
  | [] => cases e <;> simp [FunctionConfig.drive, hdr] at hd
  | [da] =>
    have hs : (s.cfg i).sides = [.a] := by simp [FunctionConfig.sides, hdr]
    have he : e = .a := by
      cases e with
      | a => rfl
      | b => simp [FunctionConfig.drive, hdr] at hd
    subst he
    rw [hs]
    exact hstep _ ((movingAt_taken ..).trans ht) (movingAt_cfg ..) hnow h0
  | da :: db :: rest =>
    have hs : (s.cfg i).sides = [.a, .b] := by simp [FunctionConfig.sides, hdr]
    have hab : da ≠ db := by
      rw [hdr] at hn
      exact fun h => (List.nodup_cons.mp hn).1 (h ▸ List.mem_cons_self ..)
    have hda : (s.cfg i).drive .a = some da := by simp [FunctionConfig.drive, hdr]
    have hdb : (s.cfg i).drive .b = some db := by simp [FunctionConfig.drive, hdr]
    rw [hs, List.foldl_cons, List.foldl_cons, List.foldl_nil]
    have h1 : ∀ w, (orderChannel i .a (turnChannel i .a w)).cfg i = w.cfg i := fun w =>
      (cfg_of_settings (orderChannel_kept ..).2 i).trans (cfg_of_settings (turnChannel_kept ..).2 i)
    cases e with
    | a =>
      obtain rfl : da = d := Option.some.inj (hda.symm.trans hd)
      obtain ⟨k1, k2⟩ := hstep _ ((movingAt_taken i i s).trans ht) (movingAt_cfg ..) hnow h0
      obtain ⟨m1, m2⟩ := stepped_other (w := orderChannel i .a (turnChannel i .a (movingAt i s))) (i := i) (e := .a)
        (g := .b) (d := da) (by decide) (by
          rw [h1, movingAt_cfg, hdb]
          exact fun h => hab (Option.some.inj h).symm)
      exact ⟨(congrArg Channel.direction m1).trans k1, m2.trans k2⟩
    | b =>
      obtain ⟨a', b', h3⟩ := (((orderChannel_turned i .a _).trans (turnChannel_turned i .a (movingAt i s)))).fn i
      refine hstep _ ?_ ((h1 _).trans (movingAt_cfg ..)) (by simp [movingAt]) ⟨a', b', ?_⟩
      · exact (isTaken_congr (by simp) i).trans ((movingAt_taken i i s).trans ht)
      · rw [h3, movingAt_fn]

end

end Sys2Proof.Proofs
end

section
/-! PROOFS. The service pass (O27, R56, R66): what a pass keeps of everything but the slots it serves, and what it makes
of those. -/

namespace Sys2Proof.Proofs
open Sys2Proof.Machine Sys2Proof.Laws

/-- The slot has an entry in the wait list. -/
def Listed (s : State) (i : Slot) : Prop := i ∈ s.manifold.waitList.map (·.slot)

/-- The motor functions are no sequence's. -/
def MotorsFree (s : State) : Prop := ∀ i, (s.cfg i).kind.isMotor = true → s.isTaken i = false

/-! ### What a pass keeps -/

/-- The part at a later moment of the same pass: entries have only left the list, and only their slots have changed.
-/
structure Served (u s : State) : Prop where
  sequence : u.sequence = s.sequence
  settings : u.settings = s.settings
  now : u.now = s.now
  limit : u.budget.effectiveLimit = s.budget.effectiveLimit
  waits : u.manifold.waitList.Sublist s.manifold.waitList
  fn : ∀ j, Listed u j ∨ ¬ Listed s j → u.fn j = s.fn j
  held : u.claimsHeld ≤ max s.claimsHeld s.budget.effectiveLimit
  kept : ∀ c ∈ s.budget.claims, (∀ j, c.claimant = .motor j → ¬ Listed s j) → c ∈ u.budget.claims

section
variable {s t u : State} {i j : Slot}

theorem Served.refl (s : State) : Served s s :=
  ⟨rfl, rfl, rfl, rfl, List.Sublist.refl _, fun _ _ => rfl, Nat.le_max_left .., fun _ h _ => h⟩

theorem Served.listed (h : Served u s) (hj : Listed u j) : Listed s j := (h.waits.map _).subset hj

theorem Served.trans (h : Served u t) (k : Served t s) : Served u s where
  sequence := h.sequence.trans k.sequence
  settings := h.settings.trans k.settings
  now := h.now.trans k.now
  limit := h.limit.trans k.limit
  waits := h.waits.trans k.waits
  fn j hj := by
    rcases hj with hj | hj
    · exact (h.fn j (.inl hj)).trans (k.fn j (.inl (h.listed hj)))
    · exact (h.fn j (.inr fun l => hj (k.listed l))).trans (k.fn j (.inr hj))
  held := by
    have h1 := h.held
    have h2 := k.held
    have h3 := k.limit
    omega
  kept c hc hj := h.kept c (k.kept c hc hj) fun j e l => hj j e (k.listed l)

theorem Served.cfg (h : Served u s) (j : Slot) : u.cfg j = s.cfg j := cfg_of_settings h.settings j

theorem Served.taken (h : Served u s) (j : Slot) : u.isTaken j = s.isTaken j := isTaken_congr h.sequence j

theorem Served.motors (h : Served u s) (k : MotorsFree s) : MotorsFree u := fun j hj => by
  rw [h.cfg] at hj
  rw [h.taken, k j hj]

theorem Served.nodup (h : Served u s) (k : (s.manifold.waitList.map (·.slot)).Nodup) :
    (u.manifold.waitList.map (·.slot)).Nodup := (h.waits.map _).nodup k

theorem Served.underGrant (h : Served u s) (g : Grant) (hj : Listed u j) : u.underGrant g j = s.underGrant g j := by
  simp only [State.underGrant, h.cfg, h.fn j (.inl hj)]

/-- A motor function, or another, that can go MOVING without a sequence's hand in it. -/
theorem movable (h : MotorsFree s) (i : Slot) : s.isTaken i = false ∨ s.skewTooHard i = false := by
  by_cases hk : s.skewTooHard i = true
  · have := ((skewTooHard_iff s i).mp hk).1
    exact .inl (h i (by rw [this]; rfl))
  · exact .inr (by simpa using hk)

theorem skew_hydraulic (h : (s.cfg i).kind.isHydraulic = true) : s.skewTooHard i = false := by
  rw [Bool.eq_false_iff]
  intro hk
  rw [((skewTooHard_iff s i).mp hk).1] at h
  exact Bool.false_ne_true h

/-! ### One slot served -/

theorem leaveList_listed : Listed (leaveList i s) j ↔ Listed s j ∧ j ≠ i := by
  simp only [Listed, leaveList, State.setManifold, List.mem_map, List.mem_filter, bne_iff_ne]
  constructor
  · rintro ⟨e, ⟨he, hne⟩, rfl⟩
    exact ⟨⟨e, he, rfl⟩, hne⟩
  · rintro ⟨⟨e, he, rfl⟩, hne⟩
    exact ⟨e, ⟨he, hne⟩, rfl⟩

theorem leaveList_left (i : Slot) (s : State) : ¬ Listed (leaveList i s) i := fun h => (leaveList_listed.mp h).2 rfl

/-- The function of an entry that has left goes MOVING. -/
theorem startMove_served (hm : MotorsFree s) (hi : ¬ Listed s i) : Alone i (startMove i s) s
    ∧ (startMove i s).settings = s.settings ∧ (startMove i s).now = s.now
    ∧ (startMove i s).manifold = s.manifold ∧ (startMove i s).budget.effectiveLimit = s.budget.effectiveLimit
    ∧ (startMove i s).claimsHeld ≤ s.claimsHeld
    ∧ ∀ c ∈ s.budget.claims, c.claimant ≠ .motor i → c ∈ (startMove i s).budget.claims := by
  have hb := startMove_budget (movable hm i)
  refine ⟨Alone.startMove (movable hm i), (startMove_kept ..).2, by simp, startMove_manifold (movable hm i) hi, ?_, ?_,
    fun c hc hne => ?_⟩
  · rw [hb]
    split <;> rfl
  · simp only [State.claimsHeld, hb]
    split
    · exact claimSum_filter_le ..
    · exact Nat.le_refl _
  · rw [hb]
    split
    · exact List.mem_filter.mpr ⟨hc, by rw [bne_iff_ne]; exact hne⟩
    · exact hc

theorem readyPump_pump (s : State) : (readyPump s).manifold.pump
    = if s.manifold.pump = .holdOn then .ready else s.manifold.pump := by
  unfold readyPump
  split
  · rfl
  · rfl

theorem readyPump_manifold (s : State) : (readyPump s).manifold.waitList = s.manifold.waitList
    ∧ (readyPump s).manifold.holder = s.manifold.holder := by
  unfold readyPump
  split <;> exact ⟨rfl, rfl⟩

theorem Served.of_alone (ha : Alone i u s) (hs : u.settings = s.settings) (hn : u.now = s.now)
    (hlim : u.budget.effectiveLimit = s.budget.effectiveLimit)
    (hw : u.manifold.waitList = (leaveList i s).manifold.waitList) (hl : Listed s i)
    (hc : u.claimsHeld ≤ max s.claimsHeld s.budget.effectiveLimit)
    (hk : ∀ c ∈ s.budget.claims, c.claimant ≠ .motor i → c ∈ u.budget.claims) : Served u s where
  sequence := ha.sequence
  settings := hs
  now := hn
  limit := hlim
  waits := hw ▸ List.filter_sublist
  fn j hj := by
    refine ha.fn j ?_
    rintro rfl
    rcases hj with hj | hj
    · refine leaveList_left j s ?_
      unfold Listed
      rw [← hw]
      exact hj
    · exact hj hl
  held := hc
  kept c hc hj := hk c hc fun e => hj i e hl

theorem freeHydraulic_priming (h : s.manifold.pump = .priming) :
    freeHydraulic i s = putFn i { s.fn i with waitReason := some .prime } (leaveList i s) :=
  if_pos h

theorem freeHydraulic_driven (h : s.manifold.pump ≠ .priming) :
    freeHydraulic i s = readyPump (startMove i (leaveList i s)) := if_neg h

theorem readyPump_timer (s : State) : (readyPump s).manifold.holdOnTimer
    = if s.manifold.pump = .holdOn then none else s.manifold.holdOnTimer := by
  unfold readyPump
  split <;> rfl

/-- A waiting function is freed: its entry leaves, and only its record changes. -/
theorem freeHydraulic_served (hm : MotorsFree s) (hl : Listed s i) : Served (freeHydraulic i s) s
    ∧ (freeHydraulic i s).manifold.waitList = (leaveList i s).manifold.waitList
    ∧ (freeHydraulic i s).manifold.holder = s.manifold.holder
    ∧ (freeHydraulic i s).manifold.pump = (if s.manifold.pump = .holdOn then .ready else s.manifold.pump)
    ∧ (freeHydraulic i s).manifold.holdOnTimer
      = if s.manifold.pump = .holdOn then none else s.manifold.holdOnTimer := by
  by_cases hp : s.manifold.pump = .priming
  · rw [freeHydraulic_priming hp]
    have hman : (putFn i { s.fn i with waitReason := some .prime } (leaveList i s)).manifold
        = (leaveList i s).manifold := by simp
    refine ⟨.of_alone ((Alone.putFn _).trans ⟨fun _ _ => rfl, rfl⟩) ?_ (by simp) (by simp) (by rw [hman]) hl ?_ ?_,
      by rw [hman], by rw [hman]; rfl, ?_, ?_⟩
    · exact (putFn_kept ..).2
    · refine Nat.le_trans (Nat.le_of_eq ?_) (Nat.le_max_left ..)
      simp [State.claimsHeld]
    · intro c hc _
      simpa using hc
    · rw [hman, hp]
      exact hp
    · rw [hman, hp]
      rfl
  · rw [freeHydraulic_driven hp]
    have hm' : MotorsFree (leaveList i s) := hm
    obtain ⟨h1, h2, h3, h4, h5, h6, h7⟩ := startMove_served hm' (leaveList_left i s)
    obtain ⟨k1, k2⟩ := readyPump_manifold (startMove i (leaveList i s))
    have hready : Alone i (readyPump (startMove i (leaveList i s))) (startMove i (leaveList i s)) :=
      ⟨fun j _ => fn_congr (by simp) j, by simp⟩
    refine ⟨.of_alone ((hready.trans h1).trans ⟨fun _ _ => rfl, rfl⟩) ?_ ?_ ?_ ?_ hl ?_ ?_, ?_, ?_, ?_, ?_⟩
    · exact (readyPump_kept _).2.trans h2
    · exact (by simp : (readyPump (startMove i (leaveList i s))).now = (startMove i (leaveList i s)).now).trans h3
    · rw [(readyPump_frame _).2.2.2.1, h5]
      rfl
    · rw [k1, h4]
    · simp only [State.claimsHeld, (readyPump_frame _).2.2.2.1]
      exact Nat.le_trans h6 (Nat.le_max_left ..)
    · rw [(readyPump_frame _).2.2.2.1]
      exact h7
    · rw [k1, h4]
    · rw [k2, h4]
      rfl
    · rw [readyPump_pump, h4]
      rfl
    · rw [readyPump_timer, h4]
      rfl

/-- What freeing makes of the record: it waits for a priming pump, and else moves. -/
theorem freeHydraulic_fn (hk : (s.cfg i).kind.isHydraulic = true) :
    (s.manifold.pump = .priming → (freeHydraulic i s).fn i = { s.fn i with waitReason := some .prime })
    ∧ (s.manifold.pump ≠ .priming → ((freeHydraulic i s).fn i).activity = .moving
      ∧ ((freeHydraulic i s).fn i).moveBegan = some s.now) := by
  refine ⟨fun hp => ?_, fun hp => ?_⟩
  · rw [freeHydraulic_priming hp]
    exact putFn_fn ..
  · have hf : (freeHydraulic i s).fn i = (startMove i (leaveList i s)).fn i := by
      rw [freeHydraulic_driven hp]
      exact fn_congr (by simp) i
    have hsk : (leaveList i s).skewTooHard i = false := skew_hydraulic (s := leaveList i s) hk
    obtain ⟨a, b, h⟩ := startMove_moves hsk
    rw [hf, h]
    exact ⟨rfl, rfl⟩

/-- A motor function's claim is taken and it leaves the list. -/
theorem admitMotor_served (hm : MotorsFree s) (hl : Listed s i) (ha : s.admits (s.cfg i).draw = true) :
    Served (admitMotor i s) s ∧ (admitMotor i s).manifold = (leaveList i s).manifold := by
  have hm' : MotorsFree (addClaim (.motor i) (s.cfg i).draw (leaveList i s)) := hm
  obtain ⟨h1, h2, h3, h4, h5, h6, h7⟩ := startMove_served hm' (leaveList_left i s)
  have hsum : (addClaim (.motor i) (s.cfg i).draw (leaveList i s)).claimsHeld = s.claimsHeld + (s.cfg i).draw := by
    simp only [State.claimsHeld, addClaim, leaveList, State.setManifold, claimSum_append]
    simp [claimSum]
  have hfit : s.claimsHeld + (s.cfg i).draw ≤ max s.claimsHeld s.budget.effectiveLimit := by
    rw [State.admits, Bool.or_eq_true, beq_iff_eq] at ha
    rcases ha with h | h
    · rw [h]
      exact Nat.le_max_left ..
    · exact Nat.le_trans (of_decide_eq_true h) (Nat.le_max_right ..)
  refine ⟨.of_alone (h1.trans ⟨fun _ _ => rfl, rfl⟩) h2 h3 h5 (congrArg (·.waitList) h4) hl ?_ ?_, h4⟩
  · exact Nat.le_trans h6 (hsum ▸ hfit)
  · exact fun c hc hne => h7 c (List.mem_append_left _ hc) hne

/-- An admitted motor function goes MOVING with its claim, or faults at its skew. -/
theorem admitMotor_fn (hm : MotorsFree s) (i : Slot) :
    ((admitMotor i s).fn i).activity = .faulted ∧ ((admitMotor i s).fn i).fault = some .skew
        ∧ (s.cfg i).kind = .slideTwin
      ∨ ((admitMotor i s).fn i).activity = .moving ∧ ((admitMotor i s).fn i).moveBegan = some s.now
        ∧ ⟨.motor i, (s.cfg i).draw⟩ ∈ (admitMotor i s).budget.claims := by
  have hm' : MotorsFree (addClaim (.motor i) (s.cfg i).draw (leaveList i s)) := hm
  by_cases hk : (addClaim (.motor i) (s.cfg i).draw (leaveList i s)).skewTooHard i = true
  · left
    rw [show (admitMotor i s).fn i = _ from startMove_faults hk]
    exact ⟨rfl, rfl, ((skewTooHard_iff s i).mp hk).1⟩
  · right
    have hb := startMove_budget (movable hm' i)
    rw [if_neg hk] at hb
    obtain ⟨a, b, h⟩ := startMove_moves (Bool.not_eq_true _ ▸ hk)
    rw [show (admitMotor i s).fn i = _ from h]
    refine ⟨rfl, rfl, ?_⟩
    rw [show (admitMotor i s).budget = _ from hb]
    exact List.mem_append_right _ (List.mem_singleton_self _)

/-! ### A grant's entries freed -/

/-- Listed slots are freed one after another. -/
def freeAll (l : List Slot) (s : State) : State := l.foldl (fun s i => freeHydraulic i s) s

theorem freeAll_cons (i : Slot) (l : List Slot) (s : State) : freeAll (i :: l) s = freeAll l (freeHydraulic i s) := rfl

theorem freeHydraulic_listed (hm : MotorsFree s) (hl : Listed s i) :
    Listed (freeHydraulic i s) j ↔ Listed s j ∧ j ≠ i := by
  obtain ⟨-, hw, -⟩ := freeHydraulic_served hm hl
  rw [← leaveList_listed]
  unfold Listed
  rw [hw]

theorem freeAll_served {l : List Slot} (hm : MotorsFree s) (hn : l.Nodup) (hl : ∀ i ∈ l, Listed s i) :
    Served (freeAll l s) s ∧ (∀ j, Listed (freeAll l s) j ↔ Listed s j ∧ j ∉ l)
    ∧ (freeAll l s).manifold.holder = s.manifold.holder
    ∧ (freeAll l s).manifold.pump = (if s.manifold.pump = .holdOn ∧ l ≠ [] then .ready else s.manifold.pump)
    ∧ (freeAll l s).manifold.holdOnTimer
      = if s.manifold.pump = .holdOn ∧ l ≠ [] then none else s.manifold.holdOnTimer := by
  induction l generalizing s with
  | nil => exact ⟨.refl s, by simp [freeAll], rfl, by simp [freeAll], by simp [freeAll]⟩
  | cons i l ih =>
    have hi := hl i (List.mem_cons_self ..)
    obtain ⟨hni, hnl⟩ := List.nodup_cons.mp hn
    obtain ⟨h1, -, h3, h4, h5⟩ := freeHydraulic_served hm hi
    obtain ⟨k1, k2, k3, k4, k5⟩ := ih (s := freeHydraulic i s) (h1.motors hm) hnl fun j hj =>
      (freeHydraulic_listed hm hi).mpr ⟨hl j (List.mem_cons_of_mem i hj), fun e => hni (e ▸ hj)⟩
    rw [freeAll_cons]
    have hpump : ¬((freeHydraulic i s).manifold.pump = .holdOn ∧ l ≠ []) := by
      rw [h4]
      split
      · simp
      · next h => exact fun k => h k.1
    rw [if_neg hpump] at k4 k5
    refine ⟨k1.trans h1, fun j => ?_, k3.trans h3, ?_, ?_⟩
    · rw [k2, freeHydraulic_listed hm hi, List.mem_cons, not_or]
      exact and_assoc
    · simpa using k4.trans h4
    · simpa using k5.trans h5

/-- Every slot freed waits for a priming pump, and else moves. -/
theorem freeAll_fn {l : List Slot} (hm : MotorsFree s) (hn : l.Nodup) (hl : ∀ i ∈ l, Listed s i)
    (hk : ∀ i ∈ l, (s.cfg i).kind.isHydraulic = true) : ∀ j ∈ l,
    (s.manifold.pump = .priming → (freeAll l s).fn j = { s.fn j with waitReason := some .prime })
    ∧ (s.manifold.pump ≠ .priming → ((freeAll l s).fn j).activity = .moving
      ∧ ((freeAll l s).fn j).moveBegan = some s.now) := by
  induction l generalizing s with
  | nil => exact nofun
  | cons i l ih =>
    intro j hj
    have hi := hl i (List.mem_cons_self ..)
    obtain ⟨hni, hnl⟩ := List.nodup_cons.mp hn
    obtain ⟨h1, -, -, h4, -⟩ := freeHydraulic_served hm hi
    have hrest : ∀ k ∈ l, Listed (freeHydraulic i s) k := fun k hk =>
      (freeHydraulic_listed hm hi).mpr ⟨hl k (List.mem_cons_of_mem i hk), fun e => hni (e ▸ hk)⟩
    rw [freeAll_cons]
    rcases List.mem_cons.mp hj with rfl | hj
    · have hleft : ¬ Listed (freeHydraulic j s) j := fun h => ((freeHydraulic_listed hm hi).mp h).2 rfl
      have hsame : (freeAll l (freeHydraulic j s)).fn j = (freeHydraulic j s).fn j :=
        (freeAll_served (h1.motors hm) hnl hrest).1.fn j (.inr hleft)
      rw [hsame]
      exact freeHydraulic_fn (hk j (List.mem_cons_self ..))
    · have hfn : (freeHydraulic i s).fn j = s.fn j := h1.fn j (.inl (hrest j hj))
      have hih := ih (s := freeHydraulic i s) (h1.motors hm) hnl hrest
        (fun k hkl => by rw [h1.cfg]; exact hk k (List.mem_cons_of_mem i hkl)) j hj
      rw [hfn, h1.now, h4] at hih
      refine ⟨fun hp => hih.1 (by rw [hp]; rfl), fun hp => hih.2 ?_⟩
      split
      · decide
      · exact hp

theorem freeGranted_eq (g : Grant) (s : State) :
    freeGranted g s = freeAll ((s.manifold.waitList.map (·.slot)).filter (s.underGrant g)) s := rfl

/-- All of a grant's entries leave, and what is left is another's. -/
theorem freeGranted_served (hm : MotorsFree s) (hn : (s.manifold.waitList.map (·.slot)).Nodup) (g : Grant) :
    Served (freeGranted g s) s ∧ (∀ j, Listed (freeGranted g s) j ↔ Listed s j ∧ s.underGrant g j = false)
    ∧ (freeGranted g s).manifold.holder = s.manifold.holder
    ∧ (s.manifold.pump ≠ .holdOn → (freeGranted g s).manifold.pump = s.manifold.pump
      ∧ (freeGranted g s).manifold.holdOnTimer = s.manifold.holdOnTimer)
    ∧ (s.manifold.pump = .holdOn → ∀ j, Listed s j → s.underGrant g j = true →
      (freeGranted g s).manifold.pump = .ready ∧ (freeGranted g s).manifold.holdOnTimer = none)
    ∧ ∀ j, Listed s j → s.underGrant g j = true →
      (s.manifold.pump = .priming → (freeGranted g s).fn j = { s.fn j with waitReason := some .prime })
      ∧ (s.manifold.pump ≠ .priming → ((freeGranted g s).fn j).activity = .moving
        ∧ ((freeGranted g s).fn j).moveBegan = some s.now) := by
  have hnl := hn.filter (s.underGrant g)
  have hl : ∀ i ∈ (s.manifold.waitList.map (·.slot)).filter (s.underGrant g), Listed s i := fun i hi =>
    (List.mem_filter.mp hi).1
  have hk : ∀ i ∈ (s.manifold.waitList.map (·.slot)).filter (s.underGrant g), (s.cfg i).kind.isHydraulic = true := by
    intro i hi
    have := (List.mem_filter.mp hi).2
    simp only [State.underGrant, Bool.and_eq_true] at this
    exact this.1.1
  obtain ⟨h1, h2, h3, h4, h5⟩ := freeAll_served hm hnl hl
  rw [freeGranted_eq]
  refine ⟨h1, fun j => ?_, h3, fun hp => ?_, fun hp j hj hg => ?_,
    fun j hj hg => freeAll_fn hm hnl hl hk j (List.mem_filter.mpr ⟨hj, hg⟩)⟩
  rotate_left
  · rw [if_neg fun k => hp k.1] at h4 h5
    exact ⟨h4, h5⟩
  · have hne := List.ne_nil_of_mem (List.mem_filter.mpr ⟨hj, hg⟩)
    rw [if_pos ⟨hp, hne⟩] at h4 h5
    exact ⟨h4, h5⟩
  rw [h2, List.mem_filter, not_and, Bool.not_eq_true]
  exact and_congr_right fun h => ⟨fun k => k h, fun k _ => k⟩

end

end Sys2Proof.Proofs
end

section
/-! PROOFS. The walk of a service pass, and the settling of O27. -/

namespace Sys2Proof.Proofs
open Sys2Proof.Machine Sys2Proof.Laws

section
variable {s t u : State} {i j : Slot}

/-! ### The grant and the pump's start -/

theorem Served.of_holder (h : Option Grant) (s : State) : Served (s.setManifold { s.manifold with holder := h }) s :=
  ⟨rfl, rfl, rfl, rfl, List.Sublist.refl _, fun _ _ => rfl, Nat.le_max_left .., fun _ h _ => h⟩

/-- The manifold is granted to a slot's owner and class. -/
theorem grantTo_served (hm : MotorsFree s) (hn : (s.manifold.waitList.map (·.slot)).Nodup) (i : Slot) :
    Served (grantTo i s) s ∧ (∀ j, Listed (grantTo i s) j ↔ Listed s j ∧ s.underGrant (s.grantOf i) j = false)
    ∧ (grantTo i s).manifold.holder = some (s.grantOf i)
    ∧ (s.manifold.pump ≠ .holdOn → (grantTo i s).manifold.pump = s.manifold.pump
      ∧ (grantTo i s).manifold.holdOnTimer = s.manifold.holdOnTimer)
    ∧ (s.manifold.pump = .holdOn → ∀ j, Listed s j → s.underGrant (s.grantOf i) j = true →
      (grantTo i s).manifold.pump = .ready ∧ (grantTo i s).manifold.holdOnTimer = none)
    ∧ ∀ j, Listed s j → s.underGrant (s.grantOf i) j = true →
      (s.manifold.pump = .priming → (grantTo i s).fn j = { s.fn j with waitReason := some .prime })
      ∧ (s.manifold.pump ≠ .priming → ((grantTo i s).fn j).activity = .moving
        ∧ ((grantTo i s).fn j).moveBegan = some s.now) := by
  obtain ⟨h1, h2, h3, h4⟩ := freeGranted_served
    (s := s.setManifold { s.manifold with holder := some (s.grantOf i) }) hm hn (s.grantOf i)
  exact ⟨h1.trans (.of_holder _ s), h2, h3, h4⟩

theorem underGrant_self (h : (s.cfg i).kind.isHydraulic = true) : s.underGrant (s.grantOf i) i = true := by
  simp [State.underGrant, State.grantOf, h]

theorem startPump_served (h : s.fits s.settings.manifold.pumpClaim = true) : Served (startPump s) s where
  sequence := by simp [startPump, addClaim]
  settings := (startPump_kept s).2
  now := by simp [startPump, addClaim]
  limit := by rw [startPump_budget]
  waits := by rw [startPump_manifold]
  fn j _ := fn_congr (startPump_functions s) j
  held := by
    have hsum : (startPump s).claimsHeld = s.claimsHeld + s.settings.manifold.pumpClaim := by
      simp only [State.claimsHeld, startPump_budget, claimSum_append]
      simp [claimSum]
    rw [hsum]
    exact Nat.le_trans (of_decide_eq_true h) (Nat.le_max_right ..)
  kept c hc _ := by
    rw [startPump_budget]
    exact List.mem_append_left _ hc

theorem startPump_listed : Listed (startPump s) j ↔ Listed s j := by simp only [Listed, startPump_manifold]

/-! ### The walk, entry by entry -/

theorem listed_any : (s.manifold.waitList.any fun e => e.slot == i) = true ↔ Listed s i := by
  simp [Listed]

section
variable (l : List Slot)

theorem walk_gone (h : ¬ Listed s i) : walkList (i :: l) s = walkList l s := by
  rw [walkList, if_pos (by rw [Bool.not_eq_true', ← Bool.not_eq_true, listed_any]; exact h)]

theorem walk_listed (h : Listed s i) : walkList (i :: l) s =
    if (s.cfg i).kind.isHydraulic then
      if s.foreignHolder i || s.manifold.pump == .coolDown then walkList l s
      else if s.manifold.pump.isOn then walkList l (grantTo i s)
      else if s.fits s.settings.manifold.pumpClaim then walkList l (grantTo i (startPump s))
      else s
    else if s.admits (s.cfg i).draw then walkList l (admitMotor i s)
    else s := by
  rw [walkList, if_neg (by rw [Bool.not_eq_true', ← Bool.not_eq_true, listed_any]; exact fun k => k h)]

end

/-- A walk serves no slot but listed ones. -/
theorem walk_served (l : List Slot) (hm : MotorsFree s) (hn : (s.manifold.waitList.map (·.slot)).Nodup) :
    Served (walkList l s) s := by
  induction l generalizing s with
  | nil => exact .refl s
  | cons i l ih =>
    have step : ∀ u, Served u s → Served (walkList l u) s := fun u h => (ih (h.motors hm) (h.nodup hn)).trans h
    by_cases hi : Listed s i
    · rw [walk_listed l hi]
      split
      · split
        · exact step s (.refl s)
        · split
          · exact step _ (grantTo_served hm hn i).1
          · split
            · next hfit =>
              have h := startPump_served hfit
              exact step _ ((grantTo_served (h.motors hm) (h.nodup hn) i).1.trans h)
            · exact .refl s
      · split
        · next ha => exact step _ (admitMotor_served hm hi ha).1
        · exact .refl s
    · rw [walk_gone l hi]
      exact step s (.refl s)

/-- While the manifold is another's, no hydraulic entry is served, and the holder and the pump stay. -/
theorem walk_granted (l : List Slot) (hm : MotorsFree s) (hn : (s.manifold.waitList.map (·.slot)).Nodup) {g : Grant}
    (hg : s.manifold.holder = some g)
    (hf : ∀ j, Listed s j → (s.cfg j).kind.isHydraulic = true → s.underGrant g j = false) :
    (walkList l s).manifold.holder = some g ∧ (walkList l s).manifold.pump = s.manifold.pump
      ∧ (walkList l s).manifold.holdOnTimer = s.manifold.holdOnTimer := by
  induction l generalizing s with
  | nil => exact ⟨hg, rfl, rfl⟩
  | cons i l ih =>
    by_cases hi : Listed s i
    · rw [walk_listed l hi]
      split
      · next hh =>
        have hforeign : s.foreignHolder i = true := by simp [State.foreignHolder, hg, hf i hi hh]
        rw [hforeign, Bool.true_or, if_pos rfl]
        exact ih hm hn hg hf
      · split
        · next ha =>
          obtain ⟨h1, h2⟩ := admitMotor_served hm hi ha
          obtain ⟨k1, k2, k3⟩ := ih (h1.motors hm) (h1.nodup hn) (h2 ▸ hg) fun j hj hk => by
            rw [h1.underGrant g hj]
            exact hf j (h1.listed hj) (h1.cfg j ▸ hk)
          exact ⟨k1, k2.trans (by rw [h2]; rfl), k3.trans (by rw [h2]; rfl)⟩
        · exact ⟨hg, rfl, rfl⟩
    · rw [walk_gone l hi]
      exact ih hm hn hg hf

/-- In the cool-down no hydraulic entry is served. -/
theorem walk_cooling (l : List Slot) (hm : MotorsFree s) (hp : s.manifold.pump = .coolDown) :
    ∀ j, Listed s j → (s.cfg j).kind.isHydraulic = true → Listed (walkList l s) j := by
  induction l generalizing s with
  | nil => exact fun j hj _ => hj
  | cons i l ih =>
    intro j hj hk
    by_cases hi : Listed s i
    · rw [walk_listed l hi]
      split
      · rw [hp, beq_self_eq_true, Bool.or_true, if_pos rfl]
        exact ih hm hp j hj hk
      · next hh =>
        split
        · next ha =>
          obtain ⟨h1, h2⟩ := admitMotor_served hm hi ha
          refine ih (h1.motors hm) (by rw [h2]; exact hp) j ?_ (by rw [h1.cfg]; exact hk)
          unfold Listed
          rw [h2]
          exact leaveList_listed.mpr ⟨hj, fun e => hh (e ▸ hk)⟩
        · exact hj
    · rw [walk_gone l hi]
      exact ih hm hp j hj hk

/-! ### The wait reasons -/

/-- The reasons of listed slots are written one after another. -/
def reasonAll (l : List Slot) (s : State) : State :=
  l.foldl (fun s i => putFn i { s.fn i with waitReason := some (waitReasonOf i s) } s) s

/-- A reason goes by the manifold and the slots' owners and kinds. -/
theorem waitReasonOf_congr (hm : t.manifold = s.manifold) (hs : t.settings = s.settings)
    (ho : (t.fn i).owner = (s.fn i).owner) : waitReasonOf i t = waitReasonOf i s := by
  have hc : t.cfg i = s.cfg i := cfg_of_settings hs i
  have hf : t.foreignHolder i = s.foreignHolder i := by
    simp only [State.foreignHolder, State.underGrant, hm, hc, ho]
  simp only [waitReasonOf, hc, hf, hm]

theorem reasonAll_reads (l : List Slot) (s : State) : (reasonAll l s).manifold = s.manifold
    ∧ (reasonAll l s).budget = s.budget ∧ (reasonAll l s).sequence = s.sequence
    ∧ (reasonAll l s).settings = s.settings := by
  induction l generalizing s with
  | nil => exact ⟨rfl, rfl, rfl, rfl⟩
  | cons i l ih =>
    obtain ⟨h1, h2, h3, h4⟩ := ih (putFn i { s.fn i with waitReason := some (waitReasonOf i s) } s)
    exact ⟨h1.trans (by simp), h2.trans (by simp), h3.trans (by simp), h4.trans (by simp)⟩

theorem reasonAll_fn {l : List Slot} (hn : l.Nodup) (s : State) (j : Slot) : (reasonAll l s).fn j
    = if j ∈ l then { s.fn j with waitReason := some (waitReasonOf j s) } else s.fn j := by
  induction l generalizing s with
  | nil => rfl
  | cons i l ih =>
    obtain ⟨hni, hnl⟩ := List.nodup_cons.mp hn
    have hrest : reasonAll (i :: l) s
        = reasonAll l (putFn i { s.fn i with waitReason := some (waitReasonOf i s) } s) := rfl
    rw [hrest, ih hnl]
    by_cases hj : j = i
    · subst hj
      rw [if_neg hni, if_pos (List.mem_cons_self ..), putFn_fn]
    · have hfn : (putFn i { s.fn i with waitReason := some (waitReasonOf i s) } s).fn j = s.fn j :=
        putFn_fn_ne _ s (Ne.symm hj)
      rw [hfn, waitReasonOf_congr (i := j) (by simp) (putFn_kept ..).2 (by rw [hfn])]
      simp only [List.mem_cons, hj, false_or]

theorem servicePass_eq (s : State) : servicePass s = reasonAll
    ((walkList ((serveHolder s).manifold.waitList.map (·.slot)) (serveHolder s)).manifold.waitList.map (·.slot))
    (walkList ((serveHolder s).manifold.waitList.map (·.slot)) (serveHolder s)) := rfl

theorem serveHolder_served (hm : MotorsFree s) (hn : (s.manifold.waitList.map (·.slot)).Nodup) :
    Served (serveHolder s) s := by
  unfold serveHolder
  split
  · next g _ =>
    split
    · exact (freeGranted_served hm hn g).1
    · exact .refl s
  · exact .refl s

theorem serveHolder_idle (h : s.manifold.holder = none ∨ s.manifold.pump.isOn = false) : serveHolder s = s := by
  unfold serveHolder
  rcases h with h | h
  · rw [h]
  · split
    · rw [h]
      rfl
    · rfl

theorem foreignHolder_iff : s.foreignHolder i = true ↔ ∃ g, s.manifold.holder = some g ∧ s.underGrant g i = false := by
  cases h : s.manifold.holder <;> simp [State.foreignHolder, h]

/-- The part once the walk of a pass is over. -/
def walked (s : State) : State := walkList ((serveHolder s).manifold.waitList.map (·.slot)) (serveHolder s)

theorem walked_served (hm : MotorsFree s) (hn : (s.manifold.waitList.map (·.slot)).Nodup) :
    Served (walked s) (serveHolder s) :=
  have h := serveHolder_served hm hn
  walk_served _ (h.motors hm) (h.nodup hn)

/-- A pass ends with the reasons of what its walk has left. -/
theorem pass_reads (hn : ((walked s).manifold.waitList.map (·.slot)).Nodup) :
    (servicePass s).manifold = (walked s).manifold ∧ (servicePass s).budget = (walked s).budget
    ∧ (servicePass s).sequence = (walked s).sequence ∧ (servicePass s).settings = (walked s).settings
    ∧ (∀ j, ¬ Listed (walked s) j → (servicePass s).fn j = (walked s).fn j)
    ∧ ∀ j, Listed (walked s) j → (servicePass s).fn j
      = { (walked s).fn j with waitReason := some (waitReasonOf j (walked s)) } := by
  obtain ⟨h1, h2, h3, h4⟩ := reasonAll_reads ((walked s).manifold.waitList.map (·.slot)) (walked s)
  exact ⟨h1, h2, h3, h4, fun j hj => (reasonAll_fn hn _ j).trans (if_neg hj),
    fun j hj => (reasonAll_fn hn _ j).trans (if_pos hj)⟩

/-- What is served before the walk's end stays as it was served. -/
theorem pass_settles (hn : ((walked s).manifold.waitList.map (·.slot)).Nodup) (h : Served (walked s) u)
    (hj : ¬ Listed u j) : ¬ Listed (servicePass s) j ∧ (servicePass s).fn j = u.fn j := by
  obtain ⟨h1, -, -, -, h5, -⟩ := pass_reads hn
  have hw : ¬ Listed (walked s) j := fun k => hj (h.listed k)
  refine ⟨?_, (h5 j hw).trans (h.fn j (.inr hj))⟩
  unfold Listed
  rw [h1]
  exact hw

theorem grantOf_eq (h : (s.cfg i).kind.isHydraulic = true) : s.grantOf i
    = ⟨(s.fn i).owner, if (s.cfg i).kind = .jack then .jacks else .slides,
      decide ((s.cfg i).kind = .jack ∧ ((s.fn i).owner = .level ∨ (s.fn i).owner = .travel))⟩ := by
  cases hk : (s.cfg i).kind <;> rw [hk] at h
  · exact absurd h Bool.false_ne_true
  · simp only [State.grantOf, hk]
    congr 1
    rw [Bool.eq_iff_iff]
    simp [Kind.hydClass]
  · simp only [State.grantOf, hk]
    congr 1
  · exact absurd h Bool.false_ne_true
  · exact absurd h Bool.false_ne_true

theorem underGrant_same (h : (s.cfg i).kind.isHydraulic = true) (hk : (s.cfg j).kind = (s.cfg i).kind)
    (ho : (s.fn j).owner = (s.fn i).owner) : s.underGrant (s.grantOf i) j = true := by
  simp [State.underGrant, State.grantOf, hk, ho, h]

end

/-! ### O27 -/

/-- Settles O27: the pass goes on from what each of its steps serves, and the entry into MOVING orders each channel. -/
theorem servicePassGrantsInOrder : Obligations.ServicePassGrantsInOrder := by
  intro s hd _ hwl hm t m listed foreign sameAs granted primes goes
  have hn : (s.manifold.waitList.map (·.slot)).Nodup := hwl.1
  have hm : MotorsFree s := hm
  have hp := serveHolder_served hm hn
  have hw := walked_served hm hn
  have hall := hw.trans hp
  have hnw := hall.nodup hn
  obtain ⟨h1, h2, h3, h4, h5, h6⟩ := pass_reads (s := s) hnw
  have hlisted : ∀ j, listed t j ↔ Listed (walked s) j := fun j => by simp only [listed, t, Listed, h1]
  have hforeign : ∀ j, foreign t j ↔ (walked s).foreignHolder j = true := by
    intro j
    have hug : Listed (walked s) j ∨ ¬ Listed (walked s) j := em _
    have howner : (t.fn j).owner = ((walked s).fn j).owner := by
      rcases hug with h | h
      · rw [h6 j h]
      · rw [h5 j h]
    have hcfg : t.cfg j = (walked s).cfg j := cfg_of_settings h4 j
    have hgr : ∀ g, t.underGrant g j = (walked s).underGrant g j := fun g => by
      simp only [State.underGrant, hcfg, howner]
    rw [foreignHolder_iff]
    simp only [foreign, hgr, show t.manifold = (walked s).manifold from h1]
  -- what a state on the way has served, with its entry gone, the pass keeps
  have hprimes : ∀ {u : State} {j : Slot}, Served (walked s) u → ¬ Listed u j →
      u.fn j = { s.fn j with waitReason := some .prime } → primes j := by
    intro u j hu hj hf
    obtain ⟨k1, k2⟩ := pass_settles hnw hu hj
    exact ⟨k1, k2.trans hf⟩
  have hgoes : ∀ {u : State} {j : Slot}, Served (walked s) u → ¬ Listed u j →
      (u.fn j).activity = .moving ∧ (u.fn j).moveBegan = some s.now → goes j := by
    intro u j hu hj hf
    obtain ⟨k1, k2⟩ := pass_settles hnw hu hj
    simp only [goes]
    rw [show t.fn j = u.fn j from k2]
    exact ⟨k1, hf⟩
  refine ⟨⟨(Acts.servicePass .refl).onlyMotionChanges hd, h3.trans hall.sequence, ?_, ?_, fun i hi => ?_, fun i hi => ?_⟩,
    fun g i hg hon hi hug => ?_, fun hcool i hi hk => ?_, fun e rest hwait => ?_, ?_, fun i ht hact => ?_⟩
  · rw [show t.manifold = (walked s).manifold from h1]
    exact hall.waits
  · rw [show t.claimsHeld = (walked s).claimsHeld by simp only [State.claimsHeld, t, h2]]
    exact hall.held
  · exact (h5 i fun k => hi (hall.listed k)).trans (hall.fn i (.inr hi))
  · have hiw := (hlisted i).mp hi
    have hf : t.fn i = { s.fn i with waitReason := some (waitReasonOf i (walked s)) } :=
      (h6 i hiw).trans (by rw [hall.fn i (.inl hiw)])
    have hcfg := hall.cfg i
    refine ⟨by rw [hf], fun h => ?_, fun h => ?_⟩
    · rw [hf]
      have hb : ((walked s).foreignHolder i || (walked s).manifold.pump == .coolDown) = true := by
        rw [Bool.or_eq_true, beq_iff_eq, ← hforeign, ← h1]
        exact h.2
      simp only [waitReasonOf, hcfg, h.1, hb, Bool.and_self, if_true]
    · rw [hf]
      have hb : (((walked s).cfg i).kind.isHydraulic
          && ((walked s).foreignHolder i || (walked s).manifold.pump == .coolDown)) = false := by
        rw [Bool.and_eq_false_iff, hcfg]
        rcases h with h | ⟨hf, hp⟩
        · exact .inl h
        · refine .inr (Bool.eq_false_iff.mpr fun k => ?_)
          rw [Bool.or_eq_true, beq_iff_eq, ← hforeign, ← h1] at k
          exact k.elim hf hp
      simp only [waitReasonOf, hb, Bool.false_eq_true, if_false]
  · obtain ⟨k1, k2, -, -, -, k6⟩ := freeGranted_served hm hn g
    have hserve : serveHolder s = freeGranted g s := by
      simp only [serveHolder, show s.manifold.holder = some g from hg]
      exact if_pos hon
    have hleft : ¬ Listed (freeGranted g s) i := fun k => by
      have := ((k2 i).mp k).2
      rw [hug] at this
      exact Bool.false_ne_true this.symm
    rw [hserve] at hw
    obtain ⟨f1, f2⟩ := k6 i hi hug
    split
    · next hpr => exact hprimes hw hleft (f1 hpr)
    · next hpr => exact hgoes hw hleft (f2 hpr)
  · have hserve : serveHolder s = s := serveHolder_idle (.inr (by rw [show s.manifold.pump = .coolDown from hcool]; rfl))
    rw [hlisted]
    unfold walked
    rw [hserve]
    exact walk_cooling _ hm hcool i hi hk
  · intro i c fits
    have hi : Listed s i := by
      unfold Listed
      rw [show s.manifold.waitList = e :: rest from hwait]
      exact List.mem_cons_self ..
    have hfit : ∀ n, s.fits n = true ↔ fits n := fun n => decide_eq_true_iff
    have hadm : s.admits c.draw = true ↔ c.draw = 0 ∨ fits c.draw := by
      rw [State.admits, Bool.or_eq_true, beq_iff_eq, hfit]
    -- the walk from the head, where the holder serves nothing first
    have hwalk : m.holder = none ∨ m.pump.isOn = false →
        walked s = walkList (i :: rest.map (·.slot)) s := by
      intro h
      unfold walked
      rw [serveHolder_idle h, show s.manifold.waitList = e :: rest from hwait]
      rfl
    have hstill : ∀ {v : State}, Served v s → walked s = walkList (rest.map (·.slot)) v → Served (walked s) v := by
      intro v hv hwv
      rw [hwv]
      exact walk_served _ (hv.motors hm) (hv.nodup hn)
    -- once the slot's class holds the manifold, the rest of the walk serves no hydraulic entry
    have hgranted : ∀ {v : State}, Served v s → (∀ j, Listed v j ↔ Listed s j ∧ s.underGrant (s.grantOf i) j = false) →
        v.manifold.holder = some (s.grantOf i) → ∀ l : List Slot,
        (walkList l v).manifold.holder = some (s.grantOf i) ∧ (walkList l v).manifold.pump = v.manifold.pump
          ∧ (walkList l v).manifold.holdOnTimer = v.manifold.holdOnTimer := fun hv hl hh l =>
      walk_granted l (hv.motors hm) (hv.nodup hn) hh fun j hj _ => by
        rw [hv.underGrant _ hj]
        exact ((hl j).mp hj).2
    refine ⟨fun hk hidle hadmit => ?_, fun hk hidle hne hnf => ?_, fun hk hnone hon => ?_, fun hk hnf hhold => ?_,
      fun hk hnf hstop hfits => ?_, fun hk hnf hstop hfits => ?_⟩
    · obtain ⟨k1, k2⟩ := admitMotor_served hm hi (hadm.mpr hadmit)
      have hwv : walked s = walkList (rest.map (·.slot)) (admitMotor i s) := by
        rw [hwalk hidle, walk_listed _ hi, if_neg (Bool.eq_false_iff.mp hk), if_pos (hadm.mpr hadmit)]
      have hv := hstill k1 hwv
      have hleft : ¬ Listed (admitMotor i s) i := by
        unfold Listed
        rw [k2]
        exact leaveList_left i s
      obtain ⟨m1, m2⟩ := pass_settles hnw hv hleft
      refine ⟨m1, ?_⟩
      rw [show t.fn i = _ from m2]
      refine (admitMotor_fn hm i).imp id fun ⟨a1, a2, a3⟩ => ⟨a1, a2, ?_⟩
      rw [show t.budget = (walked s).budget from h2]
      refine hv.kept _ a3 fun j hj => ?_
      obtain rfl := Claimant.motor.inj hj
      exact hleft
    · have hwv : walked s = s := by
        rw [hwalk hidle, walk_listed _ hi, if_neg (Bool.eq_false_iff.mp hk), if_neg]
        rw [hadm]
        exact fun h => h.elim hne hnf
      rw [hwv] at h1 h2
      exact ⟨h1, h2⟩
    · have hwv : walked s = walkList (rest.map (·.slot)) (grantTo i s) := by
        have hfh : s.foreignHolder i = false := by simp [State.foreignHolder, show s.manifold.holder = none from hnone]
        have hcd : (s.manifold.pump == .coolDown) = false := by
          rw [beq_eq_false_iff_ne]
          rintro h
          rw [show m.pump = _ from h] at hon
          exact Bool.false_ne_true hon
        rw [hwalk (.inl hnone), walk_listed _ hi, if_pos hk, hfh, hcd, if_neg (by decide), if_pos hon]
      obtain ⟨k1, k2, k3, -, -, k6⟩ := grantTo_served hm hn i
      have hv := hstill k1 hwv
      refine ⟨?_, fun j hj hsame => ?_⟩
      · rw [h1, hwv]
        exact (hgranted k1 k2 k3 _).1.trans (congrArg some (grantOf_eq hk))
      · have hug := underGrant_same hk hsame.1 hsame.2
        have hleft : ¬ Listed (grantTo i s) j := fun k => by
          have := ((k2 j).mp k).2
          rw [hug] at this
          exact Bool.false_ne_true this.symm
        obtain ⟨f1, f2⟩ := k6 j hj hug
        split
        · next hpr => exact hprimes hv hleft (f1 hpr)
        · next hpr => exact hgoes hv hleft (f2 hpr)
    · have hon : s.manifold.pump.isOn = true := by rw [show s.manifold.pump = .holdOn from hhold]; rfl
      rw [h1]
      cases hh : s.manifold.holder with
      | none =>
        have hwv : walked s = walkList (rest.map (·.slot)) (grantTo i s) := by
          have hfh : s.foreignHolder i = false := by simp [State.foreignHolder, hh]
          have hcd : (s.manifold.pump == .coolDown) = false := by rw [show s.manifold.pump = .holdOn from hhold]; rfl
          rw [hwalk (.inl hh), walk_listed _ hi, if_pos hk, hfh, hcd, if_neg (by decide), if_pos hon]
        obtain ⟨k1, k2, k3, -, k5, -⟩ := grantTo_served hm hn i
        obtain ⟨-, p2, p3⟩ := hgranted k1 k2 k3 (rest.map (·.slot))
        obtain ⟨p4, p5⟩ := k5 hhold i hi (underGrant_self hk)
        rw [hwv]
        exact ⟨p2.trans p4, p3.trans p5⟩
      | some g =>
        have hug : s.underGrant g i = true := by
          by_contra hne
          exact hnf ⟨g, hh, by simpa using hne⟩
        obtain ⟨k1, k2, k3, -, k5, -⟩ := freeGranted_served hm hn g
        have hserve : serveHolder s = freeGranted g s := by
          simp only [serveHolder, hh]
          exact if_pos hon
        obtain ⟨p4, p5⟩ := k5 hhold i hi hug
        obtain ⟨-, p2, p3⟩ := walk_granted ((freeGranted g s).manifold.waitList.map (·.slot)) (k1.motors hm) (k1.nodup hn)
          (k3.trans hh) fun j hj _ => by
            rw [k1.underGrant g hj]
            exact ((k2 j).mp hj).2
        unfold walked
        rw [hserve]
        exact ⟨p2.trans p4, p3.trans p5⟩
    · have hoff : s.manifold.pump.isOn = false := by rw [show s.manifold.pump = .stopped from hstop]; rfl
      have hf : s.fits s.settings.manifold.pumpClaim = true := (hfit _).mpr hfits
      have hwv : walked s = walkList (rest.map (·.slot)) (grantTo i (startPump s)) := by
        have hfh : s.foreignHolder i = false := by
          rw [Bool.eq_false_iff, ne_eq, foreignHolder_iff]
          exact hnf
        have hcd : (s.manifold.pump == .coolDown) = false := by rw [show s.manifold.pump = .stopped from hstop]; rfl
        rw [hwalk (.inr hoff), walk_listed _ hi, if_pos hk, hfh, hcd, if_neg (by decide), hoff,
          if_neg Bool.false_ne_true, if_pos hf]
      have hs := startPump_served hf
      obtain ⟨k1, k2, k3, k4, -, k6⟩ := grantTo_served (hs.motors hm) (hs.nodup hn) i
      have hgr : (startPump s).grantOf i = s.grantOf i := by
        simp only [State.grantOf, hs.cfg, fn_congr (startPump_functions s)]
      have hug : ∀ g j, (startPump s).underGrant g j = s.underGrant g j := fun g j => by
        simp only [State.underGrant, hs.cfg, fn_congr (startPump_functions s)]
      have hpump : (startPump s).manifold.pump = .priming := by rw [startPump_manifold]
      simp only [hgr, hug, startPump_listed] at k2 k3 k6
      have hks := k1.trans hs
      have hv := hstill hks hwv
      obtain ⟨p1, p2, -⟩ := hgranted hks k2 k3 (rest.map (·.slot))
      have hpr : (grantTo i (startPump s)).manifold.pump = .priming :=
        (k4 (by rw [hpump]; decide)).1.trans hpump
      rw [h1, h2, hwv]
      refine ⟨p1.trans (congrArg some (grantOf_eq hk)), p2.trans hpr, ?_, fun j hj hsame => ?_⟩
      · rw [← hwv]
        refine hv.kept _ (k1.kept _ ?_ nofun) nofun
        rw [startPump_budget]
        exact List.mem_append_right _ (List.mem_singleton_self _)
      · have hsameGrant := underGrant_same hk hsame.1 hsame.2
        have hleft : ¬ Listed (grantTo i (startPump s)) j := fun k => by
          have := ((k2 j).mp k).2
          rw [hsameGrant] at this
          exact Bool.false_ne_true this.symm
        refine hprimes hv hleft (((k6 j hj hsameGrant).1 hpump).trans ?_)
        rw [fn_congr (startPump_functions s)]
    · have hoff : s.manifold.pump.isOn = false := by rw [show s.manifold.pump = .stopped from hstop]; rfl
      have hf : ¬ s.fits s.settings.manifold.pumpClaim = true := fun h => hfits ((hfit _).mp h)
      have hwv : walked s = s := by
        have hfh : s.foreignHolder i = false := by
          rw [Bool.eq_false_iff, ne_eq, foreignHolder_iff]
          exact hnf
        have hcd : (s.manifold.pump == .coolDown) = false := by rw [show s.manifold.pump = .stopped from hstop]; rfl
        rw [hwalk (.inr hoff), walk_listed _ hi, if_pos hk, hfh, hcd, if_neg (by decide), hoff,
          if_neg Bool.false_ne_true, if_neg hf]
      rw [hwv] at h1 h2
      exact ⟨h1, h2⟩
  · refine ⟨?_, startPump_functions s, startPump_manifold s, by rw [startPump_budget], fun d hdr => startPump_ordered hdr⟩
    have hadd : onlyMotionChanges s (addClaim .pump s.settings.manifold.pumpClaim s) := rfl
    have hstart : Acts (addClaim .pump s.settings.manifold.pumpClaim s) (startPump s) := (Acts.pumpOrder .refl).setManifold
    exact onlyMotionChanges.trans hadd (hstart.onlyMotionChanges hd)
  · intro u f c
    have hal := Alone.startMove (s := s) (i := i) (.inl ht)
    refine ⟨(Acts.startMove .refl).onlyMotionChanges hd, hal.fn, fun hk => ?_, fun hk => ?_⟩
    · rw [show u.fn i = _ from startMove_faults hk]
      exact ⟨rfl, rfl, rfl, rfl⟩
    · obtain ⟨a, b, hf⟩ := startMove_moves hk
      refine ⟨?_, ?_, ?_, ?_, ?_, ?_, ?_, ?_, fun e => ?_, fun e d p way hnd hdr hpos hway => ?_⟩
      iterate 8 rw [show u.fn i = _ from hf]; rfl
      · rw [show u.fn i = _ from hf]
        cases e <;> exact ⟨rfl, rfl, rfl, rfl, rfl⟩
      · obtain ⟨o1, o2⟩ := startMove_ordered ht hk hnd hdr hpos hway
        obtain ⟨r, hr, hcode, hspeed⟩ := record_of_ordered o2
        refine ⟨o1, r, hr, hcode.trans ?_, hspeed.trans (orderSpeed_begun ..)⟩
        cases way <;> rfl

end Sys2Proof.Proofs
end

section
/-! PROOFS. What the binding check reads, what leaves it as it was, and the slots that are bound again (R8, R162). -/

namespace Sys2Proof.Proofs
open Sys2Proof.Machine Sys2Proof.Laws

/-! ### What the binding check reads (R162) -/

/-- The configuration, the census outcome and, of each node, its state, kind and number of channels. -/
structure SameBinding (t s : State) : Prop where
  settings : t.settings = s.settings
  outcome : t.link.outcome = s.link.outcome
  state : ∀ n, (t.node n).state = (s.node n).state
  kind : ∀ n, (t.node n).kind = (s.node n).kind
  channels : ∀ n, (t.node n).channels = (s.node n).channels

theorem SameBinding.refl (s : State) : SameBinding s s := ⟨rfl, rfl, fun _ => rfl, fun _ => rfl, fun _ => rfl⟩

theorem SameBinding.trans {u t s : State} (h : SameBinding u t) (k : SameBinding t s) : SameBinding u s :=
  ⟨h.settings.trans k.settings, h.outcome.trans k.outcome, fun n => (h.state n).trans (k.state n),
    fun n => (h.kind n).trans (k.kind n), fun n => (h.channels n).trans (k.channels n)⟩

theorem node_of_nodes {s t : State} (h : t.link.nodes = s.link.nodes) (n : Nat) : t.node n = s.node n := by
  simp only [State.node, h]

theorem SameBinding.of_nodes {s t : State} (h : OnlyMotion s t) (hn : t.link.nodes = s.link.nodes) :
    SameBinding t s :=
  ⟨h.settings, h.outcome, fun n => by rw [node_of_nodes hn], fun n => by rw [node_of_nodes hn],
    fun n => by rw [node_of_nodes hn]⟩

theorem onKind_same {s t : State} (h : SameBinding t s) (k : NodeKind) (d : DriveRef) :
    t.onKind k d = s.onKind k d := by
  simp only [State.onKind, h.state, h.kind, h.channels]

theorem bindingHolds_same {s t : State} (h : SameBinding t s) (i : Slot) : bindingHolds t i = bindingHolds s i := by
  simp only [bindingHolds, State.ownChannel, State.pumpBound, State.sensorBound, onKind_same h, h.settings,
    h.state, h.kind, cfg_of_settings h.settings]

/-- A write of a node's entry reads back under its number, and every other number's entry is as it was. -/
theorem setNode_reads (n m : Nat) (x : Node) (s : State) :
    (s.setNode n x).node m = x ∧ s.node m = s.node n ∨ (s.setNode n x).node m = s.node m := by
  cases hn : nodeIndex n with
  | none => exact .inr (by simp only [State.setNode, hn])
  | some k =>
    cases hm : nodeIndex m with
    | none => exact .inr (by simp only [State.node, hm])
    | some j =>
      by_cases hj : (k : Nat) = j
      · obtain rfl := Fin.ext hj
        exact .inl ⟨by simp [State.setNode, State.node, hn, hm], by simp only [State.node, hn, hm]⟩
      · exact .inr (by simp [State.setNode, State.node, hn, hm, hj])

/-- A node whose silence timer alone is written. -/
theorem setNode_timer_same (n : Nat) (x : Timer) (s : State) :
    SameBinding (s.setNode n { s.node n with silenceTimer := x }) s := by
  have h := setNode_reads n (x := { s.node n with silenceTimer := x }) (s := s)
  refine ⟨by simp, ?_, fun m => ?_, fun m => ?_, fun m => ?_⟩
  · unfold State.setNode
    split <;> rfl
  all_goals rcases h m with ⟨he, hm⟩ | he <;> rw [he]
  all_goals rw [hm]

/-- Other fields of the link manager are not read. -/
theorem SameBinding.of_parts {s t : State} (hs : t.settings = s.settings) (ho : t.link.outcome = s.link.outcome)
    (hn : t.link.nodes = s.link.nodes) : SameBinding t s :=
  ⟨hs, ho, fun n => by rw [node_of_nodes hn], fun n => by rw [node_of_nodes hn], fun n => by rw [node_of_nodes hn]⟩

theorem censusAdvance_binding (f : EnrolFrame) (s : State) : SameBinding (censusAdvance f s) s := by
  cases f with
  | forget => exact .of_parts rfl rfl rfl
  | assign n => exact .of_parts rfl rfl rfl
  | pass n =>
    simp only [censusAdvance]
    split <;>
    · refine SameBinding.trans ?_ (setNode_timer_same n (startTimer s.now s.settings.timing.silenceLimit) s)
      exact .of_parts rfl rfl rfl

theorem offerHeld_binding (s : State) : SameBinding (offerHeld s) s :=
  .of_parts (offerHeld_onlyMotion s).settings (offerHeld_onlyMotion s).outcome (offerHeld_nodes s)

theorem placeDue_binding (s : State) : SameBinding (placeDue s) s :=
  .of_parts (placeDue_onlyMotion s).settings (placeDue_onlyMotion s).outcome (placeDue_nodes s)

theorem slotEmptied_binding (c : ControlFrame) (s : State) : SameBinding (slotEmptied c s) s := by
  cases c with
  | enrol f => exact (offerHeld_binding _).trans (censusAdvance_binding f s)
  | halt => exact offerHeld_binding s
  | beat n p => exact offerHeld_binding s

theorem pumpM_binding (s : State) : SameBinding (pumpM s) s := by
  simp only [pumpM]
  split
  · exact .refl s
  · split
    case h_1 c _ => exact (slotEmptied_binding c _).trans (.of_parts rfl rfl rfl)
    case h_2 =>
      (repeat' split)
      · exact (placeDue_binding _).trans (.of_parts rfl rfl rfl)
      · exact .of_parts rfl rfl rfl
      · exact .refl s

theorem placeOrder_binding (r : OrderRecord) (s : State) : SameBinding (placeOrder r s) s := by
  rw [placeOrder_shape]
  exact .of_parts rfl rfl rfl

theorem handOrder_binding (place : Bool) (d : DriveRef) (code : DriveCode) (speed : Nat) (s : State) :
    SameBinding (handOrder place d code speed s) s := by
  simp only [handOrder]
  (repeat' split)
  · exact ((pumpM_binding _).trans (placeOrder_binding _ _)).trans (.of_parts rfl rfl rfl)
  · exact .of_parts rfl rfl rfl
  · exact .refl s
  · exact ((pumpM_binding _).trans (placeOrder_binding _ _)).trans (.of_parts rfl rfl rfl)
  · exact .of_parts rfl rfl rfl

theorem offerHalt_binding (s : State) : SameBinding (offerHalt s) s := by
  simp only [offerHalt]
  split
  · exact .of_parts rfl rfl rfl
  all_goals exact (pumpM_binding _).trans (.of_parts rfl rfl rfl)

/-- Whatever motion brings about, the binding check reads what it read. -/
theorem Acts.binding {s t : State} (h : Acts s t) : SameBinding t s := by
  induction h with
  | refl => exact .refl s
  | queueC hp ih => exact (SameBinding.of_parts (queueC_onlyMotion ..).settings (queueC_onlyMotion ..).outcome
      (by simp)).trans ih
  | handOrder _ ih => exact (handOrder_binding ..).trans ih
  | offerHalt _ ih => exact (offerHalt_binding _).trans ih
  | storeFn _ ih | holds _ ih | setManifold _ ih | sequence _ ih | wind _ ih | levelled _ ih | clearQueue _ ih
  | dropClaim _ ih | addClaim _ _ ih =>
    refine SameBinding.trans ?_ ih
    exact .of_parts rfl rfl rfl

/-! ### Slots that are bound again (R8) -/

theorem unbindFn_fn (i j : Slot) (s : State) : (unbindFn j s).fn i
    = if i = j then (s.fn j).unbound
      else if s.isTaken j = true ∧ s.isTaken i = true ∧ (s.fn i).activity.isBusy = true
        then (s.fn i).stopped (AbortReason.stopReason .fault) else s.fn i := by
  have hfn : ∀ k, (putFn j (s.fn j).unbound (leaveList j s)).fn k = if k = j then (s.fn j).unbound else s.fn k :=
    fun k => by rw [putFn_fn_if]; rfl
  have htaken : ∀ k, (putFn j (s.fn j).unbound (leaveList j s)).isTaken k = s.isTaken k := fun k =>
    isTaken_congr (by simp) k
  simp only [unbindFn]
  split
  case isTrue ht =>
    rw [abortSequence_fn, hfn, htaken]
    by_cases h : i = j
    · subst h
      simp [Function.unbound, Function.uncounted, Activity.isBusy]
    · simp [h, ht]
  case isFalse ht =>
    rw [hfn]
    simp [ht]

/-- A slot's record at the values of R8. -/
def Function.Cleared (f : Function) : Prop :=
  f.activity = .unavailable ∧ f.owner = .none ∧ f.posClass = .unknown ∧ f.drift = none ∧ f.contact = false
    ∧ f.skewHold = none ∧ ∀ e, (f.chan e).position = none ∧ (f.chan e).load = none

theorem unbound_cleared (f : Function) : Function.Cleared f.unbound :=
  ⟨rfl, rfl, rfl, rfl, rfl, rfl, fun e => by cases e <;> exact ⟨rfl, rfl⟩⟩

/-- Slots made UNAVAILABLE one after another. -/
def unbindAll (is : List Slot) (s : State) : State := is.foldl (fun s i => unbindFn i s) s

theorem unbindAll_acts (is : List Slot) (s : State) : Acts s (unbindAll is s) :=
  .fold (fun _ _ => Acts.refl.unbindFn) is .refl

/-- A record that has been made UNAVAILABLE is not written again by the others. -/
theorem unbindAll_unbound {i : Slot} {is : List Slot} {s : State} (h : i ∈ is ∨ ∃ f, s.fn i = Function.unbound f) :
    ∃ f, (unbindAll is s).fn i = Function.unbound f := by
  induction is generalizing s with
  | nil => exact h.resolve_left (List.not_mem_nil)
  | cons j is ih =>
    refine ih ?_
    by_cases hj : i = j
    · exact .inr ⟨s.fn j, by rw [unbindFn_fn, if_pos hj]⟩
    · refine h.imp (fun hm => (List.mem_cons.mp hm).resolve_left hj) fun ⟨f, hf⟩ => ⟨f, ?_⟩
      rw [unbindFn_fn, if_neg hj, hf, if_neg fun hc => by simp [Function.unbound, Function.uncounted, Activity.isBusy] at hc]

theorem abortSequence_free (place : Bool) (a : AbortReason) {i : Slot} {s : State} (h : s.isTaken i = false) :
    (abortSequence place a s).isTaken i = false := by
  cases hr : s.seqRuns with
  | false => rwa [abortSequence_none place a hr]
  | true =>
    have hs : (abortSequence place a s).sequence = s.sequence.ended (.aborted a) := by
      rw [abortSequence_sequence, hr, if_pos rfl]
    rw [State.isTaken, State.seqRuns, hs]
    rfl

theorem unbindFn_free {i j : Slot} {s : State} (h : s.isTaken i = false) : (unbindFn j s).isTaken i = false := by
  have htaken : (putFn j (s.fn j).unbound (leaveList j s)).isTaken i = false :=
    (isTaken_congr (by simp) i).trans h
  simp only [unbindFn]
  split
  · exact abortSequence_free true .fault htaken
  · exact htaken

/-- A slot that is neither in the list nor taken keeps its record. -/
theorem unbindAll_other {i : Slot} {is : List Slot} {s : State} (hi : i ∉ is) (ht : s.isTaken i = false) :
    (unbindAll is s).fn i = s.fn i := by
  induction is generalizing s with
  | nil => rfl
  | cons j is ih =>
    rw [List.mem_cons, not_or] at hi
    refine (ih hi.2 (unbindFn_free ht)).trans ?_
    rw [unbindFn_fn, if_neg hi.1, if_neg fun hc => by simp [ht] at hc]

/-- The fault that the binding check leaves in an UNAVAILABLE slot that shows none (R162). -/
def bindingFault (s : State) (i : Slot) : Option FaultCode :=
  if s.link.outcome = .complete ∧ bindingHolds s i = false then some .configMismatch else none

theorem checkBinding_other {i j : Slot} (h : i ≠ j) (s : State) : (checkBinding j s).fn i = s.fn i := by
  unfold checkBinding
  (repeat' split)
  · exact putFn_fn_ne _ s (Ne.symm h)
  · exact putFn_fn_ne _ s (Ne.symm h)
  · rfl

/-- The binding check of an UNAVAILABLE slot writes its fault and which of its channels are awaited. -/
theorem checkBinding_fn {i : Slot} {s : State} (hk : (s.cfg i).kind ≠ .unused)
    (ha : (s.fn i).activity = .unavailable) (hf : (s.fn i).fault = none ∨ (s.fn i).fault = bindingFault s i) :
    ∃ a b, (checkBinding i s).fn i = { s.fn i with
      fault := bindingFault s i
      chA := { (s.fn i).chA with awaited := a }, chB := { (s.fn i).chB with awaited := b } } := by
  unfold checkBinding
  split
  case isTrue hc =>
    split
    case isTrue hb => exact ⟨s.silentDrive i .a, s.silentDrive i .b, by rw [putFn_fn]; simp [bindingFault, hb]⟩
    case isFalse hb =>
      exact ⟨(s.fn i).chA.awaited, (s.fn i).chB.awaited, by rw [putFn_fn]; simp [bindingFault, hc.1, hb]⟩
  case isFalse hc =>
    have ho : s.link.outcome ≠ .complete := fun h => hc ⟨h, hk, ha⟩
    have hn : bindingFault s i = none := by simp [bindingFault, ho]
    refine ⟨(s.fn i).chA.awaited, (s.fn i).chB.awaited, ?_⟩
    rw [hn] at hf ⊢
    rw [← hf.elim id id]

theorem bindingFault_same {s t : State} (h : SameBinding t s) (i : Slot) : bindingFault t i = bindingFault s i := by
  simp only [bindingFault, bindingHolds_same h, h.outcome]

/-- Bindings checked one after another. -/
def checkAll (is : List Slot) (s : State) : State := is.foldl (fun s i => checkBinding i s) s

theorem checkAll_acts (is : List Slot) (s : State) : Acts s (checkAll is s) := Acts.refl.checkBindings

theorem checkAll_other {i : Slot} {is : List Slot} {s : State} (h : i ∉ is) : (checkAll is s).fn i = s.fn i := by
  induction is generalizing s with
  | nil => rfl
  | cons j is ih =>
    rw [List.mem_cons, not_or] at h
    exact (ih h.2).trans (checkBinding_other h.1 s)

/-- Slots that have been made UNAVAILABLE show the check's fault once they are checked. -/
theorem checkAll_cleared {i : Slot} {is : List Slot} {s : State} (hk : (s.cfg i).kind ≠ .unused)
    (hc : Function.Cleared (s.fn i))
    (hf : i ∈ is ∧ (s.fn i).fault = none ∨ (s.fn i).fault = bindingFault s i) :
    Function.Cleared ((checkAll is s).fn i) ∧ ((checkAll is s).fn i).fault = bindingFault s i := by
  induction is generalizing s with
  | nil => exact ⟨hc, hf.resolve_left fun h => List.not_mem_nil h.1⟩
  | cons j is ih =>
    have hb : SameBinding (checkBinding j s) s := (Acts.refl.checkBinding).binding
    have hk' : ((checkBinding j s).cfg i).kind ≠ .unused := by rwa [cfg_of_settings hb.settings]
    rw [← bindingFault_same hb] at hf ⊢
    refine ih hk' ?_ ?_
    · by_cases hj : i = j
      · subst hj
        obtain ⟨a, b, he⟩ := checkBinding_fn hk hc.1 (hf.imp And.right (bindingFault_same hb i ▸ id))
        obtain ⟨h1, h2, h3, h4, h5, h6, h7⟩ := hc
        rw [he]
        exact ⟨h1, h2, h3, h4, h5, h6, fun e => by cases e <;> [exact h7 .a; exact h7 .b]⟩
      · rwa [checkBinding_other hj]
    · by_cases hj : i = j
      · subst hj
        obtain ⟨a, b, he⟩ := checkBinding_fn hk hc.1 (hf.imp And.right (bindingFault_same hb i ▸ id))
        exact .inr (by rw [he, bindingFault_same hb])
      · rw [checkBinding_other hj]
        exact hf.imp (And.imp_left fun hm => (List.mem_cons.mp hm).resolve_left hj) id

theorem rebind_eq (is : List Slot) (s : State) : rebind is s = (checkAll is (unbindAll is s), is.map .becomeIdle) := rfl

theorem rebind_acts (is : List Slot) (s : State) : Acts s (rebind is s).1 := Acts.refl.rebind

/-- Slots that are bound again stand as R8 leaves them. -/
theorem rebind_unbound {i : Slot} {is : List Slot} {s : State} (hi : i ∈ is) (hk : (s.cfg i).kind ≠ .unused) :
    unboundAgain (rebind is s).1 i := by
  obtain ⟨f, hf⟩ := unbindAll_unbound (s := s) (.inl hi)
  have hu := (unbindAll_acts is s).binding
  obtain ⟨⟨h1, h2, h3, h4, h5, h6, h7⟩, h8⟩ := checkAll_cleared (s := unbindAll is s) (is := is) (i := i)
    (by rwa [cfg_of_settings hu.settings]) (hf ▸ unbound_cleared f) (.inl ⟨hi, by rw [hf]; rfl⟩)
  rw [← bindingFault_same (checkAll_acts is _).binding] at h8
  exact ⟨h1, h2, h3, h4, h5, h6, h7, h8⟩

theorem rebind_other {i : Slot} {is : List Slot} {s : State} (hi : i ∉ is) (ht : s.isTaken i = false) :
    (rebind is s).1.fn i = s.fn i :=
  (checkAll_other hi).trans (unbindAll_other hi ht)

theorem becomeIdle_unplaced {i : Slot} {s : State} (h : s.allPositions i = false) : becomeIdle i s = (s, []) := by
  simp [becomeIdle, h]

theorem allPositions_absent {i : Slot} {s : State} (h : ∀ e, ((s.fn i).chan e).position = none) :
    s.allPositions i = false := by
  simp only [State.allPositions, h, Option.isSome_none]
  cases (s.cfg i).sides <;> rfl

end Sys2Proof.Proofs
end

section
/-! PROOFS. The field-wise commands of the whole part: how one is judged, and the configuration that each writes.
Settles O45. -/

namespace Sys2Proof.Proofs
open Sys2Proof.Machine Sys2Proof.Laws

/-! ### A change whose own tasks change nothing -/

/-- After a change from which nothing follows, the cascade is that of its own tasks. -/
theorem Runs.passed {s t u : State} {ts : List Task} {k : Nat} (hn : nothingFollows s t = true)
    (hts : Task.servicePass ∉ ts) (h : Runs k ts t u) : Runs (k + 1) (follow s (t, ts)) t u := by
  obtain ⟨hc, hp, hr⟩ := (nothingFollows_iff s t).mp hn
  cases hd : passDue s t with
  | false =>
    have hf : follow s (t, ts) = ts := by simp [follow, hc, hd]
    rw [hf]
    exact h.mono (Nat.le_succ _)
  | true =>
    have hw : t.manifold.waitList = [] := hp.resolve_left (by rw [hd]; simp)
    have hf : follow s (t, ts) = .servicePass :: ts := by simp [follow, hc, hd, hts]
    have hpass : handle .servicePass t = (t, []) := by
      show (servicePass t, []) = _
      rw [servicePass_nil hw]
    have hagain : followTask .servicePass t (t, []) = [] := by
      show passAgain t t = []
      simp [passAgain, clearanceTasks_same rfl, hw]
    rw [hf]
    refine .task (react_none_of_nil hr _) hpass ?_
    rw [hagain]
    exact h

/-- A change from which nothing follows, with tasks of its own that find nothing to do. -/
theorem Runs.answered {s t : State} {ts : List Task} (hn : nothingFollows s t = true)
    (h : ∀ a ∈ ts, a ≠ .servicePass ∧ handle a t = (t, [])) : Runs (ts.length + 1) (follow s (t, ts)) t t := by
  obtain ⟨-, -, hr⟩ := (nothingFollows_iff s t).mp hn
  exact .passed hn (fun hm => (h _ hm).1 rfl) (.idleTasks hr h)

/-- Nothing follows where no function changes, none waits, and every judgement holds. -/
theorem nothingFollows_waitless {s t : State} (hf : t.functions = s.functions) (hw : t.manifold.waitList = [])
    (hr : react [] t = none) : nothingFollows s t = true :=
  (nothingFollows_iff s t).mpr ⟨clearanceTasks_same hf, .inr hw, hr⟩

/-! ### The judging of a field-wise command (R182) -/

section
variable {code : CommandCode} {x tag : Byte} {fs : List FieldWrite} {c : FieldCommand} {s t : State}

theorem applyFields_busy (hc : fieldCommand code x = some c) (hn : fs.all c.named = true) (hb : c.busy fs s = true) :
    applyFields code x fs s = ⟨s, .busy, [], []⟩ := by
  simp [applyFields, hc, hn, hb, refuse]

theorem applyFields_applied (hc : fieldCommand code x = some c) (hn : fs.all c.named = true)
    (hb : c.busy fs s = false) : applyFields code x fs s
      = ⟨(c.apply fs s).1, doneOutcome (c.apply fs s).2.1, [byteOf fs.length], (c.apply fs s).2.2⟩ := by
  simp [applyFields, hc, hn, hb]

/-- A field-wise command whose parameter bytes carry these fields for this selector. -/
def Carries (code : CommandCode) (x : Byte) (fs : List FieldWrite) (ps : List Byte) : Prop :=
  lengthFits code ps.length = true ∧ code ≠ .store ∧ code ≠ .writeCells
    ∧ ∀ s, answerTo code ps s = applyFields code x fs s

/-- A refused field-wise command is answered BUSY and changes nothing else. -/
theorem fields_refused {ps : List Byte} (hp : Carries code x fs ps) (hs : s.takesCommands = true)
    (hc : fieldCommand code x = some c) (hn : fs.all c.named = true) (hb : c.busy fs s.renewed = true) :
    perform (takeTransaction code tag ps) s = .next (queueReply code.toByte tag .busy [] s.renewed) := by
  obtain ⟨hl, h1, h2, ha⟩ := hp
  exact perform_sameRead hs hl h1 h2 ((ha _).trans (applyFields_busy hc hn hb)) (.refl _)

/-- An applied field-wise command from which nothing follows but tasks that find nothing to do. -/
theorem fields_applied {ps : List Byte} {r : State × Bool × List Task} (hp : Carries code x fs ps)
    (hs : s.takesCommands = true) (hc : fieldCommand code x = some c) (hn : fs.all c.named = true)
    (hb : c.busy fs s.renewed = false) (hr : c.apply fs s.renewed = r)
    (hq : nothingFollows s.renewed (queueReply code.toByte tag (doneOutcome r.2.1) [byteOf fs.length] r.1) = true)
    (ht : ∀ a ∈ r.2.2, a ≠ .servicePass
      ∧ ∀ u : State, u.functions = r.1.functions → u.settings = r.1.settings → handle a u = (u, []))
    (hk : r.2.2.length ≤ 16) : perform (takeTransaction code tag ps) s
      = .next (queueReply code.toByte tag (doneOutcome r.2.1) [byteOf fs.length] r.1) := by
  obtain ⟨hl, h1, h2, ha⟩ := hp
  have hans := (ha s.renewed).trans (applyFields_applied hc hn hb)
  rw [hr] at hans
  have hread := queueReply_sameRead code.toByte tag (doneOutcome r.2.1) [byteOf fs.length] r.1
  have hset : (queueReply code.toByte tag (doneOutcome r.2.1) [byteOf fs.length] r.1).settings = r.1.settings :=
    (queueC_onlyMotion ..).settings
  exact perform_answer_runs hs hl h1 h2 hans
    (.answered hq fun a ha => ⟨(ht a ha).1, (ht a ha).2 _ hread.functions hset⟩) (by omega)

/-- An applied field-wise command that leaves what is read as it was. -/
theorem fields_written {ps : List Byte} {r : State × Bool × List Task} (hp : Carries code x fs ps)
    (hs : s.takesCommands = true) (hc : fieldCommand code x = some c) (hn : fs.all c.named = true)
    (hb : c.busy fs s.renewed = false) (hr : c.apply fs s.renewed = r) (hu : SameFollowed r.1 s.renewed)
    (ht : r.2.2 = []) : perform (takeTransaction code tag ps) s
      = .next (queueReply code.toByte tag (doneOutcome r.2.1) [byteOf fs.length] r.1) := by
  have hq := queueReply_sameRead code.toByte tag (doneOutcome r.2.1) [byteOf fs.length] r.1
  refine fields_applied hp hs hc hn hb hr ?_ (by simp [ht]) (by simp [ht])
  exact nothingFollows_same (renewed_react ((takesCommands_iff s).mp hs).1) (hq.toSameJudged.trans hu.judged)
    (hq.followed.waitList.trans hu.waitList) (hq.followed.claims.trans hu.claims) (hq.followed.limit.trans hu.limit)

theorem carries_plain (hc : code.shape = .fieldWise 0) (hl : fs.length ≤ 66) :
    lengthFits code (fieldBytes fs).length = true := by
  simp only [lengthFits, hc, fieldBytes_length, lengthMax, Bool.and_eq_true, decide_eq_true_iff, beq_iff_eq]
  omega

theorem carries_supply (hl : fs.length ≤ 66) : Carries .setSupply 0 fs (fieldBytes fs) :=
  ⟨carries_plain rfl hl, nofun, nofun, fun s => congrArg (applyFields .setSupply 0 · s) (fields_round fs)⟩

theorem carries_timing (hl : fs.length ≤ 66) : Carries .setTiming 0 fs (fieldBytes fs) :=
  ⟨carries_plain rfl hl, nofun, nofun, fun s => congrArg (applyFields .setTiming 0 · s) (fields_round fs)⟩

theorem carries_manifold (hl : fs.length ≤ 66) : Carries .setManifold 0 fs (fieldBytes fs) :=
  ⟨carries_plain rfl hl, nofun, nofun, fun s => congrArg (applyFields .setManifold 0 · s) (fields_round fs)⟩

theorem carries_levelling (hl : fs.length ≤ 66) : Carries .setLevelling 0 fs (fieldBytes fs) :=
  ⟨carries_plain rfl hl, nofun, nofun, fun s => congrArg (applyFields .setLevelling 0 · s) (fields_round fs)⟩

theorem carries_signal (hl : fs.length ≤ 66) : Carries .setSignal x fs (x :: fieldBytes fs) :=
  ⟨fieldWise_fits rfl hl, nofun, nofun, fun s => congrArg (applyFields .setSignal x · s) (fields_round fs)⟩

theorem carries_function (hl : fs.length ≤ 66) : Carries .setFunction x fs (x :: fieldBytes fs) :=
  ⟨fieldWise_fits rfl hl, nofun, nofun, fun s => congrArg (applyFields .setFunction x · s) (fields_round fs)⟩

theorem carries_geometry (hl : fs.length ≤ 66) : Carries .setGeometry x fs (x :: fieldBytes fs) :=
  ⟨fieldWise_fits rfl hl, nofun, nofun, fun s => congrArg (applyFields .setGeometry x · s) (fields_round fs)⟩

end

/-! ### SET_SUPPLY (R65, R67, R68) -/

section
variable {s : State} {fs : List FieldWrite} {tag : Byte}

theorem setBudget_judged (b : Budget) (s : State) : SameJudged { s with budget := b } s := by
  constructor <;> intros <;> rfl

theorem supplyChanged_judged (s : State) : SameJudged (supplyChanged s) s := by
  have hlow : ∀ u : State, SameJudged (judgeLowSupply u) u := fun u => by
    unfold judgeLowSupply
    (repeat' split)
    · exact setBudget_judged _ u
    · exact .refl u
    · exact .refl u
    · exact .refl u
    · exact setBudget_judged _ u
    · exact (setAlarm_sameRead (k := .lowSupply) nofun _ _).toSameJudged.trans (setBudget_judged _ u)
  exact (hlow _).trans (setBudget_judged _ s)

theorem setSupply_writes {u : State} {b : Bool} (hs : s.takesCommands = true) (hl : fs.length ≤ 66)
    (hn : fs.all supplyFieldNamed = true) (hw : s.manifold.waitList = [])
    (hr : applySupply fs s.renewed = (supplyChanged u, b, [])) (hu : SameRead u s.renewed) :
    exec (.setSupply tag fs) s
      = .next (queueReply 0x34 tag (doneOutcome b) [byteOf fs.length] (supplyChanged u)) := by
  refine fields_applied (c := ⟨supplyFieldNamed, fun _ _ => false, applySupply⟩) (r := (supplyChanged u, b, []))
    (carries_supply hl) hs rfl hn rfl hr ?_ (by simp) (Nat.zero_le _)
  have hread := queueReply_sameRead CommandCode.setSupply.toByte tag (doneOutcome b) [byteOf fs.length] (supplyChanged u)
  have hjudged := hread.toSameJudged.trans ((supplyChanged_judged u).trans hu.toSameJudged)
  have hm : (supplyChanged u).manifold = u.manifold := by simp [supplyChanged]
  refine nothingFollows_waitless hjudged.functions ?_
    (hjudged.react.mpr (renewed_react ((takesCommands_iff s).mp hs).1))
  rw [hread.followed.waitList, hm, hu.manifold]
  exact hw

/-! ### SET_SIGNAL and SET_TIMING (R25, R29, R115) -/

theorem fieldCommand_signal (g : Signal) : fieldCommand .setSignal (BitVec.ofNat 8 (signalIndex g).val)
    = some ⟨signalFieldNamed, fun _ _ => false, applySignal g⟩ := by
  cases g <;> rfl

/-- The state with a signal's written configuration. -/
def signalled (g : Signal) (fs : List FieldWrite) (s : State) : State :=
  { s with settings := { s.settings with
    signals := s.settings.signals.set (signalIndex g) (applyAll (putSignalField g) fs (s.sigCfg g)).1 } }

/-- The writing of a fresh signal's configuration. -/
theorem applySignal_fresh {g : Signal} (hw : writes fs 4 = false) (hf : (s.signal g).fresh = true) :
    applySignal g fs s = (signalled g fs s, (applyAll (putSignalField g) fs (s.sigCfg g)).2, []) := by
  have hn : lastWrite fs 4 = none := by simpa [writes] using hw
  have hsafe : ∀ (u : State) (old new : SignalConfig), (u.signal g).fresh = true → applySafeValue g old new u = u :=
    fun u old new h => by simp [applySafeValue, h]
  simp only [applySignal, hn]
  exact congrArg (·, _, []) (hsafe (signalled g fs s) _ _ hf)

/-- The state with the written timing and wind parameters. -/
def timed (fs : List FieldWrite) (s : State) : State :=
  { s with settings := { s.settings with
    timing := (applyAll putTimingField fs (s.settings.timing, s.settings.wind)).1.1
    wind := (applyAll putTimingField fs (s.settings.timing, s.settings.wind)).1.2 } }

theorem applyTiming_kept (hg : (applyAll putTimingField fs (s.settings.timing, s.settings.wind)).1.2.gustThreshold
    = s.settings.wind.gustThreshold) : applyTiming fs s
      = (timed fs s, (applyAll putTimingField fs (s.settings.timing, s.settings.wind)).2, []) := by
  simp only [applyTiming, hg, ne_eq, not_true_eq_false, decide_false, Bool.false_eq_true, if_false, timed]

/-- A configuration whose functions, duty limit and travel speed stay. -/
theorem settings_followed {c : Settings} (hf : c.functions = s.settings.functions)
    (hd : c.manifold.dutyLimit = s.settings.manifold.dutyLimit) (ht : c.travelSpeed = s.settings.travelSpeed) :
    SameFollowed { s with settings := c } s :=
  ⟨{ SameJudged.refl s with
      kind := fun i => congrArg (fun v : Vector FunctionConfig 16 => v[i].kind) hf
      dutyLimit := hd, travelSpeed := ht }, rfl, rfl, rfl⟩

theorem setSignal_writes {g : Signal} (hs : s.takesCommands = true) (hl : fs.length ≤ 66)
    (hn : fs.all signalFieldNamed = true) (hw : writes fs 4 = false) (hf : (s.signal g).fresh = true) :
    exec (.setSignal tag (BitVec.ofNat 8 (signalIndex g).val) fs) s
      = .next (queueReply 0x35 tag (doneOutcome (applyAll (putSignalField g) fs (s.sigCfg g)).2) [byteOf fs.length]
        (signalled g fs s.renewed)) :=
  fields_written (c := ⟨signalFieldNamed, fun _ _ => false, applySignal g⟩)
    (r := (signalled g fs s.renewed, (applyAll (putSignalField g) fs (s.sigCfg g)).2, [])) (carries_signal hl) hs
    (fieldCommand_signal g) hn rfl (applySignal_fresh hw hf) (settings_followed rfl rfl rfl) rfl

theorem setTiming_writes (hs : s.takesCommands = true) (hl : fs.length ≤ 66) (hn : fs.all timingFieldNamed = true)
    (hg : (applyAll putTimingField fs (s.settings.timing, s.settings.wind)).1.2.gustThreshold
      = s.settings.wind.gustThreshold) : exec (.setTiming tag fs) s
      = .next (queueReply 0x36 tag (doneOutcome (applyAll putTimingField fs (s.settings.timing, s.settings.wind)).2)
        [byteOf fs.length] (timed fs s.renewed)) :=
  fields_written (c := ⟨timingFieldNamed, fun _ _ => false, applyTiming⟩)
    (r := (timed fs s.renewed, (applyAll putTimingField fs (s.settings.timing, s.settings.wind)).2, []))
    (carries_timing hl) hs rfl hn rfl (applyTiming_kept (s := s.renewed) hg) (settings_followed rfl rfl rfl) rfl

/-! ### SET_LEVELLING (R69, R70) -/

/-- The state with the written levelling parameters. -/
def levelled (fs : List FieldWrite) (s : State) : State :=
  { s with settings := { s.settings with levelling := (applyAll putLevellingField fs s.settings.levelling).1 } }

theorem applyLevelling_kept (h : (applyAll putLevellingField fs s.settings.levelling).1.sensorNode
    = s.settings.levelling.sensorNode) :
    applyLevelling fs s = (levelled fs s, (applyAll putLevellingField fs s.settings.levelling).2, []) := by
  simp only [applyLevelling, h, ne_eq, not_true_eq_false, decide_false, Bool.false_eq_true, if_false, levelled]

theorem applyLevelling_moved (h : (applyAll putLevellingField fs s.settings.levelling).1.sensorNode
    ≠ s.settings.levelling.sensorNode) : applyLevelling fs s
      = ((rebind s.jackSlots (levelled fs s)).1, (applyAll putLevellingField fs s.settings.levelling).2,
        s.jackSlots.map .becomeIdle) := by
  simp only [applyLevelling, h, ne_eq, not_false_eq_true, decide_true, if_true, levelled, rebind_eq]
  rfl

theorem levellingBusy_iff : levellingBusy fs s = true ↔ s.seqRuns = true
    ∨ (applyAll putLevellingField fs s.settings.levelling).1.sensorNode ≠ s.settings.levelling.sensorNode
      ∧ ∃ i, s.isJack i = true ∧ (s.fn i).activity.isBusy = true := by
  simp [levellingBusy, State.jackSlots, mem_slots]

/-! ### SET_MANIFOLD (R51, R68) -/

/-- The state with the written manifold record, its run time within the duty limit. -/
def manifolded (fs : List FieldWrite) (s : State) : State :=
  { s with
    settings := { s.settings with manifold := (applyAll putManifoldField fs s.settings.manifold).1 }
    manifold := { s.manifold with
      runTime := min s.manifold.runTime ((applyAll putManifoldField fs s.settings.manifold).1.dutyLimit * 1000) } }

theorem applyManifold_kept (h : newPump fs s = false) :
    applyManifold fs s = (manifolded fs s, (applyAll putManifoldField fs s.settings.manifold).2, []) := by
  simp only [applyManifold, h, Bool.false_eq_true, if_false, manifolded, State.setManifold]

theorem applyManifold_moved (h : newPump fs s = true) : applyManifold fs s
      = ((rebind s.hydraulicSlots (manifolded fs s)).1, (applyAll putManifoldField fs s.settings.manifold).2,
        s.hydraulicSlots.map .becomeIdle) := by
  simp only [applyManifold, h, if_true, manifolded, State.setManifold, rebind_eq]
  rfl

theorem newPump_iff : newPump fs s = true
    ↔ (applyAll putManifoldField fs s.settings.manifold).1.pump ≠ s.settings.manifold.pump := by
  simp [newPump]

theorem manifoldBusy_iff : manifoldBusy fs s = true ↔ s.manifold.pump ≠ .stopped
    ∨ (applyAll putManifoldField fs s.settings.manifold).1.pump ≠ s.settings.manifold.pump
      ∧ ∃ i, (s.cfg i).kind.isHydraulic = true ∧ ((s.fn i).activity = .waiting ∨ (s.fn i).activity = .settling) := by
  simp [manifoldBusy, newPump, State.hydraulicSlots, mem_slots]

/-- A stopped pump's written run time calls for nothing. -/
theorem manifolded_react (hp : s.manifold.pump = .stopped) (hr : react [] s = none) :
    react [] (manifolded fs s) = none := by
  obtain ⟨h1, h2, h3, -, h5, h6, h7, h8, h9, h10⟩ := (react_none_iff s).mp hr
  refine (react_none_iff _).mpr ⟨h1, h2, h3, ?_, h5, h6, h7, h8, h9, h10⟩
  have hoff : s.manifold.pump.isOn = false := by rw [hp]; rfl
  show (s.manifold.pump.isOn && _) = false
  rw [hoff, Bool.false_and]

/-! ### Slots that a reference binds again -/

/-- A slot that waits for its first report does not become IDLE, however the reply is queued. -/
theorem becomeIdle_unbound {r u : State} {i : Slot} (h : unboundAgain r i) (hf : u.functions = r.functions) :
    Task.becomeIdle i ≠ .servicePass ∧ handle (.becomeIdle i) u = (u, []) := by
  obtain ⟨-, -, -, -, -, -, hpos, -⟩ := h
  have hfn : u.fn i = r.fn i := fn_congr hf i
  exact ⟨nofun, becomeIdle_unplaced (allPositions_absent fun e => by rw [hfn]; exact (hpos e).1)⟩

/-- Of the slots that a reference binds again. -/
theorem rebound {is : List Slot} {w : State} {ts : List Task} (hk : ∀ i ∈ is, (w.cfg i).kind ≠ .unused)
    (ht : ts = is.map .becomeIdle) : ∀ a ∈ ts, a ≠ .servicePass
      ∧ ∀ u : State, u.functions = (rebind is w).1.functions → u.settings = (rebind is w).1.settings →
        handle a u = (u, []) := by
  subst ht
  intro a ha
  obtain ⟨i, hi, rfl⟩ := List.mem_map.mp ha
  exact ⟨nofun, fun u hf _ => (becomeIdle_unbound (rebind_unbound hi (hk i hi)) hf).2⟩

theorem slots_filter_length (p : Slot → Bool) : (slots.filter p).length ≤ 16 := List.length_filter_le ..

theorem mem_hydraulicSlots {i : Slot} : i ∈ s.hydraulicSlots ↔ (s.cfg i).kind.isHydraulic = true := by
  simp [State.hydraulicSlots, mem_slots]

theorem mem_jackSlots {i : Slot} : i ∈ s.jackSlots ↔ s.isJack i = true := by
  simp [State.jackSlots, mem_slots]

theorem unused_not_hydraulic {k : Kind} (h : k.isHydraulic = true) : k ≠ .unused := by
  rintro rfl
  cases h

theorem jack_kind {i : Slot} (h : s.isJack i = true) : (s.cfg i).kind = .jack := by
  simpa [State.isJack] using h

/-- Nothing that a change calls for is read differently, and every judgement holds. -/
theorem nothingFollows_unchanged {t : State} (hf : t.functions = s.functions)
    (hw : t.manifold.waitList = s.manifold.waitList) (hb : t.budget = s.budget)
    (hh : t.manifold.holder = s.manifold.holder) (hp : t.manifold.pump = s.manifold.pump)
    (hr : react [] t = none) : nothingFollows s t = true := by
  have hn : follow s (t, []) = [] := follow_nil rfl hf hw (by rw [hb]) hh (by rw [hb]) hp
  simp only [follow, List.append_nil, List.append_eq_nil_iff] at hn
  obtain ⟨hc, hpass⟩ := hn
  refine (nothingFollows_iff s t).mpr ⟨hc, .inl ?_, hr⟩
  by_contra hne
  simp only [Bool.not_eq_false] at hne
  simp [hne] at hpass

theorem setManifold_writes (hs : s.takesCommands = true) (hl : fs.length ≤ 66) (hn : fs.all manifoldFieldNamed = true)
    (hp : s.manifold.pump = .stopped)
    (hm : (applyAll putManifoldField fs s.settings.manifold).1.pump = s.settings.manifold.pump) :
    exec (.setManifold tag fs) s = .next (queueReply 0x33 tag
      (doneOutcome (applyAll putManifoldField fs s.settings.manifold).2) [byteOf fs.length]
      (manifolded fs s.renewed)) := by
  have hnew : newPump fs s.renewed = false := by
    rw [Bool.eq_false_iff, ne_eq, newPump_iff, not_not]
    exact hm
  have hbusy : manifoldBusy fs s.renewed = false := by
    rw [Bool.eq_false_iff, ne_eq, manifoldBusy_iff, not_or]
    exact ⟨not_not.mpr hp, fun h => h.1 hm⟩
  refine fields_applied (c := ⟨manifoldFieldNamed, manifoldBusy, applyManifold⟩)
    (r := (manifolded fs s.renewed, (applyAll putManifoldField fs s.settings.manifold).2, []))
    (carries_manifold hl) hs rfl hn hbusy (applyManifold_kept hnew) ?_ (by simp) (Nat.zero_le _)
  have hread := queueReply_sameRead CommandCode.setManifold.toByte tag
    (doneOutcome (applyAll putManifoldField fs s.settings.manifold).2) [byteOf fs.length] (manifolded fs s.renewed)
  exact nothingFollows_unchanged hread.functions (by rw [hread.manifold]; rfl) (by rw [hread.budget]; rfl)
    (by rw [hread.manifold]; rfl) (by rw [hread.manifold]; rfl)
    (hread.react.mpr (manifolded_react hp (renewed_react ((takesCommands_iff s).mp hs).1)))

theorem setLevelling_writes (hs : s.takesCommands = true) (hl : fs.length ≤ 66)
    (hn : fs.all levellingFieldNamed = true) (hq : s.seqRuns = false)
    (hm : (applyAll putLevellingField fs s.settings.levelling).1.sensorNode = s.settings.levelling.sensorNode) :
    exec (.setLevelling tag fs) s = .next (queueReply 0x32 tag
      (doneOutcome (applyAll putLevellingField fs s.settings.levelling).2) [byteOf fs.length]
      (levelled fs s.renewed)) := by
  have hbusy : levellingBusy fs s.renewed = false := by
    rw [Bool.eq_false_iff, ne_eq, levellingBusy_iff, not_or]
    exact ⟨Bool.eq_false_iff.mp hq, fun h => h.1 hm⟩
  exact fields_written (c := ⟨levellingFieldNamed, levellingBusy, applyLevelling⟩)
    (r := (levelled fs s.renewed, (applyAll putLevellingField fs s.settings.levelling).2, []))
    (carries_levelling hl) hs rfl hn hbusy (applyLevelling_kept (s := s.renewed) hm) (settings_followed rfl rfl rfl) rfl

/-- Settles O45, command by command. -/
theorem fieldWiseCommandsWriteTheirOwner : Obligations.FieldWiseCommandsWriteTheirOwner := by
  intro s tag fs hs hl c count outcome
  refine ⟨fun hn hw => setSupply_writes hs hl hn hw rfl ⟨by constructor <;> intros <;> rfl, rfl, rfl⟩,
    fun g hn hw hf => setSignal_writes hs hl hn hw hf, fun hn hg => setTiming_writes hs hl hn hg,
    fun hn hp hm => setManifold_writes hs hl hn hp hm, fun hn hq hm => setLevelling_writes hs hl hn hq hm,
    fun hn => ⟨fun hb => ?_, fun hp hm hw => ?_⟩, fun hn => ⟨fun hb => ?_, fun hq hm hw => ?_⟩⟩
  · exact fields_refused (c := ⟨manifoldFieldNamed, manifoldBusy, applyManifold⟩) (carries_manifold hl) hs rfl hn
      (manifoldBusy_iff.mpr hb)
  · have hnew : newPump fs s.renewed = true := newPump_iff.mpr hm
    have hbusy : manifoldBusy fs s.renewed = false := by
      rw [Bool.eq_false_iff, ne_eq, manifoldBusy_iff, not_or]
      exact ⟨not_not.mpr hp, fun ⟨_, i, hi, h⟩ => h.elim (hw i hi).1 (hw i hi).2⟩
    rw [applyManifold_moved hnew]
    refine ⟨fun hq => ?_, ?_, fun i hi => ?_, fun i hi ht => ?_⟩
    · exact fields_applied (c := ⟨manifoldFieldNamed, manifoldBusy, applyManifold⟩) (carries_manifold hl) hs rfl hn
        hbusy (applyManifold_moved hnew) hq
        (rebound (w := manifolded fs s.renewed) (fun i hi => unused_not_hydraulic (mem_hydraulicSlots.mp hi)) rfl)
        (by rw [List.length_map]; exact slots_filter_length _)
    · exact (rebind_acts ..).binding.settings
    · exact rebind_unbound (mem_hydraulicSlots.mpr hi) (unused_not_hydraulic hi)
    · have hfree : s.isTaken i = false := by
        by_contra h
        rw [jack_kind (ht i (by simpa using h))] at hi
        cases hi
      exact rebind_other (fun h => Bool.false_ne_true (hi.symm.trans (mem_hydraulicSlots.mp h))) hfree
  · exact fields_refused (c := ⟨levellingFieldNamed, levellingBusy, applyLevelling⟩) (carries_levelling hl) hs rfl hn
      (levellingBusy_iff.mpr hb)
  · have hbusy : levellingBusy fs s.renewed = false := by
      rw [Bool.eq_false_iff, ne_eq, levellingBusy_iff, not_or]
      exact ⟨Bool.eq_false_iff.mp hq, fun ⟨_, i, hi, h⟩ => Bool.false_ne_true ((hw i hi).symm.trans h)⟩
    rw [applyLevelling_moved (s := s.renewed) hm]
    refine ⟨fun hf => ?_, ?_, fun i hi => ?_, fun i hi => ?_⟩
    · exact fields_applied (c := ⟨levellingFieldNamed, levellingBusy, applyLevelling⟩) (carries_levelling hl) hs rfl hn
        hbusy (applyLevelling_moved (s := s.renewed) hm) hf
        (rebound (w := levelled fs s.renewed) (fun i hi => by
          rw [show ((levelled fs s.renewed).cfg i).kind = .jack from jack_kind (mem_jackSlots.mp hi)]; nofun) rfl)
        (by rw [List.length_map]; exact slots_filter_length _)
    · exact (rebind_acts ..).binding.settings
    · exact rebind_unbound (mem_jackSlots.mpr hi) (by
        rw [show ((levelled fs s.renewed).cfg i).kind = .jack from jack_kind hi]; nofun)
    · refine rebind_other (fun h => Bool.false_ne_true (hi.symm.trans (mem_jackSlots.mp h))) ?_
      show (s.seqRuns && _) = false
      rw [hq, Bool.false_and]

end

end Sys2Proof.Proofs
end

section
/-! PROOFS. SET_FUNCTION: what it writes of the configuration, and the record of its slot. -/

namespace Sys2Proof.Proofs
open Sys2Proof.Machine Sys2Proof.Laws

/-! ### The owed mark of a slot at rest (R118) -/

section
variable {s : State} {i j k : Slot}

theorem cleared_owed (h : s.wind.owed[i] = false) :
    ({ s with wind := { s.wind with owed := s.wind.owed.set j false } } : State).wind.owed[i] = false := by
  by_cases hj : (j : Nat) = i
  · simp [hj]
  · simpa [hj] using h

theorem putFn_owed {f : Function} (h : s.wind.owed[i] = false) : (putFn j f s).wind.owed[i] = false := by
  have hl : (judgeLevelled j (s.fn j) f (s.storeFn j f)).wind.owed[i] = false := by
    unfold judgeLevelled
    split <;> exact h
  have ho : (judgeOwedStowed j (s.fn j) f (judgeLevelled j (s.fn j) f (s.storeFn j f))).wind.owed[i] = false := by
    unfold judgeOwedStowed
    split
    · exact cleared_owed hl
    · exact hl
  unfold putFn
  simp only
  split
  · exact ho
  · simpa [functionFrame] using ho

theorem windStopped_owed {r : StopReason} (hj : j ≠ i) (h : s.wind.owed[i] = false) :
    (windStopped j r s).wind.owed[i] = false := by
  have hne : (j : Nat) ≠ i := fun he => hj (Fin.ext he)
  have hset : ∀ v, (s.setOwed j v).wind.owed[i] = false := fun v => by simpa [State.setOwed, hne] using h
  unfold windStopped
  split
  · exact hset true
  · simp only
    split
    · exact hset false
    · exact hset false
  · exact h

theorem stopFn_owed {place : Bool} {r : StopReason} (hb : j = i → (s.fn i).activity.isBusy = false)
    (h : s.wind.owed[i] = false) : (stopFn place j r s).wind.owed[i] = false := by
  unfold stopFn
  simp only
  split
  case isFalse => exact h
  case isTrue hj =>
    have hne : j ≠ i := fun he => by subst he; rw [hb rfl] at hj; cases hj
    have h1 : (releaseDraw j (holdMoved place j (leaveList j s))).wind.owed[i] = false := by
      have : (releaseDraw j (holdMoved place j (leaveList j s))).wind = s.wind := by simp
      rw [this]; exact h
    have h2 := putFn_owed (j := j) (f := (s.fn j).stopped r) h1
    have h3 : ∀ u : State, u.wind.owed[i] = false → (refuseHold j u).wind.owed[i] = false := fun u hu => by
      have : (refuseHold j u).wind = u.wind := by simp
      rw [this]; exact hu
    (repeat' split)
    · exact windStopped_owed hne h2
    · exact windStopped_owed hne (h3 _ h2)
    · exact h2
    · exact h3 _ h2

theorem slideTest_rest (hb : (s.fn i).activity.isBusy = false) : (slideTest k s).fn i = s.fn i := by
  unfold slideTest
  (repeat' split)
  · rfl
  · rw [stopFn_fn_if, if_neg]
    rintro ⟨rfl, h⟩
    rw [hb] at h
    cases h
  · rfl

theorem slideTest_owed (hb : (s.fn i).activity.isBusy = false) (h : s.wind.owed[i] = false) :
    (slideTest k s).wind.owed[i] = false := by
  unfold slideTest
  (repeat' split)
  · exact h
  · exact stopFn_owed (fun _ => hb) h
  · exact h

theorem abortSequence_owed {place : Bool} {a : AbortReason} (hb : (s.fn i).activity.isBusy = false)
    (h : s.wind.owed[i] = false) : (abortSequence place a s).wind.owed[i] = false := by
  have hall : ∀ (is : List Slot) (u : State), (u.fn i).activity.isBusy = false → u.wind.owed[i] = false →
      (stopAll place a.stopReason is u).wind.owed[i] = false := by
    intro is
    induction is with
    | nil => exact fun u _ h => h
    | cons j is ih =>
      intro u hb h
      refine ih _ ?_ (stopFn_owed (fun _ => hb) h)
      rw [stopFn_fn_if]
      split
      · rfl
      · exact hb
  cases hr : s.seqRuns with
  | false => rwa [abortSequence_none place a hr]
  | true =>
    rw [abortSequence, endSequence_runs _ _ _ hr]
    have : ∀ u : State, (closeSequence (.aborted a) u).wind = u.wind := fun u => by simp
    rw [this]
    exact hall _ s hb h

theorem unbindFn_owed (h : s.wind.owed[i] = false) : (unbindFn i s).wind.owed[i] = false := by
  have h1 : (putFn i (s.fn i).unbound (leaveList i s)).wind.owed[i] = false := putFn_owed h
  unfold unbindFn
  simp only
  split
  · exact abortSequence_owed (by rw [putFn_fn]; rfl) h1
  · exact h1

theorem checkBinding_owed (h : s.wind.owed[i] = false) : (checkBinding j s).wind.owed[i] = false := by
  unfold checkBinding
  (repeat' split)
  · exact putFn_owed h
  · exact putFn_owed h
  · exact h

theorem becomeIdle_owed (h : s.wind.owed[i] = false) : (becomeIdle j s).1.wind.owed[i] = false := by
  unfold becomeIdle
  simp only
  split
  · exact putFn_owed h
  · exact h

end

/-! ### The slides that a SET_FUNCTION tests (R111) -/

theorem testSlides_rest {u : State} {i : Slot} (hb : (u.fn i).activity.isBusy = false) :
    (testSlides i u).fn i = u.fn i ∧ (u.wind.owed[i] = false → (testSlides i u).wind.owed[i] = false) := by
  unfold testSlides
  generalize (i :: ((u.cfg i).partner).toList) = ks
  induction ks generalizing u with
  | nil => exact ⟨rfl, id⟩
  | cons k ks ih =>
    have hk : (slideTest k u).fn i = u.fn i := slideTest_rest hb
    obtain ⟨h1, h2⟩ := ih (u := slideTest k u) (by rw [hk]; exact hb)
    exact ⟨h1.trans hk, fun h => h2 (slideTest_owed hb h)⟩

theorem testSlides_acts (i : Slot) (u : State) : Acts u (testSlides i u) :=
  .fold (fun _ _ => Acts.refl.slideTest) _ .refl

/-! ### Positions computed again (R5) -/

section
variable {s : State} {i : Slot} {fs : List FieldWrite}

/-- The offset or the sense of a side is written. -/
def placeWrites (fs : List FieldWrite) : Side → Bool
  | .a => writes fs 9 || writes fs 10
  | .b => writes fs 11 || writes fs 12

theorem placeAgain_rest (i : Slot) (fs : List FieldWrite) (s : State) : (placeAgain i fs s).fn i
    = { s.fn i with
      chA := ((placeAgain i fs s).fn i).chA, chB := ((placeAgain i fs s).fn i).chB
      posClass := ((placeAgain i fs s).fn i).posClass } := by
  simp only [placeAgain, putFn_fn]

theorem placeAgain_chan (i : Slot) (fs : List FieldWrite) (s : State) (e : Side) :
    ((placeAgain i fs s).fn i).chan e = positionAgain s i (placeWrites fs e) e ((s.fn i).chan e) := by
  simp only [placeAgain, putFn_fn]
  cases e <;> rfl

theorem positionAgain_raw {w : Bool} {e : Side} {ch : Channel} {raw : Int} (hr : s.lastRaw i e = some raw)
    (hw : w = true) (hm : (s.cfg i).kind.isMotor = true) :
    (positionAgain s i w e ch).position = some (positionOf (s.cfg i) e raw) := by
  simp [positionAgain, hr, hw, hm]

theorem positionAgain_absent {w : Bool} {e : Side} {ch : Channel} (hp : ch.position = none)
    (h : (s.cfg i).kind.isMotor = false ∨ s.lastRaw i e = none ∨ w = false) :
    (positionAgain s i w e ch).position = none := by
  cases hr : s.lastRaw i e with
  | none => simp [positionAgain, hr, hp]
  | some raw =>
    rcases h with h | h | h
    · simp [positionAgain, hr, hp, h]
    · rw [hr] at h; cases h
    · simp [positionAgain, hr, hp, h]

theorem lastRaw_same {s t : State} (h : SameBinding t s) (i : Slot) (e : Side) : t.lastRaw i e = s.lastRaw i e := by
  simp only [State.lastRaw, State.channelRecord, cfg_of_settings h.settings, h.channels]

/-! ### The configuration that a SET_FUNCTION leaves (R2, R3, R71) -/

/-- The state with the configuration that a SET_FUNCTION leaves and its slot's wind marks. -/
def rewritten (i : Slot) (fs : List FieldWrite) (s : State) : State :=
  kindChanged i (s.cfg i).kind (applyPartner i fs (s.setCfg i (functionAfter fs (s.cfg i)).1)).1

theorem rewritten_eq (i : Slot) (fs : List FieldWrite) (s : State) : rewritten i fs s
    = { s with settings := (functionWritten i fs s).settings, wind := (rewritten i fs s).wind } := by
  obtain ⟨w, h⟩ := kindChanged_written i fs s
  rw [rewritten, h, functionWritten_eq]

theorem rewritten_fn (k : Slot) : (rewritten i fs s).fn k = s.fn k := by
  rw [rewritten_eq]
  rfl

theorem rewritten_link : (rewritten i fs s).link = s.link := by
  rw [rewritten_eq]

theorem rewritten_settings : (rewritten i fs s).settings = (functionWritten i fs s).settings := by
  rw [rewritten_eq]

/-- The slot's configuration is the one written, but for the partner. -/
theorem rewritten_cfg : (rewritten i fs s).cfg i
    = { (functionAfter fs (s.cfg i)).1 with partner := ((rewritten i fs s).cfg i).partner } := by
  have h := (functionWritten_partners i fs s).functions i
  simp only [State.cfg, rewritten_settings] at h ⊢
  refine h.trans ?_
  simp only [State.setCfg, getElem_set_slot, if_true]

theorem rewritten_cfg_ne {j : Slot} (hj : j ≠ i) :
    (rewritten i fs s).cfg j = { s.cfg j with partner := ((rewritten i fs s).cfg j).partner } := by
  have h := (functionWritten_partners i fs s).functions j
  simp only [State.cfg, rewritten_settings] at h ⊢
  refine h.trans ?_
  simp only [State.setCfg, getElem_set_slot, hj, if_false]

theorem kindChanged_owed {old : Kind} {u : State} (h : u.wind.owed[i] = false) :
    (kindChanged i old u).wind.owed[i] = false := by
  simp only [kindChanged]
  split <;> split
  · simp [State.setWind]
  · simp [State.setWind]
  · exact h
  · exact h

theorem rewritten_owed (h : s.wind.owed[i] = false) : (rewritten i fs s).wind.owed[i] = false := by
  refine kindChanged_owed ?_
  rw [applyPartner_eq]
  exact h

/-! ### The record that a SET_FUNCTION leaves (R5, R6, R8) -/

/-- The kind or the channels of the slot change. -/
def rebinds (i : Slot) (fs : List FieldWrite) (s : State) : Prop :=
  (functionAfter fs (s.cfg i)).1.kind ≠ (s.cfg i).kind ∨ (functionAfter fs (s.cfg i)).1.drives ≠ (s.cfg i).drives

/-- The state in which a slot whose kind or channels change has its positions computed again. -/
def unboundBefore (i : Slot) (fs : List FieldWrite) (s : State) : State :=
  unbindFn i (clearContact i (s.cfg i).kind (rewritten i fs s))

theorem applyFunction_rebinds (h : rebinds i fs s) : applyFunction i fs s
    = (testSlides i (checkBinding i (placeAgain i fs (unboundBefore i fs s))),
      (functionAfter fs (s.cfg i)).2 || (applyPartner i fs (s.setCfg i (functionAfter fs (s.cfg i)).1)).2,
      [.becomeIdle i]) := by
  unfold rebinds at h
  simp only [applyFunction, if_pos h, recheck, List.foldl_cons, List.foldl_nil, List.map_cons, List.map_nil,
    rewritten, unboundBefore]

theorem applyFunction_places (h : ¬rebinds i fs s) : applyFunction i fs s
    = (testSlides i (placeAgain i fs (rewritten i fs s)),
      (functionAfter fs (s.cfg i)).2 || (applyPartner i fs (s.setCfg i (functionAfter fs (s.cfg i)).1)).2,
      if (s.fn i).activity = .unavailable then [.becomeIdle i] else []) := by
  have hfn := rewritten_fn (i := i) (fs := fs) (s := s) i
  unfold rebinds at h
  simp only [applyFunction, if_neg h]
  simp only [rewritten] at hfn ⊢
  rw [hfn]

end

end Sys2Proof.Proofs
end

section
/-! PROOFS. SET_FUNCTION: the record that it leaves of its slot (R5, R6, R8). -/

namespace Sys2Proof.Proofs
open Sys2Proof.Machine Sys2Proof.Laws

section
variable {s : State} {i : Slot} {fs : List FieldWrite}

/-! ### The record of the slot -/

theorem applyFunction_rebound (h : rebinds i fs s) : (applyFunction i fs s).1
    = testSlides i (checkBinding i (placeAgain i fs (unboundBefore i fs s))) := by
  rw [applyFunction_rebinds h]

theorem applyFunction_placed (h : ¬rebinds i fs s) : (applyFunction i fs s).1
    = testSlides i (placeAgain i fs (rewritten i fs s)) := by
  rw [applyFunction_places h]

theorem clearContact_binding (i : Slot) (old : Kind) (u : State) : SameBinding (clearContact i old u) u := by
  unfold clearContact
  split
  · exact .of_parts rfl rfl rfl
  · exact .refl u

theorem clearContact_fn (i k : Slot) (old : Kind) (u : State) : (clearContact i old u).fn k = u.fn k := by
  unfold clearContact
  split <;> rfl

theorem clearContact_wind (i : Slot) (old : Kind) (u : State) : (clearContact i old u).wind = u.wind := by
  unfold clearContact
  split <;> rfl

theorem unboundBefore_binding : SameBinding (unboundBefore i fs s) (rewritten i fs s) :=
  (Acts.refl.unbindFn).binding.trans (clearContact_binding ..)

theorem placeAgain_binding (u : State) : SameBinding (placeAgain i fs u) u := (Acts.refl.putFn).binding

/-- The configuration and the nodes that a SET_FUNCTION leaves are those that it writes. -/
theorem applyFunction_binding (i : Slot) (fs : List FieldWrite) (s : State) :
    SameBinding (applyFunction i fs s).1 (rewritten i fs s) := by
  by_cases h : rebinds i fs s
  · rw [applyFunction_rebound h]
    exact (testSlides_acts ..).binding.trans ((Acts.refl.checkBinding).binding.trans
      ((placeAgain_binding _).trans unboundBefore_binding))
  · rw [applyFunction_placed h]
    exact (testSlides_acts ..).binding.trans (placeAgain_binding _)

theorem placeAgain_rests {u : State} (h : (u.fn i).activity.isBusy = false) :
    ((placeAgain i fs u).fn i).activity.isBusy = false := by
  rw [placeAgain_rest]
  exact h

/-- A slot that keeps its kind and channels. -/
theorem applyFunction_fn_places (hb : (s.fn i).activity.isBusy = false) (h : ¬rebinds i fs s) :
    (applyFunction i fs s).1.fn i = (placeAgain i fs (rewritten i fs s)).fn i := by
  rw [applyFunction_placed h]
  exact (testSlides_rest (placeAgain_rests (by rwa [rewritten_fn]))).1

theorem unboundBefore_fn : (unboundBefore i fs s).fn i = (s.fn i).unbound := by
  rw [unboundBefore, unbindFn_fn, if_pos rfl, clearContact_fn, rewritten_fn]

theorem checkBinding_unused {u : State} (h : (u.cfg i).kind = .unused) : checkBinding i u = u := by
  simp [checkBinding, h]

/-- The fault of a slot whose binding has been checked, where it is checked (R162). -/
def checkedFault (u : State) (i : Slot) : Option FaultCode :=
  if u.link.outcome = .complete ∧ (u.cfg i).kind ≠ .unused ∧ bindingHolds u i = false then some .configMismatch
  else none

theorem checkedFault_same {t u : State} (h : SameBinding t u) : checkedFault t i = checkedFault u i := by
  simp only [checkedFault, bindingHolds_same h, h.outcome, cfg_of_settings h.settings]

theorem checkBinding_checked {u : State} (ha : (u.fn i).activity = .unavailable) (hf : (u.fn i).fault = none) :
    ∃ a b, (checkBinding i u).fn i = { u.fn i with
      fault := checkedFault u i
      chA := { (u.fn i).chA with awaited := a }, chB := { (u.fn i).chB with awaited := b } } := by
  by_cases hk : (u.cfg i).kind = .unused
  · refine ⟨(u.fn i).chA.awaited, (u.fn i).chB.awaited, ?_⟩
    have hn : checkedFault u i = none := by simp [checkedFault, hk]
    rw [checkBinding_unused hk, hn, ← hf]
  · obtain ⟨a, b, h⟩ := checkBinding_fn hk ha (.inl hf)
    exact ⟨a, b, by rw [h]; simp [bindingFault, checkedFault, hk]⟩

/-- A slot whose kind or channels change stands at the values of R8, its positions computed again and its binding
checked. -/
theorem applyFunction_fn_rebinds (h : rebinds i fs s) :
    ∃ a b, (applyFunction i fs s).1.fn i = { (placeAgain i fs (unboundBefore i fs s)).fn i with
      fault := checkedFault (applyFunction i fs s).1 i
      chA := { ((placeAgain i fs (unboundBefore i fs s)).fn i).chA with awaited := a }
      chB := { ((placeAgain i fs (unboundBefore i fs s)).fn i).chB with awaited := b } } := by
  have hrest := placeAgain_rest i fs (unboundBefore i fs s)
  rw [unboundBefore_fn] at hrest
  have ha : ((placeAgain i fs (unboundBefore i fs s)).fn i).activity = .unavailable := by rw [hrest]; rfl
  have hf : ((placeAgain i fs (unboundBefore i fs s)).fn i).fault = none := by rw [hrest]; rfl
  obtain ⟨a, b, hc⟩ := checkBinding_checked ha hf
  have hbusy : ((checkBinding i (placeAgain i fs (unboundBefore i fs s))).fn i).activity.isBusy = false := by
    rw [hc]
    show Activity.isBusy ((placeAgain i fs (unboundBefore i fs s)).fn i).activity = false
    rw [ha]
    rfl
  have hsame : checkedFault (applyFunction i fs s).1 i = checkedFault (placeAgain i fs (unboundBefore i fs s)) i :=
    (checkedFault_same (applyFunction_binding i fs s)).trans
      (checkedFault_same ((placeAgain_binding _).trans unboundBefore_binding)).symm
  refine ⟨a, b, ?_⟩
  rw [hsame, ← hc, applyFunction_rebound h]
  exact (testSlides_rest hbusy).1

/-- The owed mark of the slot is not set (R118). -/
theorem applyFunction_owed (hb : (s.fn i).activity.isBusy = false) (h : s.wind.owed[i] = false) :
    (applyFunction i fs s).1.wind.owed[i] = false := by
  have hw := rewritten_owed (fs := fs) h
  by_cases hr : rebinds i fs s
  · have hun : (unboundBefore i fs s).wind.owed[i] = false :=
      unbindFn_owed (by rw [clearContact_wind]; exact hw)
    have hcheck : (checkBinding i (placeAgain i fs (unboundBefore i fs s))).wind.owed[i] = false :=
      checkBinding_owed (putFn_owed hun)
    rw [applyFunction_rebound hr]
    refine (testSlides_rest ?_).2 hcheck
    have hrest := placeAgain_rest i fs (unboundBefore i fs s)
    rw [unboundBefore_fn] at hrest
    have ha : ((placeAgain i fs (unboundBefore i fs s)).fn i).activity = .unavailable := by rw [hrest]; rfl
    have hf : ((placeAgain i fs (unboundBefore i fs s)).fn i).fault = none := by rw [hrest]; rfl
    obtain ⟨a, b, hc⟩ := checkBinding_checked ha hf
    show Activity.isBusy ((checkBinding i (placeAgain i fs (unboundBefore i fs s))).fn i).activity = false
    rw [hc]
    show Activity.isBusy ((placeAgain i fs (unboundBefore i fs s)).fn i).activity = false
    rw [ha]
    rfl
  · rw [applyFunction_placed hr]
    exact (testSlides_rest (placeAgain_rests (by rwa [rewritten_fn]))).2 (putFn_owed hw)

/-! ### The positions of the slot (R5) -/

theorem applyFunction_lastRaw (e : Side) : (applyFunction i fs s).1.lastRaw i e = (rewritten i fs s).lastRaw i e :=
  lastRaw_same (applyFunction_binding i fs s) i e

theorem applyFunction_cfg (k : Slot) : (applyFunction i fs s).1.cfg k = (rewritten i fs s).cfg k :=
  cfg_of_settings (applyFunction_binding i fs s).settings k

theorem checked_position (f : Function) (c : Option FaultCode) (a b : Bool) (e : Side) :
    (Function.chan { f with fault := c, chA := { f.chA with awaited := a }, chB := { f.chB with awaited := b } }
      e).position = (f.chan e).position := by
  cases e <;> rfl

theorem unbound_position (f : Function) (e : Side) : (f.unbound.chan e).position = none := by
  cases e <;> rfl

/-- A side's position, computed again in a state that reads the same configuration and nodes. -/
theorem applyFunction_position (hb : (s.fn i).activity.isBusy = false) (e : Side) : ∃ (u : State) (ch : Channel),
    SameBinding u (rewritten i fs s) ∧ (((applyFunction i fs s).1.fn i).chan e).position
      = (positionAgain u i (placeWrites fs e) e ch).position
      ∧ (rebinds i fs s → ch.position = none) := by
  by_cases h : rebinds i fs s
  · obtain ⟨a, b, hfn⟩ := applyFunction_fn_rebinds h
    refine ⟨unboundBefore i fs s, ((unboundBefore i fs s).fn i).chan e, unboundBefore_binding, ?_, fun _ => ?_⟩
    · rw [← placeAgain_chan, hfn, checked_position]
    · rw [unboundBefore_fn]
      exact unbound_position ..
  · refine ⟨rewritten i fs s, ((rewritten i fs s).fn i).chan e, .refl _, ?_, fun hr => absurd hr h⟩
    rw [← placeAgain_chan, applyFunction_fn_places hb h]

theorem rewritten_kind : ((rewritten i fs s).cfg i).kind = (functionAfter fs (s.cfg i)).1.kind := by
  rw [rewritten_cfg]

/-- A motor channel whose offset or sense is written takes its position from its last raw count. -/
theorem applyFunction_takes {e : Side} {raw : Int} (hb : (s.fn i).activity.isBusy = false)
    (hm : (functionAfter fs (s.cfg i)).1.kind.isMotor = true) (hr : (applyFunction i fs s).1.lastRaw i e = some raw)
    (hw : placeWrites fs e = true) : (((applyFunction i fs s).1.fn i).chan e).position
      = some (positionOf ((applyFunction i fs s).1.cfg i) e raw) := by
  obtain ⟨u, ch, hu, hp, -⟩ := applyFunction_position (fs := fs) hb e
  rw [applyFunction_lastRaw] at hr
  have hcfg := cfg_of_settings hu.settings i
  rw [hp, applyFunction_cfg, ← hcfg]
  exact positionAgain_raw ((lastRaw_same hu i e).trans hr) hw (by rw [hcfg, rewritten_kind]; exact hm)

/-- Another channel of a slot that is bound again has no position. -/
theorem applyFunction_unplaced {e : Side} (hb : (s.fn i).activity.isBusy = false) (h : rebinds i fs s)
    (hn : (functionAfter fs (s.cfg i)).1.kind.isMotor = false ∨ (applyFunction i fs s).1.lastRaw i e = none
      ∨ placeWrites fs e = false) : (((applyFunction i fs s).1.fn i).chan e).position = none := by
  obtain ⟨u, ch, hu, hp, hch⟩ := applyFunction_position (fs := fs) hb e
  rw [applyFunction_lastRaw] at hn
  rw [hp]
  refine positionAgain_absent (hch h) (hn.imp (fun hm => ?_) (Or.imp_left fun hr => ?_))
  · rw [cfg_of_settings hu.settings, rewritten_kind]
    exact hm
  · exact (lastRaw_same hu i e).trans hr

/-- The partner is not read by the position. -/
theorem placeAgain_congr {u v : State} {p : Option Slot} (hf : u.fn i = v.fn i) (hl : u.link.nodes = v.link.nodes)
    (hc : u.cfg i = { v.cfg i with partner := p }) : (placeAgain i fs u).fn i = (placeAgain i fs v).fn i := by
  have hraw : ∀ e, u.lastRaw i e = v.lastRaw i e := fun e => by
    simp only [State.lastRaw, State.channelRecord, node_of_nodes hl, hc]
    rfl
  simp only [placeAgain, putFn_fn, positionAgain, hf, hraw, hc]
  rfl

theorem applyFunction_fn_kept (hb : (s.fn i).activity.isBusy = false) (h : ¬rebinds i fs s) :
    (applyFunction i fs s).1.fn i = (placeAgain i fs (s.setCfg i (functionAfter fs (s.cfg i)).1)).fn i := by
  rw [applyFunction_fn_places hb h]
  refine placeAgain_congr (p := ((rewritten i fs s).cfg i).partner) (rewritten_fn i) ?_ ?_
  · rw [rewritten_link]
    rfl
  · rw [setCfg_cfg]
    exact rewritten_cfg

end

end Sys2Proof.Proofs
end

section
/-! PROOFS. SET_FUNCTION and SET_GEOMETRY of the whole part: the partners that they write, and the answers. Settles
O46. -/

namespace Sys2Proof.Proofs
open Sys2Proof.Machine Sys2Proof.Laws

section
variable {s : State} {i : Slot} {fs : List FieldWrite} {tag : Byte}

/-! ### The partners (R3, R71) -/

theorem setPartner_partner (p : Option Slot) (k : Slot) :
    ((setPartner i p s).cfg k).partner = partnerAfter i p k (s.cfg k).partner := by
  simp [setPartner, State.cfg]

theorem setPair_partner (p : Option Slot) (k : Slot) :
    ((setPair i p s).settings.geometry[k]).partner = partnerAfter i p k (s.settings.geometry[k]).partner := by
  simp [setPair]

theorem setCfg_cfg_ne {c : FunctionConfig} {k : Slot} (h : k ≠ i) : (s.setCfg i c).cfg k = s.cfg k := by
  simp only [State.cfg, State.setCfg, getElem_set_slot, h, if_false]

/-- The slot named by its own write. -/
theorem partnerAfter_self (p old : Option Slot) : partnerAfter i p i old = p := if_pos rfl

theorem partnerAfter_named {p : Slot} (h : p ≠ i) (old : Option Slot) : partnerAfter i (some p) p old = some i := by
  simp [partnerAfter, h]

theorem partnerAfter_other {p k : Slot} (h : k ≠ i) (hp : k ≠ p) (old : Option Slot) :
    partnerAfter i (some p) k old = if old = some i ∨ old = some p then none else old := by
  have hpk : ¬some p = some k := fun he => hp (Option.some.inj he).symm
  have hc : (old = some i ∨ (old.isSome = true ∧ old = some p)) ↔ (old = some i ∨ old = some p) :=
    or_congr_right ⟨And.right, fun h => ⟨by rw [h]; rfl, h⟩⟩
  simp only [partnerAfter, h, hpk, hc, if_false]

theorem partnerAfter_ended {k : Slot} (h : k ≠ i) (old : Option Slot) :
    partnerAfter i none k old = if old = some i then none else old := by
  have hc : (old = some i ∨ (old.isSome = true ∧ old = none)) ↔ old = some i :=
    or_iff_left fun ⟨h1, h2⟩ => by rw [h2] at h1; cases h1
  simp only [partnerAfter, h, reduceCtorEq, hc, if_false]

theorem partnerField_slot {w : FieldWrite} {p : Slot} (h : w.nat = p.val) : partnerField w = some p :=
  finOf_eq_some_iff.mpr h

theorem partnerField_absent {w : FieldWrite} (h : 15 < w.nat) : partnerField w = none := finOf_ge h

theorem applyPartner_fits {w : FieldWrite} {p : Slot} (hw : lastWrite fs 25 = some w) (hp : w.nat = p.val)
    (h : p ≠ i ∧ partnersFit (s.cfg i).kind (s.cfg p).kind = true) :
    applyPartner i fs s = (setPartner i (some p) s, false) := by
  simp only [applyPartner, hw, partnerField_slot hp]
  exact if_pos h

theorem applyPartner_unfit {w : FieldWrite} {p : Slot} (hw : lastWrite fs 25 = some w) (hp : w.nat = p.val)
    (h : ¬(p ≠ i ∧ partnersFit (s.cfg i).kind (s.cfg p).kind = true)) :
    applyPartner i fs s = (setPartner i none s, true) := by
  simp only [applyPartner, hw, partnerField_slot hp]
  exact if_neg h

theorem applyPartner_absent {w : FieldWrite} (hw : lastWrite fs 25 = some w) (hp : 15 < w.nat) :
    applyPartner i fs s = (setPartner i none s, w.nat != 255) := by
  simp only [applyPartner, hw, partnerField_absent hp]

/-- The state in which the partner is written. -/
def beforePartner (i : Slot) (fs : List FieldWrite) (s : State) : State :=
  s.setCfg i (functionAfter fs (s.cfg i)).1

theorem applyFunction_noted : (applyFunction i fs s).2.1
    = ((functionAfter fs (s.cfg i)).2 || (applyPartner i fs (beforePartner i fs s)).2) := by
  by_cases h : rebinds i fs s
  · rw [applyFunction_rebinds h]
    rfl
  · rw [applyFunction_places h]
    rfl

/-- The pair of a JACK that is none any more is no clearance partner. -/
theorem applyFunction_partner (k : Slot) : ((applyFunction i fs s).1.cfg k).partner
    = (((applyPartner i fs (beforePartner i fs s)).1).cfg k).partner := by
  have hd : ∀ u : State, ((pairDropped i (s.cfg i).kind u).cfg k).partner = (u.cfg k).partner := fun u => by
    unfold pairDropped
    split <;> rfl
  rw [applyFunction_cfg, State.cfg, rewritten_settings]
  exact hd _

theorem beforePartner_kind : ((beforePartner i fs s).cfg i).kind = (functionAfter fs (s.cfg i)).1.kind := by
  rw [beforePartner, setCfg_cfg]

/-- The partner that a SET_FUNCTION writes, and those that it ends. -/
theorem applyFunction_partners {w : FieldWrite} (hw : lastWrite fs 25 = some w) :
    (∀ p : Slot, w.nat = p.val → p ≠ i →
        partnersFit (functionAfter fs (s.cfg i)).1.kind (s.cfg p).kind = true →
      ((applyFunction i fs s).1.cfg i).partner = some p ∧ ((applyFunction i fs s).1.cfg p).partner = some i
      ∧ ∀ k, k ≠ i → k ≠ p → ((applyFunction i fs s).1.cfg k).partner
        = if (s.cfg k).partner = some i ∨ (s.cfg k).partner = some p then none else (s.cfg k).partner)
    ∧ (15 < w.nat → ((applyFunction i fs s).1.cfg i).partner = none
      ∧ (w.nat ≠ 255 → (applyFunction i fs s).2.1 = true)
      ∧ ∀ k, k ≠ i → ((applyFunction i fs s).1.cfg k).partner
        = if (s.cfg k).partner = some i then none else (s.cfg k).partner)
    ∧ (∀ p : Slot, w.nat = p.val →
        p = i ∨ partnersFit (functionAfter fs (s.cfg i)).1.kind (s.cfg p).kind = false →
      ((applyFunction i fs s).1.cfg i).partner = none ∧ (applyFunction i fs s).2.1 = true) := by
  simp only [applyFunction_partner, applyFunction_noted]
  refine ⟨fun p hp hne hfit => ?_, fun hp => ?_, fun p hp hbad => ?_⟩
  · have hcfg : (beforePartner i fs s).cfg p = s.cfg p := setCfg_cfg_ne hne
    have hfit' : partnersFit ((beforePartner i fs s).cfg i).kind ((beforePartner i fs s).cfg p).kind = true := by
      rw [beforePartner_kind, hcfg]
      exact hfit
    rw [applyPartner_fits hw hp ⟨hne, hfit'⟩]
    refine ⟨(setPartner_partner _ i).trans (partnerAfter_self ..),
      (setPartner_partner _ p).trans (partnerAfter_named hne _), fun k hk hkp => ?_⟩
    rw [setPartner_partner, partnerAfter_other hk hkp, show (beforePartner i fs s).cfg k = s.cfg k from setCfg_cfg_ne hk]
  · rw [applyPartner_absent hw hp]
    refine ⟨(setPartner_partner _ i).trans (partnerAfter_self ..), fun hn => by simp [hn], fun k hk => ?_⟩
    rw [setPartner_partner, partnerAfter_ended hk, show (beforePartner i fs s).cfg k = s.cfg k from setCfg_cfg_ne hk]
  · have hunfit : ¬(p ≠ i ∧ partnersFit ((beforePartner i fs s).cfg i).kind ((beforePartner i fs s).cfg p).kind = true) := by
      rintro ⟨hne, hfit⟩
      rw [beforePartner_kind, show (beforePartner i fs s).cfg p = s.cfg p from setCfg_cfg_ne hne,
        hbad.resolve_left hne] at hfit
      cases hfit
    rw [applyPartner_unfit hw hp hunfit]
    exact ⟨(setPartner_partner _ i).trans (partnerAfter_self ..), by simp⟩

/-! ### The answers of SET_FUNCTION -/

theorem fieldCommand_function (i : Slot) : fieldCommand .setFunction (BitVec.ofNat 8 i.val)
    = some ⟨functionFieldNamed, fun _ s => s.slotBusy i, applyFunction i⟩ := by
  simp only [fieldCommand, finOf_ofNat, Option.map_some]

theorem fieldCommand_geometry (i : Slot) : fieldCommand .setGeometry (BitVec.ofNat 8 i.val)
    = some ⟨geometryFieldNamed, fun _ s => s.slotBusy i || s.seqRuns, applyGeometry i⟩ := by
  simp only [fieldCommand, finOf_ofNat, Option.map_some]

theorem allPositions_congr {u v : State} (hf : u.functions = v.functions) (hs : u.settings = v.settings) :
    u.allPositions i = v.allPositions i := by
  simp only [State.allPositions, fn_congr hf, cfg_of_settings hs]

theorem applyFunction_tasks (i : Slot) (fs : List FieldWrite) (s : State) :
    (applyFunction i fs s).2.2 = [.becomeIdle i] ∨ (applyFunction i fs s).2.2 = [] := by
  by_cases h : rebinds i fs s
  · rw [applyFunction_rebinds h]
    exact .inl rfl
  · rw [applyFunction_places h]
    simp only
    split
    · exact .inl rfl
    · exact .inr rfl

/-- A slot that keeps its kind and channels and is not UNAVAILABLE is judged no further. -/
theorem applyFunction_untasked (ha : (s.fn i).activity ≠ .unavailable) (h : ¬rebinds i fs s) :
    (applyFunction i fs s).2.2 = [] := by
  rw [applyFunction_places h]
  exact if_neg ha

theorem applyFunction_tasked (h : (s.fn i).activity = .unavailable ∨ rebinds i fs s) :
    (applyFunction i fs s).2.2 = [.becomeIdle i] := by
  by_cases hr : rebinds i fs s
  · rw [applyFunction_rebinds hr]
  · rw [applyFunction_places hr]
    exact if_pos (h.resolve_right hr)

/-- A SET_FUNCTION whose slot does not become IDLE at once. -/
theorem setFunction_writes (hs : s.takesCommands = true) (hl : fs.length ≤ 66) (hn : fs.all functionFieldNamed = true)
    (hb : (s.fn i).activity.isBusy = false)
    (ht : (applyFunction i fs s.renewed).2.2 = [] ∨ (applyFunction i fs s.renewed).1.allPositions i = false)
    (hq : nothingFollows s.renewed (queueReply 0x30 tag (doneOutcome (applyFunction i fs s.renewed).2.1)
      [byteOf fs.length] (applyFunction i fs s.renewed).1) = true) :
    exec (.setFunction tag (BitVec.ofNat 8 i.val) fs) s
      = .next (queueReply 0x30 tag (doneOutcome (applyFunction i fs s.renewed).2.1) [byteOf fs.length]
        (applyFunction i fs s.renewed).1) := by
  refine fields_applied (c := ⟨functionFieldNamed, fun _ s => s.slotBusy i, applyFunction i⟩)
    (r := applyFunction i fs s.renewed) (carries_function hl) hs (fieldCommand_function i) hn hb rfl hq
    (fun a ha => ?_) ?_
  · rcases ht with ht | ht
    · rw [ht] at ha
      exact absurd ha List.not_mem_nil
    · rcases applyFunction_tasks i fs s.renewed with he | he <;> rw [he] at ha
      · rw [List.mem_singleton.mp ha]
        exact ⟨nofun, fun u hf hset => becomeIdle_unplaced ((allPositions_congr hf hset).trans ht)⟩
      · exact absurd ha List.not_mem_nil
  · rcases applyFunction_tasks i fs s.renewed with he | he <;> rw [he] <;> simp

/-- A SET_FUNCTION after which its slot is judged for IDLE. -/
theorem setFunction_places (hs : s.takesCommands = true) (hl : fs.length ≤ 66) (hn : fs.all functionFieldNamed = true)
    (hb : (s.fn i).activity.isBusy = false) (ht : (applyFunction i fs s.renewed).2.2 = [.becomeIdle i])
    {t : State} (he : queueReply 0x30 tag (doneOutcome (applyFunction i fs s.renewed).2.1) [byteOf fs.length]
      (applyFunction i fs s.renewed).1 = t)
    (hq : nothingFollows s.renewed t = true) (hu : nothingFollows t (becomeIdle i t).1 = true)
    (ho : s.wind.owed[i] = false) :
    exec (.setFunction tag (BitVec.ofNat 8 i.val) fs) s = .next (becomeIdle i t).1 := by
  obtain ⟨hlen, h1, h2, ha⟩ := carries_function (x := BitVec.ofNat 8 i.val) hl
  have hans := (ha s.renewed).trans (applyFields_applied (fieldCommand_function i) hn hb)
  simp only [ht] at hans
  obtain ⟨-, -, hr⟩ := (nothingFollows_iff _ _).mp hq
  have howed : (becomeIdle i t).1.wind.owed[i] = false := by
    refine becomeIdle_owed ?_
    have hw : t.wind = (applyFunction i fs s.renewed).1.wind := by
      rw [← he]
      simp [queueReply]
    rw [hw]
    exact applyFunction_owed hb ho
  have htask : (becomeIdle i t).2 = [.owedRetract i] ∨ (becomeIdle i t).2 = [] := by
    unfold becomeIdle
    simp only
    split
    · exact .inl rfl
    · exact .inr rfl
  have hidle : ∀ a ∈ (becomeIdle i t).2, a ≠ .servicePass
      ∧ handle a (becomeIdle i t).1 = ((becomeIdle i t).1, []) := fun a hm => by
    rcases htask with hk | hk <;> rw [hk] at hm
    · rw [List.mem_singleton.mp hm]
      exact ⟨nofun, owedRetract_none howed⟩
    · exact absurd hm List.not_mem_nil
  have hruns := Runs.answered hu hidle
  have hlen2 : (becomeIdle i t).2.length ≤ 1 := by
    rcases htask with hk | hk <;> rw [hk] <;> simp
  have hstep : Runs ((becomeIdle i t).2.length + 1 + 1) [.becomeIdle i] t (becomeIdle i t).1 := by
    refine .task (react_none_of_nil hr _) rfl ?_
    rw [List.append_nil]
    exact hruns
  refine perform_answer_runs hs hlen h1 h2 hans ?_ (k := (becomeIdle i t).2.length + 1 + 1 + 1) (by omega)
  have hcode : CommandCode.setFunction.toByte = 0x30 := rfl
  rw [hcode, he]
  exact .passed hq (by simp) hstep

/-! ### SET_GEOMETRY (R71) -/

theorem applyPair_fits {w : FieldWrite} {p : Slot} (hw : lastWrite fs 3 = some w) (hp : w.nat = p.val)
    (h : p ≠ i ∧ s.isJack i = true ∧ s.isJack p = true) : applyPair i fs s = (setPair i (some p) s, false) := by
  simp only [applyPair, hw, partnerField_slot hp]
  exact if_pos h

theorem applyPair_unfit {w : FieldWrite} {p : Slot} (hw : lastWrite fs 3 = some w) (hp : w.nat = p.val)
    (h : ¬(p ≠ i ∧ s.isJack i = true ∧ s.isJack p = true)) : applyPair i fs s = (setPair i none s, true) := by
  simp only [applyPair, hw, partnerField_slot hp]
  exact if_neg h

theorem applyPair_absent {w : FieldWrite} (hw : lastWrite fs 3 = some w) (hp : 15 < w.nat) :
    applyPair i fs s = (setPair i none s, w.nat != 255) := by
  simp only [applyPair, hw, partnerField_absent hp]

theorem applyPair_unwritten (hw : writes fs 3 = false) : applyPair i fs s = (s, false) := by
  have hn : lastWrite fs 3 = none := by simpa [writes] using hw
  simp only [applyPair, hn]

theorem applyPair_shape (i : Slot) (fs : List FieldWrite) (s : State) : (applyPair i fs s).1
    = { s with settings := { s.settings with geometry := (applyPair i fs s).1.settings.geometry } } := by
  unfold applyPair
  (repeat' split) <;> rfl

theorem applyGeometry_eq (i : Slot) (fs : List FieldWrite) (s : State) : applyGeometry i fs s
    = ((applyPair i fs (placeWritten i fs s)).1, (applyAll putGeometryField fs s.settings.geometry[i]).2
        || (applyPair i fs (placeWritten i fs s)).2, []) := rfl

theorem applyGeometry_shape (i : Slot) (fs : List FieldWrite) (s : State) : (applyGeometry i fs s).1
    = { s with settings := { s.settings with geometry := (applyGeometry i fs s).1.settings.geometry } } := by
  rw [applyGeometry_eq]
  exact applyPair_shape ..

/-- A state that differs in its settings alone, whatever of them is written. -/
theorem settings_only {u : State} {c : Settings} (h : u = { s with settings := c }) :
    u = { s with settings := u.settings } := by
  subst h
  rfl

/-- The pair partner that a SET_GEOMETRY writes. -/
theorem applyGeometry_partners {w : FieldWrite} (hw : lastWrite fs 3 = some w) :
    (∀ p : Slot, w.nat = p.val → p ≠ i → s.isJack i = true → s.isJack p = true →
      ((applyGeometry i fs s).1.settings.geometry[i]).partner = some p
      ∧ ((applyGeometry i fs s).1.settings.geometry[p]).partner = some i)
    ∧ (15 < w.nat → ((applyGeometry i fs s).1.settings.geometry[i]).partner = none
      ∧ (w.nat ≠ 255 → (applyGeometry i fs s).2.1 = true))
    ∧ (∀ p : Slot, w.nat = p.val → p = i ∨ s.isJack i = false ∨ s.isJack p = false →
      ((applyGeometry i fs s).1.settings.geometry[i]).partner = none ∧ (applyGeometry i fs s).2.1 = true) := by
  have hjack : ∀ k, (placeWritten i fs s).isJack k = s.isJack k := fun _ => rfl
  refine ⟨fun p hp hne h1 h2 => ?_, fun hp => ?_, fun p hp hbad => ?_⟩
  · rw [applyGeometry_eq, applyPair_fits (s := placeWritten i fs s) hw hp ⟨hne, h1, h2⟩]
    exact ⟨(setPair_partner _ i).trans (partnerAfter_self ..), (setPair_partner _ p).trans (partnerAfter_named hne _)⟩
  · rw [applyGeometry_eq, applyPair_absent (s := placeWritten i fs s) hw hp]
    exact ⟨(setPair_partner _ i).trans (partnerAfter_self ..), fun hn => by simp [hn]⟩
  · have hunfit : ¬(p ≠ i ∧ (placeWritten i fs s).isJack i = true ∧ (placeWritten i fs s).isJack p = true) := by
      rintro ⟨hne, h1, h2⟩
      rw [hjack] at h1 h2
      rcases hbad with h | h | h
      · exact hne h
      · rw [h1] at h; cases h
      · rw [h2] at h; cases h
    rw [applyGeometry_eq, applyPair_unfit hw hp hunfit]
    exact ⟨(setPair_partner _ i).trans (partnerAfter_self ..), by simp⟩

theorem setGeometry_writes (hs : s.takesCommands = true) (hl : fs.length ≤ 66) (hn : fs.all geometryFieldNamed = true)
    (hb : (s.fn i).activity.isBusy = false) (hq : s.seqRuns = false) :
    exec (.setGeometry tag (BitVec.ofNat 8 i.val) fs) s
      = .next (queueReply 0x31 tag (doneOutcome (applyGeometry i fs s.renewed).2.1) [byteOf fs.length]
        (applyGeometry i fs s.renewed).1) := by
  have hidle : (s.renewed.slotBusy i || s.renewed.seqRuns) = false := by
    have h1 : s.renewed.slotBusy i = false := hb
    have h2 : s.renewed.seqRuns = false := hq
    rw [h1, h2, Bool.false_or]
  refine fields_written (c := ⟨geometryFieldNamed, fun _ s => s.slotBusy i || s.seqRuns, applyGeometry i⟩)
    (carries_geometry hl) hs (fieldCommand_geometry i) hn hidle rfl ?_ rfl
  rw [applyGeometry_shape]
  exact settings_followed rfl rfl rfl

theorem applyGeometry_unpaired (hw : writes fs 3 = false) : applyGeometry i fs s
    = (placeWritten i fs s, (applyAll putGeometryField fs s.settings.geometry[i]).2, []) := by
  rw [applyGeometry_eq, applyPair_unwritten hw, Bool.or_false]

end

/-! ### Both commands -/

/-- What a SET_FUNCTION of a slot that is not busy leaves of a slot whose kind or channels change. -/
theorem applyFunction_bound {s : State} {i : Slot} {fs : List FieldWrite} (h : rebinds i fs s) :
    ((applyFunction i fs s).1.fn i).activity = .unavailable ∧ ((applyFunction i fs s).1.fn i).drift = none
    ∧ ((applyFunction i fs s).1.fn i).contact = false ∧ ((applyFunction i fs s).1.fn i).skewHold = none
    ∧ ((applyFunction i fs s).1.fn i).fault = checkedFault (applyFunction i fs s).1 i := by
  obtain ⟨a, b, hfn⟩ := applyFunction_fn_rebinds h
  have hrest := placeAgain_rest i fs (unboundBefore i fs s)
  rw [unboundBefore_fn] at hrest
  rw [hrest] at hfn
  refine ⟨?_, ?_, ?_, ?_, ?_⟩ <;> rw [hfn] <;> rfl

theorem applyFunction_checked {s : State} {i : Slot} {fs : List FieldWrite} :
    checkedFault (applyFunction i fs s).1 i
      = if s.link.outcome = .complete ∧ (functionAfter fs (s.cfg i)).1.kind ≠ .unused
          ∧ bindingHolds (applyFunction i fs s).1 i = false then some .configMismatch else none := by
  have ho : (applyFunction i fs s).1.link.outcome = s.link.outcome := by
    rw [(applyFunction_binding i fs s).outcome, rewritten_link]
  have hk : ((applyFunction i fs s).1.cfg i).kind = (functionAfter fs (s.cfg i)).1.kind := by
    rw [applyFunction_cfg, rewritten_kind]
  simp only [checkedFault, ho, hk]

/-- Settles O46, command by command. -/
theorem setFunctionAndSetGeometryWriteTheirSlot : Obligations.SetFunctionAndSetGeometryWriteTheirSlot := by
  intro s tag i fs hs hl count outcome
  refine ⟨fun hn hb => ?_, fun hn hb => ?_, fun hn hb => ?_, ⟨fun w hw => applyGeometry_partners (s := s.renewed) hw,
    fun hn hb hq => ⟨setGeometry_writes hs hl hn hb hq, ?_, ?_⟩⟩, fun hn hw hb hq => ?_⟩
  · exact fields_refused (carries_function hl) hs (fieldCommand_function i) hn hb
  · refine fields_refused (carries_geometry hl) hs (fieldCommand_geometry i) hn ?_
    rw [Bool.or_eq_true]
    exact hb
  · have hb' : (s.renewed.fn i).activity.isBusy = false := hb
    refine ⟨fun hidle hq => setFunction_writes hs hl hn hb (hidle.imp_left fun ⟨ha, hk, hd⟩ =>
        applyFunction_untasked (s := s.renewed) ha fun h => h.elim (absurd hk) (absurd hd)) hq,
      fun hmoves hq hu ho => setFunction_places (t := queueReply 0x30 tag
        (doneOutcome (applyFunction i fs s.renewed).2.1) [byteOf fs.length] (applyFunction i fs s.renewed).1)
        hs hl hn hb (applyFunction_tasked (s := s.renewed) hmoves) rfl hq hu ho, ?_, fun j hj => ?_, fun hk hd => ?_,
      fun hr => ?_, fun e raw hm hr hw => ?_, fun w hw => applyFunction_partners (s := s.renewed) hw⟩
    · rw [applyFunction_cfg]
      exact rewritten_cfg
    · rw [applyFunction_cfg]
      exact rewritten_cfg_ne hj
    · exact applyFunction_fn_kept hb' fun h => h.elim (absurd hk) (absurd hd)
    · have hr' : rebinds i fs s.renewed := hr
      obtain ⟨h1, h2, h3, h4, h5⟩ := applyFunction_bound hr'
      refine ⟨h1, h2, h3, h4, h5.trans applyFunction_checked, fun e he => applyFunction_unplaced hb' hr' ?_⟩
      rcases he with h | h | ⟨rfl, ha, hb⟩ | ⟨rfl, ha, hb⟩
      · exact .inl h
      · exact .inr (.inl h)
      · exact .inr (.inr (by rw [placeWrites, ha, hb]; rfl))
      · exact .inr (.inr (by rw [placeWrites, ha, hb]; rfl))
    · refine applyFunction_takes hb' hm hr ?_
      rcases hw with ⟨rfl, h⟩ | ⟨rfl, h⟩
      · rw [placeWrites, Bool.or_eq_true]
        exact h
      · rw [placeWrites, Bool.or_eq_true]
        exact h
  · exact settings_only (applyGeometry_shape i fs s.renewed)
  · exact congrArg State.settings (applyGeometry_shape i fs s.renewed)
  · have h := setGeometry_writes (tag := tag) hs hl hn hb hq
    rw [applyGeometry_unpaired hw] at h
    exact h

end Sys2Proof.Proofs
end

section
/-! PROOFS. The laws of motion, slot by slot: what they ask of one slot and what of the arbiter and the sequence, which
changes they do not notice, and what an operation on one slot has to show. -/

namespace Sys2Proof.Proofs
open Sys2Proof.Machine Sys2Proof.Laws

/-! ### One record -/

/-- What the laws ask of one slot's record alone (R7, R8, R15, R17, R97). -/
structure RecordLaw (k : Kind) (f : Function) : Prop where
  owner : f.owner ≠ .none ↔ f.activity.isBusy = true
  verb : f.verb.isSome = true ↔ f.activity.isBusy = true
  speed : f.moveSpeed.isSome = true ↔ f.activity.isBusy = true
  reason : f.waitReason.isSome = true ↔ f.activity = .waiting
  unused : k = .unused → f.activity = .unavailable
  settle : f.settleTimer.isSome = true ↔ f.activity = .settling
  stall : ∀ e, (f.chan e).stallTimer.isSome = true → f.activity = .moving

/-- The function stands in the wait list (R55). -/
def Function.queues (f : Function) : Bool := f.activity == .waiting && f.waitReason != some .prime

theorem queues_iff {f : Function} : Function.queues f = true ↔ f.activity = .waiting ∧ f.waitReason ≠ some .prime := by
  simp [Function.queues]

/-- A hydraulic function that has the manifold, or waits for its pump (R53). -/
def Function.Driven (k : Kind) (f : Function) : Prop :=
  (f.activity = .moving ∧ k.isHydraulic = true) ∨ (f.activity = .waiting ∧ f.waitReason = some .prime)

/-- The record of a function at rest. -/
structure AtRest (f : Function) : Prop where
  busy : f.activity.isBusy = false
  owner : f.owner = .none
  verb : f.verb = none
  speed : f.moveSpeed = none
  reason : f.waitReason = none
  settle : f.settleTimer = none
  stall : ∀ e, (f.chan e).stallTimer = none

theorem AtRest.law {k : Kind} {f : Function} (h : AtRest f) (hk : k = .unused → f.activity = .unavailable) :
    RecordLaw k f := by
  obtain ⟨hb, ho, hv, hs, hr, ht, hc⟩ := h
  have hnw : f.activity ≠ .waiting := fun he => by rw [he] at hb; cases hb
  have hns : f.activity ≠ .settling := fun he => by rw [he] at hb; cases hb
  exact ⟨by simp [ho, hb], by simp [hv, hb], by simp [hs, hb], by simp [hr, hnw], hk, by simp [ht, hns],
    fun e => by simp [hc e]⟩

/-- A function that is not busy is at rest. -/
theorem RecordLaw.atRest {k : Kind} {f : Function} (h : RecordLaw k f) (hb : f.activity.isBusy = false) : AtRest f where
  busy := hb
  owner := by simpa [hb] using h.owner
  verb := by simpa [hb] using h.verb
  speed := by simpa [hb] using h.speed
  reason := by
    have hw : f.activity ≠ .waiting := fun he => by rw [he] at hb; cases hb
    simpa [hw] using h.reason
  settle := by
    have hw : f.activity ≠ .settling := fun he => by rw [he] at hb; cases hb
    simpa [hw] using h.settle
  stall e := by
    have hm : f.activity ≠ .moving := fun he => by rw [he] at hb; cases hb
    simpa [hm] using h.stall e

theorem resting_atRest (f : Function) {a : Activity} (ha : a.isBusy = false) : AtRest { f.resting with activity := a } :=
  ⟨ha, rfl, rfl, rfl, rfl, rfl, fun e => by cases e <;> rfl⟩

theorem stopped_atRest (f : Function) (r : StopReason) : AtRest (f.stopped r) :=
  ⟨rfl, rfl, rfl, rfl, rfl, rfl, fun e => by cases e <;> rfl⟩

theorem failed_atRest (f : Function) (c : FaultCode) : AtRest (f.failed c) :=
  ⟨rfl, rfl, rfl, rfl, rfl, rfl, fun e => by cases e <;> rfl⟩

theorem unbound_atRest (f : Function) : AtRest f.unbound := ⟨rfl, rfl, rfl, rfl, rfl, rfl, fun e => by cases e <;> rfl⟩

/-- Only a busy function stands in the wait list, moves, or has the manifold. -/
theorem queues_of_rest {f : Function} (hb : f.activity.isBusy = false) : Function.queues f = false := by
  cases ha : f.activity <;> simp_all [Function.queues, Activity.isBusy]

theorem not_driven_of_rest {k : Kind} {f : Function} (hb : f.activity.isBusy = false) : ¬ Function.Driven k f := by
  rintro (⟨ha, -⟩ | ⟨ha, -⟩) <;> rw [ha] at hb <;> cases hb

theorem Driven.busy {k : Kind} {f : Function} (h : Function.Driven k f) : f.activity.isBusy = true := by
  rcases h with ⟨ha, -⟩ | ⟨ha, -⟩ <;> rw [ha] <;> rfl

/-! ### One slot -/

/-- The entries of a slot in the wait list. -/
def waitCount (s : State) (i : Slot) : Nat := s.manifold.waitList.countP fun e => e.slot == i

/-- The claims of a slot. -/
def drawCount (s : State) (i : Slot) : Nat := s.budget.claims.countP fun c => c.claimant == .motor i

/-- What the laws ask of one slot. -/
structure SlotLaw (i : Slot) (s : State) : Prop where
  record : RecordLaw (s.cfg i).kind (s.fn i)
  listed : waitCount s i = if Function.queues (s.fn i) then 1 else 0
  draw : drawCount s i = if (s.fn i).activity = .moving ∧ (s.cfg i).kind.isMotor = true then 1 else 0
  jack : s.isJack i = true → (s.fn i).activity.isBusy = true → (s.fn i).owner = .level ∨ (s.fn i).owner = .travel →
    s.isTaken i = true ∧ s.sequence.owner = some (s.fn i).owner
  driven : Function.Driven (s.cfg i).kind (s.fn i) → ∃ g, s.manifold.holder = some g ∧ s.underGrant g i = true

/-- A slot at rest stands in no list. -/
theorem SlotLaw.of_rest {i : Slot} {s : State} (hr : AtRest (s.fn i))
    (hk : (s.cfg i).kind = .unused → (s.fn i).activity = .unavailable) (hw : waitCount s i = 0)
    (hd : drawCount s i = 0) : SlotLaw i s where
  record := hr.law hk
  listed := by rw [queues_of_rest hr.busy]; exact hw
  draw := by
    have hm : (s.fn i).activity ≠ .moving := fun he => by have := hr.busy; rw [he] at this; cases this
    rw [if_neg fun h => hm h.1]; exact hd
  jack _ hb := by simp [hr.busy] at hb
  driven hv := absurd hv (not_driven_of_rest hr.busy)

/-! ### The part -/

/-- The wait list's order and entries (R55). -/
def ListOrder (s : State) : Prop :=
  s.manifold.waitList.Pairwise (fun a b => (s.fn b.slot).owner.rank < (s.fn a.slot).owner.rank
      ∨ (s.fn b.slot).owner.rank = (s.fn a.slot).owner.rank ∧ a.arrival ≤ b.arrival)
    ∧ ∀ e ∈ s.manifold.waitList, e.arrival ≤ s.now ∧ e.timer.isSome = true

/-- The arbiter and the sequence (R52, R53, R62, R73). -/
structure PartLaw (s : State) : Prop where
  order : ListOrder s
  cool : s.manifold.coolTimer.isSome = true → s.manifold.pump = .coolDown
  pump : s.budget.claims.countP (fun c => c.claimant == .pump) = if s.manifold.pump.isOn then 1 else 0
  owner : s.seqRuns = true → s.sequence.owner = some .level ∨ s.sequence.owner = some .travel
  grant : ∀ g, s.manifold.holder = some g → g.sequence = true → g.cls = .jacks ∧ (g.owner = .level ∨ g.owner = .travel)

/-- No MOVING twin but the excepted one is beyond its hard skew (R103). -/
def SkewsHold (sk : Option Slot) (s : State) : Prop :=
  ∀ i, sk ≠ some i → (s.fn i).activity = .moving → s.skewTooHard i = false

/-- No slide is WAITING or MOVING below an awning that is out, but for one awning excepted (R111). -/
def ClearanceBut (aw : Option Slot) (s : State) : Prop :=
  ∀ i p, aw ≠ some p → (s.cfg i).partner = some p → (s.cfg i).kind.isSlide = true →
    (s.fn i).activity = .waiting ∨ (s.fn i).activity = .moving → s.awningBlocks p = false

/-- The laws of motion, with a slot whose skew and one whose clearance are still to be judged. -/
structure Lawful (sk aw : Option Slot) (s : State) : Prop where
  slots : ∀ i, SlotLaw i s
  part : PartLaw s
  skew : SkewsHold sk s
  clear : ClearanceBut aw s

theorem waitCount_eq (s : State) (i : Slot) : waitCount s i = (s.manifold.waitList.map (·.slot)).count i := by
  rw [waitCount, List.count_eq_countP, List.countP_map]
  rfl

/-- The two statements of the laws agree. -/
theorem motionLaws_iff (s : State) : s.MotionLaws ↔ Lawful none none s := by
  constructor
  · rintro ⟨ho, hu, ⟨ht, hc⟩, ⟨hn, hm, hp, he⟩, ⟨hpc, hmc⟩, ⟨hs, hj⟩, ⟨hd, hg⟩, hsk, hcl⟩
    refine ⟨fun i => ⟨⟨(ho i).1, (ho i).2.1, (ho i).2.2.1, (ho i).2.2.2, hu i, (ht i).1, (ht i).2⟩, ?_, hmc i, hj i, hd i⟩,
      ⟨⟨hp, he⟩, hc, hpc, hs, hg⟩, fun i _ => hsk i, fun i p _ => hcl i p⟩
    rw [waitCount_eq]
    split
    case isTrue hq => exact List.count_eq_one_of_mem hn ((hm i).mpr (queues_iff.mp hq))
    case isFalse hq => exact List.count_eq_zero.mpr fun hi => hq (queues_iff.mpr ((hm i).mp hi))
  · rintro ⟨hl, ⟨⟨hp, he⟩, hc, hpc, hs, hg⟩, hsk, hcl⟩
    have hcount : ∀ i, (s.manifold.waitList.map (·.slot)).count i = if Function.queues (s.fn i) then 1 else 0 :=
      fun i => (waitCount_eq s i).symm.trans (hl i).listed
    refine ⟨fun i => ⟨(hl i).record.owner, (hl i).record.verb, (hl i).record.speed, (hl i).record.reason⟩,
      fun i => (hl i).record.unused, ⟨fun i => ⟨(hl i).record.settle, (hl i).record.stall⟩, hc⟩,
      ⟨List.nodup_iff_count_le_one.mpr fun i => ?_, fun i => ?_, hp, he⟩, ⟨hpc, fun i => (hl i).draw⟩,
      ⟨hs, fun i => (hl i).jack⟩, ⟨fun i => (hl i).driven, hg⟩, fun i => hsk i nofun, fun i p => hcl i p nofun⟩
    · rw [hcount i]; split <;> decide
    · rw [← queues_iff, ← List.count_pos_iff, hcount i]
      split <;> simp_all

/-- A JACK and a SLIDE_HYD have no grant together (R53). -/
theorem Lawful.apart {sk aw : Option Slot} {s : State} (h : Lawful sk aw s) : s.HydraulicsApart := by
  rintro i j hi hj ⟨hmi, hmj⟩
  obtain ⟨g, hg, hgi⟩ := (h.slots i).driven (.inl ⟨hmi, by rw [hi]; rfl⟩)
  obtain ⟨g', hg', hgj⟩ := (h.slots j).driven (.inl ⟨hmj, by rw [hj]; rfl⟩)
  cases hg.symm.trans hg'
  simp only [State.underGrant, hi, hj, Bool.and_eq_true, beq_iff_eq] at hgi hgj
  cases hgi.1.2.trans hgj.1.2.symm

theorem Lawful.except_skew {sk aw : Option Slot} {s : State} (h : Lawful none aw s) : Lawful sk aw s :=
  { h with skew := fun i _ => h.skew i nofun }

theorem Lawful.except_clear {sk aw : Option Slot} {s : State} (h : Lawful sk none s) : Lawful sk aw s :=
  { h with clear := fun i p _ => h.clear i p nofun }

/-- The excepted twin is judged. -/
theorem Lawful.judged {i : Slot} {aw : Option Slot} {s : State} (h : Lawful (some i) aw s)
    (hi : (s.fn i).activity = .moving → s.skewTooHard i = false) : Lawful none aw s :=
  { h with
    skew := fun k _ => by
      by_cases hk : k = i
      · subst hk; exact hi
      · exact h.skew k fun he => hk (Option.some.inj he).symm }

/-! ### Changes that the laws do not notice -/

/-- What a slot's law reads of its record stays, but that a stall timer may start in MOVING. -/
structure SameWork (g f : Function) : Prop where
  activity : g.activity = f.activity
  owner : g.owner = f.owner
  verb : g.verb.isSome = f.verb.isSome
  speed : g.moveSpeed.isSome = f.moveSpeed.isSome
  reason : g.waitReason = f.waitReason
  settle : g.settleTimer.isSome = f.settleTimer.isSome
  stall : ∀ e, (g.chan e).stallTimer.isSome = true → f.activity = .moving ∨ (f.chan e).stallTimer.isSome = true

theorem SameWork.law {g f : Function} (h : SameWork g f) {k : Kind} (hf : RecordLaw k f) : RecordLaw k g where
  owner := by rw [h.owner, h.activity]; exact hf.owner
  verb := by rw [h.verb, h.activity]; exact hf.verb
  speed := by rw [h.speed, h.activity]; exact hf.speed
  reason := by rw [h.reason, h.activity]; exact hf.reason
  unused hk := h.activity.trans (hf.unused hk)
  settle := by rw [h.settle, h.activity]; exact hf.settle
  stall e he := h.activity.trans ((h.stall e he).elim id (hf.stall e))

theorem SameWork.queues {g f : Function} (h : SameWork g f) : Function.queues g = Function.queues f := by
  rw [Function.queues, Function.queues, h.activity, h.reason]

/-- What the laws read of a record stays. -/
structure SameMotion (g f : Function) : Prop extends SameWork g f where
  position : ∀ e, (g.chan e).position = (f.chan e).position

theorem SameMotion.refl (f : Function) : SameMotion f f := ⟨⟨rfl, rfl, rfl, rfl, rfl, rfl, fun _ => .inr⟩, fun _ => rfl⟩

theorem SameMotion.of_eq {g f : Function} (h : g = f) : SameMotion g f := h ▸ .refl g

theorem SameMotion.trans {e g f : Function} (h : SameMotion e g) (k : SameMotion g f) : SameMotion e f where
  activity := h.activity.trans k.activity
  owner := h.owner.trans k.owner
  verb := h.verb.trans k.verb
  speed := h.speed.trans k.speed
  reason := h.reason.trans k.reason
  settle := h.settle.trans k.settle
  stall x hx := (h.stall x hx).elim (fun ha => .inl (k.activity ▸ ha)) (k.stall x)
  position x := (h.position x).trans (k.position x)

/-- What the laws read of a slot's configuration. -/
def shape (c : FunctionConfig) : Kind × Option Slot × Nat × Nat := (c.kind, c.partner, c.clearance, c.hardSkew)

section
variable {c d : FunctionConfig} (h : shape c = shape d)
include h
theorem shape_kind : c.kind = d.kind := congrArg (·.1) h
theorem shape_partner : c.partner = d.partner := congrArg (·.2.1) h
theorem shape_clearance : c.clearance = d.clearance := congrArg (·.2.2.1) h
theorem shape_hardSkew : c.hardSkew = d.hardSkew := congrArg (·.2.2.2) h
end

theorem underGrant_congr {s t : State} {i : Slot} (hk : (t.cfg i).kind = (s.cfg i).kind)
    (ho : (t.fn i).owner = (s.fn i).owner) (g : Grant) : t.underGrant g i = s.underGrant g i := by
  simp only [State.underGrant, hk, ho]

/-- What a slot's law reads. -/
theorem SlotLaw.congr {i : Slot} {s t : State} (h : SlotLaw i s) (hf : SameWork (t.fn i) (s.fn i))
    (hk : (t.cfg i).kind = (s.cfg i).kind) (hw : waitCount t i = waitCount s i) (hd : drawCount t i = drawCount s i)
    (ht : t.isTaken i = s.isTaken i) (ho : t.sequence.owner = s.sequence.owner)
    (hh : t.manifold.holder = s.manifold.holder) : SlotLaw i t where
  record := by rw [hk]; exact hf.law h.record
  listed := by rw [hw, hf.queues]; exact h.listed
  draw := by rw [hd, hk, hf.activity]; exact h.draw
  jack := by
    rw [State.isJack, hk, hf.activity, hf.owner, ht, ho]
    exact h.jack
  driven := by
    rw [Function.Driven, hk, hf.activity, hf.reason, hh]
    simp only [underGrant_congr hk hf.owner]
    exact h.driven

theorem skewTooHard_congr {s t : State} {i : Slot} (hc : shape (t.cfg i) = shape (s.cfg i))
    (hp : ∀ e, ((t.fn i).chan e).position = ((s.fn i).chan e).position) : t.skewTooHard i = s.skewTooHard i := by
  have ha : (t.fn i).chA.position = (s.fn i).chA.position := hp .a
  have hb : (t.fn i).chB.position = (s.fn i).chB.position := hp .b
  simp only [State.skewTooHard, skewOf, shape_kind hc, shape_hardSkew hc, ha, hb]

theorem awningBlocks_congr {s t : State} {i : Slot} (hc : (t.cfg i).clearance = (s.cfg i).clearance)
    (hp : (t.fn i).position = (s.fn i).position) : t.awningBlocks i = s.awningBlocks i := by
  simp only [State.awningBlocks, hc, hp]

/-- A change that the laws do not notice. -/
structure Quiet (s t : State) : Prop where
  fn : ∀ k, SameMotion (t.fn k) (s.fn k)
  cfg : ∀ k, shape (t.cfg k) = shape (s.cfg k)
  waits : t.manifold.waitList = s.manifold.waitList
  holder : t.manifold.holder = s.manifold.holder
  pump : t.manifold.pump = s.manifold.pump
  cool : t.manifold.coolTimer = s.manifold.coolTimer
  claims : t.budget.claims = s.budget.claims
  runs : t.seqRuns = s.seqRuns
  owner : t.sequence.owner = s.sequence.owner
  taken : t.sequence.taken = s.sequence.taken
  now : s.now ≤ t.now

theorem Quiet.isTaken {s t : State} (h : Quiet s t) (k : Slot) : t.isTaken k = s.isTaken k := by
  rw [State.isTaken, State.isTaken, h.runs, h.taken]

theorem Quiet.blocks {s t : State} (h : Quiet s t) (k : Slot) : t.awningBlocks k = s.awningBlocks k :=
  awningBlocks_congr (shape_clearance (h.cfg k)) ((h.fn k).position .a)

theorem Quiet.lawful {sk aw : Option Slot} {s t : State} (q : Quiet s t) (h : Lawful sk aw s) : Lawful sk aw t where
  slots i := (h.slots i).congr (q.fn i).toSameWork (shape_kind (q.cfg i)) (by rw [waitCount, q.waits]; rfl)
    (by rw [drawCount, q.claims]; rfl) (q.isTaken i) q.owner q.holder
  part := {
    order := by
      obtain ⟨ho, he⟩ := h.part.order
      refine ⟨?_, fun e hm => ?_⟩
      · simp only [q.waits, (q.fn _).owner]; exact ho
      · rw [q.waits] at hm; exact ⟨Nat.le_trans (he e hm).1 q.now, (he e hm).2⟩
    cool := by rw [q.cool, q.pump]; exact h.part.cool
    pump := by rw [q.claims, q.pump]; exact h.part.pump
    owner := by rw [q.runs, q.owner]; exact h.part.owner
    grant := by rw [q.holder]; exact h.part.grant }
  skew i hi hm := by
    rw [skewTooHard_congr (q.cfg i) (q.fn i).position]
    exact h.skew i hi ((q.fn i).activity ▸ hm)
  clear i p hp := by
    rw [shape_partner (q.cfg i), shape_kind (q.cfg i), (q.fn i).activity, q.blocks p]
    exact h.clear i p hp

/-- The blocks of the state that the laws read stay. -/
@[reducible] def SameBlocks (t s : State) : Prop :=
  t.functions = s.functions ∧ t.settings = s.settings ∧ t.manifold = s.manifold ∧ t.budget.claims = s.budget.claims
    ∧ t.sequence = s.sequence ∧ t.now = s.now

theorem SameBlocks.quiet {s t : State} (h : SameBlocks t s) : Quiet s t := by
  obtain ⟨hf, hs, hm, hc, hq, hn⟩ := h
  refine ⟨fun k => .of_eq (fn_congr hf k), fun k => by rw [cfg_of_settings hs], ?_, ?_, ?_, ?_, hc, ?_, ?_, ?_,
    Nat.le_of_eq hn.symm⟩
  · rw [hm]
  · rw [hm]
  · rw [hm]
  · rw [hm]
  · rw [State.seqRuns, hq]; rfl
  · rw [hq]
  · rw [hq]

theorem Lawful.blocks {sk aw : Option Slot} {s t : State} (h : Lawful sk aw s) (hb : SameBlocks t s) : Lawful sk aw t :=
  hb.quiet.lawful h

theorem Lawful.ite {c : Prop} [Decidable c] {sk aw : Option Slot} {s t : State} (h : Lawful sk aw s)
    (k : Lawful sk aw t) : Lawful sk aw (if c then s else t) := by
  split
  · exact h
  · exact k

theorem Lawful.fold {α : Type} {sk aw : Option Slot} {f : State → α → State}
    (hf : ∀ s a, Lawful sk aw s → Lawful sk aw (f s a)) (l : List α) {s : State} (h : Lawful sk aw s) :
    Lawful sk aw (l.foldl f s) := by
  induction l generalizing s with
  | nil => exact h
  | cons a l ih => exact ih (hf s a h)

/-! ### An operation on one slot -/

/-- Nothing but one slot's record, its entry and its claim is touched. -/
structure Edit (i : Slot) (s t : State) : Prop where
  fn : ∀ k, k ≠ i → t.fn k = s.fn k
  cfg : ∀ k, shape (t.cfg k) = shape (s.cfg k)
  waits : t.manifold.waitList.filter (fun e => e.slot != i) = s.manifold.waitList.filter fun e => e.slot != i
  claims : t.budget.claims.filter (fun c => c.claimant != .motor i)
    = s.budget.claims.filter fun c => c.claimant != .motor i
  holder : t.manifold.holder = s.manifold.holder
  pump : t.manifold.pump = s.manifold.pump
  cool : t.manifold.coolTimer = s.manifold.coolTimer
  sequence : t.sequence = s.sequence
  now : t.now = s.now

section
variable {i : Slot} {s t u : State}

theorem Edit.refl : Edit i s s := ⟨fun _ _ => rfl, fun _ => rfl, rfl, rfl, rfl, rfl, rfl, rfl, rfl⟩

theorem Edit.trans (h : Edit i s t) (k : Edit i t u) : Edit i s u where
  fn j hj := (k.fn j hj).trans (h.fn j hj)
  cfg j := (k.cfg j).trans (h.cfg j)
  waits := k.waits.trans h.waits
  claims := k.claims.trans h.claims
  holder := k.holder.trans h.holder
  pump := k.pump.trans h.pump
  cool := k.cool.trans h.cool
  sequence := k.sequence.trans h.sequence
  now := k.now.trans h.now

theorem Edit.ite {c : Prop} [Decidable c] (h : Edit i s t) (k : Edit i s u) : Edit i s (if c then t else u) := by
  split
  · exact h
  · exact k

theorem SameBlocks.edit (h : SameBlocks t s) : Edit i s t := by
  obtain ⟨hf, hs, hm, hc, hq, hn⟩ := h
  exact ⟨fun k _ => fn_congr hf k, fun k => by rw [cfg_of_settings hs], by rw [hm], by rw [hc], by rw [hm], by rw [hm],
    by rw [hm], hq, hn⟩

theorem Edit.storeFn (f : Function) : Edit i s (s.storeFn i f) :=
  ⟨fun _ hk => storeFn_fn_ne s f (Ne.symm hk), fun _ => rfl, rfl, rfl, rfl, rfl, rfl, rfl, rfl⟩

theorem Edit.putFn (f : Function) : Edit i s (putFn i f s) := by
  refine ⟨fun k hk => putFn_fn_ne f s (Ne.symm hk), fun k => by rw [cfg_of_settings (s := s) (by simp)], ?_, ?_, ?_, ?_, ?_,
    ?_, ?_⟩ <;> simp

theorem Edit.leaveList : Edit i s (leaveList i s) := by
  refine ⟨fun _ _ => rfl, fun _ => rfl, ?_, rfl, rfl, rfl, rfl, rfl, rfl⟩
  simp [Machine.leaveList]

theorem Edit.dropClaim : Edit i s (dropClaim (.motor i) s) := by
  refine ⟨fun _ _ => rfl, fun _ => rfl, rfl, ?_, rfl, rfl, rfl, rfl, rfl⟩
  simp [Machine.dropClaim]

theorem Edit.releaseDraw : Edit i s (releaseDraw i s) := .ite .dropClaim .refl

theorem Edit.addClaim (amps : Nat) : Edit i s (addClaim (.motor i) amps s) := by
  refine ⟨fun _ _ => rfl, fun _ => rfl, rfl, ?_, rfl, rfl, rfl, rfl, rfl⟩
  simp [Machine.addClaim]

theorem insertWait_filter (rank : Slot → Nat) (e : WaitEntry) (l : List WaitEntry) :
    (insertWait rank e l).filter (fun x => x.slot != e.slot) = l.filter fun x => x.slot != e.slot := by
  induction l with
  | nil => simp [insertWait]
  | cons x l ih =>
    unfold insertWait
    split
    · simp
    · simp only [List.filter_cons, ih]

theorem Edit.joinList : Edit i s (joinList i s) :=
  ⟨fun _ _ => rfl, fun _ => rfl, insertWait_filter _ ⟨i, _, _⟩ _, rfl, rfl, rfl, rfl, rfl, rfl⟩

theorem Edit.holdAll (place : Bool) (k : Slot) : Edit i s (holdAll place k s) := SameBlocks.edit (by simp [SameBlocks])

theorem Edit.holdMoved (place : Bool) (k : Slot) : Edit i s (holdMoved place k s) := SameBlocks.edit (by simp [SameBlocks])

theorem Edit.refuseHold (k : Slot) : Edit i s (refuseHold k s) := SameBlocks.edit (by simp [SameBlocks])

theorem Edit.windStopped (k : Slot) (r : StopReason) : Edit i s (windStopped k r s) := SameBlocks.edit (by simp [SameBlocks])

theorem countP_filter_ne {α β : Type} [DecidableEq β] (g : α → β) {x y : β} (h : x ≠ y) (l : List α) :
    (l.filter fun a => g a != y).countP (fun a => g a == x) = l.countP fun a => g a == x := by
  rw [List.countP_filter]
  refine List.countP_congr fun a _ => ?_
  by_cases ha : g a = x
  · simp [ha, h]
  · simp [ha]

theorem countP_of_filter {α β : Type} [DecidableEq β] (g : α → β) {x y : β} (h : x ≠ y) {l m : List α}
    (hl : (l.filter fun a => g a != y) = m.filter fun a => g a != y) :
    l.countP (fun a => g a == x) = m.countP fun a => g a == x := by
  rw [← countP_filter_ne g h, hl, countP_filter_ne g h]

theorem Edit.waitCount (e : Edit i s t) {k : Slot} (hk : k ≠ i) : waitCount t k = waitCount s k :=
  countP_of_filter WaitEntry.slot hk e.waits

theorem Edit.claimCount (e : Edit i s t) {who : Claimant} (hk : who ≠ .motor i) :
    t.budget.claims.countP (fun c => c.claimant == who) = s.budget.claims.countP fun c => c.claimant == who :=
  countP_of_filter Claim.claimant hk e.claims

theorem Edit.isTaken (e : Edit i s t) (k : Slot) : t.isTaken k = s.isTaken k := isTaken_congr e.sequence k

theorem Edit.seqRuns (e : Edit i s t) : t.seqRuns = s.seqRuns := by rw [State.seqRuns, e.sequence]; rfl

/-- The other slots do not notice. -/
theorem Edit.slots (e : Edit i s t) (h : ∀ k, SlotLaw k s) (hi : SlotLaw i t) (k : Slot) : SlotLaw k t := by
  by_cases hk : k = i
  · exact hk ▸ hi
  · exact (h k).congr (SameMotion.of_eq (e.fn k hk)).toSameWork (shape_kind (e.cfg k)) (e.waitCount hk)
      (e.claimCount fun he => hk (Claimant.motor.inj he)) (e.isTaken k) (by rw [e.sequence]) e.holder

theorem Edit.part (e : Edit i s t) (h : PartLaw s) (ho : ListOrder t) : PartLaw t where
  order := ho
  cool := by rw [e.cool, e.pump]; exact h.cool
  pump := by rw [e.claimCount (who := .pump) nofun, e.pump]; exact h.pump
  owner := by rw [e.seqRuns, e.sequence]; exact h.owner
  grant := by rw [e.holder]; exact h.grant

theorem Edit.skew {sk : Option Slot} (e : Edit i s t) (h : SkewsHold sk s)
    (hi : sk ≠ some i → (t.fn i).activity = .moving → t.skewTooHard i = false) : SkewsHold sk t := fun k hk hm => by
  by_cases hki : k = i
  · subst hki; exact hi hk hm
  · rw [skewTooHard_congr (e.cfg k) fun x => by rw [e.fn k hki]]
    exact h k hk (e.fn k hki ▸ hm)

/-- The list's order where the slot has left it. -/
theorem Edit.order_left (e : Edit i s t) (h : ListOrder s) (hw : Proofs.waitCount t i = 0) : ListOrder t := by
  have ht : t.manifold.waitList = s.manifold.waitList.filter fun x => x.slot != i := by
    rw [← e.waits]
    refine (List.filter_eq_self.mpr fun x hx => ?_).symm
    have := List.countP_eq_zero.mp hw x hx
    simpa using this
  obtain ⟨ho, he⟩ := h
  have hne : ∀ x ∈ t.manifold.waitList, x ∈ s.manifold.waitList ∧ t.fn x.slot = s.fn x.slot := fun x hx => by
    rw [ht, List.mem_filter] at hx
    exact ⟨hx.1, e.fn _ (by simpa using hx.2)⟩
  refine ⟨?_, fun x hx => by rw [e.now]; exact he x (hne x hx).1⟩
  have hp : t.manifold.waitList.Pairwise _ := ht ▸ ho.sublist List.filter_sublist
  refine hp.imp_of_mem fun ha hb hab => ?_
  rw [(hne _ ha).2, (hne _ hb).2]
  exact hab

/-- The list's order where list and rank stay. -/
theorem Edit.order_same (e : Edit i s t) (h : ListOrder s) (hw : t.manifold.waitList = s.manifold.waitList)
    (ho : (t.fn i).owner = (s.fn i).owner) : ListOrder t := by
  have hown : ∀ k, (t.fn k).owner = (s.fn k).owner := fun k => by
    by_cases hk : k = i
    · rw [hk, ho]
    · rw [e.fn k hk]
  simp only [ListOrder, hw, hown, e.now]
  exact h

theorem Edit.blocks (e : Edit i s t) {k : Slot} (hk : k ≠ i ∨ (t.fn k).position = (s.fn k).position) :
    t.awningBlocks k = s.awningBlocks k :=
  awningBlocks_congr (shape_clearance (e.cfg k)) (hk.elim (fun hk => by rw [e.fn k hk]) id)

/-- No slide begins to wait, and the slot stands where it stood or is still to be judged. -/
theorem Edit.clear {aw : Option Slot} (e : Edit i s t) (h : ClearanceBut aw s)
    (hm : (t.fn i).activity = .waiting ∨ (t.fn i).activity = .moving →
      (s.fn i).activity = .waiting ∨ (s.fn i).activity = .moving)
    (hp : aw = some i ∨ (t.fn i).position = (s.fn i).position) : ClearanceBut aw t := fun k p hap hpk hk hb => by
  rw [e.blocks (k := p) ?_]
  · rw [shape_partner (e.cfg k)] at hpk
    rw [shape_kind (e.cfg k)] at hk
    refine h k p hap hpk hk ?_
    by_cases hki : k = i
    · subst hki; exact hm hb
    · rwa [e.fn k hki] at hb
  · by_cases hpi : p = i
    · subst hpi; exact .inr (hp.resolve_left hap)
    · exact .inl hpi

/-- The slot has come to rest. -/
theorem Edit.rested {sk aw : Option Slot} (e : Edit i s t) (h : Lawful sk aw s) (hr : AtRest (t.fn i))
    (hk : (s.cfg i).kind = .unused → (t.fn i).activity = .unavailable) (hw : Proofs.waitCount t i = 0)
    (hd : drawCount t i = 0) (hp : aw = some i ∨ (t.fn i).position = (s.fn i).position) : Lawful sk aw t where
  slots := e.slots h.slots (.of_rest hr (by rwa [shape_kind (e.cfg i)]) hw hd)
  part := e.part h.part (e.order_left h.part.order hw)
  skew := e.skew h.skew fun _ hm => by have := hr.busy; rw [hm] at this; cases this
  clear := e.clear h.clear
    (by rintro (hm | hm) <;> have := hr.busy <;> rw [hm] at this <;> cases this) hp

end

end Sys2Proof.Proofs
end

section
/-! PROOFS. Stops, faults, the end of a sequence, the pump and the grant keep the laws of motion. -/

namespace Sys2Proof.Proofs
open Sys2Proof.Machine Sys2Proof.Laws

/-! ### What the laws do not notice -/

section
variable {sk aw : Option Slot} {s : State} (h : Lawful sk aw s)
include h

theorem Lawful.queueC (new : TxEntry) : Lawful sk aw (queueC new s) := h.blocks (by simp [SameBlocks])

theorem Lawful.functionFrame {cls : TxClass} {i : Slot} : Lawful sk aw (functionFrame cls i s) := h.queueC _

theorem Lawful.postureFrame {cls : TxClass} : Lawful sk aw (postureFrame cls s) := h.queueC _

theorem Lawful.levelFrame : Lawful sk aw (levelFrame s) := h.queueC _

theorem Lawful.refusalFrame {i : Slot} {v : Nat} {r : RefusalReason} : Lawful sk aw (refusalFrame i v r s) := h.queueC _

theorem Lawful.refusalSeqFrame {k : SeqKind} {v : Nat} {r : RefusalReason} :
    Lawful sk aw (refusalSeqFrame k v r s) := h.queueC _

theorem Lawful.queueReply {code tag : Byte} {o : ReplyOutcome} {bs : List Byte} :
    Lawful sk aw (queueReply code tag o bs s) := h.queueC _

theorem Lawful.putHold {i : Slot} {x : Hold} : Lawful sk aw (putHold i x s) := h.blocks (by simp [SameBlocks])

theorem Lawful.refuseHold {i : Slot} : Lawful sk aw (refuseHold i s) := h.blocks (by simp [SameBlocks])

theorem Lawful.setOwed {i : Slot} {v : Bool} : Lawful sk aw (s.setOwed i v) := h.blocks (by simp [SameBlocks])

theorem Lawful.setWind {w : WindRecord} : Lawful sk aw (s.setWind w) := h.blocks (by simp [SameBlocks])

theorem Lawful.setLink {l : LinkManager} : Lawful sk aw (s.setLink l) := h.blocks (by simp [SameBlocks])

theorem Lawful.handOrder {place : Bool} {d : DriveRef} {code : DriveCode} {speed : Nat} :
    Lawful sk aw (handOrder place d code speed s) := h.blocks (by simp [SameBlocks])

theorem Lawful.setAlarm {k : Alarm} {v : Bool} : Lawful sk aw (setAlarm k v s) := h.blocks (by simp [SameBlocks])

/-- The sequence goes on under its owner with its jacks. -/
theorem Lawful.setSeq {q : Sequence} (hr : (q.phase != .idle) = s.seqRuns := by rfl)
    (ho : q.owner = s.sequence.owner := by rfl) (ht : q.taken = s.sequence.taken := by rfl) :
    Lawful sk aw (s.setSeq q) :=
  Quiet.lawful (s := s) ⟨fun _ => .refl _, fun _ => rfl, rfl, rfl, rfl, rfl, rfl, hr, ho, ht, Nat.le_refl _⟩ h

end

/-! ### Stops and faults (R16, R18) -/

theorem leaveList_waitCount (i : Slot) (s : State) : waitCount (leaveList i s) i = 0 := by
  simp [waitCount, leaveList]

theorem waitCount_congr {s t : State} (h : t.manifold = s.manifold) (i : Slot) : waitCount t i = waitCount s i := by
  rw [waitCount, h]; rfl

theorem drawCount_congr {s t : State} (h : t.budget = s.budget) (i : Slot) : drawCount t i = drawCount s i := by
  rw [drawCount, h]; rfl

theorem dropClaim_drawCount (i : Slot) (s : State) : drawCount (dropClaim (.motor i) s) i = 0 := by
  simp [drawCount, dropClaim]

/-- A function that leaves its move has no claim left. -/
theorem releaseDraw_drawCount {i : Slot} {s t : State} (h : SlotLaw i s) (hf : t.fn i = s.fn i)
    (hb : t.budget = s.budget) : drawCount (releaseDraw i t) i = 0 := by
  unfold releaseDraw
  split
  case isTrue => exact dropClaim_drawCount i t
  case isFalse hm =>
    rw [drawCount_congr hb, h.draw, if_neg fun hk => hm (by rw [hf]; exact hk.1)]

section
variable {sk aw : Option Slot} {s : State}

theorem stopFn_edit (place : Bool) (i : Slot) (r : StopReason) (s : State) : Edit i s (stopFn place i r s) := by
  have h1 := ((Edit.leaveList (s := s)).trans (.holdMoved place i)).trans (.releaseDraw (i := i))
    |>.trans (.putFn (i := i) ((s.fn i).stopped r))
  have h2 := h1.ite (c := r = .holdReleased) (h1.trans (.refuseHold i))
  exact ((h2.trans (.windStopped i r)).ite h2).ite .refl

theorem Lawful.stopFn (h : Lawful sk aw s) {place : Bool} {i : Slot} {r : StopReason} :
    Lawful sk aw (stopFn place i r s) := by
  cases hb : (s.fn i).activity.isBusy with
  | false => rwa [stopFn_rest place r hb]
  | true =>
    have hf : (Machine.stopFn place i r s).fn i = (s.fn i).stopped r := by rw [stopFn_fn_if, if_pos ⟨rfl, hb⟩]
    refine (stopFn_edit place i r s).rested h (by rw [hf]; exact stopped_atRest ..)
      (fun hk => by have := (h.slots i).record.unused hk; rw [this] at hb; cases hb) ?_ ?_ (.inr (by rw [hf]; rfl))
    · rw [waitCount, stopFn_manifold, if_pos hb]
      exact leaveList_waitCount i s
    · have hd : drawCount (Machine.releaseDraw i (Machine.holdMoved place i (Machine.leaveList i s))) i = 0 :=
        releaseDraw_drawCount (h.slots i) (fn_congr (by simp) i) (by simp)
      rw [← hd]
      unfold Machine.stopFn
      simp only [hb, if_true]
      (repeat' split) <;> exact drawCount_congr (by simp) i

theorem Lawful.stopAll (h : Lawful sk aw s) {place : Bool} {r : StopReason} {is : List Slot} :
    Lawful sk aw (stopAll place r is s) := .fold (fun _ _ hu => hu.stopFn) _ h

theorem failFn_edit (i : Slot) (c : FaultCode) (s : State) : Edit i s (failFn i c s) :=
  ((((Edit.holdMoved true i).trans .leaveList).trans .releaseDraw).trans (.putFn _)).trans (.refuseHold i) |>.ite .refl

theorem Lawful.failFn (h : Lawful sk aw s) {i : Slot} {c : FaultCode} : Lawful sk aw (failFn i c s) := by
  cases hb : (s.fn i).activity.canFault with
  | false => rwa [Machine.failFn, hb, if_neg (by decide)]
  | true =>
    have hf : (Machine.failFn i c s).fn i = (s.fn i).failed c := by rw [failFn_fn, if_pos ⟨rfl, hb⟩]
    have he : Machine.failFn i c s = Machine.refuseHold i (Machine.putFn i ((s.fn i).failed c)
        (Machine.releaseDraw i (Machine.leaveList i (Machine.holdMoved true i s)))) := by
      rw [Machine.failFn, hb, if_pos rfl]
    refine (failFn_edit i c s).rested h (by rw [hf]; exact failed_atRest ..)
      (fun hk => by have := (h.slots i).record.unused hk; rw [this] at hb; cases hb) ?_ ?_ (.inr (by rw [hf]; rfl))
    · rw [he, waitCount_congr (t := Machine.refuseHold i _) (s := Machine.leaveList i (Machine.holdMoved true i s))
        (by simp)]
      exact leaveList_waitCount i _
    · rw [he, drawCount_congr (t := Machine.refuseHold i _)
        (s := Machine.releaseDraw i (Machine.leaveList i (Machine.holdMoved true i s))) (by simp)]
      exact releaseDraw_drawCount (h.slots i) (fn_congr (by simp) i) (by simp)

/-! ### The end of a sequence (R54, R89, R93) -/

/-- A jack that moves for a sequence (R73). -/
def Sequenced (s : State) (i : Slot) : Prop :=
  s.isJack i = true ∧ (s.fn i).activity.isBusy = true ∧ ((s.fn i).owner = .level ∨ (s.fn i).owner = .travel)

/-- Where no jack moves for a sequence, the sequence may be another. -/
theorem SlotLaw.resequenced {i : Slot} {s t : State} (h : SlotLaw i s) (hn : ¬ Sequenced s i) (hf : t.fn i = s.fn i)
    (hc : t.cfg i = s.cfg i) (hw : waitCount t i = waitCount s i) (hd : drawCount t i = drawCount s i)
    (hh : Function.Driven (s.cfg i).kind (s.fn i) → t.manifold.holder = s.manifold.holder) : SlotLaw i t where
  record := by rw [hf, hc]; exact h.record
  listed := by rw [hf, hw]; exact h.listed
  draw := by rw [hf, hc, hd]; exact h.draw
  jack hj hb ho := by
    rw [State.isJack, hc] at hj
    rw [hf] at hb ho
    exact absurd ⟨hj, hb, ho⟩ hn
  driven hv := by
    rw [hf, hc] at hv
    obtain ⟨g, hg, hu⟩ := h.driven hv
    exact ⟨g, (hh hv).trans hg, (underGrant_congr (by rw [hc]) (by rw [hf]) g).trans hu⟩

/-- A sequence grant drives only the sequence's jacks. -/
theorem Lawful.not_driven (h : Lawful sk aw s) (hn : ∀ i, ¬ Sequenced s i) {g : Grant}
    (hg : s.manifold.holder = some g) (hq : g.sequence = true) (i : Slot) :
    ¬ Function.Driven (s.cfg i).kind (s.fn i) := fun hv => by
  obtain ⟨g', hg', hu⟩ := (h.slots i).driven hv
  cases hg.symm.trans hg'
  obtain ⟨hcls, ho⟩ := h.part.grant g hg hq
  simp only [State.underGrant, Bool.and_eq_true, beq_iff_eq] at hu
  obtain ⟨⟨hyd, hc⟩, hown⟩ := hu
  refine hn i ⟨?_, Driven.busy hv, hown ▸ ho⟩
  rw [hcls] at hc
  rw [State.isJack, beq_iff_eq]
  cases hk : (s.cfg i).kind <;> simp_all [Kind.hydClass, Kind.isHydraulic]

theorem releaseSequenceGrant_manifold (s : State) : (releaseSequenceGrant s).manifold = s.manifold
    ∨ (∃ g, s.manifold.holder = some g ∧ g.sequence = true)
      ∧ (releaseSequenceGrant s).manifold = { s.manifold with holder := none } := by
  unfold releaseSequenceGrant
  split
  case h_1 g hg =>
    split
    case isTrue hq => exact .inr ⟨⟨g, hg, hq⟩, rfl⟩
    case isFalse => exact .inl rfl
  case h_2 => exact .inl rfl

theorem closeSequence_arbiter (r : SeqResult) (s : State) : (closeSequence r s).manifold = s.manifold
    ∨ (∃ g, s.manifold.holder = some g ∧ g.sequence = true)
      ∧ (closeSequence r s).manifold = { s.manifold with holder := none } := by
  rw [closeSequence, (levelFrame_frame _).2.2.2.1]
  exact releaseSequenceGrant_manifold { s with sequence := s.sequence.ended r }

/-- A sequence none of whose jacks moves may be closed. -/
theorem Lawful.closeSequence (h : Lawful sk aw s) (hn : ∀ i, ¬ Sequenced s i) {r : SeqResult} :
    Lawful sk aw (closeSequence r s) := by
  have hf : (Machine.closeSequence r s).functions = s.functions := by simp
  have hc : (Machine.closeSequence r s).settings = s.settings := by simp
  have hb : (Machine.closeSequence r s).budget = s.budget := by simp
  have hq : (Machine.closeSequence r s).seqRuns = false := by
    rw [State.seqRuns, closeSequence_sequence]; rfl
  have hnow : (Machine.closeSequence r s).now = s.now := by simp
  have hm : ∃ x, (Machine.closeSequence r s).manifold = { s.manifold with holder := x }
      ∧ (x = s.manifold.holder ∨ x = none ∧ ∀ i, ¬ Function.Driven (s.cfg i).kind (s.fn i)) := by
    rcases closeSequence_arbiter r s with hm | ⟨⟨g, hg, hgs⟩, hm⟩
    · exact ⟨_, hm, .inl rfl⟩
    · exact ⟨none, hm, .inr ⟨rfl, h.not_driven hn hg hgs⟩⟩
  obtain ⟨x, hm, hx⟩ := hm
  have hfn := fn_congr hf
  have hcfg := cfg_of_settings hc
  refine ⟨fun i => (h.slots i).resequenced (hn i) (hfn i) (hcfg i) (by rw [waitCount, hm]; rfl)
    (drawCount_congr hb i) fun hv => ?_, ⟨?_, ?_, ?_, by simp [hq], fun g hg => ?_⟩, fun i hi hmv => ?_,
    fun i p hp hip hk hw => ?_⟩
  · rw [hm]; exact hx.elim id fun hx => absurd hv (hx.2 i)
  · simp only [ListOrder, hm, hfn, hnow]; exact h.part.order
  · rw [hm]; exact h.part.cool
  · rw [hm, hb]; exact h.part.pump
  · rw [hm] at hg
    rcases hx with hx | hx
    · exact h.part.grant g (hx ▸ hg)
    · cases hx.1 ▸ hg
  · rw [skewTooHard_congr (s := s) (by rw [hcfg i]) fun e => by rw [hfn i]]
    exact h.skew i hi (hfn i ▸ hmv)
  · rw [awningBlocks_congr (s := s) (by rw [hcfg p]) (by rw [hfn p])]
    exact h.clear i p hp (hcfg i ▸ hip) (hcfg i ▸ hk) (hfn i ▸ hw)

/-- A running sequence whose taken jacks are stopped has no jack in motion. -/
theorem Lawful.stopped_taken (h : Lawful sk aw s) (place : Bool) (r : StopReason) (i : Slot) :
    ¬ Sequenced (Machine.stopAll place r s.sequence.taken s) i := by
  rintro ⟨hj, hb, ho⟩
  have hu : Lawful sk aw (Machine.stopAll place r s.sequence.taken s) := h.stopAll
  obtain ⟨ht, -⟩ := (hu.slots i).jack hj hb ho
  have hmem : i ∈ s.sequence.taken := by
    have := ((isTaken_iff _ _).mp ht).2
    rwa [stopAll_sequence] at this
  rw [stopAll_fn_if] at hb
  split at hb
  case isTrue => cases hb
  case isFalse hn => exact hn ⟨hmem, hb⟩

theorem Lawful.endSequence (h : Lawful sk aw s) {place : Bool} {res : SeqResult} {r : StopReason} :
    Lawful sk aw (endSequence place res r s) := by
  cases hr : s.seqRuns with
  | false => rwa [endSequence_none _ _ _ hr]
  | true =>
    rw [endSequence_runs _ _ _ hr]
    exact Lawful.closeSequence h.stopAll (h.stopped_taken place r)

theorem Lawful.abortSequence (h : Lawful sk aw s) {place : Bool} {r : AbortReason} :
    Lawful sk aw (abortSequence place r s) := h.endSequence

theorem Lawful.faultFns (h : Lawful sk aw s) {is : List Slot} {c : FaultCode} : Lawful sk aw (faultFns is c s) :=
  have hf := Lawful.fold (fun _ i hu => hu.failFn (i := i) (c := c)) is h
  hf.endSequence.ite hf

theorem Lawful.faultFn (h : Lawful sk aw s) {i : Slot} {c : FaultCode} : Lawful sk aw (faultFn i c s) := h.faultFns

/-- A faulted twin is no longer to be judged. -/
theorem Lawful.faulted {i : Slot} (h : Lawful (some i) aw s) {c : FaultCode}
    (hi : (s.fn i).activity.canFault = true) : Lawful none aw (Machine.faultFn i c s) :=
  h.faultFn.judged fun hm => by rw [faultFn_self c hi] at hm; cases hm

/-- Stop a slot, and abort the sequence that took it. -/
theorem Lawful.stopTaken (h : Lawful sk aw s) {place : Bool} {i : Slot} {r : StopReason} {b : Bool} {a : AbortReason} :
    Lawful sk aw (if b then Machine.abortSequence true a (Machine.stopFn place i r s) else Machine.stopFn place i r s) :=
  h.stopFn.abortSequence.ite h.stopFn

/-! ### The pump and the grant (R54, R59 to R63) -/

/-- Nothing but the pump, its timers and its claim is touched. -/
structure PumpEdit (s t : State) : Prop where
  functions : t.functions = s.functions
  settings : t.settings = s.settings
  waits : t.manifold.waitList = s.manifold.waitList
  holder : t.manifold.holder = s.manifold.holder
  claims : t.budget.claims.filter (fun c => c.claimant != .pump) = s.budget.claims.filter fun c => c.claimant != .pump
  sequence : t.sequence = s.sequence
  now : t.now = s.now

theorem PumpEdit.lawful {t : State} (e : PumpEdit s t) (h : Lawful sk aw s)
    (hc : t.manifold.coolTimer.isSome = true → t.manifold.pump = .coolDown)
    (hp : t.budget.claims.countP (fun c => c.claimant == .pump) = if t.manifold.pump.isOn then 1 else 0) :
    Lawful sk aw t where
  slots i := (h.slots i).congr (SameMotion.of_eq (fn_congr e.functions i)).toSameWork (by rw [cfg_of_settings e.settings])
    (by rw [waitCount, e.waits]; rfl) (countP_of_filter Claim.claimant (fun he => by cases he) e.claims) (isTaken_congr e.sequence i)
    (by rw [e.sequence]) e.holder
  part := ⟨by simp only [ListOrder, e.waits, fn_congr e.functions, e.now]; exact h.part.order, hc, hp,
    by rw [State.seqRuns, e.sequence]; exact h.part.owner, by rw [e.holder]; exact h.part.grant⟩
  skew i hi hm := by
    rw [skewTooHard_congr (s := s) (by rw [cfg_of_settings e.settings]) fun x => by rw [fn_congr e.functions i]]
    exact h.skew i hi (fn_congr e.functions i ▸ hm)
  clear i p hp hip hk hw := by
    rw [awningBlocks_congr (s := s) (by rw [cfg_of_settings e.settings]) (by rw [fn_congr e.functions p])]
    exact h.clear i p hp (cfg_of_settings e.settings i ▸ hip) (cfg_of_settings e.settings i ▸ hk)
      (fn_congr e.functions i ▸ hw)

theorem dropClaim_pump (s : State) : (dropClaim .pump s).budget.claims.countP (fun c => c.claimant == .pump) = 0 := by
  simp [dropClaim]

/-- While the pump runs, no cool-down is timed. -/
theorem Lawful.cool_none (h : Lawful sk aw s) (hp : s.manifold.pump ≠ .coolDown) : s.manifold.coolTimer = none := by
  cases hc : s.manifold.coolTimer with
  | none => rfl
  | some _ => exact absurd (h.part.cool (by rw [hc]; rfl)) hp

theorem isOn_ne_coolDown {p : PumpState} (h : p.isOn = true) : p ≠ .coolDown := fun he => by rw [he] at h; cases h

theorem Lawful.stopPump (h : Lawful sk aw s) {place : Bool} : Lawful sk aw (stopPump place s) := by
  unfold Machine.stopPump
  split
  case isFalse => exact h
  case isTrue hon =>
    have hcool := h.cool_none (isOn_ne_coolDown hon)
    refine PumpEdit.lawful (s := s) ⟨by simp, by simp, by simp, by simp, ?_, by simp, by simp⟩ h ?_ ?_
    · simp [dropClaim]
    · simp [hcool]
    · exact dropClaim_pump _

/-- The pump's claim goes as its cool-down begins. -/
theorem Lawful.coolPump (h : Lawful sk aw s) : Lawful sk aw (coolPump s) := by
  refine Lawful.setAlarm (PumpEdit.lawful (s := s) ⟨by simp, by simp, by simp, by simp, ?_, by simp, by simp⟩ h ?_ ?_)
  · simp [dropClaim]
  · exact fun _ => rfl
  · exact dropClaim_pump _

/-- A running pump goes on in another state. -/
theorem Lawful.runPump (h : Lawful sk aw s) (hon : s.manifold.pump.isOn = true) {p : PumpState} (hp : p.isOn = true)
    {x y z : Timer} {n : Nat} : Lawful sk aw (s.setManifold { s.manifold with
      pump := p, primeTimer := x, holdOnTimer := y, restTimer := z, runTime := n }) := by
  refine PumpEdit.lawful (s := s) ⟨rfl, rfl, rfl, rfl, rfl, rfl, rfl⟩ h ?_ ?_
  · simp [h.cool_none (isOn_ne_coolDown hon)]
  · simp only [State.setManifold, hp, if_true]
    simpa [hon] using h.part.pump

theorem Lawful.holdOnPump (h : Lawful sk aw s) (hon : s.manifold.pump.isOn = true) : Lawful sk aw (holdOnPump s) :=
  h.runPump hon rfl

theorem Lawful.readyPump (h : Lawful sk aw s) : Lawful sk aw (readyPump s) := by
  unfold Machine.readyPump
  split
  case isTrue hp => exact h.runPump (p := .ready) (by rw [hp]; rfl) rfl
  case isFalse => exact h

/-- A pump at rest starts (R59). -/
theorem Lawful.startPump (h : Lawful sk aw s) (hoff : s.manifold.pump.isOn = false)
    (hcool : s.manifold.pump ≠ .coolDown) : Lawful sk aw (startPump s) := by
  refine PumpEdit.lawful (s := s) ⟨by simp, by simp, ?_, ?_, ?_, by simp, by simp⟩ h ?_ ?_
  · simp [Machine.startPump, addClaim]
  · simp [Machine.startPump, addClaim]
  · simp [Machine.startPump, addClaim]
  · simp [Machine.startPump, addClaim, h.cool_none hcool]
  · have := h.part.pump
    simp only [hoff] at this
    simp [Machine.startPump, addClaim, this, PumpState.isOn]

theorem Lawful.coolDownOver (h : Lawful sk aw s) (hp : s.manifold.pump = .coolDown) :
    Lawful sk aw (coolDownOver s) := by
  refine Lawful.setAlarm (PumpEdit.lawful (s := s) ⟨by simp, by simp, by simp, by simp, by simp, by simp, by simp⟩
    h ?_ ?_)
  · simp
  · simpa [hp, PumpState.isOn] using h.part.pump

/-- The run time is read by no law. -/
theorem Lawful.runTime (h : Lawful sk aw s) {n : Nat} {z : Timer} :
    Lawful sk aw (s.setManifold { s.manifold with runTime := n, restTimer := z }) :=
  PumpEdit.lawful (s := s) ⟨rfl, rfl, rfl, rfl, rfl, rfl, rfl⟩ h h.part.cool h.part.pump

/-- The manifold is granted, or given up, where it suits what it drives (R53). -/
theorem Lawful.setHolder (h : Lawful sk aw s) {x : Option Grant}
    (hd : ∀ i, Function.Driven (s.cfg i).kind (s.fn i) → ∃ g, x = some g ∧ s.underGrant g i = true)
    (hg : ∀ g, x = some g → g.sequence = true → g.cls = .jacks ∧ (g.owner = .level ∨ g.owner = .travel)) :
    Lawful sk aw (s.setManifold { s.manifold with holder := x }) where
  slots i := { h.slots i with driven := hd i }
  part := { h.part with grant := hg }
  skew := h.skew
  clear := h.clear

/-- The grant ends where nothing is driven. -/
theorem Lawful.dropHolder (h : Lawful sk aw s) (hd : ∀ i, ¬ Function.Driven (s.cfg i).kind (s.fn i)) :
    Lawful sk aw (s.setManifold { s.manifold with holder := none }) := h.setHolder (fun i hi => absurd hi (hd i)) nofun

/-! ### Everything at rest -/

/-- Every function is at rest, with no claim but the pump's. -/
def AllRest (s : State) : Prop := ∀ i, (s.fn i).activity.isBusy = false

theorem stopAll_allRest (place : Bool) (r : StopReason) (s : State) : AllRest (Machine.stopAll place r slots s) := fun i => by
  rw [stopAll_fn_if]
  split
  case isTrue => rfl
  case isFalse hn => simpa [mem_slots i] using hn

theorem AllRest.not_driven (h : AllRest s) (i : Slot) : ¬ Function.Driven (s.cfg i).kind (s.fn i) :=
  not_driven_of_rest (h i)

/-- With everything at rest the arbiter may be emptied (R63). -/
theorem Lawful.clearArbiter (h : Lawful sk aw s) (hr : AllRest s) : Lawful sk aw (clearArbiter s) where
  slots i := { h.slots i with
    listed := by
      change 0 = if Function.queues (s.fn i) then 1 else 0
      rw [queues_of_rest (hr i)]
      rfl
    driven := fun hv => absurd hv (hr.not_driven i) }
  part := { h.part with
    order := ⟨.nil, nofun⟩
    grant := nofun }
  skew := h.skew
  clear := h.clear

theorem clearQueue_blocks (s : State) : SameBlocks (clearQueue s) s := by simp [SameBlocks]

theorem offerHalt_blocks (s : State) : SameBlocks (offerHalt s) s := by simp [SameBlocks]

theorem Lawful.haltEffects (h : Lawful sk aw s) : Lawful sk aw (haltEffects s) := by
  have h1 : Lawful sk aw (Machine.clearQueue (Machine.offerHalt s)) :=
    (h.blocks (offerHalt_blocks s)).blocks (clearQueue_blocks _)
  exact (Lawful.clearArbiter h1.stopAll (stopAll_allRest _ _ _)).stopPump.abortSequence

end

end Sys2Proof.Proofs
end

section
/-! PROOFS. The entry into MOVING and the service pass keep the laws of motion. -/

namespace Sys2Proof.Proofs
open Sys2Proof.Machine Sys2Proof.Laws

/-! ### Writes of a record that the laws do not notice -/

theorem setChan_chan_if (f : Function) (e x : Side) (ch : Channel) :
    (f.setChan e ch).chan x = if x = e then ch else f.chan x := by
  cases e <;> cases x <;> rfl

/-- One channel written. -/
theorem SameWork.setChan (f : Function) (e : Side) {ch : Channel}
    (hs : ch.stallTimer.isSome = true → f.activity = .moving ∨ (f.chan e).stallTimer.isSome = true) :
    SameWork (f.setChan e ch) f := by
  refine ⟨by cases e <;> rfl, by cases e <;> rfl, by cases e <;> rfl, by cases e <;> rfl, by cases e <;> rfl,
    by cases e <;> rfl, fun x hx => ?_⟩
  rw [setChan_chan_if] at hx
  split at hx
  case isTrue he => exact he ▸ hs hx
  case isFalse => exact .inr hx

/-- One channel written with its position kept. -/
theorem SameMotion.setChan (f : Function) (e : Side) {ch : Channel} (hp : ch.position = (f.chan e).position)
    (hs : ch.stallTimer.isSome = true → f.activity = .moving ∨ (f.chan e).stallTimer.isSome = true) :
    SameMotion (f.setChan e ch) f := by
  refine ⟨.setChan f e hs, fun x => ?_⟩
  rw [setChan_chan_if]
  split
  case isTrue he => exact he ▸ hp
  case isFalse => rfl

theorem Quiet.of_edit {i : Slot} {s t : State} (e : Edit i s t) (hf : SameMotion (t.fn i) (s.fn i))
    (hw : t.manifold.waitList = s.manifold.waitList) (hc : t.budget.claims = s.budget.claims) : Quiet s t where
  fn k := by
    by_cases hk : k = i
    · exact hk ▸ hf
    · exact .of_eq (e.fn k hk)
  cfg := e.cfg
  waits := hw
  holder := e.holder
  pump := e.pump
  cool := e.cool
  claims := hc
  runs := e.seqRuns
  owner := by rw [e.sequence]
  taken := by rw [e.sequence]
  now := Nat.le_of_eq e.now.symm

section
variable {sk aw : Option Slot} {s : State} {i : Slot}

theorem Lawful.storeFn (h : Lawful sk aw s) {f : Function} (hf : SameMotion f (s.fn i)) :
    Lawful sk aw (s.storeFn i f) :=
  Quiet.lawful (.of_edit (.storeFn f) (by rwa [storeFn_fn]) rfl rfl) h

theorem Lawful.putFn (h : Lawful sk aw s) {f : Function} (hf : SameMotion f (s.fn i)) : Lawful sk aw (putFn i f s) :=
  Quiet.lawful (.of_edit (.putFn f) (by rwa [putFn_fn]) (by simp) (by simp)) h

theorem Lawful.setChannel (h : Lawful sk aw s) {e : Side} {ch : Channel}
    (hp : ch.position = ((s.fn i).chan e).position)
    (hs : ch.stallTimer.isSome = true → (s.fn i).activity = .moving ∨ ((s.fn i).chan e).stallTimer.isSome = true) :
    Lawful sk aw (setChannel i e ch s) := h.storeFn (.setChan _ e hp hs)

theorem Lawful.turnChannel (h : Lawful sk aw s) {e : Side} : Lawful sk aw (turnChannel i e s) :=
  h.ite (h.storeFn (.setChan _ e rfl .inr))

theorem Lawful.orderChannel (h : Lawful sk aw s) {e : Side} : Lawful sk aw (orderChannel i e s) :=
  h.blocks (by simp [SameBlocks])

theorem Lawful.reorder (h : Lawful sk aw s) : Lawful sk aw (reorder i s) :=
  Lawful.ite (.fold (fun _ _ hu => hu.turnChannel.orderChannel) _ h) h

/-! ### The entry into MOVING (R13, R103) -/

theorem started_law {k : Kind} {f : Function} (h : RecordLaw k f) (hw : f.activity = .waiting) (now : Nat) :
    RecordLaw k (f.started now) where
  owner := by simpa [hw, Activity.isBusy, Function.started] using h.owner
  verb := by simpa [hw, Activity.isBusy, Function.started] using h.verb
  speed := by simpa [hw, Activity.isBusy, Function.started] using h.speed
  reason := by simp [Function.started]
  unused hk := by have := h.unused hk; rw [hw] at this; cases this
  settle := by
    have hn : f.settleTimer.isSome ≠ true := fun ht => by have := h.settle.mp ht; rw [hw] at this; cases this
    simpa [Function.started] using hn
  stall _ _ := rfl

/-- A waiting function whose entry has left and whose claim is taken is MOVING, its skew to be judged. -/
theorem Lawful.movingAt {u : State} (h : Lawful none aw s) (e : Edit i s u) (hf : u.fn i = s.fn i)
    (hw : (s.fn i).activity = .waiting) (hl : waitCount u i = 0)
    (hd : drawCount u i = if (s.cfg i).kind.isMotor then 1 else 0)
    (hg : (s.cfg i).kind.isHydraulic = true → ∃ g, s.manifold.holder = some g ∧ s.underGrant g i = true) :
    Lawful (some i) aw (movingAt i u) := by
  have em : Edit i s (Proofs.movingAt i u) := e.trans (.putFn _)
  have hfn : (Proofs.movingAt i u).fn i = (s.fn i).started u.now := by rw [movingAt_fn, hf]
  have hact : ((Proofs.movingAt i u).fn i).activity = .moving := by rw [hfn]; rfl
  have hkind : ((Proofs.movingAt i u).cfg i).kind = (s.cfg i).kind := shape_kind (em.cfg i)
  have hwc : waitCount (Proofs.movingAt i u) i = 0 := by
    rw [waitCount_congr (s := u) (by simp [Proofs.movingAt]), hl]
  have hown : ((Proofs.movingAt i u).fn i).owner = (s.fn i).owner := by rw [hfn]; rfl
  have hslot : SlotLaw i (Proofs.movingAt i u) := {
    record := by rw [hkind, hfn]; exact started_law (h.slots i).record hw _
    listed := by rw [hwc, Function.queues, hact]; rfl
    draw := by
      rw [drawCount_congr (s := u) (by simp [Proofs.movingAt]), hd, hact, hkind]
      simp
    jack := fun hj hb ho => by
      rw [State.isJack, hkind] at hj
      rw [hown] at ho ⊢
      rw [em.isTaken, em.sequence]
      exact (h.slots i).jack hj (by rw [hw]; rfl) ho
    driven := fun hv => by
      rcases hv with ⟨-, hy⟩ | ⟨ha, -⟩
      · obtain ⟨g, hg, hu⟩ := hg (hkind ▸ hy)
        exact ⟨g, em.holder.trans hg, (underGrant_congr hkind hown g).trans hu⟩
      · rw [hact] at ha; cases ha }
  exact ⟨em.slots h.slots hslot, em.part h.part (em.order_left h.part.order hwc),
    em.skew (h.except_skew (sk := some i)).skew fun hk => absurd rfl hk,
    em.clear h.clear (fun _ => .inl hw) (.inr (by rw [hfn]; rfl))⟩

/-- A MOVING function whose skew is to be judged is driven, or faults. -/
theorem Lawful.skewJudged (h : Lawful (some i) aw s) (hm : (s.fn i).activity = .moving) :
    Lawful none aw (if s.skewTooHard i then Machine.faultFn i .skew s else Machine.reorder i s) := by
  split
  case isTrue => exact h.faulted (by rw [hm]; rfl)
  case isFalse hs => exact Lawful.reorder (h.judged fun _ => by simpa using hs)

theorem Lawful.startMove {u : State} (h : Lawful none aw s) (e : Edit i s u) (hf : u.fn i = s.fn i)
    (hw : (s.fn i).activity = .waiting) (hl : waitCount u i = 0)
    (hd : drawCount u i = if (s.cfg i).kind.isMotor then 1 else 0)
    (hg : (s.cfg i).kind.isHydraulic = true → ∃ g, s.manifold.holder = some g ∧ s.underGrant g i = true) :
    Lawful none aw (startMove i u) :=
  (h.movingAt e hf hw hl hd hg).skewJudged (by rw [movingAt_fn]; rfl)

/-! ### A waiting function freed (R56) -/

theorem underGrant_hydraulic {g : Grant} (h : s.underGrant g i = true) : (s.cfg i).kind.isHydraulic = true := by
  simp only [State.underGrant, Bool.and_eq_true] at h
  exact h.1.1

theorem not_motor {k : Kind} (h : k.isHydraulic = true) : k.isMotor = false := by
  cases k with
  | jack | slideHyd => rfl
  | unused | slideTwin | awning => cases h

/-- A function that waits has no claim. -/
theorem SlotLaw.no_draw (h : SlotLaw i s) (hm : (s.fn i).activity ≠ .moving) : drawCount s i = 0 :=
  h.draw.trans (if_neg fun hk => hm hk.1)

/-- A function of the grant that waits for the pump to prime. -/
theorem Lawful.primed (h : Lawful none aw s) (hq : Function.queues (s.fn i) = true)
    (hg : ∃ g, s.manifold.holder = some g ∧ s.underGrant g i = true) :
    Lawful none aw (Machine.putFn i { s.fn i with waitReason := some .prime } (leaveList i s)) := by
  obtain ⟨hw, -⟩ := queues_iff.mp hq
  generalize hf : { s.fn i with waitReason := some WaitReason.prime } = f
  have e : Edit i s (Machine.putFn i f (leaveList i s)) := Edit.leaveList.trans (.putFn _)
  have hfn : (Machine.putFn i f (leaveList i s)).fn i = f := putFn_fn ..
  have hkind := shape_kind (e.cfg i)
  have hl : waitCount (Machine.putFn i f (leaveList i s)) i = 0 := by
    rw [waitCount_congr (s := leaveList i s) (by simp)]
    exact leaveList_waitCount i s
  have hslot : SlotLaw i (Machine.putFn i f (leaveList i s)) := {
    record := by
      obtain ⟨h1, h2, h3, -, h5, h6, h7⟩ := (h.slots i).record
      rw [hkind, hfn]
      subst hf
      exact ⟨h1, h2, h3, by simp [hw], h5, h6, h7⟩
    listed := by
      rw [hl, hfn]
      subst hf
      simp [Function.queues]
    draw := by
      rw [drawCount_congr (s := s) (by simp), (h.slots i).no_draw (by rw [hw]; decide), hfn]
      subst hf
      simp [hw]
    jack := fun hj hb ho => by
      rw [State.isJack, hkind] at hj
      rw [hfn] at hb ho ⊢
      rw [e.isTaken, e.sequence]
      subst hf
      exact (h.slots i).jack hj hb ho
    driven := fun _ => by
      obtain ⟨g, hg, hu⟩ := hg
      exact ⟨g, e.holder.trans hg, (underGrant_congr hkind (by rw [hfn]; subst hf; rfl) g).trans hu⟩ }
  refine ⟨e.slots h.slots hslot, e.part h.part (e.order_left h.part.order hl), e.skew h.skew fun _ hm => ?_,
    e.clear h.clear (fun _ => .inl hw) (.inr (by rw [hfn]; subst hf; rfl))⟩
  rw [hfn] at hm
  subst hf
  rw [hw] at hm
  cases hm

theorem Lawful.freeHydraulic (h : Lawful none aw s) (hq : Function.queues (s.fn i) = true)
    (hg : ∃ g, s.manifold.holder = some g ∧ s.underGrant g i = true) : Lawful none aw (freeHydraulic i s) := by
  by_cases hp : s.manifold.pump = .priming
  · rw [freeHydraulic_priming hp]
    exact h.primed hq hg
  · rw [freeHydraulic_driven hp]
    obtain ⟨hw, -⟩ := queues_iff.mp hq
    obtain ⟨g, hg, hu⟩ := hg
    refine Lawful.readyPump (h.startMove .leaveList rfl hw (leaveList_waitCount i s) ?_ fun _ => ⟨g, hg, hu⟩)
    rw [not_motor (underGrant_hydraulic hu)]
    exact (h.slots i).no_draw (by rw [hw]; decide)

/-- Freeing a hydraulic function touches the other slots' records and the grant in nothing. -/
theorem freeHydraulic_alone (hk : (s.cfg i).kind.isHydraulic = true) : Alone i (Machine.freeHydraulic i s) s
    ∧ (Machine.freeHydraulic i s).manifold.holder = s.manifold.holder := by
  by_cases hp : s.manifold.pump = .priming
  · rw [freeHydraulic_priming hp]
    exact ⟨(Alone.putFn _).trans ⟨fun _ _ => rfl, rfl⟩, by simp [leaveList]⟩
  · rw [freeHydraulic_driven hp]
    have hsk : (leaveList i s).isTaken i = false ∨ (leaveList i s).skewTooHard i = false :=
      .inr (skew_hydraulic (s := leaveList i s) hk)
    have hman := startMove_manifold hsk (leaveList_left i s)
    have hready : Alone i (Machine.readyPump (Machine.startMove i (leaveList i s)))
        (Machine.startMove i (leaveList i s)) := ⟨fun j _ => fn_congr (by simp) j, by simp⟩
    refine ⟨(hready.trans (.startMove hsk)).trans ⟨fun _ _ => rfl, rfl⟩, ?_⟩
    rw [(readyPump_manifold _).2, hman]
    rfl

/-- Entries of one grant are freed one after another. -/
theorem Lawful.freeAll {l : List Slot} {g : Grant} (h : Lawful none aw s) (hn : l.Nodup)
    (hg : s.manifold.holder = some g) (hl : ∀ k ∈ l, Function.queues (s.fn k) = true ∧ s.underGrant g k = true) :
    Lawful none aw (freeAll l s) := by
  induction l generalizing s with
  | nil => exact h
  | cons k l ih =>
    obtain ⟨hk, hnl⟩ := List.nodup_cons.mp hn
    obtain ⟨hq, hu⟩ := hl k (List.mem_cons_self ..)
    obtain ⟨ha, hh⟩ := freeHydraulic_alone (underGrant_hydraulic hu)
    rw [freeAll_cons]
    refine ih (h.freeHydraulic hq ⟨g, hg, hu⟩) hnl (hh.trans hg) fun j hj => ?_
    have hne : j ≠ k := fun he => hk (he ▸ hj)
    obtain ⟨hqj, huj⟩ := hl j (List.mem_cons_of_mem k hj)
    have hfn := ha.fn j hne
    exact ⟨by rw [hfn]; exact hqj,
      (underGrant_congr (by rw [cfg_of_settings (s := s) (by simp)]) (by rw [hfn]) g).trans huj⟩

/-- The listed slots are the functions that wait for the manifold or the budget. -/
theorem Lawful.listed_iff (h : Lawful sk aw s) (k : Slot) : Listed s k ↔ Function.queues (s.fn k) = true := by
  rw [Listed, ← List.count_pos_iff, ← waitCount_eq, (h.slots k).listed]
  split <;> simp_all

theorem Lawful.list_nodup (h : Lawful sk aw s) : (s.manifold.waitList.map (·.slot)).Nodup :=
  List.nodup_iff_count_le_one.mpr fun k => by
    rw [← waitCount_eq, (h.slots k).listed]
    split <;> decide

theorem Lawful.freeGranted {g : Grant} (h : Lawful none aw s) (hg : s.manifold.holder = some g) :
    Lawful none aw (freeGranted g s) := by
  rw [freeGranted_eq]
  refine h.freeAll (h.list_nodup.filter _) hg fun k hk => ?_
  obtain ⟨hl, hu⟩ := List.mem_filter.mp hk
  exact ⟨(h.listed_iff k).mp hl, hu⟩

theorem Lawful.serveHolder (h : Lawful none aw s) : Lawful none aw (serveHolder s) := by
  unfold Machine.serveHolder
  split
  case h_1 g hg => exact (h.freeGranted hg).ite h
  case h_2 => exact h

theorem startPump_foreign (i : Slot) (s : State) : (Machine.startPump s).foreignHolder i = s.foreignHolder i := by
  have hh : (Machine.startPump s).manifold.holder = s.manifold.holder := by simp [Machine.startPump, addClaim]
  have hu : ∀ g, (Machine.startPump s).underGrant g i = s.underGrant g i := fun g =>
    underGrant_congr (by rw [cfg_of_settings (s := s) (by simp)]) (by rw [fn_congr (s := s) (by simp)]) g
  simp only [State.foreignHolder, hh, hu]

/-- A slot's own grant is that of a holder whose owner and class it has. -/
theorem underGrant_grantOf {g : Grant} (hi : s.underGrant g i = true) {k : Slot} (hk : s.underGrant g k = true) :
    s.underGrant (s.grantOf i) k = true := by
  simp only [State.underGrant, State.grantOf, Bool.and_eq_true, beq_iff_eq] at hi hk ⊢
  exact ⟨⟨hk.1.1, hk.1.2.trans hi.1.2.symm⟩, hk.2.trans hi.2.symm⟩

theorem Lawful.grantTo (h : Lawful none aw s) (hf : s.foreignHolder i = false) : Lawful none aw (grantTo i s) := by
  refine Lawful.freeGranted (g := s.grantOf i) (h.setHolder (x := some (s.grantOf i)) (fun k hk => ?_) fun g hg hq => ?_) rfl
  · obtain ⟨g, hg, hu⟩ := (h.slots k).driven hk
    rw [State.foreignHolder, hg] at hf
    exact ⟨_, rfl, underGrant_grantOf (by simpa using hf) hu⟩
  · cases hg
    simpa [State.grantOf] using hq

/-- A waiting function that is not hydraulic is a motor's. -/
theorem RecordLaw.motor {k : Kind} {f : Function} (h : RecordLaw k f) (hw : f.activity = .waiting)
    (hk : k.isHydraulic = false) : k.isMotor = true := by
  cases k with
  | unused => have := h.unused rfl; rw [hw] at this; cases this
  | jack | slideHyd => cases hk
  | slideTwin | awning => rfl

theorem Lawful.admitMotor (h : Lawful none aw s) (hq : Function.queues (s.fn i) = true)
    (hk : (s.cfg i).kind.isHydraulic = false) : Lawful none aw (admitMotor i s) := by
  obtain ⟨hw, -⟩ := queues_iff.mp hq
  refine h.startMove (Edit.leaveList.trans (.addClaim _)) rfl hw (leaveList_waitCount i s) ?_ fun hy => ?_
  · rw [(h.slots i).record.motor hw hk]
    have h0 := (h.slots i).no_draw (by rw [hw]; decide)
    simpa [drawCount, addClaim, leaveList, State.setManifold] using h0
  · rw [hk] at hy; cases hy

theorem Lawful.walkList (l : List Slot) (h : Lawful none aw s) : Lawful none aw (walkList l s) := by
  induction l generalizing s with
  | nil => exact h
  | cons i l ih =>
    unfold Machine.walkList
    split
    case isTrue => exact ih h
    case isFalse hl =>
      have hq : Function.queues (s.fn i) = true := by
        refine (h.listed_iff i).mp ?_
        simpa [Listed] using hl
      split
      case isTrue =>
        split
        case isTrue => exact ih h
        case isFalse hf =>
          simp only [Bool.or_eq_true, not_or, Bool.not_eq_true, beq_eq_false_iff_ne] at hf
          split
          case isTrue => exact ih (h.grantTo hf.1)
          case isFalse hoff =>
            split
            case isTrue =>
              exact ih (Lawful.grantTo (h.startPump (by simpa using hoff) hf.2) ((startPump_foreign i s).trans hf.1))
            case isFalse => exact h
      case isFalse hk =>
        split
        case isTrue => exact ih (h.admitMotor hq (by simpa using hk))
        case isFalse => exact h

/-! ### The reasons (R56) -/

theorem waitReasonOf_ne (i : Slot) (s : State) : waitReasonOf i s ≠ .prime := by
  unfold waitReasonOf
  split <;> decide

/-- A listed function's reason is written. -/
theorem Lawful.reasoned (h : Lawful sk aw s) (hq : Function.queues (s.fn i) = true) {r : WaitReason} (hr : r ≠ .prime) :
    Lawful sk aw (Machine.putFn i { s.fn i with waitReason := some r } s) := by
  obtain ⟨hw, -⟩ := queues_iff.mp hq
  generalize hf : { s.fn i with waitReason := some r } = f
  have e : Edit i s (Machine.putFn i f s) := .putFn f
  have hfn : (Machine.putFn i f s).fn i = f := putFn_fn ..
  have hkind := shape_kind (e.cfg i)
  have hman : (Machine.putFn i f s).manifold = s.manifold := by simp
  have hslot : SlotLaw i (Machine.putFn i f s) := {
    record := by
      obtain ⟨h1, h2, h3, -, h5, h6, h7⟩ := (h.slots i).record
      rw [hkind, hfn]
      subst hf
      exact ⟨h1, h2, h3, by simp [hw], h5, h6, h7⟩
    listed := by
      rw [waitCount_congr hman, (h.slots i).listed, hq, hfn]
      subst hf
      simp [Function.queues, hw, hr]
    draw := by
      rw [drawCount_congr (s := s) (by simp), (h.slots i).draw, hfn, hkind]
      subst hf
      rfl
    jack := fun hj hb ho => by
      rw [State.isJack, hkind] at hj
      rw [hfn] at hb ho ⊢
      rw [e.isTaken, e.sequence]
      subst hf
      exact (h.slots i).jack hj hb ho
    driven := fun hv => by
      rw [hfn] at hv
      subst hf
      rcases hv with ⟨ha, -⟩ | ⟨-, hp⟩
      · simp only [hw] at ha; cases ha
      · exact absurd (Option.some.inj hp) hr }
  refine ⟨e.slots h.slots hslot, e.part h.part (e.order_same h.part.order (by rw [hman]) (by rw [hfn]; subst hf; rfl)),
    e.skew h.skew fun _ hm => ?_, e.clear h.clear (fun _ => .inl hw) (.inr (by rw [hfn]; subst hf; rfl))⟩
  rw [hfn] at hm
  subst hf
  rw [hw] at hm
  cases hm

theorem Lawful.writeReasons (h : Lawful sk aw s) : Lawful sk aw (writeReasons s) := by
  have hall : ∀ (l : List Slot) (u : State), Lawful sk aw u → (∀ k ∈ l, Function.queues (u.fn k) = true) →
      Lawful sk aw (l.foldl
        (fun s i => Machine.putFn i { s.fn i with waitReason := some (waitReasonOf i s) } s) u) := by
    intro l
    induction l with
    | nil => exact fun _ hu _ => hu
    | cons k l ih =>
      intro u hu hl
      refine ih _ (hu.reasoned (hl k (List.mem_cons_self ..)) (waitReasonOf_ne k u)) fun j hj => ?_
      rw [putFn_fn_if]
      split
      case isTrue he =>
        have := (queues_iff.mp (hl k (List.mem_cons_self ..))).1
        simp [Function.queues, this, waitReasonOf_ne]
      case isFalse => exact hl j (List.mem_cons_of_mem k hj)
  exact hall _ s h fun k hk => (h.listed_iff k).mp hk

theorem Lawful.servicePass (h : Lawful none aw s) : Lawful none aw (servicePass s) :=
  (h.serveHolder.walkList _).writeReasons

end

end Sys2Proof.Proofs
end

section
/-! PROOFS. An accepted request keeps the laws of motion (R9 to R12, R55, R58). -/

namespace Sys2Proof.Proofs
open Sys2Proof.Machine Sys2Proof.Laws

/-! ### A new entry of the wait list (R55) -/

theorem insertWait_perm (rank : Slot → Nat) (e : WaitEntry) (l : List WaitEntry) :
    (insertWait rank e l).Perm (e :: l) := by
  induction l with
  | nil => exact .refl _
  | cons x l ih =>
    unfold insertWait
    split
    · exact .refl _
    · exact (ih.cons x).trans (.swap e x l)

/-- Of two entries the first is served first. -/
def Precedes (rank : Slot → Nat) (a b : WaitEntry) : Prop :=
  rank b.slot < rank a.slot ∨ rank b.slot = rank a.slot ∧ a.arrival ≤ b.arrival

/-- A new entry that arrives last stands behind its equals. -/
theorem insertWait_pairwise {rank : Slot → Nat} {e : WaitEntry} {l : List WaitEntry} (hl : l.Pairwise (Precedes rank))
    (hlast : ∀ x ∈ l, x.arrival ≤ e.arrival) : (insertWait rank e l).Pairwise (Precedes rank) := by
  induction l with
  | nil => exact List.pairwise_singleton ..
  | cons x l ih =>
    obtain ⟨hx, hl'⟩ := List.pairwise_cons.mp hl
    unfold insertWait
    split
    case isTrue hlt =>
      refine List.pairwise_cons.mpr ⟨fun y hy => .inl ?_, hl⟩
      rcases List.mem_cons.mp hy with rfl | hy
      · exact hlt
      · have := hx y hy
        simp only [Precedes] at this
        omega
    case isFalse hge =>
      refine List.pairwise_cons.mpr ⟨fun y hy => ?_, ih hl' fun y hy => hlast y (List.mem_cons_of_mem x hy)⟩
      rcases List.mem_cons.mp ((insertWait_perm rank e l).mem_iff.mp hy) with rfl | hy
      · have := hlast x (List.mem_cons_self ..)
        simp only [Precedes]
        omega
      · exact hx y hy

section
variable {aw : Option Slot} {s : State} {i : Slot}

theorem joinList_waitCount (h : waitCount s i = 0) : waitCount (joinList i s) i = 1 := by
  have hp := (insertWait_perm (fun k => (s.fn k).owner.rank)
    ⟨i, s.now, startTimer s.now (s.settings.timing.waitLimit * 1000)⟩ s.manifold.waitList).countP_eq
      fun e => e.slot == i
  have hc : (joinList i s).manifold.waitList.countP (fun e => e.slot == i) = _ := hp
  rw [waitCount, hc, List.countP_cons]
  simpa [waitCount] using h

theorem joinList_order (h : ListOrder s) : ListOrder (joinList i s) := by
  obtain ⟨ho, he⟩ := h
  refine ⟨insertWait_pairwise (rank := fun k => (s.fn k).owner.rank) (e := ⟨i, s.now, _⟩) ho fun x hx => (he x hx).1,
    fun x hx => ?_⟩
  rcases List.mem_cons.mp ((insertWait_perm ..).mem_iff.mp hx) with rfl | hx
  · exact ⟨Nat.le_refl _, rfl⟩
  · exact he x hx

/-! ### The request taken -/

theorem taking_law {k : Kind} {f : Function} {c : FunctionConfig} {r : Request} (h : AtRest f) (hk : k ≠ .unused)
    (ho : r.owner ≠ .none) : RecordLaw k (f.taking c r) where
  owner := by simp [Function.taking, ho, Activity.isBusy]
  verb := by simp [Function.taking, Activity.isBusy]
  speed := by simp [Function.taking, Activity.isBusy]
  reason := by simp [Function.taking]
  unused hu := absurd hu hk
  settle := by simp [Function.taking, h.settle]
  stall e he := by
    have : ((f.taking c r).chan e).stallTimer = none := by
      cases e
      · exact h.stall .a
      · exact h.stall .b
    rw [this] at he
    cases he

/-- A function at rest takes a request and joins the wait list. -/
theorem Lawful.taken {r : Request} {u v : State} (h : Lawful none aw u) (hrest : AtRest (u.fn r.slot))
    (hkind : (u.cfg r.slot).kind ≠ .unused) (ho : r.owner ≠ .none)
    (hj : u.isJack r.slot = true → r.owner = .level ∨ r.owner = .travel →
      u.isTaken r.slot = true ∧ u.sequence.owner = some r.owner)
    (hc : ∀ p, (u.cfg r.slot).partner = some p → (u.cfg r.slot).kind.isSlide = true → u.awningBlocks p = false)
    (e : Edit r.slot u v) (hv : v.fn r.slot = (u.fn r.slot).taking (u.cfg r.slot) r)
    (hw : v.manifold.waitList = u.manifold.waitList) (hd : v.budget = u.budget) :
    Lawful none aw (joinList r.slot v) := by
  have ej : Edit r.slot u (joinList r.slot v) := e.trans .joinList
  have hfn : (joinList r.slot v).fn r.slot = (u.fn r.slot).taking (u.cfg r.slot) r := hv
  have hk := shape_kind (ej.cfg r.slot)
  have hact : ((joinList r.slot v).fn r.slot).activity = .waiting := by rw [hfn]; rfl
  have hown : ((joinList r.slot v).fn r.slot).owner = r.owner := by rw [hfn]; rfl
  have hreason : ((joinList r.slot v).fn r.slot).waitReason ≠ some .prime := by
    rw [hfn]
    simp only [Function.taking]
    split <;> decide
  have hnone : waitCount v r.slot = 0 := by
    rw [waitCount, hw, ← waitCount, (h.slots r.slot).listed, queues_of_rest hrest.busy]
    rfl
  have hpos : ((joinList r.slot v).fn r.slot).position = (u.fn r.slot).position := by rw [hfn]; rfl
  have hslot : SlotLaw r.slot (joinList r.slot v) := {
    record := by rw [hk, hfn]; exact taking_law hrest hkind ho
    listed := by
      rw [joinList_waitCount hnone, if_pos (queues_iff.mpr ⟨hact, hreason⟩)]
    draw := by
      rw [drawCount_congr (s := u) (by simpa using hd), (h.slots r.slot).no_draw, hact]
      · simp
      · intro hm
        have := hrest.busy
        rw [hm] at this
        cases this
    jack := fun hjack _ hlt => by
      rw [State.isJack, hk] at hjack
      rw [hown] at hlt ⊢
      rw [ej.isTaken, ej.sequence]
      exact hj hjack hlt
    driven := fun hdr => by
      rcases hdr with ⟨ha, -⟩ | ⟨-, hp⟩
      · rw [hact] at ha; cases ha
      · exact absurd hp hreason }
  have hord : ListOrder v := e.order_left h.part.order hnone
  refine ⟨ej.slots h.slots hslot, ej.part h.part (joinList_order hord), ej.skew h.skew fun _ hm => ?_,
    fun k p hp hkp hks hkb => ?_⟩
  · rw [hact] at hm; cases hm
  · have hblocks : (joinList r.slot v).awningBlocks p = u.awningBlocks p := ej.blocks (by
      by_cases hpi : p = r.slot
      · exact .inr (hpi ▸ hpos)
      · exact .inl hpi)
    rw [hblocks]
    rw [shape_partner (ej.cfg k)] at hkp
    rw [shape_kind (ej.cfg k)] at hks
    by_cases hki : k = r.slot
    · subst hki; exact hc p hkp hks
    · rw [ej.fn k hki] at hkb
      exact h.clear k p hp hkp hks hkb

/-! ### The manifold's preemption (R58) -/

/-- What a stop has not stopped is as it was. -/
theorem stopAll_busy {place : Bool} {r : StopReason} {is : List Slot} {k : Slot}
    (h : ((stopAll place r is s).fn k).activity.isBusy = true) : (stopAll place r is s).fn k = s.fn k ∧ k ∉ is := by
  rw [stopAll_fn_if] at h ⊢
  split at h
  case isTrue => cases h
  case isFalse hn => exact ⟨if_neg hn, fun hk => hn ⟨hk, h⟩⟩

theorem abortSequence_busy {place : Bool} {a : AbortReason} {k : Slot}
    (h : ((abortSequence place a s).fn k).activity.isBusy = true) : (abortSequence place a s).fn k = s.fn k := by
  rw [abortSequence_fn] at h ⊢
  split at h
  case isTrue => cases h
  case isFalse hn => exact if_neg hn

/-- Where the functions of the grant are stopped, nothing is driven. -/
theorem Lawful.grant_stopped {sk : Option Slot} (h : Lawful sk aw s) {g : Grant} (hg : s.manifold.holder = some g)
    {k : Slot} {r : StopReason} {place : Bool} :
    ¬ Function.Driven (s.cfg k).kind ((Machine.stopAll place r (s.grantSlots g) s).fn k) := fun hd => by
  obtain ⟨hf, hn⟩ := stopAll_busy (Driven.busy hd)
  rw [hf] at hd
  obtain ⟨g', hg', hu⟩ := (h.slots k).driven hd
  cases hg.symm.trans hg'
  refine hn (List.mem_filter.mpr ⟨mem_slots k, ?_⟩)
  rw [hu, Driven.busy hd]
  rfl

theorem Lawful.preemptManifold {sk : Option Slot} (h : Lawful sk aw s) : Lawful sk aw (preemptManifold i s) := by
  unfold Machine.preemptManifold
  split
  case h_1 => exact h
  case h_2 g hg =>
    split
    case isFalse => exact h
    case isTrue =>
      have hs : Lawful sk aw (Machine.stopAll true .preempted (s.grantSlots g) s) := h.stopAll
      refine Lawful.dropHolder (hs.abortSequence.ite hs) fun k hd => ?_
      have hc : (Machine.stopAll true .preempted (s.grantSlots g) s).cfg k = s.cfg k := cfg_of_settings (by simp) k
      split at hd
      case isTrue =>
        rw [abortSequence_busy (Driven.busy hd), cfg_of_settings (s := s) (by simp)] at hd
        exact h.grant_stopped hg hd
      case isFalse =>
        rw [hc] at hd
        exact h.grant_stopped hg hd

/-! ### Acceptance -/

theorem stopFn_position (place : Bool) (i k : Slot) (r : StopReason) (s : State) :
    ((stopFn place i r s).fn k).position = (s.fn k).position := by
  rw [stopFn_fn_if]
  split
  case isTrue hk => rw [hk.1]; rfl
  case isFalse => rfl

theorem abortSequence_position (place : Bool) (a : AbortReason) (k : Slot) (s : State) :
    ((abortSequence place a s).fn k).position = (s.fn k).position := by
  rw [abortSequence_fn]
  split <;> rfl

theorem preempt_position (r : Request) (k : Slot) (s : State) : ((preempt r s).fn k).position = (s.fn k).position := by
  unfold preempt
  simp only
  split
  · rw [abortSequence_position, stopFn_position]
  · rw [stopFn_position]

/-- After its preemption a function that is not UNAVAILABLE or FAULTED is IDLE. -/
theorem preempt_idle {r : Request} (hu : (s.fn r.slot).activity ≠ .unavailable) (hf : (s.fn r.slot).activity ≠ .faulted) :
    ((preempt r s).fn r.slot).activity = .idle := by
  have hs : ((stopFn true r.slot .preempted s).fn r.slot).activity = .idle := by
    rw [stopFn_fn_if]
    split
    case isTrue => rfl
    case isFalse hn =>
      cases ha : (s.fn r.slot).activity with
      | idle => rfl
      | unavailable => exact absurd ha hu
      | faulted => exact absurd ha hf
      | waiting | moving | settling => exact absurd ⟨rfl, by rw [ha]; rfl⟩ hn
  unfold preempt
  simp only
  split
  · rw [abortSequence_fn]
    split
    · rfl
    · exact hs
  · exact hs

theorem clearanceForbids_blocks {d : Direction} (h : clearanceForbids s i d = false) {p : Slot}
    (hp : (s.cfg i).partner = some p) (hk : (s.cfg i).kind.isSlide = true) : s.awningBlocks p = false := by
  simpa [clearanceForbids, hp, hk] using h

/-- A request of the running sequence for one of its jacks, or one that is no sequence's. -/
def Fitting (s : State) (r : Request) : Prop :=
  r.owner ≠ .none ∧ (s.isJack r.slot = true → r.owner = .level ∨ r.owner = .travel →
    r.own = true ∧ s.isTaken r.slot = true ∧ s.sequence.owner = some r.owner)

theorem preempt_lawful {sk : Option Slot} (h : Lawful sk aw s) (r : Request) : Lawful sk aw (preempt r s) := h.stopTaken

theorem Lawful.accept {r : Request} (h : Lawful none aw s) (hr : Fitting s r) (hv : verdict s r = none) :
    Lawful none aw (accept r s) := by
  obtain ⟨hu, hf, -, -, -, -, -, -, -, hclear, -⟩ := (acceptedRequestsPassEveryCheck s r).mp hv
  have hidle := preempt_idle hu hf
  have hp := preempt_lawful h r
  have hcfg : ∀ k, (preempt r s).cfg k = s.cfg k := cfg_of_settings (by simp)
  have hrest : AtRest ((preempt r s).fn r.slot) := (hp.slots r.slot).record.atRest (by rw [hidle]; rfl)
  have he : Edit r.slot (preempt r s) (requested r s) := Edit.trans
    (t := Machine.putFn r.slot (((preempt r s).fn r.slot).taking ((preempt r s).cfg r.slot) r) (preempt r s))
    (.putFn _) (SameBlocks.edit (by simp [SameBlocks, requested]))
  rw [accept_eq]
  refine Lawful.preemptManifold (hp.taken hrest (fun hk => ?_) hr.1 (fun hj hl => ?_) (fun p hpp hks => ?_) he ?_ ?_ ?_)
  · have := (hp.slots r.slot).record.unused hk
    rw [hidle] at this
    cases this
  · obtain ⟨hown, ht, hq⟩ := hr.2 (by rwa [State.isJack, hcfg] at hj) hl
    have he : preempt r s = Machine.stopFn true r.slot .preempted s := by simp [preempt, hown]
    rw [he, isTaken_congr (s := s) (by simp)]
    exact ⟨ht, by simpa using hq⟩
  · rw [hcfg] at hpp hks
    rw [awningBlocks_congr (s := s) (by rw [hcfg]) (preempt_position r p s)]
    exact clearanceForbids_blocks hclear hpp hks
  · exact (requested_fn r s r.slot).trans (by rw [if_pos rfl, hcfg])
  · simp [requested]
  · simp [requested]

/-- A request that no sequence makes. -/
theorem Fitting.of_other {r : Request} (ho : r.owner = .operator ∨ r.owner = .service ∨ r.owner = .wind) :
    Fitting s r := by
  refine ⟨?_, fun _ hl => ?_⟩ <;> rcases ho with ho | ho | ho <;> simp_all

end

end Sys2Proof.Proofs
end

section
/-! PROOFS. The levelling sequencer keeps the laws of motion. -/

namespace Sys2Proof.Proofs
open Sys2Proof.Machine Sys2Proof.Laws

section
variable {sk aw : Option Slot} {s : State} {i : Slot}

/-! ### The sequence record -/

/-- Lists, targets and timers of the sequence are read by no law. -/
theorem Lawful.twistHeld (h : Lawful sk aw s) {l : List Slot} :
    Lawful sk aw (s.setSeq { s.sequence with twistHeld := l }) := h.setSeq

theorem Lawful.releaseTwist (h : Lawful sk aw s) : Lawful sk aw (releaseTwist i s) := h.twistHeld.reorder.ite h

theorem Lawful.markFinished (h : Lawful sk aw s) : Lawful sk aw (markFinished i s) := by
  have h1 : Lawful sk aw (if s.isFinished i then s else s.setSeq { s.sequence with
      finished := s.sequence.finished ++ [i]
      twistHeld := s.sequence.twistHeld.filter (· != i) }) := h.ite (h.setSeq)
  unfold Machine.markFinished
  simp only
  split
  · exact h1.releaseTwist
  · exact h1

theorem Lawful.setLevelled (h : Lawful sk aw s) : Lawful sk aw (setLevelled s) := h.blocks (by simp [SameBlocks, Machine.setLevelled])

theorem Lawful.endSequenceAs (h : Lawful sk aw s) {r : SeqResult} : Lawful sk aw (endSequenceAs r s) :=
  h.endSequence.setLevelled.ite h.endSequence

theorem Lawful.endStow (h : Lawful sk aw s) : Lawful sk aw (endStow s) := h.endSequenceAs

theorem seqRuns_iff (s : State) : s.seqRuns = true ↔ s.sequence.phase ≠ .idle := by simp [State.seqRuns]

/-- A running sequence goes on in another phase. -/
theorem Lawful.inPhase (h : Lawful sk aw s) (hr : s.seqRuns = true) {q : Sequence} (hp : q.phase ≠ .idle)
    (ho : q.owner = s.sequence.owner := by rfl) (ht : q.taken = s.sequence.taken := by rfl) : Lawful sk aw (s.setSeq q) :=
  h.setSeq (by simpa [hr] using hp) ho ht

theorem Lawful.setPhase (h : Lawful sk aw s) (hr : s.seqRuns = true) {p : Phase} (hp : p ≠ .idle) :
    Lawful sk aw (setPhase p s) := h.ite (h.inPhase (q := { s.sequence with phase := p }) hr hp).levelFrame

theorem setPhase_phase (p : Phase) (s : State) : (setPhase p s).sequence.phase = p := by
  unfold setPhase
  split
  case isTrue h => exact h
  case isFalse => simp

theorem Lawful.endGround (h : Lawful sk aw s) (hr : s.seqRuns = true) : Lawful sk aw (endGround s) := by
  unfold Machine.endGround
  refine (h.inPhase hr ?_).levelFrame
  simp

theorem Lawful.formStep (h : Lawful sk aw s) (hr : s.seqRuns = true) : Lawful sk aw (formStep s).1 := by
  have hl : Lawful sk aw (Machine.setPhase .lift s) := h.setPhase hr (by decide)
  unfold Machine.formStep
  simp only
  split
  · refine Lawful.setPhase (p := .settle) (hl.setSeq) ?_ (by decide)
    rw [seqRuns_iff, setSeq_sequence]
    simp [setPhase_phase]
  · exact hl.setSeq

theorem Lawful.stepEnd (h : Lawful sk aw s) : Lawful sk aw (stepEnd s).1 := by
  unfold Machine.stepEnd
  split
  case isTrue hd =>
    have hp : s.sequence.phase = .lift := by
      simp only [stepDone, Bool.and_eq_true, beq_iff_eq] at hd
      exact hd.1
    refine Lawful.formStep (h.setSeq) ?_
    rw [seqRuns_iff, setSeq_sequence]
    simp [hp]
  case isFalse => exact h

theorem Lawful.evaluate (h : Lawful sk aw s) (hr : s.seqRuns = true) {gp gr : Int} :
    Lawful sk aw (evaluate gp gr s).1 := by
  have hs : ∀ q : Sequence, q.phase = s.sequence.phase → q.owner = s.sequence.owner → q.taken = s.sequence.taken →
      Lawful sk aw (Machine.formStep (s.setSeq q)).1 := fun q hp ho ht =>
    Lawful.formStep (h.setSeq (by rw [hp]; rfl) ho ht) (by rw [seqRuns_iff, setSeq_sequence, hp, ← seqRuns_iff]; exact hr)
  unfold Machine.evaluate
  simp only
  split
  · exact h.endSequenceAs (r := .tooSteep)
  · split
    · exact h.endSequenceAs (r := .levelOk)
    · split
      · exact h.endSequenceAs (r := if s.sequence.limited then .levelLimited else .outOfTolerance)
      · exact hs _ rfl rfl rfl

theorem Lawful.takeReading (h : Lawful sk aw s) {pitch roll : Int} {stable : Bool} :
    Lawful sk aw (takeReading pitch roll stable s).1 := by
  unfold Machine.takeReading
  simp only
  generalize clampInt (-2000) 2000 pitch = gp
  generalize clampInt (-2000) 2000 roll = gr
  have hx : Lawful sk aw (s.setSeq { s.sequence with reading := some (gp, gr, stable) }) := h.setSeq
  have hrx : (s.setSeq { s.sequence with reading := some (gp, gr, stable) }).seqRuns = s.seqRuns := rfl
  generalize s.setSeq { s.sequence with reading := some (gp, gr, stable) } = u at hx hrx ⊢
  (repeat' split)
  case isTrue.isTrue hr _ =>
    refine Lawful.evaluate ?_ ?_
    · exact hx.setSeq
    · exact hrx.trans hr.1
  case isTrue.isFalse => exact hx
  case isFalse => exact h

theorem Lawful.levelSettled (h : Lawful sk aw s) : Lawful sk aw (levelSettled s) := by
  have hs : Lawful sk aw (s.setSeq { s.sequence with settleTimer := none }) := h.setSeq
  unfold Machine.levelSettled
  simp only
  split
  case isTrue hp =>
    refine Lawful.setPhase (p := .sample) (hs.setSeq) ?_ (by decide)
    have hps : s.sequence.phase = .settle := hp
    rw [seqRuns_iff, setSeq_sequence, setSeq_sequence]
    simp [hps]
  case isFalse => exact hs

/-! ### Requests of the sequence (R73, R77) -/

theorem Lawful.seqRefused (h : Lawful sk aw s) {r : RefusalReason} : Lawful sk aw (seqRefused r s) := by
  unfold Machine.seqRefused
  split
  · exact h.endSequence
  all_goals exact h.abortSequence

/-- A taken jack's request has the owner of the sequence. -/
theorem Lawful.seqRequest_fitting (h : Lawful sk aw s) (ht : s.isTaken i = true) {d : Direction} {x : Option Nat}
    {v : Nat} : Fitting s (seqRequest s i d x v) := by
  have ho := h.part.owner ((isTaken_iff s i).mp ht).1
  rcases ho with ho | ho <;>
    exact ⟨by simp [seqRequest, ho], fun _ _ => ⟨rfl, ht, by simp [seqRequest, ho]⟩⟩

theorem Lawful.sendSeqRequest (h : Lawful none aw s) {r : Request} (hr : Fitting s r) {onEnd : State → State}
    (he : Lawful none aw (onEnd s)) : Lawful none aw (sendSeqRequest r onEnd s).1 := by
  unfold Machine.sendSeqRequest
  split
  case h_1 hv => exact h.accept hr hv
  case h_2 => exact he
  case h_3 => exact h.seqRefused

theorem Lawful.groundRequest (h : Lawful none aw s) : Lawful none aw (groundRequest i s).1 := by
  unfold Machine.groundRequest
  split
  case isTrue hc => exact h.sendSeqRequest (h.seqRequest_fitting hc.2.1) h.seqRefused
  case isFalse => exact h

theorem Lawful.liftRequest (h : Lawful none aw s) : Lawful none aw (liftRequest i s).1 := by
  unfold Machine.liftRequest
  (repeat' split)
  case h_1.isTrue hc => exact h.sendSeqRequest (h.seqRequest_fitting hc.2.1) h.seqRefused
  case h_1.isFalse => exact h
  case h_2 => exact h

theorem Lawful.stowRequest (h : Lawful none aw s) : Lawful none aw (stowRequest i s).1 := by
  unfold Machine.stowRequest
  split
  case isTrue hc => exact h.sendSeqRequest (h.seqRequest_fitting hc.2.1) h.markFinished
  case isFalse => exact h

/-! ### The start of a sequence -/

theorem Lawful.firstRequests (h : Lawful none aw s) {atOnce : Bool} {request : Slot → State → State × List Task}
    {task : Slot → Task} {is : List Slot} (hr : ∀ u k, Lawful none aw u → Lawful none aw (request k u).1) :
    Lawful none aw (firstRequests atOnce request task is s).1 := by
  unfold Machine.firstRequests
  split
  · exact .fold (fun u k hu => hr u k hu) _ h
  · exact h

theorem Lawful.preemptJacks (h : Lawful sk aw s) {o : Owner} {is : List Slot} : Lawful sk aw (preemptJacks o is s) :=
  .fold (fun _ _ hu => hu.stopFn.ite hu) _ h

/-- With no sequence running no jack moves for one. -/
theorem Lawful.not_sequenced (h : Lawful sk aw s) (hr : s.seqRuns = false) (k : Slot) : ¬ Sequenced s k := by
  rintro ⟨hj, hb, ho⟩
  have := ((h.slots k).jack hj hb ho).1
  rw [isTaken_iff, hr] at this
  cases this.1

/-- A sequence of LEVEL or TRAVEL begins where none runs. -/
theorem Lawful.begin (h : Lawful sk aw s) (hr : s.seqRuns = false) {q : Sequence}
    (ho : q.owner = some .level ∨ q.owner = some .travel) : Lawful sk aw (s.setSeq q) where
  slots k := (h.slots k).resequenced (h.not_sequenced hr k) rfl rfl rfl rfl fun _ => rfl
  part := { h.part with owner := fun _ => ho }
  skew := h.skew
  clear := h.clear

theorem preemptJacks_runs (o : Owner) (is : List Slot) (s : State) : (preemptJacks o is s).seqRuns = s.seqRuns := by
  have hq : (preemptJacks o is s).sequence = s.sequence := by
    unfold preemptJacks
    exact foldl_sequence (fun u k => by split <;> simp) is s
  rw [State.seqRuns, hq]
  rfl

theorem Lawful.startLevel (h : Lawful none aw s) (hr : s.seqRuns = false) : Lawful none aw (startLevel s).1 :=
  Lawful.firstRequests (Lawful.begin h.preemptJacks ((preemptJacks_runs ..).trans hr) (.inl rfl)).levelFrame
    fun _ _ hu => hu.groundRequest

theorem Lawful.startStow (h : Lawful none aw s) (hr : s.seqRuns = false) {o : Owner} (ho : o = .level ∨ o = .travel) :
    Lawful none aw (startStow o s).1 :=
  Lawful.firstRequests (Lawful.begin h.preemptJacks ((preemptJacks_runs ..).trans hr)
    (ho.imp (congrArg some) (congrArg some))).levelFrame fun _ _ hu => hu.stowRequest

theorem levelVerdict_runs (hv : levelVerdict s = none) : s.seqRuns = false := by
  unfold levelVerdict at hv
  split at hv
  case isTrue => cases hv
  case isFalse hr => simpa using hr

theorem stowVerdict_runs (hv : stowVerdict .level s = none) : s.seqRuns = false := by
  unfold stowVerdict at hv
  split at hv
  case isTrue => cases hv
  case isFalse hr => simpa using hr

theorem Lawful.stopSequence (h : Lawful sk aw s) : Lawful sk aw (stopSequence s) :=
  Lawful.blocks (s := Machine.abortSequence true .stopped s) h.abortSequence (by simp [SameBlocks, Machine.stopSequence])

theorem Lawful.operatorSequence (h : Lawful none aw s) {which : SeqRequest} :
    Lawful none aw (operatorSequence which s).1 := by
  unfold Machine.operatorSequence
  (repeat' split)
  · next hv => exact h.startLevel (levelVerdict_runs hv)
  · exact h.refusalSeqFrame
  · next hv => exact h.startStow (stowVerdict_runs hv) (.inl rfl)
  · exact h.refusalSeqFrame
  · exact h.stopSequence

theorem Lawful.travelStow (h : Lawful none aw s) : Lawful none aw (travelStow s).1 := by
  unfold Machine.travelStow
  (repeat' split)
  case h_1 => exact h
  case h_2.isTrue => exact h.abortSequence
  case h_2.isFalse hr => exact h.startStow (by simpa using hr) (.inr rfl)

/-! ### Jacks in motion -/

theorem Lawful.groundReport (h : Lawful sk aw s) : Lawful sk aw (groundReport i s) :=
  h.stopFn.markFinished.ite (h.faultFn.ite h)

theorem Lawful.twistMember (h : Lawful sk aw s) {limit : Nat} {other : Slot} :
    Lawful sk aw (twistMember limit i other s) :=
  (h.releaseTwist.ite h).ite (h.twistHeld.reorder.ite h)

theorem Lawful.twistRule (h : Lawful sk aw s) : Lawful sk aw (twistRule i s) := by
  unfold Machine.twistRule
  (repeat' split)
  · exact h
  · exact h.twistMember.twistMember
  · exact h
  · exact h

theorem Lawful.jackRested (h : Lawful sk aw s) : Lawful sk aw (jackRested i s).1 := by
  unfold Machine.jackRested
  (repeat' split)
  · exact h.markFinished
  · exact h
  · exact h
  · exact h

theorem Lawful.contactLost (h : Lawful sk aw s) : Lawful sk aw (contactLost i s).1 := by
  have hp : Lawful sk aw (Machine.putFn i { s.fn i with contact := false, contactTimer := none } s) :=
    h.putFn ⟨⟨rfl, rfl, rfl, rfl, rfl, rfl, fun e => by cases e <;> exact .inr⟩, fun e => by cases e <;> rfl⟩
  unfold Machine.contactLost
  simp only
  split
  · exact hp.setSeq
  · exact hp

end

end Sys2Proof.Proofs
end

section
/-! PROOFS. Operators' requests, the awnings, the pump and the supply keep the laws of motion. -/

namespace Sys2Proof.Proofs
open Sys2Proof.Machine Sys2Proof.Laws

section
variable {sk aw : Option Slot} {s : State} {i : Slot}

/-! ### A record at rest written again -/

/-- A function at rest stays at rest, where it stood or still to be judged. -/
theorem Lawful.putRest (h : Lawful sk aw s) (hb : (s.fn i).activity.isBusy = false) {f : Function} (hf : AtRest f)
    (hk : (s.cfg i).kind = .unused → f.activity = .unavailable) (hp : aw = some i ∨ f.position = (s.fn i).position) :
    Lawful sk aw (Machine.putFn i f s) := by
  refine (Edit.putFn f).rested h (by rwa [putFn_fn]) (by rwa [putFn_fn]) ?_ ?_ (by rwa [putFn_fn])
  · rw [waitCount_congr (s := s) (by simp), (h.slots i).listed, queues_of_rest hb]
    rfl
  · rw [drawCount_congr (s := s) (by simp)]
    exact (h.slots i).no_draw fun hm => by rw [hm] at hb; cases hb

/-- A record at rest with another activity of rest. -/
theorem AtRest.again {f : Function} (h : AtRest f) {a : Activity} (ha : a.isBusy = false) {g : Function}
    (hg : g.activity = a) (ho : g.owner = f.owner) (hv : g.verb = f.verb) (hs : g.moveSpeed = f.moveSpeed)
    (hr : g.waitReason = f.waitReason) (ht : g.settleTimer = f.settleTimer)
    (hc : ∀ e, (g.chan e).stallTimer = (f.chan e).stallTimer) : AtRest g :=
  ⟨hg ▸ ha, ho.trans h.owner, hv.trans h.verb, hs.trans h.speed, hr.trans h.reason, ht.trans h.settle,
    fun e => (hc e).trans (h.stall e)⟩

/-- A function that is there is of a kind. -/
theorem Lawful.used (h : Lawful sk aw s) (hf : (s.fn i).activity ≠ .unavailable) : (s.cfg i).kind ≠ .unused :=
  fun hk => hf ((h.slots i).record.unused hk)

theorem Lawful.clearFault (h : Lawful sk aw s) (hf : (s.fn i).activity = .faulted) : Lawful sk aw (clearFault i s) := by
  have hb : (s.fn i).activity.isBusy = false := by rw [hf]; rfl
  refine h.putRest hb (((h.slots i).record.atRest hb).again (a := .idle) rfl rfl rfl rfl rfl rfl rfl fun e => ?_)
    (fun hk => absurd hk (h.used (by rw [hf]; decide))) (.inr rfl)
  cases e <;> rfl

/-! ### Operators' requests and presses (R19, R20, R22, R24) -/

theorem Lawful.stopRequest (h : Lawful sk aw s) : Lawful sk aw (stopRequest i s) := Lawful.refuseHold h.stopTaken

theorem Lawful.clearRequest (h : Lawful sk aw s) : Lawful sk aw (clearRequest i s) := by
  unfold Machine.clearRequest
  split
  case h_1 => exact h.refusalFrame
  case h_2 hf => exact (h.clearFault hf).ite h.refusalFrame
  case h_3 => exact h

theorem Lawful.moveRequest (h : Lawful none aw s) {d : Direction} : Lawful none aw (moveRequest i d s).1 := by
  unfold Machine.moveRequest
  split
  case isTrue => exact h.stopRequest
  case isFalse =>
    split
    case h_1 hv => exact h.accept (.of_other (.inl rfl)) hv
    case h_2 => exact h.refusalFrame

theorem Lawful.operatorTask (h : Lawful none aw s) {v : RequestVerb} : Lawful none aw (operatorTask i v s).1 := by
  unfold Machine.operatorTask
  split
  · exact h.moveRequest
  · exact h.moveRequest
  · exact h.stopRequest
  · exact h.clearRequest

theorem Lawful.renewHold (h : Lawful sk aw s) : Lawful sk aw (renewHold i s) := h.putHold

theorem Lawful.newPress (h : Lawful none aw s) {d : Direction} {src : EntryIndex} :
    Lawful none aw (newPress i d src s).1 := by
  unfold Machine.newPress
  split
  case isTrue => exact h.stopRequest.putHold
  case isFalse =>
    split
    case h_1 hv => exact (h.accept (.of_other (.inl rfl)) hv).putHold
    case h_2 => exact h.putHold.refusalFrame

theorem Lawful.press (h : Lawful none aw s) {d : Direction} {src : EntryIndex} : Lawful none aw (press i d src s).1 := by
  unfold Machine.press
  split
  · exact h.newPress
  · exact h.renewHold.ite h
  · exact h.renewHold

theorem Lawful.holdExpired (h : Lawful sk aw s) : Lawful sk aw (holdExpired i s) := h.putHold.stopFn.ite h.putHold

theorem Lawful.waitExpired (h : Lawful sk aw s) : Lawful sk aw (waitExpired i s) := h.stopTaken

theorem Lawful.judgeMove (h : Lawful sk aw s) : Lawful sk aw (judgeMove i s) := h.stopTaken.ite h

theorem Lawful.judgeSequence (h : Lawful sk aw s) : Lawful sk aw (judgeSequence s) := h.abortSequence.ite h

/-! ### The awnings (R117 to R122) -/

theorem Lawful.windRetract (h : Lawful none aw s) : Lawful none aw (windRetract i s).1 := by
  unfold Machine.windRetract
  split
  case h_1 hv => exact h.accept (.of_other (.inr (.inr rfl))) hv
  case h_2 | h_3 => exact h.setOwed
  case h_4 => exact h

/-- A TRAVEL retract is an awning's. -/
theorem Lawful.travelRetract (h : Lawful none aw s) (hk : (s.cfg i).kind = .awning) :
    Lawful none aw (travelRetract i s).1 := by
  unfold Machine.travelRetract
  split
  case h_1 hv =>
    refine h.accept ⟨nofun, fun hj => ?_⟩ hv
    rw [State.isJack, retractRequest, hk] at hj
    cases hj
  case h_2 => exact h

theorem Lawful.retryObstructed (h : Lawful none aw s) (hf : (s.fn i).activity = .faulted) :
    Lawful none aw (retryObstructed i s).1 := by
  unfold Machine.retryObstructed
  split
  · exact h
  · exact Lawful.windRetract (Lawful.clearFault h.setWind hf)

theorem Lawful.gustRetract (h : Lawful none aw s) : Lawful none aw (gustRetract i s).1 := by
  unfold Machine.gustRetract
  simp only
  (repeat' split)
  · exact h
  · next hf _ => exact h.retryObstructed hf
  · exact h
  · exact h.setOwed
  · exact h.windRetract

theorem Lawful.owedRetract (h : Lawful none aw s) : Lawful none aw (owedRetract i s).1 := by
  unfold Machine.owedRetract
  split
  · exact h.windRetract
  · exact h

theorem Lawful.windJudged (h : Lawful sk aw s) : Lawful sk aw (windJudged s) := h.setWind.ite h.setWind

theorem Lawful.gustExpired (h : Lawful sk aw s) : Lawful sk aw (gustExpired s).1 := h.setWind.setAlarm

theorem Lawful.calmExpired (h : Lawful sk aw s) : Lawful sk aw (calmExpired s) := h.setWind.setAlarm

/-! ### The pump's reports and limits (R60, R62, R67) -/

/-- A function that waits for the pump goes MOVING. -/
theorem Lawful.startPrimed (h : Lawful none aw s) (hw : (s.fn i).activity = .waiting)
    (hp : (s.fn i).waitReason = some .prime) : Lawful none aw (Machine.startMove i s)
      ∧ ∀ k, k ≠ i → (Machine.startMove i s).fn k = s.fn k := by
  obtain ⟨g, hg, hu⟩ := (h.slots i).driven (.inr ⟨hw, hp⟩)
  have hy := underGrant_hydraulic hu
  refine ⟨h.startMove .refl rfl hw ?_ ?_ fun _ => ⟨g, hg, hu⟩, (Alone.startMove (.inr (skew_hydraulic hy))).fn⟩
  · rw [(h.slots i).listed, Function.queues, hp]
    simp
  · rw [not_motor hy]
    exact (h.slots i).no_draw (by rw [hw]; decide)

theorem slots_nodup : slots.Nodup := by decide

theorem Lawful.startAllPrimed (l : List Slot) (hn : l.Nodup) (h : Lawful none aw s)
    (hl : ∀ k ∈ l, (s.fn k).activity = .waiting ∧ (s.fn k).waitReason = some .prime) :
    Lawful none aw (l.foldl (fun s i => Machine.startMove i s) s) := by
  induction l generalizing s with
  | nil => exact h
  | cons k l ih =>
    obtain ⟨hk, hnl⟩ := List.nodup_cons.mp hn
    obtain ⟨hw, hp⟩ := hl k (List.mem_cons_self ..)
    obtain ⟨hs, hfn⟩ := h.startPrimed hw hp
    refine ih hnl hs fun j hj => ?_
    rw [hfn j fun he => hk (he ▸ hj)]
    exact hl j (List.mem_cons_of_mem k hj)

theorem mem_primeSlots {k : Slot} : k ∈ s.primeSlots ↔ (s.fn k).activity = .waiting ∧ (s.fn k).waitReason = some .prime := by
  simp [State.primeSlots, mem_slots]

theorem Lawful.pumpPressure (h : Lawful none aw s) {pressure : Nat} : Lawful none aw (pumpPressure pressure s) := by
  unfold Machine.pumpPressure
  split
  case isFalse => exact h
  case isTrue hp =>
    have hon : s.manifold.pump.isOn = true := by rw [hp.1]; rfl
    split
    case h_1 => exact h.holdOnPump hon
    case h_2 =>
      exact Lawful.startAllPrimed _ (slots_nodup.filter _) (h.runPump (p := .ready) hon rfl) fun k hk =>
        mem_primeSlots.mp hk

theorem Lawful.primeExpired (h : Lawful sk aw s) : Lawful sk aw (primeExpired s) := h.faultFns.stopPump

theorem Lawful.lowTimer (h : Lawful sk aw s) {l : LowTimer} :
    Lawful sk aw { s with budget := { s.budget with lowTimer := l } } := h.blocks (by simp [SameBlocks])

theorem Lawful.lowSupplyExpired (h : Lawful sk aw s) : Lawful sk aw (lowSupplyExpired s) :=
  h.lowTimer.setAlarm.stopAll.stopAll.abortSequence.stopPump

theorem Lawful.supplyChanged (h : Lawful sk aw s) : Lawful sk aw (supplyChanged s) := by
  have hc : Lawful sk aw (computeLimit s) := h.blocks (by simp [SameBlocks, computeLimit])
  unfold Machine.supplyChanged judgeLowSupply
  (repeat' split)
  · exact hc.lowTimer
  · exact hc
  · exact hc
  · exact hc
  · exact hc.lowTimer
  · exact hc.lowTimer.setAlarm

theorem Lawful.abortHolder (h : Lawful sk aw s) : Lawful sk aw (abortHolder s) := by
  unfold Machine.abortHolder
  split
  · exact h.abortSequence.ite h
  · exact h

theorem abortHolder_busy {k : Slot} (h : ((abortHolder s).fn k).activity.isBusy = true) :
    (abortHolder s).fn k = s.fn k := by
  revert h
  unfold abortHolder
  (repeat' split)
  · exact abortSequence_busy
  · exact fun _ => rfl
  · exact fun _ => rfl

/-- The duty limit stops all that the pump drives (R62). -/
theorem Lawful.dutyExpired (h : Lawful sk aw s) : Lawful sk aw (dutyExpired s) := by
  have hs : Lawful sk aw (Machine.abortHolder (Machine.stopAll true .pumpDuty s.primeSlots
      (Machine.stopAll true .pumpDuty s.movingHydraulics s))) := h.stopAll.stopAll.abortHolder
  refine Lawful.coolPump (hs.dropHolder fun k hd => ?_)
  have h1 := abortHolder_busy (Driven.busy hd)
  rw [h1] at hd
  obtain ⟨h2, hn2⟩ := stopAll_busy (Driven.busy hd)
  rw [h2] at hd
  obtain ⟨h3, hn3⟩ := stopAll_busy (Driven.busy hd)
  rw [h3, cfg_of_settings (s := s) (by simp)] at hd
  rcases hd with ⟨hm, hy⟩ | hp
  · refine hn3 ?_
    simp [State.movingHydraulics, State.slotsIn, mem_slots, hm, hy]
  · exact hn2 (mem_primeSlots.mpr hp)

theorem Lawful.dutyReachedNow (h : Lawful sk aw s) : Lawful sk aw (dutyReachedNow s) :=
  Lawful.ite (Lawful.dutyExpired (h.runTime (z := s.manifold.restTimer))) h

theorem Lawful.restExpired (h : Lawful sk aw s) : Lawful sk aw (restExpired s) := h.runTime

/-- A plain grant with no function left ends (R54). -/
theorem Lawful.orphaned (h : Lawful sk aw s) (ho : grantOrphaned s = true) :
    Lawful sk aw (s.setManifold { s.manifold with holder := none }) := by
  refine h.dropHolder fun k hd => ?_
  obtain ⟨g, hg, hu⟩ := (h.slots k).driven hd
  simp only [grantOrphaned, hg, Bool.and_eq_true, Bool.not_eq_true', List.any_eq_false] at ho
  refine ho.2 k (mem_slots k) ?_
  simp only [State.underGrant, Bool.and_eq_true] at hu
  exact ⟨hu, Driven.busy hd⟩

end

end Sys2Proof.Proofs
end

section
/-! PROOFS. The end of a move, the judgement of reports and the verify at rest keep the laws of motion. -/

namespace Sys2Proof.Proofs
open Sys2Proof.Machine Sys2Proof.Laws

section
variable {sk aw : Option Slot} {s : State} {i : Slot} {e : Side}

/-! ### The end of a move (R14, R15) -/

theorem settlingAs_law {k : Kind} {f : Function} (h : RecordLaw k f) (hm : f.activity = .moving) (r : StopReason)
    (x : Ending) (b : Bool) {t : Timer} (ht : t.isSome = true) : RecordLaw k (f.settlingAs r x b t) where
  owner := by simpa [hm, Activity.isBusy, Function.settlingAs, Function.unmarked] using h.owner
  verb := by simpa [hm, Activity.isBusy, Function.settlingAs, Function.unmarked] using h.verb
  speed := by simpa [hm, Activity.isBusy, Function.settlingAs, Function.unmarked] using h.speed
  reason := by simpa [hm, Function.settlingAs, Function.unmarked] using h.reason
  unused hk := by have := h.unused hk; rw [hm] at this; cases this
  settle := by simp [Function.settlingAs, ht]
  stall x hx := by cases x <;> cases hx

theorem settleFn_edit (r : StopReason) (x : Ending) (b : Bool) : Edit i s (settleFn i r x b s) :=
  ((Edit.holdAll true i).trans .releaseDraw).trans (.putFn _)

/-- A MOVING function settles. -/
theorem Lawful.settleFn (h : Lawful sk aw s) (hm : (s.fn i).activity = .moving) {r : StopReason} {x : Ending} {b : Bool} :
    Lawful sk aw (settleFn i r x b s) := by
  have ed := settleFn_edit (s := s) (i := i) r x b
  obtain ⟨t, ht, hfn⟩ : ∃ t : Timer, t.isSome = true
      ∧ (Machine.settleFn i r x b s).fn i = (s.fn i).settlingAs r x b t := by
    refine ⟨startTimer s.now (s.cfg i).settleTime, rfl, ?_⟩
    simp only [Machine.settleFn, putFn_fn]
    rw [fn_congr (s := s) (by simp), cfg_of_settings (s := s) (by simp)]
    congr 1
    simp
  have hact : ((Machine.settleFn i r x b s).fn i).activity = .settling := by rw [hfn]; rfl
  have hown : ((Machine.settleFn i r x b s).fn i).owner = (s.fn i).owner := by rw [hfn]; rfl
  have hkind := shape_kind (ed.cfg i)
  have hwait : (Machine.settleFn i r x b s).manifold.waitList = s.manifold.waitList := by
    simp [Machine.settleFn]
  have hslot : SlotLaw i (Machine.settleFn i r x b s) := {
    record := by rw [hkind, hfn]; exact settlingAs_law (h.slots i).record hm r x b ht
    listed := by
      have hs : Function.queues (s.fn i) = false := by rw [Function.queues, hm]; rfl
      have ht : Function.queues ((Machine.settleFn i r x b s).fn i) = false := by rw [Function.queues, hact]; rfl
      rw [waitCount, hwait, ht, ← hs]
      exact (h.slots i).listed
    draw := by
      rw [hact, if_neg (by simp), drawCount_congr (s := Machine.releaseDraw i (Machine.holdAll true i s))
        (by simp [Machine.settleFn])]
      exact releaseDraw_drawCount (h.slots i) (fn_congr (by simp) i) (by simp)
    jack := fun hj _ ho => by
      rw [State.isJack, hkind] at hj
      rw [hown] at ho ⊢
      rw [ed.isTaken, ed.sequence]
      exact (h.slots i).jack hj (by rw [hm]; rfl) ho
    driven := fun hd => by rcases hd with ⟨ha, -⟩ | ⟨ha, -⟩ <;> rw [hact] at ha <;> cases ha }
  exact ⟨ed.slots h.slots hslot, ed.part h.part (ed.order_same h.part.order hwait hown),
    ed.skew h.skew (fun _ ha => by rw [hact] at ha; cases ha),
    ed.clear h.clear (fun _ => .inr hm) (.inr (by rw [hfn]; rfl))⟩

theorem Lawful.endReached (h : Lawful sk aw s) (hm : (s.fn i).activity = .moving) {d : Direction} {b : Bool} :
    Lawful sk aw (endReached i d b s) := h.settleFn hm

theorem Lawful.targetReached (h : Lawful sk aw s) (hm : (s.fn i).activity = .moving) :
    Lawful sk aw (targetReached i s) := h.settleFn hm

/-! ### Marks on a channel (R102 to R105) -/

theorem Lawful.resumeChannel (h : Lawful sk aw s) : Lawful sk aw (resumeChannel i e s) := h.ite (h.setChannel rfl .inr)

theorem Lawful.setMarker (h : Lawful sk aw s) {m : Option Side} : Lawful sk aw (setMarker i m s) :=
  h.storeFn ⟨⟨rfl, rfl, rfl, rfl, rfl, rfl, fun e => by cases e <;> exact .inr⟩, fun e => by cases e <;> rfl⟩

theorem Lawful.clearMarker (h : Lawful sk aw s) : Lawful sk aw (clearMarker i s) := by
  unfold Machine.clearMarker
  split
  · exact h
  · exact h.setMarker.resumeChannel

theorem Lawful.takeEndMark (h : Lawful sk aw s) : Lawful sk aw (takeEndMark i e s) :=
  Lawful.clearMarker (h.setChannel rfl nofun)

theorem Lawful.takeArrivalMark (h : Lawful sk aw s) : Lawful sk aw (takeArrivalMark i e s) :=
  Lawful.clearMarker (h.setChannel rfl nofun)

theorem setChannel_activity (ch : Channel) : ((setChannel i e ch s).fn i).activity = (s.fn i).activity := by
  rw [setChannel, storeFn_fn]
  cases e <;> rfl

theorem resumeChannel_activity : ((resumeChannel i e s).fn i).activity = (s.fn i).activity := by
  unfold resumeChannel
  split
  · rfl
  · exact setChannel_activity _

theorem clearMarker_activity : ((clearMarker i s).fn i).activity = (s.fn i).activity := by
  unfold clearMarker
  split
  · rfl
  · rw [resumeChannel_activity, setMarker, storeFn_fn]

theorem takeEndMark_activity : ((takeEndMark i e s).fn i).activity = (s.fn i).activity :=
  clearMarker_activity.trans (setChannel_activity _)

theorem takeArrivalMark_activity : ((takeArrivalMark i e s).fn i).activity = (s.fn i).activity :=
  clearMarker_activity.trans (setChannel_activity _)

theorem Lawful.finishMotor (h : Lawful sk aw s) (hm : (s.fn i).activity = .moving) : Lawful sk aw (finishMotor i s) :=
  ((h.endReached hm).ite ((h.endReached hm).ite (h.targetReached hm))).ite h

theorem Lawful.judgeStall (h : Lawful sk aw s) (hm : (s.fn i).activity = .moving) : Lawful sk aw (judgeStall i e s) := by
  unfold Machine.judgeStall
  simp only
  split
  · exact (h.takeEndMark.finishMotor (takeEndMark_activity.trans hm)).ite h.faultFn
  · exact h

theorem Lawful.stallTest (h : Lawful sk aw s) (hm : (s.fn i).activity = .moving) {current : Nat} {flags : Byte} :
    Lawful sk aw (stallTest i e current flags s) := by
  unfold Machine.stallTest
  simp only
  split
  · exact Lawful.judgeStall (h.setChannel rfl nofun) ((setChannel_activity _).trans hm)
  · exact h.setChannel rfl fun _ => .inl hm

theorem Lawful.arrivalTest (h : Lawful sk aw s) (hm : (s.fn i).activity = .moving) : Lawful sk aw (arrivalTest i e s) := by
  unfold Machine.arrivalTest
  simp only
  (repeat' split)
  · exact h
  · exact h.takeArrivalMark.finishMotor (takeArrivalMark_activity.trans hm)
  · exact Lawful.resumeChannel (h.setChannel rfl .inr)
  · exact h
  · exact h

theorem Lawful.holdEnd (h : Lawful sk aw s) : Lawful sk aw (holdEnd i e s) := by
  refine h.setMarker.setChannel ?_ nofun
  rw [Machine.setMarker, storeFn_fn]
  cases e <;> rfl

theorem Lawful.softSkewTest (h : Lawful sk aw s) : Lawful sk aw (softSkewTest i s) := by
  unfold Machine.softSkewTest
  simp only
  (repeat' split)
  · exact h
  · exact h
  · exact h.holdEnd
  · exact h
  · exact h.clearMarker
  · exact h.holdEnd.resumeChannel
  · exact h

/-! ### Reports of a motor channel (R103, R106, R112) -/

theorem moves_iff : s.moves i = true ↔ (s.fn i).activity = .moving := by simp [State.moves]

theorem Lawful.whileMoving (h : Lawful sk aw s) {test : State → State}
    (ht : (s.fn i).activity = .moving → Lawful sk aw (test s)) : Lawful sk aw (whileMoving i test s) := by
  unfold Machine.whileMoving
  split
  case isTrue hm => exact ht (moves_iff.mp hm)
  case isFalse => exact h

theorem Lawful.whileMoving_if (h : Lawful sk aw s) {c : State → Prop} [DecidablePred c] {test : State → State}
    (ht : Lawful sk aw s → (s.fn i).activity = .moving → Lawful sk aw (test s)) :
    Lawful sk aw (Machine.whileMoving i (fun s => if c s then test s else s) s) :=
  h.whileMoving fun hm => (ht h hm).ite h

/-- The hard-skew test judges the twin. -/
theorem Lawful.hardSkewTest (h : Lawful (some i) aw s) (hf : (s.fn i).activity.canFault = true) :
    Lawful none aw (hardSkewTest i s) := by
  unfold Machine.hardSkewTest
  split
  case isTrue => exact h.faulted hf
  case isFalse hs => exact h.judged fun _ => by simpa using hs

theorem Lawful.clearanceStop (h : Lawful sk aw s) : Lawful sk aw (clearanceStop i s) := by
  unfold Machine.clearanceStop
  split
  · exact h
  · exact h.stopFn.ite h

theorem Lawful.motorReport (h : Lawful (some i) aw s) (hm : (s.fn i).activity = .moving) {current : Nat} {flags : Byte} :
    Lawful none aw (motorReport i e current flags s) := by
  have h1 := (h.hardSkewTest (by rw [hm]; rfl)).clearanceStop (i := i)
  have h2 := h1.whileMoving (i := i) (test := Machine.stallTest i e current flags) fun hm => h1.stallTest hm
  unfold Machine.motorReport
  refine Lawful.whileMoving_if ?_ fun hu _ => hu.softSkewTest
  exact Lawful.whileMoving_if h2 fun hu hm => hu.arrivalTest hm

theorem Lawful.twinReport (h : Lawful (some i) aw s) {current : Nat} {flags : Byte} :
    Lawful none aw (twinReport i e current flags s) := by
  unfold Machine.twinReport
  split
  case isTrue hm => exact h.motorReport (moves_iff.mp hm)
  case isFalse hm =>
    split
    case isTrue hs => exact h.hardSkewTest (by rw [hs]; rfl)
    case isFalse => exact h.judged fun ha => absurd (moves_iff.mpr ha) hm

theorem Lawful.twinReports (h : Lawful none aw s) (es : List Side) {current : Nat} {flags : Byte} :
    Lawful none aw (es.foldl (fun s e => Machine.twinReport i e current flags s) s) :=
  .fold (fun _ _ hu => hu.except_skew.twinReport) es h

/-! ### Reports of a hydraulic function (R15, R79, R100) -/

theorem Lawful.slideHydReport (h : Lawful sk aw s) (hm : (s.fn i).activity = .moving) {pressure : Nat} :
    Lawful sk aw (slideHydReport i pressure s) := by
  unfold Machine.slideHydReport
  simp only
  split
  · exact ((h.endReached hm).ite h.faultFn).ite ((h.targetReached hm).ite h)
  · exact h

theorem Lawful.hydReport (h : Lawful sk aw s) {pressure : Nat} : Lawful sk aw (hydReport i pressure s) := by
  unfold Machine.hydReport
  split
  case isTrue hm => exact h.faultFn.ite (h.slideHydReport (moves_iff.mp hm))
  case isFalse => exact h

theorem Lawful.jackReport (h : Lawful sk aw s) {pressure : Nat} : Lawful sk aw (jackReport i pressure s) := by
  unfold Machine.jackReport
  simp only
  split
  case isTrue => exact h.faultFn
  case isFalse =>
    refine h.groundReport.ite ?_
    split
    case isTrue hm =>
      split
      · exact (h.targetReached hm).ite h
      · exact (h.endReached hm).ite h
      · exact (h.endReached hm).ite h
      · exact h
    case isFalse => exact h

/-! ### A report of any slot (R5, R111, R163) -/

theorem skew_not_twin (hk : (s.cfg i).kind ≠ .slideTwin) : s.skewTooHard i = false := by
  simp [State.skewTooHard, hk]

/-- A report judged by the slot's kind: a twin whose skew is still to be judged has the reported channel. -/
theorem Lawful.kindReport (h : Lawful (some i) aw s) {d : DriveRef} {load : Nat} {flags : Byte}
    (hd : (∀ e, (s.cfg i).drive e ≠ some d) → (s.fn i).activity = .moving → s.skewTooHard i = false) :
    Lawful none aw (kindReport i d load flags s) := by
  have hjudge : (s.cfg i).kind ≠ .slideTwin → Lawful none aw s := fun hk => h.judged fun _ => skew_not_twin hk
  have htwin : Lawful none aw (((s.cfg i).sides.filter fun e => (s.cfg i).drive e == some d).foldl
      (fun s e => Machine.twinReport i e load flags s) s) := by
    cases he : (s.cfg i).sides.filter fun e => (s.cfg i).drive e == some d with
    | nil =>
      refine h.judged (hd fun e hde => ?_)
      have := List.filter_eq_nil_iff.mp he e (drives_of_drive hde)
      simp [hde] at this
    | cons e es => exact Lawful.twinReports h.twinReport es
  unfold Machine.kindReport
  split
  case h_1 hk => exact Lawful.reorder ((hjudge (by rw [hk]; decide)).jackReport.twistRule)
  case h_2 hk => exact Lawful.reorder ((hjudge (by rw [hk]; decide)).hydReport)
  case h_3 | h_4 => exact htwin.reorder
  case h_5 hk => exact hjudge (by rw [hk]; decide)

theorem Lawful.activityReport (h : Lawful (some i) aw s) {d : DriveRef} {load : Nat} {flags : Byte}
    (hd : (∀ e, (s.cfg i).drive e ≠ some d) → (s.fn i).activity = .moving → s.skewTooHard i = false) :
    Lawful none aw (activityReport i d load flags s).1 := by
  unfold Machine.activityReport
  split
  case isTrue hf => exact (h.faulted hf).ite ((h.faulted hf).ite (h.kindReport hd))
  case isFalse hf =>
    have hj : Lawful none aw s := h.judged fun hm => by rw [hm] at hf; exact absurd rfl hf
    split
    · exact hj
    · exact hj

/-- An awning's partner is the slide that names it (R71). -/
theorem partner_awning (ha : s.settings.Agrees) {p : Slot} (hp : (s.cfg i).partner = some p)
    (hk : (s.cfg i).kind.isSlide = true) : (s.cfg p).partner = some i ∧ (s.cfg p).kind = .awning := by
  obtain ⟨-, hpart, -⟩ := ha
  obtain ⟨hb, hf⟩ := hpart i p hp
  refine ⟨hb, ?_⟩
  change partnersFit (s.cfg i).kind (s.cfg p).kind = true at hf
  cases hki : (s.cfg i).kind <;> simp_all [partnersFit, Kind.isSlide]

/-- The slide test judges the awning's clearance (R111). -/
theorem Lawful.slideTest (h : Lawful sk (some i) s) (ha : s.settings.Agrees) : Lawful sk none (slideTest i s) := by
  have hjudge : ∀ {t : State}, Lawful sk (some i) t → (∀ k, t.cfg k = s.cfg k) →
      (∀ k, (s.cfg k).partner = some i → (s.cfg k).kind.isSlide = true →
        (t.fn k).activity = .waiting ∨ (t.fn k).activity = .moving → t.awningBlocks i = false) →
      Lawful sk none t := fun ht hc hi => { ht with
    clear := fun k p _ hp hk hb => by
      by_cases hpi : p = i
      · subst hpi
        exact hi k (hc k ▸ hp) (hc k ▸ hk) hb
      · exact ht.clear k p (fun he => hpi (Option.some.inj he).symm) hp hk hb }
  unfold Machine.slideTest
  split
  case h_1 hn =>
    refine hjudge h (fun _ => rfl) fun k hp hk _ => ?_
    have := (partner_awning ha hp hk).1
    rw [hn] at this
    cases this
  case h_2 p hp =>
    split
    case isTrue hc =>
      refine hjudge h.stopFn (fun k => by rw [cfg_of_settings (s := s) (by simp)]) fun k hpk hk hb => ?_
      have hkp : k = p := Option.some.inj ((partner_awning ha hpk hk).1.symm.trans hp)
      subst hkp
      have hbusy : (s.fn k).activity.isBusy = true := by rcases hc.2.2.1 with hw | hw <;> rw [hw] <;> rfl
      rw [stopFn_fn_if, if_pos ⟨rfl, hbusy⟩] at hb
      rcases hb with hb | hb <;> cases hb
    case isFalse hc =>
      refine hjudge h (fun _ => rfl) fun k hpk hk hb => ?_
      obtain ⟨hpi, haw⟩ := partner_awning ha hpk hk
      have hkp : k = p := Option.some.inj (hpi.symm.trans hp)
      subst hkp
      simpa [haw, hk, hb] using hc

/-! ### Positions written -/

/-- A slot goes on with its work at another position. -/
theorem Edit.reworked {t : State} (ed : Edit i s t) (h : Lawful sk aw s) (hf : SameWork (t.fn i) (s.fn i))
    (hw : t.manifold.waitList = s.manifold.waitList) (hc : t.budget.claims = s.budget.claims)
    (hs : sk ≠ some i → (t.fn i).activity = .moving → t.skewTooHard i = false) (hcl : ClearanceBut aw t) :
    Lawful sk aw t where
  slots := ed.slots h.slots ((h.slots i).congr hf (shape_kind (ed.cfg i)) (by unfold Proofs.waitCount; rw [hw])
    (by unfold drawCount; rw [hc]) (ed.isTaken i) (by rw [ed.sequence]) ed.holder)
  part := ed.part h.part (ed.order_same h.part.order hw hf.owner)
  skew := ed.skew h.skew hs
  clear := hcl

/-- A report's record does the same work. -/
theorem readReport_work (s : State) (c : FunctionConfig) (d : DriveRef) (r : ChannelRecord) (f : Function) :
    SameWork (f.readReport s c d r) f := by
  obtain ⟨co, ct, he⟩ := readReport_shape s c d r f
  rw [he]
  refine ⟨rfl, rfl, rfl, rfl, rfl, rfl, fun e hx => .inr ?_⟩
  revert hx
  cases e <;> simp only [Function.chan, classRead, endsRead] <;> split <;> exact id

theorem readReport_elsewhere (s : State) {c : FunctionConfig} {d : DriveRef} (r : ChannelRecord) (f : Function)
    (hd : ∀ e, c.drive e ≠ some d) (e : Side) : ((f.readReport s c d r).chan e).position = (f.chan e).position := by
  obtain ⟨co, ct, he⟩ := readReport_shape s c d r f
  rw [he]
  cases e <;> simp only [Function.chan, classRead, endsRead, hd, if_false]

theorem Lawful.reportRead (h : Lawful none none s) {d : DriveRef} {r : ChannelRecord} :
    Lawful (some i) (some i) (reportRead i d r s) := by
  have ed : Edit i s (Proofs.reportRead i d r s) := .putFn _
  have hfn := reportRead_fn i d r s
  have hf : SameWork ((Proofs.reportRead i d r s).fn i) (s.fn i) := by rw [hfn]; exact readReport_work ..
  refine ed.reworked (h.except_skew.except_clear) hf (by simp [Proofs.reportRead]) (by simp [Proofs.reportRead])
    (fun hn => absurd rfl hn) (ed.clear (h.except_clear (aw := some i)).clear (fun hb => ?_) (.inl rfl))
  rwa [hf.activity] at hb

theorem Lawful.slotReport (h : Lawful none none s) (ha : s.settings.Agrees) {d : DriveRef} :
    Lawful none none (slotReport i d s).1 := by
  cases hr : s.channelRecord d with
  | none => simpa only [Machine.slotReport, hr] using h
  | some r =>
    rw [slotReport_some hr]
    have hread : Lawful (some i) (some i) (Proofs.reportRead i d r s) := h.reportRead
    refine Lawful.slideTest (Lawful.activityReport hread fun hd hm => ?_) ?_
    · have hd' : ∀ e, (s.cfg i).drive e ≠ some d := fun e => by rw [← reportRead_cfg i i d r s]; exact hd e
      rw [skewTooHard_congr (s := s) (by rw [reportRead_cfg]) fun e => by
        rw [reportRead_fn]; exact readReport_elsewhere s r _ hd' e]
      refine h.skew i nofun ?_
      rw [reportRead_fn] at hm
      exact (readReport_work ..).activity ▸ hm
    · have : (Machine.activityReport i d ((r.load.map Int.toNat).getD 0) (r.flags.getD 0)
          (Proofs.reportRead i d r s)).1.settings = s.settings := by simp [reportRead_settings]
      rw [this]
      exact ha

/-! ### The verify at rest (R17, R107) -/

/-- A settling function passes its verify. -/
theorem Lawful.passVerify (h : Lawful sk aw s) (hs : (s.fn i).activity = .settling) : Lawful sk aw (passVerify i s) := by
  have hfn : (Machine.passVerify i s).fn i = { (s.fn i).resting with activity := .idle } := putFn_fn ..
  refine (Edit.putFn _).rested h ?_ (fun hk => ?_) ?_ ?_ (.inr (by rw [putFn_fn]; rfl))
  · rw [putFn_fn]; exact resting_atRest _ rfl
  · have := (h.slots i).record.unused hk
    rw [hs] at this
    cases this
  · rw [waitCount_congr (s := s) (by simp), (h.slots i).listed, Function.queues, hs]
    rfl
  · rw [drawCount_congr (s := s) (by simp)]
    exact (h.slots i).no_draw (by rw [hs]; decide)

theorem setCfg_cfg_if (s : State) (i k : Slot) (c : FunctionConfig) :
    (s.setCfg i c).cfg k = if k = i then c else s.cfg k := by
  by_cases hk : k = i
  · subst hk
    simp [State.cfg, State.setCfg]
  · rw [if_neg hk]
    exact Vector.getElem_set_ne i.isLt k.isLt fun he => hk (Fin.ext he.symm)

theorem Edit.setCfg {c : FunctionConfig} (hc : shape c = shape (s.cfg i)) : Edit i s (s.setCfg i c) := by
  refine ⟨fun _ _ => rfl, fun k => ?_, rfl, rfl, rfl, rfl, rfl, rfl, rfl⟩
  rw [setCfg_cfg_if]
  split
  case isTrue hk => exact hk ▸ hc
  case isFalse => rfl

theorem ClearanceBut.judged {t : State} (h : ClearanceBut (some i) t) (hi : t.awningBlocks i = false) :
    ClearanceBut none t := fun k p _ hp hk hb => by
  by_cases hpi : p = i
  · exact hpi ▸ hi
  · exact h k p (fun he => hpi (Option.some.inj he).symm) hp hk hb

/-- A settling function's channel is read at 0. -/
theorem Lawful.zeroed (h : Lawful sk none s) (hs : (s.fn i).activity = .settling) {c : FunctionConfig}
    (hc : shape c = shape (s.cfg i)) {ch : Channel} (hp : ch.position = some 0)
    (ht : ch.stallTimer = ((s.fn i).chan e).stallTimer) :
    Lawful sk none ((s.setCfg i c).storeFn i ((s.fn i).setChan e ch)) := by
  have ed : Edit i s ((s.setCfg i c).storeFn i ((s.fn i).setChan e ch)) := (Edit.setCfg hc).trans (.storeFn _)
  have hfn : ((s.setCfg i c).storeFn i ((s.fn i).setChan e ch)).fn i = (s.fn i).setChan e ch := storeFn_fn ..
  have hact : ((s.fn i).setChan e ch).activity = .settling := by cases e <;> exact hs
  have hm : ((s.fn i).setChan e ch).activity = .waiting ∨ ((s.fn i).setChan e ch).activity = .moving → False := by
    rw [hact]; rintro (hx | hx) <;> cases hx
  refine ed.reworked h ?_ rfl rfl ?_ ?_
  · rw [hfn]
    exact .setChan _ e fun hx => .inr (ht ▸ hx)
  · rw [hfn]
    exact fun _ hx => absurd (.inr hx) hm
  · cases e with
    | a =>
      refine ClearanceBut.judged (i := i) (ed.clear h.except_clear.clear (fun hx => absurd (hfn ▸ hx) hm) (.inl rfl)) ?_
      have hz : ((s.fn i).setChan .a ch).position = some 0 := hp
      simp [State.awningBlocks, hfn, hz]
    | b => exact ed.clear h.clear (fun hx => absurd (hfn ▸ hx) hm) (.inr (by rw [hfn]; rfl))

theorem Lawful.rezeroChannel (h : Lawful sk none s) (hs : (s.fn i).activity = .settling) :
    Lawful sk none (rezeroChannel i s e) ∧ ((Machine.rezeroChannel i s e).fn i).activity = .settling := by
  unfold Machine.rezeroChannel
  split
  case h_1 => exact ⟨h, hs⟩
  case h_2 raw _ =>
    refine ⟨h.zeroed hs (by cases e <;> rfl) rfl rfl, ?_⟩
    simp only [setChannel_activity]
    exact hs

theorem Lawful.rezero (h : Lawful sk none s) (hs : (s.fn i).activity = .settling) :
    Lawful sk none (rezero i s) ∧ ((rezero i s).fn i).activity = .settling := by
  have hall : ∀ (l : List Side) (u : State), Lawful sk none u → (u.fn i).activity = .settling →
      Lawful sk none (l.foldl (Machine.rezeroChannel i) u)
        ∧ ((l.foldl (Machine.rezeroChannel i) u).fn i).activity = .settling := by
    intro l
    induction l with
    | nil => exact fun u hu hs => ⟨hu, hs⟩
    | cons e l ih => exact fun u hu hs => ih _ (hu.rezeroChannel hs).1 (hu.rezeroChannel hs).2
  obtain ⟨hl, ha⟩ := hall (s.cfg i).sides s h hs
  refine ⟨hl.putFn ⟨⟨rfl, rfl, rfl, rfl, rfl, rfl, fun e => by cases e <;> exact .inr⟩, fun e => by cases e <;> rfl⟩, ?_⟩
  rw [Machine.rezero, putFn_fn]
  exact ha

theorem Lawful.verifyRetract (h : Lawful sk none s) (hs : (s.fn i).activity = .settling) :
    Lawful sk none (verifyRetract i s) := by
  have hz : Lawful sk none (if (s.cfg i).kind.isMotor && (s.fn i).byStall then Machine.rezero i s else s)
      ∧ ((if (s.cfg i).kind.isMotor && (s.fn i).byStall then Machine.rezero i s else s).fn i).activity = .settling := by
    split
    · exact h.rezero hs
    · exact ⟨h, hs⟩
  obtain ⟨hl, ha⟩ := hz
  exact hl.faultFn.ite ((hl.passVerify ha).ite hl.faultFn)

theorem Lawful.verify (h : Lawful sk none s) (hs : (s.fn i).activity = .settling) : Lawful sk none (verify i s) := by
  unfold Machine.verify
  split
  · exact h.verifyRetract hs
  · refine Lawful.passVerify (h.storeFn ⟨⟨rfl, rfl, rfl, rfl, rfl, rfl, fun e => by cases e <;> exact .inr⟩,
      fun e => by cases e <;> rfl⟩) ?_
    rw [storeFn_fn]
    exact hs
  · exact (h.passVerify hs).ite h.faultFn
  · exact h

theorem Lawful.settleExpired (h : Lawful sk none s) (ht : (s.fn i).settleTimer.isSome = true) :
    Lawful sk none (settleExpired i s).1 := (h.verify ((h.slots i).record.settle.mp ht)).jackRested

theorem Lawful.stallExpired (h : Lawful sk none s) (ht : ((s.fn i).chan e).stallTimer.isSome = true) :
    Lawful sk none (stallExpired i e s) := by
  have hm := (h.slots i).record.stall e ht
  exact Lawful.reorder (Lawful.judgeStall (h.setChannel rfl nofun) ((setChannel_activity _).trans hm))

end

end Sys2Proof.Proofs
end

section
/-! PROOFS. The link manager, the census, the posture, the match engine and the ports keep the laws of motion. -/

namespace Sys2Proof.Proofs
open Sys2Proof.Machine Sys2Proof.Laws

section
variable {sk aw : Option Slot} {s t : State} {i : Slot}

/-! ### Changes outside the functions -/

/-- The blocks that the laws read stay, of the configuration the functions. -/
@[reducible] def SameMoves (t s : State) : Prop :=
  t.functions = s.functions ∧ t.settings.functions = s.settings.functions ∧ t.manifold = s.manifold
    ∧ t.budget.claims = s.budget.claims ∧ t.sequence = s.sequence ∧ t.now = s.now

theorem cfg_of_functions (h : t.settings.functions = s.settings.functions) (k : Slot) : t.cfg k = s.cfg k := by
  simp only [State.cfg, h]

theorem Lawful.same (h : Lawful sk aw s) (hb : SameMoves t s) : Lawful sk aw t := by
  obtain ⟨hf, hs, hm, hc, hq, hn⟩ := hb
  refine Quiet.lawful (s := s) ⟨fun k => .of_eq (fn_congr hf k), fun k => by rw [cfg_of_functions hs], by rw [hm],
    by rw [hm], by rw [hm], by rw [hm], hc, ?_, by rw [hq], by rw [hq], Nat.le_of_eq hn.symm⟩ h
  rw [State.seqRuns, hq]
  rfl

section
variable (h : Lawful sk aw s)
include h

theorem Lawful.setPosture {p : Posture} : Lawful sk aw (setPosture p s) :=
  h.ite (Lawful.postureFrame (h.same (by simp [SameMoves])))

theorem Lawful.enterFault : Lawful sk aw (enterFault s) := h.ite h.setPosture.haltEffects

theorem Lawful.setOutcome {o : CensusOutcome} : Lawful sk aw (setOutcome o s) := h.ite (Lawful.postureFrame h.setLink)

theorem Lawful.judgePowerLine : Lawful sk aw (judgePowerLine s) := h.setLink

theorem Lawful.pumpM : Lawful sk aw (Machine.pumpM s) := h.same (by simp [SameMoves])

theorem Lawful.setNode {n : Nat} {x : Node} : Lawful sk aw (s.setNode n x) := h.same (by simp [SameMoves])

theorem Lawful.offerEnrol {f : EnrolFrame} : Lawful sk aw (offerEnrol f s) := h.same (by simp [SameMoves])

theorem Lawful.closeCensus : Lawful sk aw (closeCensus s) := h.same (by simp [SameMoves, Machine.closeCensus, State.setLink])

theorem Lawful.clearNodes : Lawful sk aw (clearNodes s) := h.setLink

theorem Lawful.discardOrders : Lawful sk aw (discardOrders s) := h.same (by simp [SameMoves, Machine.discardOrders])

theorem Lawful.abandonCensus : Lawful sk aw (abandonCensus s) :=
  Lawful.ite (Lawful.setLink h.closeCensus.setOutcome.clearNodes) h

theorem Lawful.stray : Lawful sk aw (stray s) := h.setLink

end

/-! ### A census start (R157) -/

theorem AllRest.abortSequence (h : AllRest s) {place : Bool} {a : AbortReason} :
    AllRest (Machine.abortSequence place a s) := fun k => by
  cases hb : ((Machine.abortSequence place a s).fn k).activity.isBusy with
  | false => rfl
  | true => rw [abortSequence_busy hb, h k] at hb; cases hb

/-- With everything at rest no clearance and no skew is to be judged. -/
theorem Lawful.of_allRest {sk' aw' : Option Slot} (h : Lawful sk aw s) (hr : AllRest s) : Lawful sk' aw' s where
  slots := h.slots
  part := h.part
  skew k _ hm := by have := hr k; rw [hm] at this; cases this
  clear k _ _ _ _ hb := by rcases hb with hb | hb <;> have := hr k <;> rw [hb] at this <;> cases this

theorem uncounted_atRest {f : Function} (h : AtRest f) : AtRest f.uncounted :=
  h.again (a := .unavailable) rfl rfl rfl rfl rfl rfl rfl fun e => by rw [h.stall e]; cases e <;> rfl

theorem Lawful.clearFunctions (h : Lawful sk aw s) (hr : AllRest s) : Lawful sk aw (clearFunctions s) := by
  have hall : ∀ (l : List Slot) (u : State), Lawful sk aw u → AllRest u →
      Lawful sk aw (l.foldl (fun s i => Machine.putHold i Hold.start (Machine.putFn i (s.fn i).uncounted s)) u) := by
    intro l
    induction l with
    | nil => exact fun _ hu _ => hu
    | cons k l ih =>
      intro u hu hur
      have hrest : AllRest (Machine.putHold k Hold.start (Machine.putFn k (u.fn k).uncounted u)) := fun j => by
        rw [fn_congr (s := Machine.putFn k (u.fn k).uncounted u) (by simp), putFn_fn_if]
        split
        · rfl
        · exact hur j
      have hk : Lawful sk (some k) (Machine.putFn k (u.fn k).uncounted u) :=
        (hu.of_allRest hur).putRest (hur k) (uncounted_atRest ((hu.slots k).record.atRest (hur k))) (fun _ => rfl)
          (.inl rfl)
      exact ih _ (hk.putHold.of_allRest hrest) hrest
  exact hall Machine.slots s h hr

/-- With everything at rest every slot becomes UNAVAILABLE. -/
theorem Lawful.unavailable (h : Lawful sk aw s) (hr : AllRest s) :
    Lawful sk aw (Machine.clearFunctions (Machine.stopPump false (Machine.clearArbiter s))) := by
  have hp : Lawful sk aw (Machine.stopPump false (Machine.clearArbiter s)) := (h.clearArbiter hr).stopPump
  have hrp : AllRest (Machine.stopPump false (Machine.clearArbiter s)) := fun k => by
    rw [stopPump_fn]
    exact hr k
  exact hp.clearFunctions hrp

theorem Lawful.censusCleared (h : Lawful sk aw s) : Lawful sk aw (censusCleared s) := by
  have h1 : Lawful sk aw (Machine.judgePowerLine (Machine.enterFault (Machine.setAlarm .censusFault false
      ((Machine.setOutcome .running s).setLink
        { (Machine.setOutcome .running s).link with count := 0, strays := 0 })))) :=
    (Lawful.setAlarm h.setOutcome.setLink).enterFault.judgePowerLine
  unfold Proofs.censusCleared
  simp only
  generalize Machine.judgePowerLine _ = u at h1 ⊢
  have h2 : Lawful sk aw (Machine.abortSequence false .halted (Machine.stopAll false .halted Machine.slots u)) :=
    h1.stopAll.abortSequence
  have h3 := h2.unavailable ((stopAll_allRest false .halted u).abortSequence)
  exact h3.clearNodes.discardOrders

theorem Lawful.startCensus (h : Lawful sk aw s) : Lawful sk aw (startCensus s) := by
  rw [startCensus_eq]
  exact Lawful.offerEnrol h.censusCleared.setLink

/-! ### The binding check (R8, R162) -/

theorem unavailable_rests (ha : (s.fn i).activity = .unavailable) : (s.fn i).activity.isBusy = false := by rw [ha]; rfl

theorem Lawful.becomeIdle (h : Lawful sk aw s) : Lawful sk aw (becomeIdle i s).1 := by
  unfold Machine.becomeIdle
  simp only
  split
  case isFalse => exact h
  case isTrue hc =>
    obtain ⟨ha, -, hk, -⟩ := hc
    have hb := unavailable_rests ha
    exact h.putRest hb (((h.slots i).record.atRest hb).again (a := .idle) rfl rfl rfl rfl rfl rfl rfl fun _ => rfl)
      (fun hu => absurd hu hk) (.inr rfl)

theorem Lawful.checkBinding (h : Lawful sk aw s) : Lawful sk aw (checkBinding i s) := by
  unfold Machine.checkBinding
  simp only
  (repeat' split)
  · exact h.putFn ⟨⟨rfl, rfl, rfl, rfl, rfl, rfl, fun e => by cases e <;> exact .inr⟩, fun e => by cases e <;> rfl⟩
  · exact h.putFn ⟨⟨rfl, rfl, rfl, rfl, rfl, rfl, fun e => by cases e <;> exact .inr⟩, fun e => by cases e <;> rfl⟩
  · exact h

theorem Lawful.checkBindings (h : Lawful sk aw s) {is : List Slot} :
    Lawful sk aw (is.foldl (fun s i => Machine.checkBinding i s) s) := .fold (fun _ _ hu => hu.checkBinding) is h

theorem Lawful.becomeIdleAll (h : Lawful sk aw s) {is : List Slot} : Lawful sk aw (becomeIdleAll is s).1 := by
  have hall : ∀ (l : List Slot) (r : State × List Task), Lawful sk aw r.1 →
      Lawful sk aw (l.foldl (fun r i => let t := Machine.becomeIdle i r.1; (t.1, r.2 ++ t.2)) r).1 := by
    intro l
    induction l with
    | nil => exact fun _ hr => hr
    | cons i l ih => exact fun r hr => ih _ hr.becomeIdle
  exact hall is (s, []) h

theorem Lawful.endCensus (h : Lawful sk aw s) {o : CensusOutcome} {count : Nat} : Lawful sk aw (endCensus o count s).1 := by
  have hc : Lawful sk aw (Machine.setOutcome o ((Machine.closeCensus s).setLink
      { (Machine.closeCensus s).link with count := count })) := h.closeCensus.setLink.setOutcome
  unfold Machine.endCensus
  simp only
  split
  · exact hc.checkBindings.becomeIdleAll
  · exact hc.setAlarm

theorem Lawful.enrolmentExpired (h : Lawful sk aw s) : Lawful sk aw (enrolmentExpired s).1 := by
  unfold Machine.enrolmentExpired
  split
  · exact h.endCensus
  · exact h.endCensus
  · exact h.endCensus
  · exact h

theorem Lawful.enrolAnswer (h : Lawful sk aw s) {n kindCode channels hardware : Nat} :
    Lawful sk aw (enrolAnswer n kindCode channels hardware s).1 := by
  unfold Machine.enrolAnswer
  (repeat' split)
  · exact h.stray
  · exact h.endCensus
  · exact h.endCensus
  · exact h.setNode.setLink.offerEnrol
  · exact h.stray

/-! ### Reports, readings and silence (R163 to R166) -/

theorem heard_same (f : Function) (c : FunctionConfig) (n : Nat) : SameMotion (f.heard c n) f :=
  ⟨⟨rfl, rfl, rfl, rfl, rfl, rfl, fun e => by cases e <;> exact .inr⟩, fun e => by cases e <;> rfl⟩

theorem Lawful.hearNode (h : Lawful sk aw s) {n : Nat} : Lawful sk aw (hearNode n s) :=
  .fold (fun u i hu => hu.storeFn (heard_same (u.fn i) (u.cfg i) n)) _ h

theorem Lawful.recordReport (h : Lawful sk aw s) {n ch : Nat} {r : ChannelRecord} :
    Lawful sk aw (recordReport n ch r s) := h.setNode

theorem Lawful.takeReport (h : Lawful sk aw s) {f : Frame} : Lawful sk aw (takeReport f s).1 := by
  unfold Machine.takeReport
  simp only
  split
  · exact h.stray
  · exact h.recordReport.hearNode

theorem Lawful.takeTilt (h : Lawful sk aw s) {f : Frame} : Lawful sk aw (takeTilt f s).1 := by
  unfold Machine.takeTilt
  simp only
  (repeat' split)
  · exact h.stray
  · exact h.recordReport.takeReading
  · exact h.recordReport

theorem Lawful.silentNode (h : Lawful sk aw s) {n : Nat} : Lawful sk aw (silentNode n s) :=
  Lawful.ite h.setNode.faultFns.stopPump h.setNode.faultFns

/-! ### DOZE (R195, R196) -/

theorem Lawful.enterDoze (h : Lawful sk aw s) : Lawful sk aw (enterDoze s) := by
  refine Lawful.judgePowerLine (Lawful.abandonCensus (Lawful.setLink ?_))
  exact h.same ⟨rfl, rfl, rfl, rfl, rfl, rfl⟩

theorem Lawful.wake (h : Lawful sk aw s) : Lawful sk aw (wake s) := by
  rw [wake_eq]
  exact Lawful.startCensus (h.same ⟨rfl, rfl, rfl, rfl, rfl, rfl⟩)

theorem Lawful.dozeTimer (h : Lawful sk aw s) {x : Timer} :
    Lawful sk aw { s with store := { s.store with dozeTimer := x } } := h.same ⟨rfl, rfl, rfl, rfl, rfl, rfl⟩

theorem Lawful.touchDoze (h : Lawful sk aw s) : Lawful sk aw (touchDoze s) := h.wake.ite (h.dozeTimer.ite h)

/-! ### Signals and the posture (R26 to R28, R35 to R37, R39) -/

theorem Lawful.setSignal (h : Lawful sk aw s) {g : Signal} {r : SignalRecord} : Lawful sk aw (s.setSignal g r) :=
  h.same ⟨rfl, rfl, rfl, rfl, rfl, rfl⟩

theorem Lawful.handOver (h : Lawful sk aw s) {g : Signal} : Lawful sk aw (handOver g s) := by
  cases g with
  | supplyVoltage => exact h.supplyChanged
  | windSpeed => exact h.windJudged
  | ignition | parkBrake | roadSpeed | engineRun | serviceMode => exact h

theorem Lawful.staleExpired (h : Lawful sk aw s) {g : Signal} : Lawful sk aw (staleExpired g s) := by
  unfold Machine.staleExpired
  simp only
  (repeat' split)
  · exact h.setSignal
  · exact h.setSignal.handOver
  · exact h.setSignal
  · exact h.setSignal.handOver

theorem Lawful.ignitionOn (h : Lawful sk aw s) : Lawful sk aw (ignitionOn s).1 := by
  unfold Machine.ignitionOn
  (repeat' split) <;> simp only
  · exact h.wake
  · exact h
  · exact h

theorem Lawful.deliver (h : Lawful sk aw s) {g : Signal} {v : Nat} {src : EntryIndex} :
    Lawful sk aw (deliver g v src s).1 := by
  unfold Machine.deliver
  simp only
  (repeat' split)
  · exact h.setSignal
  · exact h.setSignal.handOver.ignitionOn
  · exact h.setSignal.handOver

theorem Lawful.changePosture (h : Lawful sk aw s) {p : Posture} : Lawful sk aw (changePosture p s).1 := by
  unfold Machine.changePosture
  split
  · exact h.enterFault
  · exact h.setPosture

theorem Lawful.exchangeBanks (h : Lawful sk aw s) : Lawful sk aw (exchangeBanks s) := by
  have hb : Lawful sk aw { s with
      settings := { s.settings with activeBank := s.settings.activeBank.other }
      monitor := { s.monitor with swapPending := false } } := h.same ⟨rfl, rfl, rfl, rfl, rfl, rfl⟩
  exact hb.postureFrame

/-! ### The match engine (R127 to R132) -/

theorem Lawful.setMatching (h : Lawful sk aw s) {m : MatchEngine} : Lawful sk aw (s.setMatching m) :=
  h.same ⟨rfl, rfl, rfl, rfl, rfl, rfl⟩

theorem Lawful.capture (h : Lawful sk aw s) {f : Frame} {e : EntryIndex} {g : Signal} {o w m d : Nat} {k : Int} :
    Lawful sk aw (capture e f g o w m d k s).1 := by
  unfold Machine.capture
  simp only
  (repeat' split)
  · exact h.setMatching
  · exact h.deliver
  · exact Lawful.deliver h.setMatching

theorem Lawful.forward (h : Lawful sk aw s) {port : Port} {f : Frame} {rewrite : Option (Form × Ident)} :
    Lawful sk aw (forward port f rewrite s) := by
  cases port with
  | motion => exact h.queueC _
  | coach => exact Lawful.ite h.setMatching (Lawful.ite (Lawful.pumpM (h.same ⟨rfl, rfl, rfl, rfl, rfl, rfl⟩)) h.setMatching)

theorem Lawful.act (h : Lawful sk aw s) {e : EntryIndex} {port : Port} {f : Frame} {a : Action} :
    Lawful sk aw (act e port f a s).1 := by
  unfold Machine.act
  split
  · exact h.forward
  · exact h
  · exact h
  · exact h.capture
  · exact h.touchDoze
  · exact h.touchDoze
  · exact h.touchDoze

theorem Lawful.chain (h : Lawful sk aw s) {port : Port} {f : Frame} {k : Nat} : Lawful sk aw (chain port f k s).1 := by
  unfold Machine.chain
  split
  · exact Lawful.act h.setMatching
  · split
    · exact Lawful.forward (rewrite := none) h
    · exact h

/-! ### The ports (R144, R151 to R153) -/

section
variable (h : Lawful sk aw s)
include h

theorem Lawful.dropHead {port : Port} : Lawful sk aw (dropHead port s) := by
  cases port <;> exact h.same ⟨rfl, rfl, rfl, rfl, rfl, rfl⟩

theorem Lawful.receiveC {f : Frame} : Lawful sk aw (receiveC f s) :=
  h.ite (Lawful.ite (h.same ⟨rfl, rfl, rfl, rfl, rfl, rfl⟩) (h.same ⟨rfl, rfl, rfl, rfl, rfl, rfl⟩))

theorem Lawful.receiveM {f : Frame} : Lawful sk aw (receiveM f s) :=
  h.ite (Lawful.ite (h.same ⟨rfl, rfl, rfl, rfl, rfl, rfl⟩) (h.same ⟨rfl, rfl, rfl, rfl, rfl, rfl⟩))

theorem Lawful.sentC : Lawful sk aw (sentC s) := Lawful.ite (h.same (by simp [SameMoves])) h

theorem Lawful.sentM : Lawful sk aw (sentM s) := Lawful.ite (Lawful.pumpM (h.same ⟨rfl, rfl, rfl, rfl, rfl, rfl⟩)) h

theorem Lawful.offC : Lawful sk aw (offC s) := h.same ⟨rfl, rfl, rfl, rfl, rfl, rfl⟩

theorem Lawful.onC : Lawful sk aw (onC s) := Lawful.ite (h.same (by simp [SameMoves])) h

theorem Lawful.offM : Lawful sk aw (offM s) := h.ite (Lawful.abandonCensus (h.same ⟨rfl, rfl, rfl, rfl, rfl, rfl⟩))

theorem Lawful.onM : Lawful sk aw (onM s) := by
  refine Lawful.ite (Lawful.pumpM (Lawful.startCensus ?_)) h
  exact h.same (by simp [SameMoves])

/-! ### The refresh cycle and the status frames (R173, R191) -/

theorem Lawful.offerBeat : Lawful sk aw (offerBeat s) := h.same (by simp [SameMoves])

theorem Lawful.setDue : Lawful sk aw (setDue s) := h.same ⟨rfl, rfl, rfl, rfl, rfl, rfl⟩

theorem Lawful.placeDue : Lawful sk aw (placeDue s) := h.same (by simp [SameMoves])

theorem Lawful.refreshExpired : Lawful sk aw (refreshExpired s) := by
  have hc : Lawful sk aw { s with orders := { s.orders.restarted s.now s.settings.timing.refreshPeriod with
      cycle := nextSequence s.orders.cycle } } := h.same ⟨rfl, rfl, rfl, rfl, rfl, rfl⟩
  exact (Lawful.fold (fun _ _ hu => hu.reorder) _ hc.offerBeat).setDue.placeDue.pumpM

theorem Lawful.statusExpired : Lawful sk aw (statusExpired s) := by
  refine Lawful.fold (fun _ _ hu => hu.functionFrame) _ (Lawful.postureFrame ?_)
  exact h.same ⟨rfl, rfl, rfl, rfl, rfl, rfl⟩

end

end

end Sys2Proof.Proofs
end

section
/-! PROOFS. The commands on tables and fields keep the laws of motion, the change of a slot's configuration among
them. -/

namespace Sys2Proof.Proofs
open Sys2Proof.Machine Sys2Proof.Laws

section
variable {sk aw : Option Slot} {s t : State} {i : Slot} {fs : List FieldWrite}

/-! ### The match table and the permission matrix (R44 to R50, R135 to R142) -/

section
variable (h : Lawful sk aw s)
include h

theorem Lawful.setEntries {es : Vector EntryConfig 128} : Lawful sk aw (setEntries es s) :=
  h.same ⟨rfl, rfl, rfl, rfl, rfl, rfl⟩

theorem Lawful.putEntry {e : EntryIndex} {c : EntryConfig} : Lawful sk aw (putEntry e c s) :=
  Lawful.setMatching h.setEntries

theorem Lawful.writeEntry {index : Byte} {b : EntryBlock} : Lawful sk aw (writeEntry index b s).state := by
  unfold Machine.writeEntry
  split
  · exact h.putEntry
  · exact h

theorem Lawful.appendEntry {b : EntryBlock} : Lawful sk aw (appendEntry b s).state := by
  unfold Machine.appendEntry
  (repeat' split)
  · exact h
  · exact h
  · exact h
  · exact h.putEntry

theorem Lawful.entryStateCommand {ps : List Byte} : Lawful sk aw (entryStateCommand ps s).state := by
  unfold Machine.entryStateCommand Machine.setEntryState Machine.setPortDefault
  (repeat' split)
  · exact h.setEntries
  · exact h
  · exact h.same ⟨rfl, rfl, rfl, rfl, rfl, rfl⟩
  · exact h.same ⟨rfl, rfl, rfl, rfl, rfl, rfl⟩
  · exact h
  · exact h

theorem Lawful.markEntries {form : Byte} {ident : Word32} {v0 v1 mask port state : Byte} :
    Lawful sk aw (markEntries form ident v0 v1 mask port state s).state := by
  unfold Machine.markEntries
  split
  · exact h.setEntries
  · exact h

theorem Lawful.clearHits {first last engine : Byte} : Lawful sk aw (clearHits first last engine s).state := by
  unfold Machine.clearHits
  simp only
  (repeat' split)
  · exact h
  · exact h.setMatching
  · exact h.setMatching

theorem Lawful.writeMask {index : Byte} {ident : Word32} {v0 v1 : Byte} :
    Lawful sk aw (writeMask index ident v0 v1 s).state := by
  unfold Machine.writeMask
  (repeat' split)
  · exact h
  · exact h.same ⟨rfl, rfl, rfl, rfl, rfl, rfl⟩
  · exact h

theorem Lawful.setWindow {r0 r1 c0 c1 order : Byte} : Lawful sk aw (setWindow r0 r1 c0 c1 order s).state := by
  unfold Machine.setWindow
  (repeat' split)
  · exact h
  · exact h
  · exact h.same ⟨rfl, rfl, rfl, rfl, rfl, rfl⟩

omit h in
theorem setBank_functions (c : Settings) (which : Bank) (b : PermissionBank) :
    (c.setBank which b).functions = c.functions := by
  cases which <;> rfl

theorem Lawful.writeCell {v : Byte} : Lawful sk aw (writeCell v s) :=
  h.same ⟨rfl, setBank_functions .., rfl, rfl, rfl, rfl⟩

theorem Lawful.gather {code : CommandCode} {bs : List Byte} : Lawful sk aw (gather code bs s) :=
  Lawful.ite (.fold (fun _ _ hu => hu.writeCell) bs h) h

theorem Lawful.swapMatrix {crc : Word16} : Lawful sk aw (swapMatrix crc s).state := by
  have hp : Lawful sk aw { s with monitor := { s.monitor with swapPending := true } } :=
    h.same ⟨rfl, rfl, rfl, rfl, rfl, rfl⟩
  unfold Machine.swapMatrix
  simp only
  (repeat' split)
  · exact h
  · exact h
  · exact hp.postureFrame
  · exact h.exchangeBanks

theorem Lawful.readRecord {kind index : Byte} : Lawful sk aw (readRecord kind index s).state := by
  unfold Machine.readRecord
  split
  · exact h
  · exact .fold (fun _ _ hu => hu.same (by simp [SameMoves])) _ h

theorem Lawful.resendStop {n ch seen : Nat} : Lawful sk aw (resendStop n ch seen s) := h.same (by simp [SameMoves])

/-! ### SET_GEOMETRY, SET_SUPPLY, SET_SIGNAL and SET_TIMING -/

theorem Lawful.applyGeometry : Lawful sk aw (applyGeometry i fs s).1 := by
  refine h.same ?_
  rw [applyGeometry_shape]
  exact ⟨rfl, rfl, rfl, rfl, rfl, rfl⟩

theorem Lawful.applySupply : Lawful sk aw (applySupply fs s).1 := by
  unfold Machine.applySupply
  exact Lawful.supplyChanged (h.same ⟨rfl, rfl, rfl, rfl, rfl, rfl⟩)

theorem Lawful.applySafeValue {g : Signal} {old new : SignalConfig} : Lawful sk aw (applySafeValue g old new s) := by
  unfold Machine.applySafeValue
  simp only
  (repeat' split)
  · exact h.setSignal
  · exact h.setSignal.handOver
  · exact h

theorem Lawful.applySignal {g : Signal} : Lawful sk aw (applySignal g fs s).1 := by
  refine Lawful.applySafeValue ?_
  exact h.same ⟨rfl, rfl, rfl, rfl, rfl, rfl⟩

theorem Lawful.applyTiming : Lawful sk aw (applyTiming fs s).1 := by
  have hw : Lawful sk aw { s with settings := { s.settings with
      timing := (applyAll putTimingField fs (s.settings.timing, s.settings.wind)).1.1
      wind := (applyAll putTimingField fs (s.settings.timing, s.settings.wind)).1.2 } } :=
    h.same ⟨rfl, rfl, rfl, rfl, rfl, rfl⟩
  exact hw.windJudged.ite hw

end

/-! ### Slots unbound (R8, R68, R70) -/

/-- Only an awning's clearance is to be judged. -/
theorem Lawful.not_awning (h : Lawful sk (some i) s) (ha : s.settings.Agrees) (hk : (s.cfg i).kind ≠ .awning) :
    Lawful sk none s :=
  { h with
    clear := fun k p _ hp hs hb => by
      by_cases hpi : p = i
      · subst hpi
        exact absurd (partner_awning ha hp hs).2 hk
      · exact h.clear k p (fun he => hpi (Option.some.inj he).symm) hp hs hb }

/-- A slot at rest, or one without a motor's claim, becomes UNAVAILABLE. -/
theorem Lawful.unbindFn (h : Lawful sk (some i) s)
    (hd : (s.fn i).activity.isBusy = false ∨ (s.cfg i).kind.isMotor = false) : Lawful sk (some i) (unbindFn i s) := by
  have hu : Lawful sk (some i) (Machine.putFn i (s.fn i).unbound (Machine.leaveList i s)) := by
    refine (Edit.leaveList.trans (.putFn _)).rested h ?_ (fun _ => ?_) ?_ ?_ (.inl rfl)
    · rw [putFn_fn]; exact unbound_atRest _
    · rw [putFn_fn]; rfl
    · rw [waitCount_congr (s := Machine.leaveList i s) (by simp)]
      exact leaveList_waitCount i s
    · rw [drawCount_congr (s := s) (by simp), (h.slots i).draw, if_neg]
      rintro ⟨hm, hk⟩
      rcases hd with hd | hd
      · rw [hm] at hd; cases hd
      · rw [hk] at hd; cases hd
  exact Lawful.ite hu.abortSequence hu

theorem hydraulic_not_awning {k : Kind} (h : k.isHydraulic = true) : k ≠ .awning := fun he => by rw [he] at h; cases h

theorem Lawful.rebind (h : Lawful sk none s) (ha : s.settings.Agrees) {is : List Slot}
    (hk : ∀ k ∈ is, (s.cfg k).kind.isHydraulic = true) : Lawful sk none (rebind is s).1 := by
  have hall : ∀ (l : List Slot) (u : State), Lawful sk none u → u.settings = s.settings →
      (∀ k ∈ l, (s.cfg k).kind.isHydraulic = true) →
      Lawful sk none (l.foldl (fun s i => Machine.unbindFn i s) u) := by
    intro l
    induction l with
    | nil => exact fun _ hu _ _ => hu
    | cons k l ih =>
      intro u hu hs hl
      have hyd : (u.cfg k).kind.isHydraulic = true := by
        rw [cfg_of_settings hs]
        exact hl k (List.mem_cons_self ..)
      have hset : (Machine.unbindFn k u).settings = u.settings := (Acts.unbindFn .refl).binding.settings
      refine ih _ ((hu.except_clear.unbindFn (.inr (not_motor hyd))).not_awning ?_ ?_) (hset.trans hs)
        fun j hj => hl j (List.mem_cons_of_mem k hj)
      · rw [hset, hs]; exact ha
      · rw [cfg_of_settings hset]; exact hydraulic_not_awning hyd
  exact (hall is s h rfl hk).checkBindings

theorem Lawful.applyLevelling (h : Lawful sk none s) (ha : s.settings.Agrees) :
    Lawful sk none (applyLevelling fs s).1 := by
  have hw : Lawful sk none { s with settings := { s.settings with
      levelling := (applyAll putLevellingField fs s.settings.levelling).1 } } := h.same ⟨rfl, rfl, rfl, rfl, rfl, rfl⟩
  unfold Machine.applyLevelling
  simp only
  split <;> simp only
  · refine hw.rebind ha fun k hk => ?_
    have := (List.mem_filter.mp hk).2
    rw [State.isJack, beq_iff_eq] at this
    rw [this]
    rfl
  · exact hw

theorem Lawful.applyManifold (h : Lawful sk none s) (ha : s.settings.Agrees) :
    Lawful sk none (applyManifold fs s).1 := by
  have hw : Lawful sk none { s with settings := { s.settings with
      manifold := (applyAll putManifoldField fs s.settings.manifold).1 } } := h.same ⟨rfl, rfl, rfl, rfl, rfl, rfl⟩
  have hr := hw.runTime
    (n := min s.manifold.runTime ((applyAll putManifoldField fs s.settings.manifold).1.dutyLimit * 1000))
    (z := s.manifold.restTimer)
  unfold Machine.applyManifold
  simp only
  split <;> simp only
  · exact Lawful.rebind hr ha fun k hk => (List.mem_filter.mp hk).2
  · exact hr

/-! ### A slot's configuration written (R2, R3, R8) -/

/-- Nothing but one slot's record and configuration is touched, and no other slots become partners. -/
structure Reconfig (i : Slot) (s t : State) : Prop where
  fn : ∀ k, k ≠ i → t.fn k = s.fn k
  kind : ∀ k, k ≠ i → (t.cfg k).kind = (s.cfg k).kind
  clearance : ∀ k, k ≠ i → (t.cfg k).clearance = (s.cfg k).clearance
  hardSkew : ∀ k, k ≠ i → (t.cfg k).hardSkew = (s.cfg k).hardSkew
  partner : ∀ k p, k ≠ i → p ≠ i → (t.cfg k).partner = some p → (s.cfg k).partner = some p
  waits : t.manifold.waitList = s.manifold.waitList
  claims : t.budget.claims = s.budget.claims
  holder : t.manifold.holder = s.manifold.holder
  pump : t.manifold.pump = s.manifold.pump
  cool : t.manifold.coolTimer = s.manifold.coolTimer
  sequence : t.sequence = s.sequence
  now : t.now = s.now

/-- A slot at rest may be of another kind; the slides that it clears are then to be tested. -/
theorem Reconfig.lawful (e : Reconfig i s t) (h : Lawful sk none s) (hb : (s.fn i).activity.isBusy = false)
    (hr : AtRest (t.fn i)) (hk : (t.cfg i).kind = .unused → (t.fn i).activity = .unavailable) :
    Lawful sk (some i) t where
  slots k := by
    have hw : ∀ k, waitCount t k = waitCount s k := fun k => by unfold waitCount; rw [e.waits]
    have hd : ∀ k, drawCount t k = drawCount s k := fun k => by unfold drawCount; rw [e.claims]
    by_cases hki : k = i
    · subst hki
      refine .of_rest hr hk ?_ ?_
      · rw [hw, (h.slots k).listed, queues_of_rest hb]; rfl
      · rw [hd]; exact (h.slots k).no_draw fun hm => by rw [hm] at hb; cases hb
    · exact (h.slots k).congr (SameMotion.of_eq (e.fn k hki)).toSameWork (e.kind k hki) (hw k) (hd k)
        (isTaken_congr e.sequence k) (by rw [e.sequence]) e.holder
  part := {
    order := by
      have hout : ∀ x ∈ s.manifold.waitList, t.fn x.slot = s.fn x.slot := fun x hx => by
        refine e.fn _ fun hxi => ?_
        have hl : Listed s x.slot := List.mem_map_of_mem hx
        rw [h.listed_iff, hxi, queues_of_rest hb] at hl
        cases hl
      obtain ⟨ho, he⟩ := h.part.order
      refine ⟨?_, fun x hx => ?_⟩
      · rw [e.waits]
        refine ho.imp_of_mem fun ha hb hab => ?_
        rw [hout _ ha, hout _ hb]
        exact hab
      · rw [e.waits] at hx
        rw [e.now]
        exact he x hx
    cool := by rw [e.cool, e.pump]; exact h.part.cool
    pump := by rw [e.claims, e.pump]; exact h.part.pump
    owner := by rw [State.seqRuns, e.sequence]; exact h.part.owner
    grant := by rw [e.holder]; exact h.part.grant }
  skew k hs hm := by
    by_cases hki : k = i
    · subst hki
      have := hr.busy
      rw [hm] at this
      cases this
    · have := h.skew k hs (e.fn k hki ▸ hm)
      simpa only [State.skewTooHard, e.kind k hki, e.hardSkew k hki, e.fn k hki] using this
  clear k p hp hpk hks hbk := by
    have hki : k ≠ i := fun he => by
      subst he
      have := hr.busy
      rcases hbk with hb | hb <;> rw [hb] at this <;> cases this
    have hpi : p ≠ i := fun he => hp (congrArg some he.symm)
    rw [awningBlocks_congr (s := s) (e.clearance p hpi) (by rw [e.fn p hpi])]
    exact h.clear k p nofun (e.partner k p hki hpi hpk) (e.kind k hki ▸ hks) (e.fn k hki ▸ hbk)

theorem rewritten_partner {k p : Slot} (hk : k ≠ i) (hp : p ≠ i) (h : ((rewritten i fs s).cfg k).partner = some p) :
    (s.cfg k).partner = some p := by
  rw [← applyFunction_cfg, applyFunction_partner] at h
  have hbefore : ((beforePartner i fs s).cfg k).partner = (s.cfg k).partner := by rw [beforePartner, setCfg_cfg_ne hk]
  rcases applyPartner_cases i fs (beforePartner i fs s) with ⟨q, he, -⟩ | ⟨he, -⟩
  · rw [he, setPartner_partner, hbefore] at h
    simp only [partnerAfter, hk, if_false] at h
    split at h
    · exact absurd (Option.some.inj h).symm hp
    · split at h
      · cases h
      · exact h
  · rw [he, hbefore] at h
    exact h

theorem rewritten_reconfig (i : Slot) (fs : List FieldWrite) (s : State) : Reconfig i s (rewritten i fs s) := by
  refine ⟨fun k _ => rewritten_fn k, fun k hk => ?_, fun k hk => ?_, fun k hk => ?_, fun _ _ hk hp => rewritten_partner hk hp,
    ?_, ?_, ?_, ?_, ?_, ?_, ?_⟩
  · rw [rewritten_cfg_ne hk]
  · rw [rewritten_cfg_ne hk]
  · rw [rewritten_cfg_ne hk]
  all_goals rw [rewritten_eq]

/-- The record of a slot at rest with its positions computed again. -/
theorem Lawful.placeAgain (h : Lawful sk (some i) s) (hb : (s.fn i).activity.isBusy = false) :
    Lawful sk (some i) (placeAgain i fs s) :=
  h.putRest hb (((h.slots i).record.atRest hb).again hb rfl rfl rfl rfl rfl rfl fun e => by cases e <;> rfl)
    (h.slots i).record.unused (.inl rfl)

/-- The slides of a slot whose configuration is written are tested. -/
theorem Lawful.testSlides (h : Lawful sk (some i) s) (ha : s.settings.Agrees) : Lawful sk none (testSlides i s) := by
  have hall : ∀ (l : List Slot) (u : State), Lawful sk none u → u.settings.Agrees →
      Lawful sk none (l.foldl (fun s k => Machine.slideTest k s) u) := by
    intro l
    induction l with
    | nil => exact fun _ hu _ => hu
    | cons k l ih =>
      exact fun u hu ha => ih _ (hu.except_clear.slideTest ha) (by
        have : (Machine.slideTest k u).settings = u.settings := (Acts.slideTest .refl).binding.settings
        rw [this]
        exact ha)
  unfold Machine.testSlides
  rw [List.foldl_cons]
  refine hall _ _ (h.slideTest ha) ?_
  have : (Machine.slideTest i s).settings = s.settings := (Acts.slideTest .refl).binding.settings
  rw [this]
  exact ha

theorem clearContact_eq (i : Slot) (old : Kind) (u : State) :
    ∃ m, clearContact i old u = { u with monitor := m } := by
  unfold clearContact
  split
  · exact ⟨_, rfl⟩
  · exact ⟨u.monitor, rfl⟩

theorem Reconfig.unbound (h : Lawful sk aw s) (hb : (s.fn i).activity.isBusy = false) (e : Reconfig i s t) (f : Function) :
    Reconfig i s (putFn i f (leaveList i t)) := by
  have hcfg : ∀ k, (putFn i f (leaveList i t)).cfg k = t.cfg k := fun k => cfg_of_settings (s := t) (by simp) k
  have hout : ∀ x ∈ s.manifold.waitList, x.slot ≠ i := fun x hx hxi => by
    have hl : Listed s x.slot := List.mem_map_of_mem hx
    rw [h.listed_iff, hxi, queues_of_rest hb] at hl
    cases hl
  have hman : (putFn i f (leaveList i t)).manifold = (leaveList i t).manifold := by simp
  refine ⟨fun k hk => ?_, fun k hk => ?_, fun k hk => ?_, fun k hk => ?_, fun k p hk hp hc => ?_, ?_, ?_, ?_, ?_, ?_, ?_, ?_⟩
  · rw [putFn_fn_ne _ _ (Ne.symm hk)]; exact e.fn k hk
  · rw [hcfg]; exact e.kind k hk
  · rw [hcfg]; exact e.clearance k hk
  · rw [hcfg]; exact e.hardSkew k hk
  · rw [hcfg] at hc; exact e.partner k p hk hp hc
  · rw [hman]
    refine Eq.trans (List.filter_eq_self.mpr fun x hx => ?_) e.waits
    rw [e.waits] at hx
    simpa using hout x hx
  · simpa using e.claims
  · rw [hman]; exact e.holder
  · rw [hman]; exact e.pump
  · rw [hman]; exact e.cool
  · simpa using e.sequence
  · simpa using e.now

/-- A slot whose kind or channels change becomes UNAVAILABLE. -/
theorem unboundBefore_lawful (h : Lawful sk none s) (hb : (s.fn i).activity.isBusy = false) :
    Lawful sk (some i) (unboundBefore i fs s) := by
  obtain ⟨m, hm⟩ := clearContact_eq i (s.cfg i).kind (rewritten i fs s)
  have e : Reconfig i s (clearContact i (s.cfg i).kind (rewritten i fs s)) := by
    rw [hm]
    exact { rewritten_reconfig i fs s with }
  unfold unboundBefore
  generalize clearContact i (s.cfg i).kind (rewritten i fs s) = u at e
  have hu := (e.unbound h hb (u.fn i).unbound).lawful h hb (by rw [putFn_fn]; exact unbound_atRest _)
    fun _ => by rw [putFn_fn]; rfl
  exact Lawful.ite hu.abortSequence hu

theorem Lawful.applyFunction (h : Lawful sk none s) (ha : s.settings.Agrees) (hb : (s.fn i).activity.isBusy = false) :
    Lawful sk none (applyFunction i fs s).1 := by
  have hagree : ∀ u : State, u.settings = (rewritten i fs s).settings → u.settings.Agrees := fun u hu => by
    rw [hu, rewritten_settings]
    exact functionWritten_agrees ha
  by_cases hr : rebinds i fs s
  · rw [applyFunction_rebound hr]
    have hu := unboundBefore_lawful (fs := fs) h hb
    have hrest : ((unboundBefore i fs s).fn i).activity.isBusy = false := by rw [unboundBefore_fn]; rfl
    refine (hu.placeAgain hrest).checkBinding.testSlides (hagree _ ?_)
    exact ((Acts.refl.checkBinding).binding.trans ((placeAgain_binding _).trans unboundBefore_binding)).settings
  · rw [applyFunction_placed hr]
    have hkind : ((rewritten i fs s).cfg i).kind = (s.cfg i).kind := by
      rw [rewritten_kind]
      exact not_not.mp fun hn => hr (.inl hn)
    have hw := (rewritten_reconfig i fs s).lawful h hb (by rw [rewritten_fn]; exact (h.slots i).record.atRest hb)
      (by rw [hkind, rewritten_fn]; exact (h.slots i).record.unused)
    refine (hw.placeAgain (by rwa [rewritten_fn])).testSlides (hagree _ (placeAgain_binding _).settings)

end

end Sys2Proof.Proofs
end

section
/-! PROOFS. The management commands keep the laws of motion. -/

namespace Sys2Proof.Proofs
open Sys2Proof.Machine Sys2Proof.Laws

section
variable {s t : State} {fs : List FieldWrite}

/-- The laws of motion of a part whose configurations agree. -/
structure Sound (s : State) : Prop where
  lawful : Lawful none none s
  agrees : s.EveryConfiguration Settings.Agrees

/-- What keeps the laws keeps the agreement too. -/
theorem Sound.keep (h : Sound s) (hl : Lawful none none t) (hk : Keeps s t) : Sound t := ⟨hl, hk.agreed h.agrees⟩

section
variable (h : Sound s)
include h

theorem Lawful.fieldCommand {code : CommandCode} {selector : Byte} {c : FieldCommand}
    (hc : fieldCommand code selector = some c) (hb : c.busy fs s = false) : Lawful none none (c.apply fs s).1 := by
  obtain ⟨hl, ha, -⟩ := h
  unfold Machine.fieldCommand at hc
  split at hc
  · obtain ⟨i, -, rfl⟩ := Option.map_eq_some_iff.mp hc; exact hl.applyFunction ha hb
  · obtain ⟨i, -, rfl⟩ := Option.map_eq_some_iff.mp hc; exact hl.applyGeometry
  · cases hc; exact hl.applyLevelling ha
  · cases hc; exact hl.applyManifold ha
  · cases hc; exact hl.applySupply
  · obtain ⟨g, -, rfl⟩ := Option.map_eq_some_iff.mp hc; exact hl.applySignal
  · cases hc; exact hl.applyTiming
  · cases hc

theorem Sound.applyFields {code : CommandCode} {selector : Byte} : Sound (applyFields code selector fs s).state := by
  refine h.keep ?_ (Keeps.refl s).applyFields
  unfold Machine.applyFields
  split
  case h_1 => exact h.lawful
  case h_2 c hc =>
    split
    case isTrue => exact h.lawful
    case isFalse =>
      split
      case isTrue => exact h.lawful
      case isFalse hb => exact Lawful.fieldCommand h hc (by simpa using hb)

theorem Sound.queueReply {code tag : Byte} {o : ReplyOutcome} {bs : List Byte} : Sound (queueReply code tag o bs s) :=
  h.keep h.lawful.queueReply (Keeps.refl s).queueReply

theorem Sound.gather {code : CommandCode} {bs : List Byte} : Sound (gather code bs s) :=
  h.keep h.lawful.gather (Keeps.refl s).gather

theorem Sound.assembly {a : Option Assembly} : Sound { s with assembly := a } :=
  h.keep (h.lawful.same ⟨rfl, rfl, rfl, rfl, rfl, rfl⟩) (Keeps.refl s).assembly

theorem Sound.touchDoze : Sound (touchDoze s) := h.keep h.lawful.touchDoze (Keeps.refl s).touchDoze

end

/-- JOG's request is a service's (R187). -/
theorem Lawful.jog (h : Lawful none none s) {slot verb : Byte} {distance : Word16} :
    Lawful none none (jog slot verb distance s).state := by
  unfold Machine.jog
  simp only
  (repeat' split)
  · exact h
  · exact h
  · exact h
  · next hv => exact h.accept (.of_other (.inr (.inl rfl))) hv
  · exact h

theorem Sound.answerTo (h : Sound s) {code : CommandCode} {ps : List Byte} : Sound (answerTo code ps s).state := by
  have hl := h.lawful
  refine h.keep ?_ (Keeps.refl s).answerTo
  cases code with
  | writeEntry => exact hl.writeEntry
  | appendEntry => exact hl.appendEntry
  | setEntryState => exact hl.entryStateCommand
  | mark => exact hl.markEntries
  | probe => exact (probe_state ..).symm ▸ hl
  | clearHits => exact hl.clearHits
  | writeMask => exact hl.writeMask
  | setWindow => exact hl.setWindow
  | writeCells => exact hl
  | swapMatrix => exact hl.swapMatrix
  | setFunction => exact h.applyFields.lawful
  | setGeometry => exact h.applyFields.lawful
  | setLevelling => exact h.applyFields.lawful
  | setManifold => exact h.applyFields.lawful
  | setSupply => exact h.applyFields.lawful
  | setSignal => exact h.applyFields.lawful
  | setTiming => exact h.applyFields.lawful
  | read => exact hl.readRecord
  | census =>
    simp only [Machine.answerTo, censusCommand]
    split
    · exact hl
    · simp only
      exact hl.abandonCensus.startCensus
  | halt =>
    simp only [Machine.answerTo, haltCommand]
    exact hl.haltEffects
  | jog =>
    simp only [Machine.answerTo]
    exact hl.jog
  | store => exact hl
  | restart => exact hl.same ⟨rfl, rfl, rfl, rfl, rfl, rfl⟩

section
variable (h : Sound s)
include h

theorem Sound.carryOut {code : CommandCode} {tag : Byte} {ps : List Byte} : Sound (carryOut code tag ps s).1 := by
  unfold Machine.carryOut
  split <;> simp only [reply]
  · exact h.keep (h.lawful.same ⟨rfl, rfl, rfl, rfl, rfl, rfl⟩) (Keeps.refl s).beginStore
  · exact h.answerTo.queueReply

theorem Sound.transact {code : CommandCode} {tag : Byte} {ps : List Byte} : Sound (transact code tag ps s).1 := by
  unfold Machine.transact
  simp only [reply]
  split
  · exact h.queueReply
  · exact h.gather.carryOut

theorem Sound.advance {a : Assembly} : Sound (advance a s).1 := by
  unfold Machine.advance
  split
  · exact h.assembly.carryOut
  · exact h.assembly

theorem Sound.startCommand {f : Frame} : Sound (startCommand f s).1 := by
  unfold Machine.startCommand
  simp only [reply]
  split
  · exact h.queueReply
  · split
    · exact h.queueReply
    · exact h.gather.advance

theorem Sound.endFields {a : Assembly} {k : Nat} {why : ReplyOutcome} : Sound (endFields a k why s).state := by
  unfold Machine.endFields
  simp only
  (repeat' split)
  · exact h
  · exact h.applyFields
  · exact h.applyFields

theorem Sound.endAssembly {a : Assembly} {why : ReplyOutcome} : Sound (endAssembly a why s).1 := by
  unfold Machine.endAssembly
  simp only [reply]
  split
  · exact h.assembly.queueReply
  · exact h.assembly.endFields.queueReply
  · exact h.assembly.queueReply

theorem Sound.breakAssembly : Sound (breakAssembly s).1 := by
  unfold Machine.breakAssembly
  split
  · exact h
  · exact h.endAssembly

theorem Sound.continueCommand {f : Frame} : Sound (continueCommand f s).1 := by
  unfold Machine.continueCommand
  split
  · exact h
  · simp only
    (repeat' split)
    · exact h.endAssembly
    · exact h.gather.endAssembly
    · exact h.gather.advance

theorem Sound.takeCommand {f : Frame} : Sound (takeCommand f s).1 := h.touchDoze.breakAssembly

theorem Sound.takeTransaction {code : CommandCode} {tag : Byte} {ps : List Byte} :
    Sound (takeTransaction code tag ps s).1 := h.touchDoze.breakAssembly

end

end

end Sys2Proof.Proofs
end

section
/-! PROOFS. Which tasks a change leaves: a management command is left by the link alone, and a TRAVEL retract by the
match engine alone. -/

namespace Sys2Proof.Proofs
open Sys2Proof.Machine Sys2Proof.Laws

/-- A task that neither an arrival of the C-port, nor a management command, nor the ignition leaves. -/
def Task.ofMotion : Task → Bool
  | .chain .. | .travelRetract _ | .command _ | .continuation _ | .transact .. => false
  | _ => true

/-- Every task of the list is one of motion. -/
def OfMotion (ts : List Task) : Prop := ∀ a ∈ ts, Task.ofMotion a = true

theorem OfMotion.nil : OfMotion [] := nofun

theorem OfMotion.one {a : Task} (h : Task.ofMotion a = true) : OfMotion [a] := fun _ hb => List.mem_singleton.mp hb ▸ h

theorem OfMotion.map {α : Type} {f : α → Task} (h : ∀ x, Task.ofMotion (f x) = true) (l : List α) : OfMotion (l.map f) := by
  intro a ha
  obtain ⟨x, -, rfl⟩ := List.mem_map.mp ha
  exact h x

theorem OfMotion.append {l m : List Task} (h : OfMotion l) (k : OfMotion m) : OfMotion (l ++ m) := fun a ha =>
  (List.mem_append.mp ha).elim (h a) (k a)

theorem OfMotion.ite {c : Prop} [Decidable c] {r q : State × List Task} (h : OfMotion r.2) (k : OfMotion q.2) :
    OfMotion (if c then r else q).2 := by
  split
  · exact h
  · exact k

/-- The service pass alone. -/
theorem OfMotion.pass : OfMotion [.servicePass] := .one rfl

section
variable {s : State} {i : Slot}

/-! ### Requests -/

theorem moveRequest_tasks {d : Direction} : OfMotion (moveRequest i d s).2 := by
  unfold moveRequest
  (repeat' split)
  · exact .nil
  · exact .pass
  · exact .nil

theorem operatorTask_tasks {v : RequestVerb} : OfMotion (operatorTask i v s).2 := by
  cases v with
  | extend | retract => exact moveRequest_tasks
  | stop | clear => exact .nil

theorem press_tasks {d : Direction} {src : EntryIndex} : OfMotion (press i d src s).2 := by
  unfold press newPress
  simp only
  (repeat' split)
  · exact .nil
  · exact .pass
  · exact .nil
  · exact .nil
  · exact .nil
  · exact .nil

theorem windRetract_tasks : OfMotion (windRetract i s).2 := by
  unfold windRetract
  (repeat' split)
  · exact .pass
  · exact .nil
  · exact .nil
  · exact .nil

theorem travelRetract_tasks : OfMotion (travelRetract i s).2 := by
  unfold travelRetract
  split
  · exact .pass
  · exact .nil

theorem gustRetract_tasks : OfMotion (gustRetract i s).2 := by
  unfold gustRetract retryObstructed
  simp only
  (repeat' split)
  · exact .nil
  · exact .nil
  · exact windRetract_tasks
  · exact .nil
  · exact .nil
  · exact windRetract_tasks

theorem owedRetract_tasks : OfMotion (owedRetract i s).2 := windRetract_tasks.ite .nil

/-! ### The sequencer -/

theorem firstRequests_tasks {atOnce : Bool} {request : Slot → State → State × List Task} {task : Slot → Task}
    (h : ∀ i, Task.ofMotion (task i) = true) {is : List Slot} : OfMotion (firstRequests atOnce request task is s).2 := by
  unfold firstRequests
  simp only
  (repeat' split)
  · exact .pass
  · exact .nil
  · exact .map h is

theorem operatorSequence_tasks {which : SeqRequest} : OfMotion (operatorSequence which s).2 := by
  unfold operatorSequence
  (repeat' split)
  · exact firstRequests_tasks fun _ => rfl
  · exact .nil
  · exact firstRequests_tasks fun _ => rfl
  · exact .nil
  · exact .nil

theorem travelStow_tasks : OfMotion (travelStow s).2 := by
  unfold travelStow
  (repeat' split)
  · exact .nil
  · exact OfMotion.append (l := [.servicePass]) .pass (.one rfl)
  · exact firstRequests_tasks fun _ => rfl

theorem sendSeqRequest_tasks {r : Request} {onEnd : State → State} : OfMotion (sendSeqRequest r onEnd s).2 := by
  unfold sendSeqRequest
  split
  · exact .pass
  · exact .nil
  · exact .nil

theorem groundRequest_tasks : OfMotion (groundRequest i s).2 := sendSeqRequest_tasks.ite .nil

theorem stowRequest_tasks : OfMotion (stowRequest i s).2 := sendSeqRequest_tasks.ite .nil

theorem liftRequest_tasks : OfMotion (liftRequest i s).2 := by
  unfold liftRequest
  split
  · exact sendSeqRequest_tasks.ite .nil
  · exact .nil

theorem formStep_tasks : OfMotion (formStep s).2 := by
  unfold formStep
  simp only
  split
  · exact .nil
  · exact .map (fun _ => rfl) _

theorem stepEnd_tasks : OfMotion (stepEnd s).2 := formStep_tasks.ite .nil

theorem evaluate_tasks {gp gr : Int} : OfMotion (evaluate gp gr s).2 := OfMotion.ite .nil (.ite .nil (.ite .nil formStep_tasks))

theorem takeReading_tasks {pitch roll : Int} {stable : Bool} : OfMotion (takeReading pitch roll stable s).2 :=
  OfMotion.ite (.ite evaluate_tasks .nil) .nil

theorem jackRested_tasks : OfMotion (jackRested i s).2 := by
  unfold jackRested
  (repeat' split)
  · exact .nil
  · exact .one rfl
  · exact .nil
  · exact .nil

theorem contactLost_tasks : OfMotion (contactLost i s).2 := by
  unfold contactLost
  simp only
  split
  · exact .one rfl
  · exact .nil

/-! ### Reports and the link -/

theorem becomeIdle_tasks : OfMotion (becomeIdle i s).2 := OfMotion.ite (.one rfl) .nil

theorem becomeIdleAll_tasks {is : List Slot} : OfMotion (becomeIdleAll is s).2 := by
  have hall : ∀ (l : List Slot) (r : State × List Task), OfMotion r.2 →
      OfMotion (l.foldl (fun r i => let t := becomeIdle i r.1; (t.1, r.2 ++ t.2)) r).2 := by
    intro l
    induction l with
    | nil => exact fun _ hr => hr
    | cons i l ih => exact fun r hr => ih _ (hr.append becomeIdle_tasks)
  exact hall is (s, []) .nil

theorem activityReport_tasks {d : DriveRef} {load : Nat} {flags : Byte} :
    OfMotion (activityReport i d load flags s).2 := OfMotion.ite .nil (.ite (.one rfl) .nil)

theorem slotReport_tasks {d : DriveRef} : OfMotion (slotReport i d s).2 := by
  unfold slotReport
  split
  · exact .nil
  · exact activityReport_tasks

theorem endCensus_tasks {o : CensusOutcome} {count : Nat} : OfMotion (endCensus o count s).2 :=
  OfMotion.ite becomeIdleAll_tasks .nil

theorem enrolmentExpired_tasks : OfMotion (enrolmentExpired s).2 := by
  unfold enrolmentExpired
  split
  · exact endCensus_tasks
  · exact endCensus_tasks
  · exact endCensus_tasks
  · exact .nil

theorem enrolAnswer_tasks {n kindCode channels hardware : Nat} :
    OfMotion (enrolAnswer n kindCode channels hardware s).2 := by
  unfold enrolAnswer
  (repeat' split)
  · exact .nil
  · exact endCensus_tasks
  · exact endCensus_tasks
  · exact .nil
  · exact .nil

theorem takeReport_tasks {f : Frame} : OfMotion (takeReport f s).2 := by
  unfold takeReport
  simp only
  split
  · exact .nil
  · refine (((OfMotion.map (fun _ => rfl) _).append (.map (fun _ => rfl) _)).append ?_).append (.one rfl)
    split
    · exact .one rfl
    · exact .nil

theorem takeTilt_tasks {f : Frame} : OfMotion (takeTilt f s).2 := by
  unfold takeTilt
  simp only
  (repeat' split)
  · exact .nil
  · exact takeReading_tasks
  · exact .nil

theorem gustExpired_tasks : OfMotion (gustExpired s).2 := .map (fun _ => rfl) _

theorem endStore_tasks : OfMotion (endStore s).2 := by
  unfold endStore
  split
  · exact .nil
  · exact .map (fun _ => rfl) _

/-! ### Judgements -/

theorem Task.ofMotion_of_judgement {a : Task} (h : Task.ofJudgement a = true) : Task.ofMotion a = true := by
  cases a <;> simp_all [Task.ofMotion, Task.ofJudgement]

/-! ### The management commands -/

theorem applyLevelling_tasks {fs : List FieldWrite} : OfMotion (applyLevelling fs s).2.2 := by
  unfold applyLevelling
  simp only
  split
  · exact .map (fun _ => rfl) _
  · exact .nil

theorem applyManifold_tasks {fs : List FieldWrite} : OfMotion (applyManifold fs s).2.2 := by
  unfold applyManifold
  simp only
  split
  · exact .map (fun _ => rfl) _
  · exact .nil

theorem fieldCommand_tasks {code : CommandCode} {selector : Byte} {c : FieldCommand}
    (hc : fieldCommand code selector = some c) {fs : List FieldWrite} : OfMotion (c.apply fs s).2.2 := by
  unfold fieldCommand at hc
  split at hc
  · obtain ⟨i, -, rfl⟩ := Option.map_eq_some_iff.mp hc
    simp only
    rcases applyFunction_tasks i fs s with h | h <;> rw [h]
    · exact .one rfl
    · exact .nil
  · obtain ⟨i, -, rfl⟩ := Option.map_eq_some_iff.mp hc; exact .nil
  · cases hc; exact applyLevelling_tasks
  · cases hc; exact applyManifold_tasks
  · cases hc; exact .nil
  · obtain ⟨g, -, rfl⟩ := Option.map_eq_some_iff.mp hc; exact .nil
  · cases hc; exact .nil
  · cases hc

theorem applyFields_tasks {code : CommandCode} {selector : Byte} {fs : List FieldWrite} :
    OfMotion (applyFields code selector fs s).tasks := by
  unfold applyFields
  split
  case h_1 => exact .nil
  case h_2 c hc =>
    (repeat' split)
    · exact .nil
    · exact .nil
    · exact fieldCommand_tasks hc

theorem jog_tasks {slot verb : Byte} {distance : Word16} : OfMotion (jog slot verb distance s).tasks := by
  unfold jog
  simp only
  (repeat' split)
  · exact .nil
  · exact .nil
  · exact .nil
  · exact .pass
  · exact .nil

section
variable {index form mask port state v0 v1 : Byte} {ident : Word32} {b : EntryBlock}

theorem writeEntry_tasks : OfMotion (writeEntry index b s).tasks := by
  unfold writeEntry
  split <;> exact .nil

theorem appendEntry_tasks : OfMotion (appendEntry b s).tasks := by
  unfold appendEntry
  (repeat' split) <;> exact .nil

theorem entryStateCommand_tasks {ps : List Byte} : OfMotion (entryStateCommand ps s).tasks := by
  unfold entryStateCommand setEntryState setPortDefault
  (repeat' split) <;> exact .nil

theorem markEntries_tasks : OfMotion (markEntries form ident v0 v1 mask port state s).tasks := by
  unfold markEntries
  split <;> exact .nil

theorem probe_tasks : OfMotion (probe form ident v0 v1 mask port s).tasks := by
  unfold probe
  (repeat' split) <;> exact .nil

theorem clearHits_tasks : OfMotion (clearHits form v0 v1 s).tasks := by
  unfold clearHits
  simp only
  (repeat' split) <;> exact .nil

theorem writeMask_tasks : OfMotion (writeMask index ident v0 v1 s).tasks := by
  unfold writeMask
  (repeat' split) <;> exact .nil

theorem setWindow_tasks : OfMotion (setWindow form v0 v1 mask port s).tasks := by
  unfold setWindow
  (repeat' split) <;> exact .nil

theorem swapMatrix_tasks {crc : Word16} : OfMotion (swapMatrix crc s).tasks := by
  unfold swapMatrix
  simp only
  (repeat' split)
  · exact .nil
  · exact .nil
  · exact .nil
  · exact .one rfl

theorem readRecord_tasks : OfMotion (readRecord form index s).tasks := by
  unfold readRecord
  split <;> exact .nil

theorem censusCommand_tasks : OfMotion (censusCommand s).tasks := by
  unfold censusCommand
  split <;> exact .nil

end

theorem answerTo_tasks {code : CommandCode} {ps : List Byte} : OfMotion (answerTo code ps s).tasks := by
  cases code with
  | writeEntry => exact writeEntry_tasks
  | appendEntry => exact appendEntry_tasks
  | setEntryState => exact entryStateCommand_tasks
  | mark => exact markEntries_tasks
  | probe => exact probe_tasks
  | clearHits => exact clearHits_tasks
  | writeMask => exact writeMask_tasks
  | setWindow => exact setWindow_tasks
  | swapMatrix => exact swapMatrix_tasks
  | read => exact readRecord_tasks
  | setFunction | setGeometry | setLevelling | setManifold | setSupply | setSignal | setTiming =>
    exact applyFields_tasks
  | census => exact censusCommand_tasks
  | jog => exact jog_tasks
  | writeCells | halt | store | restart => exact .nil

theorem carryOut_tasks {code : CommandCode} {tag : Byte} {ps : List Byte} : OfMotion (carryOut code tag ps s).2 :=
  OfMotion.ite .nil answerTo_tasks

theorem transact_tasks {code : CommandCode} {tag : Byte} {ps : List Byte} : OfMotion (transact code tag ps s).2 := by
  unfold transact
  split
  · exact .nil
  · exact carryOut_tasks

theorem advance_tasks {a : Assembly} : OfMotion (advance a s).2 := carryOut_tasks.ite .nil

theorem startCommand_tasks {f : Frame} : OfMotion (startCommand f s).2 := by
  unfold startCommand
  simp only
  split
  · exact .nil
  · split
    · exact .nil
    · exact advance_tasks

theorem endFields_tasks {a : Assembly} {k : Nat} {why : ReplyOutcome} : OfMotion (endFields a k why s).tasks := by
  unfold endFields
  simp only
  (repeat' split)
  · exact .nil
  · exact applyFields_tasks
  · exact applyFields_tasks

theorem endAssembly_tasks {a : Assembly} {why : ReplyOutcome} : OfMotion (endAssembly a why s).2 := by
  unfold endAssembly
  simp only [reply]
  split
  · exact .nil
  · exact endFields_tasks
  · exact .nil

theorem breakAssembly_tasks : OfMotion (breakAssembly s).2 := by
  unfold breakAssembly
  split
  · exact .nil
  · exact endAssembly_tasks

theorem continueCommand_tasks {f : Frame} : OfMotion (continueCommand f s).2 := by
  unfold continueCommand
  split
  · exact .nil
  · simp only
    exact endAssembly_tasks.ite (endAssembly_tasks.ite advance_tasks)

end

end Sys2Proof.Proofs
end

section
/-! PROOFS. Every step keeps the laws of motion: each first change, each task, each judgement, a start, and the
passing of time. Settles O60. -/

namespace Sys2Proof.Proofs
open Sys2Proof.Machine Sys2Proof.Laws

section
variable {s t : State}

/-! ### Tasks and judgements -/

/-- A TRAVEL retract is an awning's. -/
def Task.Suits (s : State) (a : Task) : Prop := ∀ i, a = .travelRetract i → (s.cfg i).kind = .awning

theorem Sound.handle (h : Sound s) {k : Task} (hk : Task.Suits s k) : Sound (handle k s).1 := by
  have hl := h.lawful
  refine h.keep ?_ ((Keeps.refl s).handle k)
  cases k with
  | chain port f n => exact hl.chain
  | press i d src => exact hl.press
  | operator i v => exact hl.operatorTask
  | sequence which => exact hl.operatorSequence
  | travelStow => exact hl.travelStow
  | groundRequest i => exact hl.groundRequest
  | liftRequest i => exact hl.liftRequest
  | stowRequest i => exact hl.stowRequest
  | stepEnd => exact hl.stepEnd
  | gustRetract i => exact hl.gustRetract
  | travelRetract i => exact hl.travelRetract (hk i rfl)
  | owedRetract i => exact hl.owedRetract
  | servicePass => simp only [Machine.handle]; exact hl.servicePass
  | clearance i => simp only [Machine.handle]; exact hl.clearanceStop
  | judgeMove i => simp only [Machine.handle]; exact hl.judgeMove
  | judgeSequence => simp only [Machine.handle]; exact hl.judgeSequence
  | slotReport i d => exact hl.slotReport h.agrees.1
  | pumpReport p => simp only [Machine.handle]; exact hl.pumpPressure
  | stopResend d seen => simp only [Machine.handle]; exact hl.resendStop
  | becomeIdle i => exact hl.becomeIdle
  | command f => exact h.startCommand.lawful
  | continuation f => exact h.continueCommand.lawful
  | transact code tag ps => exact h.transact.lawful

theorem pumpUnused_on (h : pumpUnused s = true) : s.manifold.pump.isOn = true := by
  simp only [pumpUnused, Bool.and_eq_true, beq_iff_eq] at h
  rw [h.1]
  rfl

theorem groundDone_runs (h : groundDone s = true) : s.seqRuns = true := by
  simp only [groundDone, Bool.and_eq_true, beq_iff_eq] at h
  rw [seqRuns_iff, h.1]
  decide

theorem Sound.react (h : Sound s) {waiting : List Task} {r : State × List Task} (hr : react waiting s = some r) :
    Sound r.1 := by
  have hl := h.lawful
  refine h.keep ?_ ((Keeps.refl s).react hr)
  unfold Machine.react at hr
  split at hr
  case isTrue => cases hr; exact hl.changePosture
  (repeat' split at hr) <;> cases hr <;> simp only
  · exact hl.judgePowerLine
  · exact hl.setAlarm
  · exact hl.dutyExpired
  · next hp => exact hl.holdOnPump (pumpUnused_on hp)
  · next ho => exact hl.orphaned ho
  · exact hl.exchangeBanks
  · next hg => exact hl.endGround (groundDone_runs hg)
  · exact hl.endStow
  · exact hl.dozeTimer

/-! ### Whole cascades -/

/-- The kinds of the slots stay. -/
def SameKinds (s t : State) : Prop := ∀ k, (t.cfg k).kind = (s.cfg k).kind

theorem SameKinds.of_settings {u : State} (h : SameKinds s t) (hu : u.settings.functions = t.settings.functions) :
    SameKinds s u := fun k => by rw [cfg_of_functions hu, h k]

theorem react_functions {ts : List Task} {r : State × List Task} (hr : react ts s = some r) :
    r.1.settings.functions = s.settings.functions := by
  unfold Machine.react at hr
  split at hr
  case isTrue => cases hr; simp
  (repeat' split at hr) <;> cases hr <;> simp only
  · rfl
  · simp
  · simp
  · simp
  · rfl
  · simp [exchangeBanks]
  · simp
  · simp
  · rfl

/-- A task that no management command leaves to itself. -/
def Task.ofPart : Task → Bool
  | .command _ | .continuation _ | .transact .. => false
  | _ => true

theorem Task.ofPart_of_motion {a : Task} (h : Task.ofMotion a = true) : Task.ofPart a = true := by
  cases a <;> simp_all [Task.ofMotion, Task.ofPart]

theorem Task.suits_of_motion {a : Task} (h : Task.ofMotion a = true) : Task.Suits s a := fun i he => by
  subst he
  cases h

theorem handle_functions {a : Task} (h : Task.ofPart a = true) : (handle a s).1.settings.functions = s.settings.functions := by
  cases a <;> simp only [Task.ofPart, Bool.false_eq_true] at h <;> simp [handle]

/-- Of the tasks only the search of the match table leaves others than tasks of motion. -/
theorem handle_tasks (a : Task) (h : ∀ port f n, a ≠ .chain port f n) : OfMotion (handle a s).2 := by
  cases a with
  | chain port f n => exact absurd rfl (h port f n)
  | press i d src => exact press_tasks
  | operator i v => exact operatorTask_tasks
  | sequence which => exact operatorSequence_tasks
  | travelStow => exact travelStow_tasks
  | groundRequest i => exact groundRequest_tasks
  | liftRequest i => exact liftRequest_tasks
  | stowRequest i => exact stowRequest_tasks
  | stepEnd => exact stepEnd_tasks
  | gustRetract i => exact gustRetract_tasks
  | travelRetract i => exact travelRetract_tasks
  | owedRetract i => exact owedRetract_tasks
  | servicePass | clearance i | judgeMove i | judgeSequence | pumpReport p | stopResend d seen => exact .nil
  | slotReport i d => exact slotReport_tasks
  | becomeIdle i => exact becomeIdle_tasks
  | command f => exact startCommand_tasks
  | continuation f => exact continueCommand_tasks
  | transact code tag ps => exact transact_tasks

/-- Tasks of the part, with a TRAVEL retract of awnings alone. -/
def OfPart (s : State) (ts : List Task) : Prop := ∀ a ∈ ts, Task.ofPart a = true ∧ Task.Suits s a

theorem OfMotion.part {ts : List Task} (h : OfMotion ts) : OfPart s ts := fun a ha =>
  ⟨Task.ofPart_of_motion (h a ha), Task.suits_of_motion (h a ha)⟩

theorem OfPart.append {l m : List Task} (h : OfPart s l) (k : OfPart s m) : OfPart s (l ++ m) := fun a ha =>
  (List.mem_append.mp ha).elim (h a) (k a)

theorem OfPart.of_settings {ts : List Task} (h : OfPart t ts) (hs : t.settings = s.settings) : OfPart s ts := fun a ha =>
  ⟨(h a ha).1, fun i he => by
    rw [← cfg_of_settings hs]
    exact (h a ha).2 i he⟩

theorem travelRetracts_part (s : State) : OfPart s (travelRetracts s) := fun a ha => by
  obtain ⟨i, hi, rfl⟩ := List.mem_map.mp ha
  refine ⟨rfl, fun k he => ?_⟩
  cases he
  simpa using (List.mem_filter.mp (List.mem_filter.mp hi).1).2

theorem ignitionOn_part (s : State) : OfPart s (ignitionOn s).2 := by
  unfold ignitionOn
  (repeat' split)
  · exact nofun
  · exact nofun
  · refine OfPart.append ?_ ?_
    · split
      · exact OfMotion.part (.one rfl)
      · exact nofun
    · split
      · exact travelRetracts_part s
      · exact nofun

theorem deliver_part (g : Signal) (v : Nat) (src : EntryIndex) (s : State) : OfPart s (deliver g v src s).2 := by
  unfold deliver
  simp only
  (repeat' split)
  · exact nofun
  · exact (ignitionOn_part _).of_settings (by simp)
  · exact nofun

theorem act_part (i : EntryIndex) (port : Port) (f : Frame) (a : Action) (s : State) : OfPart s (act i port f a s).2 := by
  unfold act
  split
  · exact nofun
  · exact nofun
  · exact nofun
  · unfold capture
    simp only
    split
    · exact nofun
    · split
      · exact deliver_part _ _ _ _
      · exact (deliver_part _ _ _ _).of_settings rfl
  · exact (OfMotion.map (fun _ => rfl) _).part
  · exact (OfMotion.map (fun _ => rfl) _).part
  · exact OfMotion.part (.one rfl)

/-- What the match engine leaves. -/
theorem chain_part (port : Port) (f : Frame) (k : Nat) (s : State) : OfPart s (chain port f k s).2 := by
  unfold chain
  split
  · refine ((act_part _ port f _ _).of_settings rfl).append ?_
    split
    · intro a ha
      rw [List.mem_singleton.mp ha]
      exact ⟨rfl, nofun⟩
    · exact nofun
  · split <;> exact nofun

theorem Sound.run_of_part (h : Sound s) (n : Nat) {ts : List Task}
    (ht : OfPart s ts) : Sound (run n ts s) := by
  have hpart : ∀ {a : Task}, Task.ofMotion a = true → Task.ofPart a = true ∧ Task.Suits s a := fun hm =>
    ⟨Task.ofPart_of_motion hm, Task.suits_of_motion hm⟩
  refine (run_rule (Q := fun u => Sound u ∧ SameKinds s u) (P := fun a => Task.ofPart a = true ∧ Task.Suits s a)
    (hpart rfl) (fun _ => hpart rfl) (fun u hu => ?_) (fun ts u r hu hr => ?_) (fun a u ha hu => ?_)
    n ts s ⟨h, fun _ => rfl⟩ ht).1
  · exact ⟨hu.1.keep (hu.1.lawful.same ⟨rfl, rfl, rfl, rfl, rfl, rfl⟩) ((Keeps.refl u).same {}), hu.2⟩
  · exact ⟨⟨hu.1.react hr, hu.2.of_settings (react_functions hr)⟩,
      fun a ha => hpart (Task.ofMotion_of_judgement ((react_judges hr).2 a ha))⟩
  · obtain ⟨hp, hs⟩ := ha
    obtain ⟨hsound, hkinds⟩ := hu
    refine ⟨⟨hsound.handle fun i he => (hkinds i).trans (hs i he), hkinds.of_settings (handle_functions hp)⟩, ?_⟩
    by_cases hc : ∃ port f k, a = .chain port f k
    · obtain ⟨port, f, k, rfl⟩ := hc
      exact fun b hb => ⟨(chain_part port f k u b hb).1, fun i he => by
        rw [← hkinds i]
        exact (chain_part port f k u b hb).2 i he⟩
    · exact fun b hb => hpart (handle_tasks a (fun port f k he => hc ⟨port, f, k, he⟩) b hb)

/-- Nothing but management commands and tasks of motion waits. -/
theorem Sound.run_of_command (h : Sound s) (n : Nat) {ts : List Task}
    (ht : ∀ a ∈ ts, Task.ofPart a = false ∨ Task.ofMotion a = true) : Sound (run n ts s) := by
  refine run_rule (Q := Sound) (P := fun a => Task.ofPart a = false ∨ Task.ofMotion a = true)
    (.inr rfl) (fun _ => .inr rfl) (fun u hu => ?_) (fun ts u r hu hr => ?_) (fun a u ha hu => ?_) n ts s h ht
  · exact hu.keep (hu.lawful.same ⟨rfl, rfl, rfl, rfl, rfl, rfl⟩) ((Keeps.refl u).same {})
  · exact ⟨hu.react hr, fun a ha => .inr (Task.ofMotion_of_judgement ((react_judges hr).2 a ha))⟩
  · have hc : ∀ port f k, a ≠ .chain port f k := fun port f k he => by
      subst he
      rcases ha with ha | ha <;> cases ha
    have hs : Task.Suits u a := fun i he => by
      subst he
      rcases ha with ha | ha <;> cases ha
    exact ⟨hu.handle hs, fun b hb => .inr (handle_tasks a hc b hb)⟩

/-- What follows from a change of the part. -/
theorem Sound.complete_part {r : State × List Task} (h : Sound r.1) (ht : OfPart r.1 r.2) : Sound (complete s r) :=
  h.run_of_part _ (follow_rule ⟨rfl, nofun⟩ (fun _ => ⟨rfl, nofun⟩) ht)

theorem Sound.complete_motion {r : State × List Task} (h : Sound r.1) (ht : OfMotion r.2) : Sound (complete s r) :=
  h.complete_part ht.part

/-- What follows from the break of an assembly and a management command. -/
theorem Sound.complete_command {r : State × List Task} (h : Sound r.1)
    (ht : ∀ a ∈ r.2, Task.ofPart a = false ∨ Task.ofMotion a = true) : Sound (complete s r) :=
  h.run_of_command _ (follow_rule (.inr rfl) (fun _ => .inr rfl) ht)

/-! ### The first change of each command -/

theorem Sound.whenRuns (h : Sound s) {x : Timer} {act : State → State × List Task}
    (ha : x.isSome = true → Lawful none none (act s).1) (hk : Keeps s (act s).1) (ht : OfMotion (act s).2) :
    Sound (complete s (whenRuns x act s)) := by
  unfold Machine.whenRuns
  split
  case isTrue hx => exact (h.keep (ha hx) hk).complete_motion ht
  case isFalse => exact h.complete_motion .nil

theorem Sound.timed (h : Sound s) {x : Timer} {f : State → State} (ha : x.isSome = true → Lawful none none (f s))
    (hk : Keeps s (f s)) : Sound (complete s (Machine.whenRuns x (change f) s)) := h.whenRuns ha hk .nil

theorem Sound.changed (h : Sound s) {f : State → State} (ha : Lawful none none (f s)) (hk : Keeps s (f s)) :
    Sound (complete s (change f s)) := (h.keep ha hk : Sound (f s)).complete_motion .nil

theorem Sound.dropHead (h : Sound s) {port : Port} : Sound (dropHead port s) :=
  h.keep h.lawful.dropHead (Keeps.refl s).dropHead

/-- A frame at the head of a buffer is taken. -/
theorem Sound.takeHead (h : Sound s) {port : Port} {fits : State → Frame → Bool}
    {act : Frame → State → State × List Task} (ha : ∀ f u, Sound u → Sound (complete s (act f u))) :
    Sound (complete s (takeHead port fits act s)) := by
  unfold Machine.takeHead
  (repeat' split)
  · exact ha _ _ h.dropHead
  · exact h.complete_motion .nil
  · exact h.complete_motion .nil

theorem Sound.chained {u : State} (h : Sound u) (port : Port) (f : Frame) : Sound (complete s (chain port f 0 u)) :=
  Sound.complete_part (h.keep h.lawful.chain (Keeps.refl u).chain) ((chain_part port f 0 u).of_settings (by simp))

/-- A management command follows the break of an assembly. -/
theorem command_tasks {ts : List Task} (h : OfMotion ts) {a : Task} (ha : Task.ofPart a = false) :
    ∀ b ∈ ts ++ [a], Task.ofPart b = false ∨ Task.ofMotion b = true := fun b hb =>
  (List.mem_append.mp hb).elim (fun hb => .inr (h b hb)) fun hb => .inl (List.mem_singleton.mp hb ▸ ha)

theorem Sound.commanded {u : State} (h : Sound u) (f : Frame) : Sound (complete s (Machine.takeCommand f u)) :=
  h.takeCommand.complete_command (command_tasks breakAssembly_tasks rfl)

theorem Sound.continued {u : State} (h : Sound u) (f : Frame) : Sound (complete s (takeContinue f u)) :=
  Sound.complete_command (r := takeContinue f u) h.touchDoze (command_tasks (ts := []) .nil rfl)

theorem Sound.transacted (h : Sound s) (code : CommandCode) (tag : Byte) (ps : List Byte) :
    Sound (complete s (Machine.takeTransaction code tag ps s)) :=
  h.takeTransaction.complete_command (command_tasks breakAssembly_tasks rfl)

/-- A frame of the M-port leaves tasks of motion. -/
theorem Sound.linked {u : State} (h : Sound u) {act : Frame → State → State × List Task} {f : Frame}
    (hl : Lawful none none u → Lawful none none (act f u).1) (hk : Keeps u (act f u).1) (ht : OfMotion (act f u).2) :
    Sound (complete s (act f u)) := (h.keep (hl h.lawful) hk).complete_motion ht

theorem Lawful.endStore (h : Lawful none none s) : Lawful none none (endStore s).1 := by
  unfold Machine.endStore
  split
  · exact h
  case h_2 w hw =>
    have hi : Lawful none none { s with store := { s.store with storing := none, image := w.image } } :=
      h.same ⟨rfl, rfl, rfl, rfl, rfl, rfl⟩
    exact hi.queueReply

theorem Sound.firstOf (h : Sound s) (c : Instr) : Sound (complete s (firstOf c s)) := by
  have hl := h.lawful
  unfold Proofs.firstOf
  split
  case h_1 => exact h.transacted _ _ _
  case h_2 =>
    split
    · exact h.changed (Lawful.haltEffects (hl.same ⟨rfl, rfl, rfl, rfl, rfl, rfl⟩)) (Keeps.refl s).stopAllRises
    · exact h.changed (hl.same ⟨rfl, rfl, rfl, rfl, rfl, rfl⟩) ((Keeps.refl s).same {})
    · exact h.changed hl.receiveC (Keeps.refl s).receiveC
    · exact h.changed hl.receiveM (Keeps.refl s).receiveM
    · exact h.takeHead fun f u hu => hu.chained _ f
    · exact h.takeHead fun f u hu => hu.commanded f
    · exact h.takeHead fun f u hu => hu.continued f
    · exact h.takeHead fun f u hu => hu.linked (act := takeDiscarded) Lawful.touchDoze (Keeps.refl u).touchDoze .nil
    · exact h.takeHead fun f u hu => hu.linked (fun hl => hl.takeReport) (Keeps.refl u).takeReport takeReport_tasks
    · exact h.takeHead fun f u hu => hu.linked (fun hl => hl.takeTilt) (Keeps.refl u).takeTilt takeTilt_tasks
    · exact h.takeHead fun f u hu => hu.linked (act := takeEnrolAck) (fun hl => hl.enrolAnswer) (Keeps.refl u).enrolAnswer
        enrolAnswer_tasks
    · exact h.takeHead fun f u hu => hu.linked (act := takeStray) Lawful.stray (Keeps.refl u).stray .nil
    · exact h.changed hl.sentC (Keeps.refl s).sentC
    · exact h.changed hl.sentM (Keeps.refl s).sentM
    · exact h.changed hl.offC (Keeps.refl s).offC
    · exact h.changed hl.onC (Keeps.refl s).onC
    · exact h.changed hl.offM (Keeps.refl s).offM
    · exact h.changed hl.onM (Keeps.refl s).onM
    · exact h.timed (fun _ => hl.holdExpired) ((Keeps.refl s).acts (.holdExpired .refl))
    · exact h.whenRuns hl.settleExpired (Keeps.refl s).settleExpired jackRested_tasks
    · exact h.timed (fun _ => hl.staleExpired) (Keeps.refl s).staleExpired
    · exact h.whenRuns (fun _ => hl.contactLost) ((Keeps.refl s).acts (.contactLost .refl)) contactLost_tasks
    · exact h.timed (fun _ => hl.waitExpired) ((Keeps.refl s).acts (.waitExpired .refl))
    · exact h.timed (fun _ => hl.primeExpired) ((Keeps.refl s).acts (.primeExpired .refl))
    · exact h.timed (fun _ => hl.stopPump) ((Keeps.refl s).acts (.stopPump .refl))
    · exact h.timed (fun _ => hl.restExpired) ((Keeps.refl s).acts (.restExpired .refl))
    · exact h.changed hl.dutyReachedNow (Keeps.refl s).dutyReachedNow
    · exact h.timed (fun hx => hl.coolDownOver (hl.part.cool hx)) (Keeps.refl s).coolDownOver
    · exact h.timed (fun _ => hl.lowSupplyExpired) (Keeps.refl s).lowSupplyExpired
    · exact h.timed (fun _ => hl.levelSettled) ((Keeps.refl s).acts (.levelSettled .refl))
    · exact h.timed (fun _ => hl.endSequenceAs) ((Keeps.refl s).acts (.endSequenceAs .refl))
    · exact h.timed hl.stallExpired ((Keeps.refl s).acts (.stallExpired .refl))
    · exact h.whenRuns (fun _ => hl.gustExpired) (Keeps.refl s).gustExpired gustExpired_tasks
    · exact h.timed (fun _ => hl.calmExpired) (Keeps.refl s).calmExpired
    · exact h.whenRuns (fun _ => hl.enrolmentExpired) (Keeps.refl s).enrolmentExpired enrolmentExpired_tasks
    · exact h.timed (fun _ => hl.silentNode) (Keeps.refl s).silentNode
    · exact h.timed (fun _ => hl.refreshExpired) (Keeps.refl s).refreshExpired
    · exact h.timed (fun _ => hl.statusExpired) (Keeps.refl s).statusExpired
    · exact h.timed (fun _ => hl.enterDoze) (Keeps.refl s).enterDoze
    · exact (h.keep hl.endStore (Keeps.refl s).endStore).complete_motion endStore_tasks
    · exact h.complete_motion .nil

/-! ### A start and every step -/

/-- A part at its start values keeps the laws. -/
theorem Lawful.start (hf : s.functions = Vector.replicate 16 Function.start) (hm : s.manifold = Manifold.start)
    (hc : s.budget.claims = []) (hq : s.sequence = Sequence.start) : Lawful none none s := by
  have hfn : ∀ k, s.fn k = Function.start := fun k => by
    rw [State.fn, hf]
    exact Vector.getElem_replicate ..
  have hr : AllRest s := fun k => by rw [hfn k]; rfl
  have hrest : AtRest Function.start := ⟨rfl, rfl, rfl, rfl, rfl, rfl, fun e => by cases e <;> rfl⟩
  refine Lawful.of_allRest (sk := none) (aw := none) ⟨fun k => .of_rest (by rw [hfn k]; exact hrest)
    (fun _ => by rw [hfn k]; rfl) ?_ ?_, ⟨⟨?_, ?_⟩, ?_, ?_, ?_, ?_⟩, ?_, ?_⟩ hr
  · rw [waitCount, hm]; rfl
  · rw [drawCount, hc]; rfl
  · rw [hm]; exact .nil
  · rw [hm]; exact nofun
  · rw [hm]; exact nofun
  · rw [hc, hm]; rfl
  · rw [State.seqRuns, hq]; exact nofun
  · rw [hm]; exact nofun
  · intro k _ ha; rw [hfn k] at ha; cases ha
  · intro k _ _ _ _ ha; rw [hfn k] at ha; rcases ha with ha | ha <;> cases ha

theorem Lawful.blank (inputs : Inputs) (image : Image) (straps : Straps) (pending : List Instr) :
    Lawful none none (blank inputs image straps pending) := .start rfl rfl rfl rfl

theorem Lawful.startAlarm (h : Lawful none none s) : Lawful none none (startAlarm s) :=
  Lawful.ite (h.queueC _) h

theorem Lawful.boot (inputs : Inputs) (image : Image) (straps : Straps) (pending : List Instr) :
    Lawful none none (boot inputs image straps pending) := by
  unfold Machine.boot
  refine Lawful.startCensus (Lawful.dozeTimer (Lawful.windJudged (Lawful.startAlarm ?_)))
  exact (Lawful.blank inputs image straps pending).same ⟨rfl, rfl, rfl, rfl, rfl, rfl⟩

theorem Sound.reached (h : Sound s) (hr : Reached s t) : Sound t := by
  cases hr with
  | same => exact h
  | lines inputs straps => exact h.keep (h.lawful.same ⟨rfl, rfl, rfl, rfl, rfl, rfl⟩) ((Keeps.refl s).same {})
  | off inputs => exact h.keep (.blank ..) (.blank s _ _ _)
  | start inputs straps =>
    exact Sound.run_of_part (h.keep (.boot ..) (Keeps.boot inputs straps s.pending)) _ nofun
  | change c => exact h.firstOf c

/-- A millisecond passes. -/
theorem Lawful.tick (h : Lawful none none s) : Lawful none none (tick s) := by
  have hr := h.runTime (n := if s.manifold.pump.isOn then s.manifold.runTime + 1 else s.manifold.runTime)
    (z := s.manifold.restTimer)
  exact Quiet.lawful (s := s.setManifold _) ⟨fun _ => .refl _, fun _ => rfl, rfl, rfl, rfl, rfl, rfl, rfl, rfl, rfl, Nat.le_succ _⟩ hr

theorem Sound.step (h : Sound s) (hs : step s = .next t) : Sound t := by
  rcases step_cases hs with ⟨c, rest, -, hc⟩ | ⟨-, rfl⟩
  · have hp : Sound { s with pending := rest } :=
      h.keep (h.lawful.same ⟨rfl, rfl, rfl, rfl, rfl, rfl⟩) ((Keeps.refl s).same {})
    exact hp.reached (Reached.of_exec hc)
  · rcases idle_cases s with he | ⟨c, he⟩ | he <;> rw [he]
    · exact h
    · exact h.keep (h.lawful.same ⟨rfl, rfl, rfl, rfl, rfl, rfl⟩) ((Keeps.refl s).same {})
    · exact h.keep h.lawful.tick ((Keeps.refl s).same {})

/-- Settles O60. -/
theorem everyStepKeepsTheMotionLaws : Obligations.EveryStepKeepsTheMotionLaws := by
  refine ⟨(motionLaws_iff _).mpr (.start rfl rfl rfl rfl), fun s t ha hm hs => ?_⟩
  have ht : Sound t := Sound.step ⟨(motionLaws_iff s).mp hm, ha⟩ hs
  exact ⟨(motionLaws_iff t).mpr ht.lawful, ht.lawful.apart⟩

end

end Sys2Proof.Proofs
end
